-- ==== Sys2Proof/Word.lean ====
section
/-!
DEFINITION. The plain words and values the block works with: bytes, and the two shapes a dictionary value has.
-/

namespace Sys2Proof

/-- One byte, the unit of every value the dictionary and the commissioning store carry (Table 16-2, R177). -/
abbrev Byte := BitVec 8

/-- A dictionary value as Table 16-2 gives it: a number (BOOL, U and I types) or octets (OCTETS, VSTRING). -/
inductive Val where
  | num (i : Int)
  | oct (b : List Byte)
deriving DecidableEq, Repr, Inhabited

/-- The number a value stands for; octets stand for none and read as 0. -/
def Val.int : Val → Int
  | .num i => i
  | .oct _ => 0

/-- The octets of a value; a number has none. -/
def Val.octets : Val → List Byte
  | .num _ => []
  | .oct b => b

/-- A boolean as the 0 or 1 that a BOOL entry carries (Table 16-2). -/
def boolNat (b : Bool) : Nat := if b then 1 else 0

end Sys2Proof
end

