-- ==== Sys2Proof/Syntax.lean ====
section
/-!
DEFINITION. The commands of the UX8640 block: one constructor per row of the command table, with the operands the
outside brings (an address, a value, a measured quantity, the bytes of a frame).
-/

namespace Sys2Proof

/-- The three roles (chapter 17). -/
inductive Role where
  | operator | installer | maker
deriving DecidableEq, Repr, Inhabited

/-- Who reads or writes the dictionary (R1, R24, R327): a local session, a Dravlink node with the role its request
carries, the rule and scene sequencer, or the staged application under the role proven at the tag. -/
inductive Who where
  | spi
  | uart
  | remote (node : Nat) (role : Role)
  | rules
  | staged (role : Role)
deriving DecidableEq, Repr, Inhabited

/-- A local host session: the SPI host, or the UART maker service (R327, R334). -/
inductive Sess where
  | spi | uart
deriving DecidableEq, Repr, Inhabited

/-- What a receive path senses at one moment (R94 to R96): the carrier that the drive words predict and the carrier measured at the
port terminals, in mV RMS, and the suppression in 0.1 dB. -/
structure Sensed where
  port : Fin 8
  predicted : BitVec 16
  measured : BitVec 16
  suppression : BitVec 16
deriving DecidableEq, Repr, Inhabited

/-- The end of a lane's receive window without a reply (R114, R121): the noise density of each port over it, and what the receive
paths sense then. -/
structure Silence where
  lane : Fin 4
  dens : List (BitVec 16)
  sensed : List Sensed
deriving DecidableEq, Repr, Inhabited

/-- A card's reply as the demodulator of its mode hands it over (R105 to R111): the octets with their check bytes (in a
bit-oriented reply the first octet holds the bits that complete a split byte), whether every parity bit and every start,
stop and code bit held, the deviation of the sub-carrier from nominal in 0.1 %, how far, in 0.1 dB, the weaker half of each
bit lies below the stronger, in dual sub-carrier how far in each half of a bit the weaker sub-carrier lies below the stronger
(R109), how far the part of each bit across the frame vector lies below the part along it, the reply vector in 0.1 µV, and what
the receive paths sense as the reply ends. -/
structure Reply where
  data : List Byte
  parity : Bool
  coding : Bool
  deviation : Int
  halves : List Nat
  across : List Nat
  vector : List (Int × Int)
  subs : List (Nat × Nat) := []
  sensed : List Sensed := []
deriving DecidableEq, Repr, Inhabited

/-- How a reader addresses a request to the tag: to all, to one UID as sent on air, or by the Select flag (R169). -/
inductive TagMode where
  | all
  | addressed (uid : List Byte)
  | selected
deriving DecidableEq, Repr, Inhabited

/-- What every request to the tag carries: its addressing, the Option flag, whether it asks for the dual sub-carrier and
for the high data rate, and whether its CRC and coding hold (R168, R177). -/
structure TagReq where
  mode : TagMode
  option : Bool
  dual : Bool
  high : Bool
  good : Bool
deriving DecidableEq, Repr, Inhabited

/-- Where the store supply is lost during a passive group (Table 8-8b); a torn step leaves a record whose CRC fails. -/
inductive TagLoss where
  | none | s0 | s1 | s2torn | s2 | s3 | s4torn | s4
deriving DecidableEq, Repr, Inhabited

/-- What a write-like request meets: the rectified rail and the store capacitor in mV (R179), and the loss of supply. -/
structure TagPower where
  rail : BitVec 16
  cap : BitVec 16
  loss : TagLoss
deriving DecidableEq, Repr, Inhabited

/-- A self-test slice (R377 to R382): a regular one starts, an escalated one starts, or the one in progress passes, is pre-empted,
or finds a fault of a unit: its KIND, address and bit, and the spare rows that fail their march before a good one (R384). -/
inductive SliceStep where
  | start | startEscalated | passed | preempted
  | found (unit : BitVec 8) (kind : Fin 10) (addr : BitVec 32) (bit : BitVec 8) (badSpares : Fin 9)
deriving DecidableEq, Repr, Inhabited

/-- The powers that leave the module in one millisecond, in mW (R220): the field power delivered into the coils, the VOUT_3V3
load, the radiated RF and the powerline output. -/
structure Outputs where
  field : BitVec 16
  vout : BitVec 16
  rf : BitVec 16
  line : BitVec 16
deriving DecidableEq, Repr, Inhabited

/-- What start-up measures (Table 18-5) and checks: for each port drive gain and phase, receive gain and phase in 0.01 dB and
0.01°, and the sense path's complex correction in 1/10,000; whether each port, the radio and the powerline settled; Frond's
probe of each port in µΩ; the receive paths and the radio aerials that failed; the die sensors in 0.1 °C; and whether the lock
record fails its check (R12). -/
structure StartMeasure where
  ports : List (List Int)
  settled : List Bool
  probe : List (Int × Int)
  paths : BitVec 8
  aerials : BitVec 2
  sensors : List Int
  locksBad : Bool
deriving DecidableEq, Repr, Inhabited

/-- A wake cause of R407 as it comes: a Frond wake, an edge at the WAKE pad, CS_N or a UART start bit, a Dravlink frame, a
queue, a scene. SLEEP_CMD 0 has its own command. -/
inductive WakeCause where
  | frond
  | pad (rising : Bool)
  | host | dravlink | queue | scene
deriving DecidableEq, Repr, Inhabited

/-- A cause that ends SLEEP (R405): an edge at the WAKE pad, a field at the tag, SLEEP_MAX_S. -/
inductive SleepCause where
  | pad (rising : Bool)
  | field | limit
deriving DecidableEq, Repr, Inhabited

/-- A dictionary write that has no row of its own: FW_OD_CMD OP 2 with its LENGTH, or the write itself with its writer, entry and
value bytes (R325, R331). -/
inductive OdVia where
  | command (sess : Sess) (length : BitVec 16)
  | entry (who : Who) (index : BitVec 16) (sub : BitVec 8) (value : List Byte)
deriving DecidableEq, Repr, Inhabited

/-- The commands, in the table's order. -/
inductive Instr where
  /-- ZERO_CROSSING_EDGE (R19): A mains zero-crossing edge arrives over the isolator. The module corrects it for delay,
  accepts or rejects it, and steers the tracking loop. -/
  | zeroCrossingEdge (positive : Bool)
  /-- EDGE_WINDOW_END (R20): An edge window ends with no accepted crossing: the crossing counts as missed, LOCKED goes to
  HOLDOVER, and the 8th miss goes to FREE_RUN. -/
  | edgeWindowEnd
  /-- ACQUIRE_TIMEOUT (R20): No crossing is accepted for 8 nominal cycles in ACQUIRE, and the loop returns to FREE_RUN. -/
  | acquireTimeout
  /-- ANGLE_WRAP (R18): The angle passes from 0xFFFF to 0x0000 and the cycle count increments. -/
  | angleWrap
  /-- BLANKING_WINDOW_EDGE (R28): The angle enters or leaves a blanking window, which gates burgee windows, pings, powerline
  symbols and MA_SYNC_OUT mode 4. -/
  | blankingWindowEdge
  /-- LEARN_PASS_END (R25): A noise-learning pass of LEARN_CYCLES cycles ends. The learned regions are written to the blanking
  slots and BLANK_UPDATE is raised. -/
  | learnPassEnd (levels : List Byte)
  /-- BURGEE_OCCURRENCE (R29): The angle reaches a burgee window's START and the occurrence acts, or is skipped by the PERIOD
  count. -/
  | burgeeOccurrence (w : Fin 32) (half : Bool)
  /-- MA_SYNC_PULSE (R34): The angle reaches SYNC_ANGLE, or SYNC_ANGLE + 0x8000, and MA_SYNC_OUT starts a pulse. -/
  | maSyncPulse
  /-- MA_SYNC_PULSE_END (R34): SYNC_WIDTH expires and the MA_SYNC_OUT pulse ends. -/
  | maSyncPulseEnd
  /-- ANGLE_READ (R24): A read of OD 2110/01 returns the angle and latches the cycle count for that reader. -/
  | angleRead (who : Who)
  /-- MA_STAT_READ (R36): A read of FW_MA_STAT returns the status and clears STEPPED. -/
  | maStatRead
  /-- BLANK_SLOT_WRITE (R26): A host write of START or LENGTH to a blanking slot makes a learned slot manual. -/
  | blankSlotWrite (who : Who) (b : Fin 8) (length : Bool) (value : BitVec 16)
  /-- CHARGING_COMPLETE (R44): The bias charge of a port reaches 20 µs-equivalent, and the port checks its bridge and enters
  RAMP_UP or FAULT. -/
  | chargingComplete (p : Fin 8) (bridgeOk : Bool)
  /-- RAMP_UP_COMPLETE (R49): A port's ramp-up ends, the port enters CARRIER, and A_lim is recomputed. -/
  | rampUpComplete (p : Fin 8) (loadR loadX : BitVec 16) (lowCurrent : Bool)
  /-- RAMP_DOWN_COMPLETE (R49): A port's ramp-down ends, the port enters OFF, and its grant is released. -/
  | rampDownComplete (p : Fin 8)
  /-- COMPONENT_TRANSITION_END (R42): The I/Q transition or ramp of a component ends, and frames may start on the lane. -/
  | componentTransitionEnd (p : Fin 8) (lane : Fin 6)
  /-- FIR_TAIL_END (R43): 4.72 µs after the last modulation edge of a frame, the port returns from MODULATING to CARRIER. -/
  | firTailEnd (p : Fin 8) (lane : Fin 4) (above : Bool)
  /-- PORT_FAULT_DETECT (R57): A port detects a short, open, thermal trip or sense fault. It enters FAULT and releases its grant. -/
  | portFaultDetect (p : Fin 8) (code : Fin 6)
  /-- PORT_LOAD_CHECK (R55): The 1 ms check of a port's measured load and output recomputes A_lim and checks for an open load. -/
  | portLoadCheck (p : Fin 8) (loadR loadX power temp : BitVec 16) (lowCurrent : Bool)
  /-- FAULT_RECHECK (R58): A probe recheck of a port in FAULT falls due. After three passes the port returns to OFF. -/
  | faultRecheck (p : Fin 8) (pass : Bool) (temp : BitVec 16)
  /-- FAULT_CODE_WRITE (R58): A host write of 0 to FAULT_CODE starts an immediate series of three rechecks. -/
  | faultCodeWrite (who : Who) (p : Fin 8) (value : BitVec 8)
  /-- FIELD_CAP_WRITE (R47): A maker write of FIELD_CAP. A cap below the present output is an emergency. -/
  | fieldCapWrite (who : Who) (p : Fin 8) (value : BitVec 16)
  /-- FIR_SET_WRITE (R52): An FIR coefficient set is written, and its mask check starts. -/
  | firSetWrite (who : Who) (set : Fin 16) (coef : List Byte)
  /-- FIR_CHECK_DONE (R52): The mask check of an FIR set ends, and the set is accepted or refused with FIR_REJECT. -/
  | firCheckDone (set : Fin 16)
  /-- FIR_MAP_WRITE (R52): An FIR map entry of a port is written, or is refused if it names a rejected or empty set. -/
  | firMapWrite (who : Who) (p : Fin 8) (mode : Fin 12) (set : BitVec 8)
  /-- MASK_WRITE (R52): A write of the spectral mask re-checks every mapped set, and failing mappings revert. -/
  | maskWrite (who : Who) (mask : List Byte)
  /-- PORT_TEST_MODE_WRITE (R63): A write of a port's TEST_MODE starts or stops a test emission. -/
  | portTestModeWrite (who : Who) (p : Fin 8) (value : BitVec 8)
  /-- PORT_TEST_TIME_END (R63): TEST_TIME expires and the port's TEST_MODE returns to 0. -/
  | portTestTimeEnd (p : Fin 8)
  /-- SURVEY_CMD (R70): A host write of 1 to OD 2340/01 requests a survey. -/
  | surveyCmd (who : Who) (value : BitVec 8)
  /-- SURVEY_PERIOD_EXPIRY (R70): SURVEY_PERIOD elapses and a survey is requested. -/
  | surveyPeriodExpiry
  /-- SURVEY_START (R66): A pending survey starts once no lane is open and the window is clear. -/
  | surveyStart
  /-- SURVEY_SOLVE (R68): The survey drive ends. Y and Z are solved, checked for reciprocity, and accepted wholly or partly,
  or rejected. The operands are the voltages and currents at the drive pads and at the coils, row by row. -/
  | surveySolve (drive coil : List (Int × Int) × List (Int × Int)) (sensed : List Sensed)
  /-- TEACH (R71): A write of TEACH 1 arms the teaching of a zone's reference vector. -/
  | teach (who : Who) (z : Fin 16) (value : BitVec 8)
  /-- TEACH_TIMEOUT (R71): Sixteen replies have not arrived within 60 s, and TEACH reads 3. -/
  | teachTimeout (z : Fin 16)
  /-- REF_VECTOR_WRITE (R71): A host write of REF_VECTOR is checked for unit length and recomputes dependent pennants. -/
  | refVectorWrite (who : Who) (z : Fin 16) (v : List Byte)
  /-- PAIRS_WRITE (R74): A host write of a pennant's PAIRS makes it a manual pennant. -/
  | pairsWrite (who : Who) (n : Fin 64) (pairs : List Byte)
  /-- LANE_ADMISSION (R77): At the end of a 1 µs tick, pending lane requests are admitted or refused, and pennants are selected. -/
  | laneAdmission
  /-- ADMIT_WAIT_EXPIRY (R76): An OPENING lane gets no grant within ADMIT_WAIT_MS and returns to IDLE refused. -/
  | admitWaitExpiry (l : Fin 4)
  /-- LANE_CLOSED (R76): A CLOSING lane's components have ramped out, and the lane becomes IDLE. -/
  | laneClosed (l : Fin 4)
  /-- LIVE_NULL_RECOMPUTE (R83): The 20 ms live-null recomputation of CONCURRENT lanes' components falls due. -/
  | liveNullRecompute
  /-- CANCELLER_ACQUIRE (R94): The carrier at a port reaches 10 mV RMS, and its canceller enters ACQUIRE. -/
  | cancellerAcquire (p : Fin 8) (predicted measured : BitVec 16)
  /-- ACQUISITION_END (R94): 12 µs of acquisition end with TRACK, or with a restart of acquisition. The operand is
  the suppression reached and the carrier predicted. -/
  | acquisitionEnd (p : Fin 8) (found : BitVec 16 × BitVec 16)
  /-- SUPPRESSION_LOSS (R94): Suppression has been below 45 dB for 10 µs, and the canceller re-acquires. -/
  | suppressionLoss (p : Fin 8) (suppression predicted : BitVec 16)
  /-- CANCELLER_IDLE (R94): Both carriers have been below 5 mV for 20 µs, and the canceller goes OFF. -/
  | cancellerIdle (p : Fin 8) (predicted measured : BitVec 16)
  /-- RX_OVERLOAD (R97): Three samples at full scale within 1 µs: the gain steps down, or the overload is deferred in HOLD. -/
  | rxOverload (p : Fin 8)
  /-- GAIN_RESTORE (R98): GAIN_RESTORE_MS passes without an overload, and the gain rises one step. -/
  | gainRestore (p : Fin 8)
  /-- REPLY_START (R107): Sub-carrier energy inside a receive window exceeds RX_THRESH, and demodulation begins. The
  operand is the energy and the noise density of each port before it. -/
  | replyStart (l : Fin 4) (heard : BitVec 16 × List (BitVec 16))
  /-- FALSE_START (R107): No valid start bit, SOF or preamble follows within 2 bit periods, and the start is discarded. -/
  | falseStart (l : Fin 4)
  /-- REPLY_COMPLETE (R124): A reply ends and is checked, measured and delivered to the lane's sequencer with its status. -/
  | replyComplete (l : Fin 4) (r : Reply)
  /-- NOISE_MEASUREMENT (R113): The periodic idle noise measurement of each port updates NOISE_PROFILE and may raise NOISE_ALERT. -/
  | noiseMeasurement (dens : List (BitVec 16))
  /-- RESET_GUARD_END (R122): RESET_GUARD_US after a lane reaches CARRIER passes, and the poll cycle's first command may start. -/
  | resetGuardEnd (l : Fin 4)
  /-- COMMAND_START (R122): A sequencer starts its next command frame once its guard, conflicts and blanking allow. -/
  | commandStart (l : Fin 4)
  /-- NO_REPLY_DECISION (R121): The no-reply time of a command passes without a reply starting. -/
  | noReplyDecision (x : Silence)
  /-- VERDICT_LATE (R134): VERDICT_WAIT_US passes without a verdict, and the lane proceeds. -/
  | verdictLate (l : Fin 4)
  /-- PRESENCE_CHECK (R139): PRESENCE_MS elapses, and the sequencer checks a held card. -/
  | presenceCheck (l : Fin 4)
  /-- PRESENCE_TIMEOUT (R139): PRESENCE_TIMEOUT_MS passes without a successful check: the hold entry becomes absent and the
  lane closes. -/
  | presenceTimeout (l : Fin 4)
  /-- HOLD_RELEASE (R136): HOLD_RELEASE_MS after its last sighting, an absent hold entry is freed. -/
  | holdRelease (h : Fin 64)
  /-- HOST_EXCHANGE (R142): A host write of EXCH_CMD 1 sends EXCH_TX to the lane's card. -/
  | hostExchange (who : Who) (l : Fin 4)
  /-- POLL_REQUEST (R128): A host write of EXCH_CMD 2 starts a poll cycle, opening the lane if it is IDLE. -/
  | pollRequest (who : Who) (l : Fin 4)
  /-- EXCH_TIMEOUT (R142): EXCH_TIMEOUT_MS expires, and the host exchange ends with TIMEOUT. The operand is the lane and what
  the receive paths sense then. -/
  | exchTimeout (x : Fin 4 × List Sensed)
  /-- FREE_PING (R152): A free Frond ping starts in an acting occurrence once its conditions hold. -/
  | freePing (p : Fin 8) (extMv : BitVec 8)
  /-- FROND_OCCURRENCE_SKIP (R152): A ping cannot start by 3.2 µs before the window closes, and SKIPPED is incremented. -/
  | frondOccurrenceSkip (p : Fin 8)
  /-- LANE_PING (R154): A due lane ping is made in a gap between the lane's exchanges, or is skipped at the next occurrence. -/
  | lanePing (p : Fin 8)
  /-- FROND_PING_DECISION (R157): The ping's detuning is decided, and the port's Frond state, class and actions follow. The
  operand z is the impedance measured, real and imaginary part. -/
  | frondPingDecision (p : Fin 8) (z : BitVec 32 × BitVec 32) (sensed : List Sensed)
  /-- DISARM_ABSORB (R157): DISARM_ABSORB_S passes in DISARMED, and the object is absorbed into the baseline. -/
  | disarmAbsorb (p : Fin 8)
  /-- BASE_RESET (R157): A write of BASE_RESET 1 sends the port to LEARN. -/
  | baseReset (who : Who) (p : Fin 8) (value : BitVec 8)
  /-- FROND_CONFIG_WRITE (R151): A write of the ping geometry or RATE_HZ rebooks the Frond windows. -/
  | frondConfigWrite (who : Who) (port : Option (Fin 8)) (item : Fin 4) (value : BitVec 16)
  /-- TAG_FIELD_ON (R169): The tag's supply reaches operating level, and the tag enters READY or QUIET by the Lichen latch. -/
  | tagFieldOn
  /-- TAG_FIELD_LOSS (R169): The tag loses its field, enters NO FIELD, and its level returns to OPEN. -/
  | tagFieldLoss
  /-- LICHEN_LATCH_EXPIRY (R170): The Lichen latch's hold time after field loss ends, and the latch clears. -/
  | lichenLatchExpiry
  /-- INVENTORY (R176): An ISO/IEC 15693 Inventory command is answered in its slot. -/
  | inventory (r : TagReq) (afi : Option (BitVec 8)) (slots16 : Bool) (mask : List Bool)
  /-- STAY_QUIET (R169): An addressed Stay Quiet puts the tag in QUIET and sets the Lichen latch. -/
  | stayQuiet (r : TagReq)
  /-- SELECT (R169): A Select command selects this tag or deselects it. -/
  | selectCard (r : TagReq)
  /-- RESET_TO_READY (R169): A Reset to Ready returns the tag to READY. -/
  | resetToReady (r : TagReq)
  /-- READ_SINGLE_BLOCK (R175): A Read Single Block is answered subject to level and region. -/
  | readSingleBlock (r : TagReq) (block : BitVec 8)
  /-- EXTENDED_READ_SINGLE_BLOCK (R175): An Extended Read Single Block is answered for blocks up to 991. -/
  | extendedReadSingleBlock (r : TagReq) (block : BitVec 16)
  /-- WRITE_SINGLE_BLOCK (R178): A Write Single Block is written as an atomic group of one. -/
  | writeSingleBlock (r : TagReq) (p : TagPower) (block : BitVec 8) (data : List Byte)
  /-- EXTENDED_WRITE_SINGLE_BLOCK (R178): An Extended Write Single Block is written as an atomic group of one. -/
  | extendedWriteSingleBlock (r : TagReq) (p : TagPower) (block : BitVec 16) (data : List Byte)
  /-- READ_MULTIPLE_BLOCKS (R176): A Read Multiple Blocks of 1 to 8 blocks is answered. -/
  | readMultipleBlocks (r : TagReq) (first more : BitVec 8)
  /-- EXTENDED_READ_MULTIPLE_BLOCKS (R176): An Extended Read Multiple Blocks is answered. -/
  | extendedReadMultipleBlocks (r : TagReq) (first more : BitVec 16)
  /-- WRITE_MULTIPLE_BLOCKS (R178): A Write Multiple Blocks of 1 to 8 blocks in one region is written as one atomic group. -/
  | writeMultipleBlocks (r : TagReq) (p : TagPower) (first more : BitVec 8) (data : List Byte)
  /-- EXTENDED_WRITE_MULTIPLE_BLOCKS (R178): An Extended Write Multiple Blocks is written as one atomic group. -/
  | extendedWriteMultipleBlocks (r : TagReq) (p : TagPower) (first more : BitVec 16) (data : List Byte)
  /-- WRITE_AFI (R176): Write AFI at SECURED-PASSWORD or above writes OD 2700/03. -/
  | writeAfi (r : TagReq) (p : TagPower) (v : BitVec 8)
  /-- WRITE_DSFID (R176): Write DSFID at SECURED-PASSWORD or above writes OD 2700/04. -/
  | writeDsfid (r : TagReq) (p : TagPower) (v : BitVec 8)
  /-- GET_SYSTEM_INFORMATION (R176): Get System Information reports 256 blocks of 32 bytes. -/
  | getSystemInformation (r : TagReq)
  /-- EXTENDED_GET_SYSTEM_INFORMATION (R176): Extended Get System Information reports 992 blocks of 32 bytes. -/
  | extendedGetSystemInformation (r : TagReq)
  /-- GET_MULTIPLE_BLOCK_SECURITY_STATUS (R176): The security status of blocks is reported at the present level. -/
  | getMultipleBlockSecurityStatus (r : TagReq) (first more : BitVec 8)
  /-- EXT_GET_MULTI_BLOCK_SECURITY_STATUS (R176): The extended form of Get Multiple Block Security Status is answered. -/
  | extGetMultiBlockSecurityStatus (r : TagReq) (first more : BitVec 16)
  /-- TAG_UNSUPPORTED_COMMAND (R176): Lock commands and unknown codes are answered with error 0x01 when addressed. -/
  | tagUnsupportedCommand (r : TagReq) (code : BitVec 8)
  /-- GET_PWD_NONCE (R172): The tag returns a fresh 32-bit password nonce. -/
  | getPwdNonce (r : TagReq) (mfg : BitVec 8)
  /-- PRESENT_PWD (R172): A masked password is checked, and the tag reaches SECURED-PASSWORD or counts a failure. -/
  | presentPwd (r : TagReq) (mfg : BitVec 8) (pn : BitVec 32)
  /-- AUTH_BEGIN (R173): The tag answers AUTH_BEGIN for a key slot with RndT. -/
  | authBegin (r : TagReq) (mfg slot : BitVec 8)
  /-- AUTH_FINISH (R173): MAC_R is checked, and the tag reaches SECURED-AUTH and answers MAC_T, or counts a failure. -/
  | authFinish (r : TagReq) (mfg : BitVec 8) (rndR macR : List Byte)
  /-- LOGOUT (R171): LOGOUT returns the tag's level to OPEN. -/
  | logout (r : TagReq) (mfg : BitVec 8)
  /-- GET_TAG_STATUS (R176): The tag returns its 8-byte status. -/
  | getTagStatus (r : TagReq) (mfg : BitVec 8)
  /-- STAGE_APPLY (R183): STAGE_APPLY with a matching SEQ sets the staging header to ready. -/
  | stageApply (r : TagReq) (p : TagPower) (mfg : BitVec 8) (seq : BitVec 32)
  /-- TAG_LOCKOUT_END (R174): 10 s of energised lockout ends, and the failure count returns to 0. -/
  | tagLockoutEnd
  /-- ROLL_FORWARD (R181): At the first moment the write gate is met, a COMMITTED group is completed from the shadow. -/
  | rollForward (rail cap : BitVec 16)
  /-- STAGED_SET_APPLY (R184): A ready staged set is checked and applied as dictionary writes under its role, and block 17 is
  written. -/
  | stagedSetApply
  /-- STATUS_BLOCK_WRITE (R185): The module writes store status blocks 4 to 15 after a change, at most once a second, and on
  ride-through. -/
  | statusBlockWrite
  /-- STORE_READ (R186): A host STORE_CMD 1 reads a group of store blocks. -/
  | storeRead (who : Who)
  /-- STORE_WRITE_GROUP (R186): A host STORE_CMD 2 writes a group of store blocks, or is refused as busy or denied. -/
  | storeWriteGroup (who : Who)
  /-- HOLD_WRITE (R186): A host write of HOLD takes or releases the store hold. -/
  | holdWrite (who : Who) (value : BitVec 8)
  /-- HOLD_MAX_EXPIRY (R186): HOLD has been held for HOLD_MAX_MS and the module releases it. -/
  | holdMaxExpiry
  /-- PORT0_RELEASE (R188): The external field has been absent for TAG_RELEASE_MS at a yield point, and port 0 returns to
  service. -/
  | port0Release
  /-- VERDICT_READY (R194): A lookup completes with its verdict, and triggers go to the rule sequencer. -/
  | verdictReady
  /-- TABLE_INSERT (R195): A CMD 1 insert places or rewrites an entry in the credential table. -/
  | tableInsert (who : Who)
  /-- TABLE_DELETE (R195): A CMD 2 delete clears the key's slot, or ends with not found. -/
  | tableDelete (who : Who)
  /-- TABLE_LOOKUP (R194): A CMD 3 lookup of the key returns its verdict and slot. -/
  | tableLookup (who : Who)
  /-- TABLE_CLEAR_ALL (R207): A CMD 4 by the installer or maker clears the whole table. -/
  | tableClearAll (who : Who)
  /-- TABLE_WINDOW_WRITE (R198): A write to the match-table window writes one slot if its key lies in a candidate bucket. -/
  | tableWindowWrite (who : Who) (e : Fin 16384) (entry : List Byte)
  /-- RULE_TRIGGER (R200): The sequencer takes the next trigger and runs every rule it satisfies, in ascending order. -/
  | ruleTrigger
  /-- SCENE_STEP (R204): A scene step's DELAY_MS expires and the step runs. The last step raises SCENE_DONE. -/
  | sceneStep (n : Fin 256)
  /-- GPIO_PULSE_END (R432): A rule pulse's length expires, and the pad's OUT is restored. -/
  | gpioPulseEnd (n : Fin 16)
  /-- SOURCE_LOSS (R208): The carrying supply source is lost. The module switches over or enters ride-through. -/
  | sourceLoss (aux : Bool)
  /-- SOURCE_PRESENCE (R208): A supply source becomes present and takes the bus, ending ride-through if it was running. -/
  | sourcePresence (aux : Bool)
  /-- PREFERRED_SOURCE_RETURN (R208): The preferred source has been present for 1 s, and the bus returns to it through
  SWITCHOVER. -/
  | preferredSourceReturn
  /-- STORE_LEVEL_CROSSING (R212): E crosses the PWR_GOOD level or the burst level, and PWR_GOOD changes. -/
  | storeLevelCrossing (mv : BitVec 16)
  /-- SHUTDOWN (R213): E reaches 0, and the module withdraws grants, completes stored writes and holds the core in reset. -/
  | shutdown
  /-- VOUT_FAULT (R214): VOUT_3V3 has been at its limit for 100 ms, or below 2.8 V for 1 ms, and it turns off. -/
  | voutFault (low : Bool)
  /-- VOUT_RETRY (R214): 1 s after a fault the accessory rail claims again to turn on. -/
  | voutRetry
  /-- HALYARD_TICK (R217): Each 10 µs tick computes the ceiling, trims held grants and serves waiting claims by class. -/
  | halyardTick
  /-- HALYARD_CLAIM (R217): A claimant submits a claim, which waits for a tick or is refused at once with SIZE. -/
  | halyardClaim (who : Fin 13) (mw : BitVec 16) (prio : Fin 8) (deadline : Option (BitVec 32))
  /-- HALYARD_RELEASE (R218): A claimant releases its grant or a surplus. -/
  | halyardRelease (who : Fin 13) (keep : BitVec 16)
  /-- THERMAL_UPDATE (R221): The periodic dissipation and T_hot evaluation sets THERM_CEILING. -/
  | thermalUpdate (input : BitVec 16) (m : Outputs)
  /-- QUEUE_PUSH_WORD (R237): A write of FW_Q_PUSH appends a word to the host's open bunting, allocating cells. -/
  | queuePushWord (w : BitVec 32)
  /-- COMMIT (R237): FW_Q_PCTL COMMIT pushes the open bunting to its queue. -/
  | commitBunting (tail : Fin 4 × Bool)
  /-- ABORT (R237): FW_Q_PCTL ABORT releases the open bunting. -/
  | abortBunting
  /-- QUEUE_POP_READ (R237): A read of FW_Q_POP pops a bunting, or returns its header and data words. -/
  | queuePopRead
  /-- QUE_DROP (R237): FW_Q_CMD 1 ends and frees the current bunting. -/
  | queDrop
  /-- HARDWARE_PUSH (R226): A hardware producer commits a bunting to its queue. -/
  | hardwarePush (q : Fin 32) (who : Fin 8) (data : List Byte) (pop : Bool)
  /-- HARDWARE_POP (R226): A hardware consumer pops a bunting from its queue. -/
  | hardwarePop (q : Fin 32) (who : Fin 8)
  /-- POOL_FREE_MIN_READ (R237): A read of FW_POOL returns FREE_MIN and reloads it with FREE. -/
  | poolFreeMinRead
  /-- TB_WRAP (R240): TB passes 2^48 and TB_EPOCH advances. -/
  | tbWrap
  /-- TB_LO_READ (R241): A read of FW_TB_LO returns TB[31:0] and latches FW_TB_HI. -/
  | tbLoRead (sess : Sess)
  /-- POWERED_SECOND (R242): 27,120,000 crystal cycles complete a powered second, and POWERED_S and the duty bins are stored. -/
  | poweredSecond
  /-- COMPARE_FIRE (R244): An armed compare channel reaches its VALUE and fires. -/
  | compareFire (n : Fin 16)
  /-- COMPARE_VALUE_WRITE (R245): A write of VALUE arms a compare channel from the next tick. -/
  | compareValueWrite (who : Who) (n : Fin 16) (value : BitVec 64)
  /-- COMPARE_CTRL_WRITE (R245): A write of CTRL enables and arms, or disarms, a compare channel. -/
  | compareCtrlWrite (who : Who) (n : Fin 16) (value : BitVec 8)
  /-- CAPTURE_EDGE (R247): A capture source's edge is stamped into VALUE. -/
  | captureEdge (c : Fin 8) (rising : Bool) (off : Fin 3)
  /-- CAPTURE_VALUE_READ (R248): A read of a capture VALUE returns it and clears FULL. -/
  | captureValueRead (who : Who) (c : Fin 8)
  /-- LC_OVERFLOW (R253): A legacy counter wraps from 0xFFFF, sets OVF and feeds a chained counter. -/
  | lcOverflow (i : Fin 4)
  /-- LC_COUNT_WRITE (R253): A write of COUNT loads a legacy counter in the next bus clock. -/
  | lcCountWrite (who : Who) (i : Fin 4) (value : BitVec 16)
  /-- LC_PRESCALE_WRITE (R253): A write of PRESCALE, or of RUN to 1, restarts the prescaler. -/
  | lcPrescaleWrite (who : Who) (i : Fin 4) (ctrl : Bool) (value : BitVec 8)
  /-- RADIO_TRANSITION_COMPLETE (R259): A timed radio state transition completes, and the next transition or action proceeds. -/
  | radioTransitionComplete
  /-- RADIO_TX_FRAME (R262): The radio takes a transmit bunting from queue 5, checks it and starts the chain toward TX. -/
  | radioTxFrame
  /-- RADIO_TIMED_START (R264): A timed frame's START is reached and the frame starts, pre-empting any reception. -/
  | radioTimedStart
  /-- RADIO_DEADLINE (R263): A timed frame can no longer start by its deadline and ends with DEADLINE. -/
  | radioDeadline
  /-- RADIO_TX_END (R261): A frame's last symbol is sent, the status is returned, and the radio goes to its return state. -/
  | radioTxEnd
  /-- RADIO_PREAMBLE_DETECT (R269): A preamble is detected, and diversity chooses the aerial over two windows. -/
  | radioPreambleDetect (a1 b1 a2 b2 : BitVec 16) (early : Option Bool) (rssi : BitVec 16) (rate : BitVec 8)
  /-- RX_CAPTURE (R271): A stronger preamble during reception abandons the current frame for the new one. -/
  | rxCapture (a1 b1 a2 b2 : BitVec 16) (early : Option Bool) (rssi : BitVec 16) (rate : BitVec 8) (mean : BitVec 16)
  /-- RADIO_RX_FRAME (R280): A received frame ends and is delivered to queue 7 or dropped with its status. -/
  | radioRxFrame (sync : BitVec 32) (header payload : List (BitVec 4)) (ago : BitVec 32) (off : Fin 5) (rssi freq : BitVec 16) (quality rate : BitVec 8) (heard : Bool)
  /-- SNIFF_WAKE (R278): SNIFF_INTERVAL_MS elapses, and the radio rises to RX to listen. -/
  | sniffWake
  /-- SNIFF_LISTEN_END (R278): SNIFF_LISTEN_US passes with no preamble, and the radio returns to SLEEP. -/
  | sniffListenEnd
  /-- SYNTH_CALIBRATION (R279): A due synthesiser calibration starts in CAL from STANDBY or SYNTH. -/
  | synthCalibration
  /-- SYNTH_UNLOCK (R279): The synthesiser loses lock, the frame is ended, and the radio recovers through SLEEP. -/
  | synthUnlock
  /-- DUTY_BIN_ADVANCE (R276): 60 powered seconds pass, and the duty window advances by one bin. -/
  | dutyBinAdvance
  /-- RADIO_TEST_MODE_WRITE (R281): A write of radio TEST_MODE starts a test emission, or is refused. -/
  | radioTestModeWrite (who : Who) (value : BitVec 8)
  /-- RADIO_TEST_TIME_END (R281): The radio test ends by TEST_TIME or by the budget. -/
  | radioTestTimeEnd
  /-- RADIO_NOISE_MEASUREMENT (R299): The periodic noise-floor measurement on each channel and aerial. -/
  | radioNoiseMeasurement (a b : BitVec 16)
  /-- LDPC_HOLD_EXPIRY (R297): LDPC_HOLD_S on LDPC passes, and the next frame to the node tries convolutional coding. -/
  | ldpcHoldExpiry (n : Fin 64)
  /-- PL_TX_FRAME (R315): The powerline transmitter starts an untimed frame once IFS, contention gap, window and blanking allow. -/
  | plTxFrame
  /-- PL_TIMED_START (R315): A timed powerline frame starts at START, or at its earliest start, or ends with DEADLINE. -/
  | plTimedStart
  /-- PL_TX_END (R315): A powerline frame ends and its status is returned. -/
  | plTxEnd
  /-- PL_RX_FRAME (R316): A received powerline frame ends and is delivered to queue 8, dropped, or taken as a tone-map report. -/
  | plRxFrame (header : BitVec 64) (data : List Byte) (pilots : List (BitVec 16)) (mean : BitVec 16) (level : BitVec 16) (snr : BitVec 8) (signal : List Byte) (angle : BitVec 16)
  /-- TONEMAP_ISSUE (R309): A new map set is issued to a peer and sent as a report frame. -/
  | tonemapIssue (n : Fin 64)
  /-- NOTCH_WRITE (R312): A maker notch write recomputes and re-reports every issued map set. -/
  | notchWrite (who : Who) (x : Fin 8) (high : Bool) (value : BitVec 16)
  /-- LINE_STATE_CHANGE (R318): MAINS_VRMS crosses 75 V, and the powerline line becomes present or absent. -/
  | lineStateChange (vrms : BitVec 16)
  /-- PL_NOISE_MEASUREMENT (R317): The periodic per-region noise measurement of the powerline. -/
  | plNoiseMeasurement (levels : List Byte)
  /-- PL_CALIBRATION (R319): A powerline front-end calibration starts with its 3 ms outage. -/
  | plCalibration
  /-- SPI_FRAME (R328): An SPI frame from CS_N falling to rising carries register reads and writes. -/
  | spiFrame (sent : List Byte) (extra : Fin 8)
  /-- UART_FRAME (R334): A delimited UART frame is received as a bridge or maker-service frame. -/
  | uartFrame (line : List Byte)
  /-- OD_ADDR_WRITE (R331): A write of FW_OD_ADDR sets the target and returns the data pointer to word 0. -/
  | odAddrWrite (sess : Sess) (w : BitVec 32)
  /-- OD_DATA_ACCESS (R331): An access to FW_OD_DATA moves one value word and advances the pointer. -/
  | odDataAccess (sess : Sess) (w : Option (BitVec 32))
  /-- OD_READ (R331): FW_OD_CMD OP 1 reads an entry locally, or sends a remote read request. -/
  | odRead (sess : Sess) (ofs : BitVec 8)
  /-- OD_WRITE (R325): FW_OD_CMD OP 2, or any dictionary write with no row of its own, is checked and applied. -/
  | odWrite (via : OdVia)
  /-- OD_ABORT (R331): FW_OD_CMD OP 15 ends a remote request with ABORTED. -/
  | odAbort (sess : Sess)
  /-- FAST_REGISTER_WRITE (R7): A write to a fast register with no row of its own, W1C fields included. -/
  | fastRegisterWrite (sess : Sess) (word : Fin 64) (w : BitVec 32)
  /-- MESSAGE_HANDOVER (R345): The link layer takes a new message from queue 4, 2 or 0 and hands its copies to the transmit
  queues. -/
  | messageHandover
  /-- DRAVLINK_FRAME_RECEIVE (R339): A Dravlink frame is filtered by segment and node, checked by the sequence window,
  acknowledged and routed. -/
  | dravlinkFrameReceive (pl : Bool)
  /-- ACK_RECEIVED (R340): An ACK delivers a message, and pending retries are cancelled. -/
  | ackReceived (pl : Bool)
  /-- ACK_WAIT_EXPIRY (R342): A copy's acknowledgement wait ends, and a repetition is scheduled or the copy ends. -/
  | ackWaitExpiry (m : Fin 16) (pl : Bool)
  /-- RETRY_HANDOVER (R342): A repetition's random gap ends, and it is handed to its transmit queue if it fits within TMO/2. -/
  | retryHandover (m : Fin 16) (pl : Bool)
  /-- TRANSACTION_TIMEOUT (R346): TMO passes without a reply, and the transaction or message ends with TIMEOUT. -/
  | transactionTimeout (txn : Bool) (i : BitVec 8)
  /-- DRAVLINK_OD_REQUEST (R359): A responder takes an OD_REQ from queue 3, checks the cache, AUTH and TID, executes it and
  replies. -/
  | dravlinkOdRequest
  /-- REPLY_CACHE_EXPIRY (R347): A reply-cache entry's TMO ends and the entry is dropped. -/
  | replyCacheExpiry (i : Fin 64)
  /-- RESYNC_END (R339): 10 s after start, RESYNC is no longer set in every frame. -/
  | resyncEnd
  /-- WAKE_HOLD_END (R348): The RX hold announced by an addressed WAKE, plus 20 ms, ends. -/
  | wakeHoldEnd
  /-- ROLE_NONCE (R354): A read of ROLE_NONCE returns 16 new random bytes for a claim. -/
  | roleNonce (sess : Sess)
  /-- ROLE_CLAIM (R354): A ROLE_CLAIM write is checked, and the session's role changes or a failure is counted. -/
  | roleClaim (who : Who) (claim : List Byte)
  /-- CLAIM_LOCKOUT_END (R356): The session's 10 s claim lockout ends. -/
  | claimLockoutEnd (sess : Sess)
  /-- ROLE_IDLE_EXPIRY (R357): ROLE_IDLE_S passes with no frame, and the session drops to operator. -/
  | roleIdleExpiry (sess : Sess)
  /-- KEY_WRITE (R363): A key entry is written wrapped. A first non-zero ROLE_KEY_M sets PROVISIONED. -/
  | keyWrite (who : Who) (key : Fin 8) (value : List Byte)
  /-- TID_RESET (R360): A write of 1 clears TID_LAST for a peer. -/
  | tidReset (who : Who) (n : Fin 64) (value : BitVec 8)
  /-- ANNOTATE (R365): A write of ANNOTATE adds an unverified KIND 5 audit record. -/
  | annotate (who : Who) (note : List Byte)
  /-- AUD_ACK_WRITE (R366): A write of AUD_ACK acknowledges audit records, or is refused with RANGE. -/
  | audAckWrite (who : Who) (value : BitVec 32)
  /-- ERASE (R369): FW_CMD 1 erases the inactive firmware slot. -/
  | erase (who : Who)
  /-- VERIFY (R369): FW_CMD 2 checks the inactive image's header, signature and SEC_VERSION. -/
  | verifyImage (who : Who)
  /-- ACTIVATE (R369): FW_CMD 3 names a valid inactive slot for the next start, in trial. -/
  | activate (who : Who)
  /-- CONFIRM (R370): FW_CMD 4 makes the trial image permanent and raises ROLLBACK_FLOOR. -/
  | confirm (who : Who)
  /-- REVERT (R369): FW_CMD 5 names the other valid slot for the next start. -/
  | revert (who : Who)
  /-- FW_CHUNK_WRITE (R369): A chunk of image is written at FW_OFFSET, and FW_OFFSET advances. -/
  | fwChunkWrite (who : Who) (chunk : List Byte)
  /-- FW_CMD_COMPLETE (R369): An erase or verify finishes, and FW_CMD reads done or failed. -/
  | fwCmdComplete (fault : Bool)
  /-- FW_TRIAL_EXPIRY (R370): FW_TRIAL_S passes unconfirmed, and the module records an automatic revert and restarts. -/
  | fwTrialExpiry
  /-- ATTEST_CMD (R372): A write of ATTEST_CMD 1 starts building and signing an attestation body. -/
  | attestCmd (who : Who) (value : BitVec 8)
  /-- ATTESTATION_COMPLETE (R372): The attestation signature is ready and ATTEST_CMD reads 2. -/
  | attestationComplete
  /-- TEST_ACCESS (R373): A maker write of the test-access code audits, zeroes keys, locks the unwrap engine and enables test
  access. -/
  | testAccess (who : Who) (value : BitVec 32)
  /-- SELF_TEST_SLICE (R377): A regular or escalated self-test slice tests one unit of the next group. -/
  | selfTestSlice (x : SliceStep)
  /-- ECC_CORRECTION (R383): ECC corrects a single bit in service, or detects an uncorrectable error. -/
  | eccCorrection (g : Fin 6) (index : BitVec 8) (unit : BitVec 8) (addr : BitVec 32) (bit : BitVec 8) (uncorrectable : Bool) (hit : Option (Fin 32 × Fin 64 × Option (Fin 64)))
  /-- SENSOR_READ (R389): The 100 ms die-sensor reading updates corrections and may request calibration. -/
  | sensorRead (t0 t1 t2 t3 t4 t5 : BitVec 16)
  /-- CAL_REQUEST (R390): A write of CAL_REQUEST requests calibration of blocks. -/
  | calRequest (who : Who) (value : BitVec 16)
  /-- CALIBRATION_START (R391): A pending port or powerline calibration starts in its window, or is forced after CAL_DEFER_MAX_S. -/
  | calibrationStart (p : Fin 8)
  /-- CALIBRATION_COMPLETE (R392): A calibration ends. Offsets are stored or rejected, pennants become stale and a survey is
  requested. -/
  | calibrationComplete (pl : Bool) (dg dp rg rp cre cim : BitVec 16) (settled : Bool)
  /-- CORE_START (R397): The carrying source becomes present at power-up, and the core domain starts, boots, loads and
  calibrates. -/
  | coreStart
  /-- START_GATE (R398): The store reaches 120 mJ, or 72 ms pass, and start-up calibration steps 4 to 10 run. -/
  | startGate (m : StartMeasure)
  /-- STARTUP_SURVEY (R400): The start-up survey runs, or is given up after 10 ms. -/
  | startupSurvey
  /-- READY_FOR_SERVICE (R401): The module becomes ready: PWR_GOOD high, SPI_RDY released, windows and Dravlink started, wakes
  taken. -/
  | readyForService
  /-- RST_N (R402): RST_N is held low for at least 10 µs, and the core domain resets at its release. -/
  | rstN
  /-- WATCHDOG_EXPIRY (R402): The watchdog expires and resets the core domain. -/
  | watchdogExpiry
  /-- SOFT_RESET (R402): A write of the reset code to SOFT_RESET resets the core domain. -/
  | softReset (who : Who) (value : BitVec 32)
  /-- RESTORE_DEFAULTS (R403): A restore code is audited, stored entries are set to defaults, and the module resets. -/
  | restoreDefaults (who : Who) (value : BitVec 32)
  /-- STANDBY_ENTRY (R405): Idle has held for IDLE_MS, and the module enters its STANDBY_TARGET state. -/
  | standbyEntry
  /-- STANDBY_WAKE (R407): A wake cause returns the module from standby to ACTIVE. -/
  | standbyWake (c : WakeCause)
  /-- SLEEP_CMD (R405): A write of SLEEP_CMD requests SLEEP, or wakes the module. -/
  | sleepCmd (who : Who) (value : BitVec 8)
  /-- SLEEP_ENTRY (R249): At a slow-clock edge after pending writes end, the module enters SLEEP and TB stops. -/
  | sleepEntry
  /-- SLEEP_WAKE (R408): An enabled wake cause or SLEEP_MAX_S ends SLEEP. TB, POWERED_S and MA are made up. -/
  | sleepWake (c : SleepCause)
  /-- SLEEP_LIMIT (R251): The slow counter reaches 2^37 ticks, and the always-on block ends SLEEP. -/
  | sleepLimit
  /-- DEBUG_HALT_ENTRY (R409): The control core enters debug halt through the test group. TB may freeze. -/
  | debugHaltEntry
  /-- DEBUG_HALT_EXIT (R409): The control core leaves debug halt, and a freeze ends. -/
  | debugHaltExit
  /-- EVENT_CLEAR (R414): A host write of 1 to a pending bit clears the event. -/
  | eventClear (word : Fin 3) (bits : BitVec 32)
  /-- EVENT_ENABLE_WRITE (R417): A write of ENABLE changes which events reach lines, and may start a pulse. -/
  | eventEnableWrite (word : Fin 3) (bits : BitVec 32)
  /-- ROUTE_WRITE (R417): A write of ROUTE changes an event's lines, and may start a pulse. -/
  | routeWrite (who : Who) (e : Fin 96) (value : BitVec 8)
  /-- LINE_MODE_WRITE (R416): A write of LINE_MODE changes an IRQ line's mode at the next clock. -/
  | lineModeWrite (who : Who) (l : Fin 4) (value : BitVec 8)
  /-- IRQ_PULSE_END (R417): PULSE_US ends a line pulse, and an owed pulse follows 1 µs later. -/
  | irqPulseEnd (l : Fin 4)
  /-- GP_INPUT_EDGE (R431): A filtered edge on an input GP pad updates IN and gives captures and GPIO_EDGE triggers. -/
  | gpInputEdge (n : Fin 16) (rising : Bool)
  /-- GP_OUT_WRITE (R432): A write of a pad's OUT, or of GP_OUT, drives the outputs and ends rule pulses. -/
  | gpOutWrite (who : Who) (pad : Option (Fin 16)) (value : BitVec 16)
  /-- GP_DIR_WRITE (R431): A write of DIR changes a GP pad's direction, and DIR 0 ends a pulse. -/
  | gpDirWrite (who : Who) (n : Fin 16) (value : BitVec 8)
  /-- SWITCHOVER_COMPLETE (R208): The passage of the bus to the other source ends after at most 1 ms, and SUPPLY_STATE returns
  from SWITCHOVER to NORMAL. -/
  | switchoverComplete
  /-- VOUT_CURRENT_LIMIT (R214): The load on VOUT_3V3 reaches or leaves the rail's current limit, and VOUT_STATE changes
  between 1 and 2. -/
  | voutCurrentLimit (beyond : Bool)
  /-- ANGLE_HALF_CYCLE (R34): The angle passes 0x8000, and MA_SYNC_OUT in mode 3 goes low. -/
  | angleHalfCycle
  /-- PL_PREAMBLE_DETECT (R316): The powerline receiver detects SYNCP and starts receiving a frame; the line counts as busy
  and timing is fixed from the preamble. -/
  | plPreambleDetect (ago : BitVec 32)
  /-- RECEIVE_WINDOW_OPEN (R94): The protocol engine opens a receive window on the lane's ports; cancellers move from TRACK to
  HOLD and the residual carrier mean is removed. -/
  | receiveWindowOpen (l : Fin 4)
  /-- CAL_DEFERRAL_LIMIT (R393): A pending calibration reaches CAL_DEFER_MAX_S and event 92 is raised, with ports then forced
  at the next occurrence. -/
  | calDeferralLimit (b : Fin 10)
deriving DecidableEq, Repr

end Sys2Proof
end

