-- ==== Sys2Proof/Decode.lean ====
section
/-!
DEFINITION. The decoder over the command table. spec/opcode_table.json gives no row any bits: a command reaches the block as
an event of its interfaces, and no word spells one (log 10).
-/

namespace Sys2Proof

/-- The command that the low `nbits` bits of `w` spell: none, since the table gives no row bits. -/
def decodeTableWord (_nbits _w : Nat) : Option Instr := none

end Sys2Proof
end

