-- ==== Sys2Proof/Machine/Cells.lean ====
section
/-!
DEFINITION. The bytes of the commissioning store: a list of cells with strictly rising addresses, none holding 0, which is
what an unlisted address reads as (R177; log 81).
-/

namespace Sys2Proof.Machine

open Sys2Proof

/-- The bytes of blocks 0 to 991 that are not 0. -/
abbrev StoreCells := List Host.Cell

/-- Read one byte; an unlisted address reads as 0. -/
def StoreCells.get (m : StoreCells) (a : Nat) : Byte :=
  match m with
  | [] => 0
  | (a', v) :: rest => if a' = a then v else StoreCells.get rest a

/-- Write one byte. -/
def StoreCells.put (m : StoreCells) (a : Nat) (v : Byte) : StoreCells :=
  match m with
  | [] => if v = 0 then [] else [(a, v)]
  | (a', v') :: rest =>
    if a' < a then (a', v') :: StoreCells.put rest a v
    else if a' = a then (if v = 0 then rest else (a, v) :: rest)
    else if v = 0 then (a', v') :: rest
    else (a, v) :: (a', v') :: rest

/-- Addresses strictly rise from `lo`, none past block 991, and no cell holds 0. -/
def StoreCells.wfFrom (lo : Nat) (m : StoreCells) : Bool :=
  match m with
  | [] => true
  | (a, v) :: rest => decide (lo ≤ a) && decide (a < 31744) && decide (v ≠ 0) && StoreCells.wfFrom (a + 1) rest

/-- The canonical form of the store. -/
def StoreCells.wf (m : StoreCells) : Bool := StoreCells.wfFrom 0 m

/-- Write bytes from an address; addresses past block 991 take nothing. -/
def StoreCells.write (m : StoreCells) (a : Nat) (b : List Byte) : StoreCells :=
  match b with
  | [] => m
  | x :: rest => StoreCells.write (if a < 31744 then m.put a x else m) (a + 1) rest

/-- The cells in canonical form: themselves where they already are, else written one by one. -/
def StoreCells.canon (m : StoreCells) : StoreCells :=
  if m.wf then m else m.foldr (fun (c : Host.Cell) (acc : StoreCells) => if c.1 < 31744 then acc.put c.1 c.2 else acc) []

end Sys2Proof.Machine
end

