-- ==== Sys2Proof/Config.lean ====
section
/-!
DEFINITION. What one module fixes at manufacture, and the free values: values the spec leaves open. Each is an opaque
constant with no body, so no proof can see what it is.
-/

namespace Sys2Proof.Config

open Sys2Proof

/-- The n-th draw of the module's random source (TX_SEQ, nonces, jitter, contention slots: R338, R342, R354). -/
opaque random : Nat → Nat

/-- The n-th free value: a value the spec leaves open at the place that draws it (log 3). -/
opaque freeNat : Nat → Nat

/-- A per-module constant of the dictionary, fixed at manufacture and given no value by the spec (SERIAL, HW_REV,
TAG_UID, MFG_CODE, ID_PUBKEY, ID_CERT; log 6), by its key. -/
opaque manufacture : Nat → Val

/-- The 64 coefficient bytes of factory FIR set s, 0 to 6, which Table 3-4 names without giving (log 6). -/
opaque firFactory : Nat → List Byte

/-- The delay of the crossing filter and isolator in ns, computed for a mains frequency in mHz (R19; the spec gives no
figure, log 21). -/
opaque crossingDelayNs : Nat → Nat

/-- The worst margin in 0.1 dB of an FIR set (64 bytes) against a spectral mask (32 bytes) in one mode of OD 22p4, by the
pseudo-random frame of R52; negative where the set breaks the mask. The spec names the frame without its polynomial, so
the figure is the module's (log 41). -/
opaque firMargin : List Byte → List Byte → Nat → Int

/-- Whether the envelope of a frame is in its modulated part in the n-th drive word after the frame's start: the keying that the
published standards give the bytes in a mode of OD 22p4 (R50; log 205). -/
opaque keyed : Nat → List Byte → Nat → Bool

/-- The same for the PRBS-9 pattern of a test emission (OD 22p5/01; log 205). -/
opaque keyedTest : Nat → Bool

/-- The group delay of an FIR set in ns (OD 2290+s/03; log 41). -/
opaque firDelay : List Byte → Nat

/-- What the impulse energy of a bin comes to, in 0.5 dB above the median, where measurements of the powerline receiver and of
the idle HF ports fell into it during a pass: of these, newest first, and of the level that the gaps between symbols gave.
R25, R113 and R317 have them serve learning and state no formula (log 265). -/
opaque binLevel : List (List Nat) → Nat → Nat

/-- AES-CMAC of a key and a message, 16 bytes (R172, R173, R354, R358). The spec names the published standard without giving
its steps; so do the next four (log 91). -/
opaque aesCmac : List Byte → List Byte → List Byte

/-- AES-128 encryption of a 16-byte block under a key (R173). -/
opaque aes128 : List Byte → List Byte → List Byte

/-- SHA-512, 64 bytes (Table 17-2, R372). -/
opaque sha512 : List Byte → List Byte

/-- The Ed25519 signature of a message with the identity key, 64 bytes (R371, R372). -/
opaque identitySign : List Byte → List Byte

/-- The Ed25519 check of a signature over a message with Uacen's firmware key (Table 17-3). -/
opaque firmwareSigned : List Byte → List Byte → Bool

/-- The firmware image of manufacture, header and body (Table 17-3; log 90). -/
opaque factoryImage : List Byte

/-- The factory set of calibration quantity i of port p at −25, 0, 25, 55 and 85 °C, in the units of OD 3510+b/05: stored as
CONST at manufacture, given no value by the spec (R389; log 6). -/
opaque factoryCal : Nat → Nat → List (BitVec 16)

end Sys2Proof.Config
end

