-- ==== Sys2Proof/Machine/OdTypes.lean ====
section
/-!
DEFINITION. The types of the object dictionary's description: entry types, access, ranges, defaults and the row that
describes one entry of the spec's dictionary tables (chapter 16, R322 to R326).
-/

namespace Sys2Proof.Machine

open Sys2Proof

/-- The types of Table 16-2. -/
inductive OdType where
  | bool | u8 | u16 | u32 | u64 | i8 | i16 | i32 | octets | vstring
deriving DecidableEq, Repr

/-- The Access column of a dictionary table (R324). -/
inductive OdAccess where
  | ro | rw | wo | const
deriving DecidableEq, Repr

/-- The stated range or set of values of an entry, or the length rule of an OCTETS entry (R323). -/
inductive OdRange where
  /-- every value of the type -/
  | any
  /-- lo to hi -/
  | span (lo hi : Int)
  /-- one special value, or lo to hi -/
  | alt (v : Int) (lo hi : Int)
  /-- lo to hi in steps from lo -/
  | step (lo hi : Int) (by_ : Nat)
  /-- a listed set of values -/
  | oneOf (vs : List Int)
  /-- octets: a length from lo to hi that is a multiple of mult -/
  | len (lo hi mult : Nat)
  /-- POLL_ORDER: four nibbles, each 0 to 3 or 0xF -/
  | nibbles
  /-- ACTIONS of a Frond port: four 2-bit fields, each 0 or 1 -/
  | actions
deriving DecidableEq, Repr

/-- The Default column. -/
inductive OdDefault where
  | num (i : Int)
  | zeros (n : Nat)
  | oct (b : List Byte)
  | text (t : String)
  /-- a number for each instance of the row -/
  | byIndex (vs : List Int)
  /-- the factory FIR coefficients of Table 3-4 -/
  | firFactory
  /-- fixed per module at manufacture -/
  | config
deriving DecidableEq, Repr

/-- One row of a dictionary table. It covers `count` indices from `base`, `stride` apart, and subindices `lo` to `hi`.
`rd` and `wr` are the roles that may read and write: bit 0 operator, bit 1 installer, bit 2 maker. `mask` holds the
implemented bits of an entry with res. fields (R7); 0 where every bit of the type is implemented. -/
structure OdRow where
  base : Nat
  count : Nat
  stride : Nat
  lo : Nat
  hi : Nat
  ty : OdType
  acc : OdAccess
  rd : Nat
  wr : Nat
  dflt : OdDefault
  stored : Bool
  rng : OdRange
  mask : Nat
deriving DecidableEq, Repr

end Sys2Proof.Machine
end

