-- ==== Sys2Proof/Machine/OdTable.lean ====
section
/-!
DEFINITION. The object dictionary's entries, one row per row of the spec's dictionary tables (chapters 2 to 21), in
index order: type, access, rights, default, storage and stated range. Entries res. in the spec have no row (R322).
-/

namespace Sys2Proof.Machine

open Sys2Proof

/-- Table 11-1, DEPTH_MAX of queues 0 to 31. -/
def queueDepthMax : List Int := [64, 256, 64, 128, 128, 32, 32, 32, 32, 64, 32, 32, 0, 0, 0, 0, 16, 16, 16, 16, 16, 16, 16, 16, 16, 16, 16, 16, 16, 16, 16, 16]

/-- Table 11-1, HIGH of queues 0 to 31. -/
def queueHigh : List Int := [48, 192, 48, 96, 96, 24, 24, 24, 24, 48, 24, 24, 0, 0, 0, 0, 12, 12, 12, 12, 12, 12, 12, 12, 12, 12, 12, 12, 12, 12, 12, 12]

/-- Table 11-1, LOW of queues 0 to 31. -/
def queueLow : List Int := [16, 64, 16, 32, 32, 8, 8, 8, 8, 16, 8, 8, 0, 0, 0, 0, 4, 4, 4, 4, 4, 4, 4, 4, 4, 4, 4, 4, 4, 4, 4, 4]

/-- Table 11-1, RESERVE of queues 0 to 31. -/
def queueReserve : List Int := [64, 256, 64, 128, 128, 64, 64, 64, 64, 16, 32, 32, 0, 0, 0, 0, 0, 0, 0, 0, 0, 0, 0, 0, 0, 0, 0, 0, 0, 0, 0, 0]

/-- Table 11-1, QUOTA of queues 0 to 31. -/
def queueQuota : List Int := [1024, 2048, 512, 1024, 1024, 512, 512, 512, 512, 64, 256, 256, 0, 0, 0, 0, 256, 256, 256, 256, 256, 256, 256, 256, 256, 256, 256, 256, 256, 256, 256, 256]

/-- SPARES_TOTAL of self-test groups 0 to 10 (OD 3410+g/04). -/
def spareTotals : List Int := [0, 256, 32, 128, 64, 16, 0, 0, 0, 0, 0]

/-- Table 3-5 as OD 22A0/01 encodes it: pairs of a U16 offset in kHz and an I16 limit in 0.1 dBc, little-endian; the
unused breakpoints have offset 0xFFFF. -/
def spectralMaskDefault : List Byte :=
  [0xE8, 0x03, 0x38, 0xFF, 0xD0, 0x07, 0xD4, 0xFE, 0x3E, 0x0D, 0x70, 0xFE, 0x7C, 0x1A, 0x0C, 0xFE,
   0xFF, 0xFF, 0, 0, 0xFF, 0xFF, 0, 0, 0xFF, 0xFF, 0, 0, 0xFF, 0xFF, 0, 0]

/-- Entries 1000 to 1010. -/
def odRows0 : List OdRow := [
  ⟨0x1000, 1, 1, 0x01, 0x01, .vstring, .const, 7, 0, .text "Uacen Devices", true, .any, 0⟩,  -- VENDOR
  ⟨0x1000, 1, 1, 0x02, 0x02, .vstring, .const, 7, 0, .text "UX8640", true, .any, 0⟩,  -- PRODUCT
  ⟨0x1000, 1, 1, 0x03, 0x03, .vstring, .const, 7, 0, .config, true, .any, 0⟩,  -- SERIAL
  ⟨0x1000, 1, 1, 0x04, 0x04, .u16, .const, 7, 0, .config, true, .any, 0⟩,  -- HW_REV
  ⟨0x1000, 1, 1, 0x05, 0x05, .u32, .ro, 7, 0, .num 0, false, .any, 0⟩,  -- FW_VERSION
  ⟨0x1000, 1, 1, 0x06, 0x06, .u8, .ro, 7, 0, .num 0, false, .any, 0⟩,  -- FW_SLOT
  ⟨0x1001, 1, 1, 0x01, 0x01, .u8, .rw, 7, 4, .num 0, true, .span (0) (2), 0⟩,  -- UART_MODE
  ⟨0x1001, 1, 1, 0x02, 0x02, .u32, .rw, 7, 6, .num 921600, true, .span (115200) (3000000), 0⟩,  -- UART_BAUD
  ⟨0x1001, 1, 1, 0x03, 0x03, .u32, .ro, 7, 0, .num 0, false, .any, 0⟩,  -- SPI_FRAMES
  ⟨0x1001, 1, 1, 0x04, 0x04, .u32, .ro, 7, 0, .num 0, false, .any, 0⟩,  -- SPI_ERRORS
  ⟨0x1001, 1, 1, 0x05, 0x05, .u32, .ro, 7, 0, .num 0, false, .any, 0⟩,  -- UART_ERRORS
  ⟨0x1010, 1, 1, 0x01, 0x01, .u8, .rw, 7, 6, .num 0, true, .span (0) (64), 0⟩,  -- NODE
  ⟨0x1010, 1, 1, 0x02, 0x02, .u8, .rw, 7, 6, .num 0, true, .span (0) (255), 0⟩,  -- SEGMENT_ID
  ⟨0x1010, 1, 1, 0x03, 0x03, .u8, .rw, 7, 6, .num 64, true, .span (16) (64), 0⟩,  -- SEGMENT_SIZE
  ⟨0x1010, 1, 1, 0x04, 0x04, .bool, .rw, 7, 6, .num 0, true, .span 0 1, 0⟩,  -- HEAD
  ⟨0x1010, 1, 1, 0x05, 0x05, .u8, .rw, 7, 6, .num 1, true, .span (1) (64), 0⟩,  -- HEAD_NODE
  ⟨0x1010, 1, 1, 0x06, 0x06, .u16, .rw, 7, 6, .num 400, true, .span (50) (2550), 0⟩,  -- TXN_TIMEOUT_MS
  ⟨0x1010, 1, 1, 0x07, 0x07, .u8, .rw, 7, 6, .num 3, true, .span (0) (3), 0⟩,  -- LINK_RETRIES
  ⟨0x1010, 1, 1, 0x08, 0x08, .u8, .rw, 7, 6, .num 10, true, .span (0) (100), 0⟩,  -- RETRY_JITTER_MS
  ⟨0x1010, 1, 1, 0x09, 0x09, .u8, .rw, 7, 6, .num 3, true, .span (1) (15), 0⟩,  -- PATH_FAILS
  ⟨0x1010, 1, 1, 0x0A, 0x0A, .u16, .rw, 7, 6, .num 300, true, .span (100) (2000), 0⟩,  -- RF_ACK_TURN_US
  ⟨0x1010, 1, 1, 0x0B, 0x0B, .u16, .rw, 7, 6, .num 3000, true, .span (1000) (20000), 0⟩,  -- PL_ACK_TURN_US
  ⟨0x1010, 1, 1, 0x0C, 0x0C, .u16, .rw, 7, 6, .num 40, true, .span (10) (500), 0⟩,  -- PL_ACK_WAIT_MS
  ⟨0x1010, 1, 1, 0x0D, 0x0D, .u8, .rw, 7, 6, .num 1, true, .span (0) (3), 0⟩  -- BCAST_REPEAT
  ]

/-- Entries 1011 to 1020. -/
def odRows1 : List OdRow := [
  ⟨0x1011, 1, 1, 0x01, 0x05, .u8, .rw, 7, 6, .num 0, true, .span (0) (4), 0⟩,  -- CLASS_MODE
  ⟨0x1012, 1, 1, 0x01, 0x01, .u16, .ro, 7, 0, .num 0, false, .any, 0⟩,  -- TX_SEQ
  ⟨0x1020, 1, 1, 0x01, 0x01, .u32, .ro, 7, 0, .num 0, false, .any, 0⟩,  -- SENT
  ⟨0x1020, 1, 1, 0x02, 0x02, .u32, .ro, 7, 0, .num 0, false, .any, 0⟩,  -- DELIVERED
  ⟨0x1020, 1, 1, 0x03, 0x03, .u32, .ro, 7, 0, .num 0, false, .any, 0⟩,  -- FAILED
  ⟨0x1020, 1, 1, 0x04, 0x04, .u32, .ro, 7, 0, .num 0, false, .any, 0⟩,  -- RETRIES_RF
  ⟨0x1020, 1, 1, 0x05, 0x05, .u32, .ro, 7, 0, .num 0, false, .any, 0⟩,  -- RETRIES_PL
  ⟨0x1020, 1, 1, 0x06, 0x06, .u32, .ro, 7, 0, .num 0, false, .any, 0⟩,  -- DUPLICATES
  ⟨0x1020, 1, 1, 0x07, 0x07, .u32, .ro, 7, 0, .num 0, false, .any, 0⟩,  -- STALE
  ⟨0x1020, 1, 1, 0x08, 0x08, .u32, .ro, 7, 0, .num 0, false, .any, 0⟩,  -- LATE_ACKS
  ⟨0x1020, 1, 1, 0x09, 0x09, .u32, .ro, 7, 0, .num 0, false, .any, 0⟩,  -- LATE_REPLIES
  ⟨0x1020, 1, 1, 0x0A, 0x0A, .u32, .ro, 7, 0, .num 0, false, .any, 0⟩,  -- TIMEOUTS
  ⟨0x1020, 1, 1, 0x0B, 0x0B, .u32, .ro, 7, 0, .num 0, false, .any, 0⟩,  -- REPLAYS
  ⟨0x1020, 1, 1, 0x0C, 0x0C, .u32, .ro, 7, 0, .num 0, false, .any, 0⟩,  -- AUTH_FAILS
  ⟨0x1020, 1, 1, 0x0D, 0x0D, .u32, .ro, 7, 0, .num 0, false, .any, 0⟩,  -- OTHER_SEGMENT
  ⟨0x1020, 1, 1, 0x0E, 0x0E, .u32, .ro, 7, 0, .num 0, false, .any, 0⟩  -- CONFLICTS
  ]

/-- Entries 1100 to 1811. -/
def odRows2 : List OdRow := [
  ⟨0x1100, 64, 1, 0x01, 0x01, .u8, .ro, 7, 0, .num 0, false, .any, 0⟩,  -- PATH_RF
  ⟨0x1100, 64, 1, 0x02, 0x02, .u8, .ro, 7, 0, .num 0, false, .any, 0⟩,  -- PATH_PL
  ⟨0x1100, 64, 1, 0x03, 0x03, .bool, .ro, 7, 0, .num 0, false, .span 0 1, 0⟩,  -- SLEEPY
  ⟨0x1100, 64, 1, 0x04, 0x04, .u32, .ro, 7, 0, .num 0, false, .any, 0⟩,  -- LAST_SEEN_S
  ⟨0x1100, 64, 1, 0x05, 0x05, .u16, .ro, 7, 0, .num 0, false, .any, 0⟩,  -- RX_H
  ⟨0x1800, 1, 1, 0x01, 0x01, .u8, .ro, 7, 0, .num 0, false, .any, 0⟩,  -- ROLE_NOW
  ⟨0x1800, 1, 1, 0x02, 0x02, .octets, .ro, 7, 0, .zeros 0, false, .any, 0⟩,  -- ROLE_NONCE
  ⟨0x1800, 1, 1, 0x03, 0x03, .octets, .wo, 0, 7, .zeros 0, false, .len 9 9 1, 0⟩,  -- ROLE_CLAIM
  ⟨0x1800, 1, 1, 0x04, 0x04, .u16, .rw, 7, 6, .num 600, true, .alt 0 10 65535, 0⟩,  -- ROLE_IDLE_S
  ⟨0x1800, 1, 1, 0x05, 0x05, .u8, .ro, 7, 0, .num 0, false, .any, 0⟩,  -- CLAIM_FAILS
  ⟨0x1800, 1, 1, 0x06, 0x06, .u16, .ro, 7, 0, .num 0, false, .any, 0⟩,  -- CLAIM_LOCKOUT_DS
  ⟨0x1810, 1, 1, 0x01, 0x01, .octets, .wo, 0, 6, .zeros 16, true, .len 16 16 1, 0⟩,  -- ROLE_KEY_I
  ⟨0x1810, 1, 1, 0x02, 0x02, .octets, .wo, 0, 4, .zeros 16, true, .len 16 16 1, 0⟩,  -- ROLE_KEY_M
  ⟨0x1811, 1, 1, 0x01, 0x01, .octets, .wo, 0, 6, .zeros 16, true, .len 16 16 1, 0⟩,  -- SEG_KEY_O
  ⟨0x1811, 1, 1, 0x02, 0x02, .octets, .wo, 0, 6, .zeros 16, true, .len 16 16 1, 0⟩,  -- SEG_KEY_I
  ⟨0x1811, 1, 1, 0x03, 0x03, .octets, .wo, 0, 4, .zeros 16, true, .len 16 16 1, 0⟩  -- SEG_KEY_M
  ]

/-- Entries 1812 to 1901. -/
def odRows3 : List OdRow := [
  ⟨0x1812, 1, 1, 0x01, 0x01, .u16, .ro, 7, 0, .num 0, false, .any, 0⟩,  -- KEY_STATE
  ⟨0x1812, 1, 1, 0x02, 0x02, .bool, .ro, 7, 0, .num 0, true, .span 0 1, 0⟩,  -- PROVISIONED
  ⟨0x1812, 1, 1, 0x03, 0x03, .bool, .ro, 7, 0, .num 0, false, .span 0 1, 0⟩,  -- UNWRAP_LOCKED
  ⟨0x1812, 1, 1, 0x04, 0x04, .u8, .ro, 7, 0, .num 0, false, .any, 0⟩,  -- SEC_REASON
  ⟨0x1813, 1, 1, 0x01, 0x01, .u16, .ro, 7, 0, .num 0, true, .any, 0⟩,  -- TID_NEXT
  ⟨0x1820, 64, 1, 0x01, 0x01, .u16, .ro, 7, 0, .num 0, true, .any, 0⟩,  -- TID_LAST
  ⟨0x1820, 64, 1, 0x02, 0x02, .u8, .rw, 7, 6, .num 0, false, .oneOf [1], 0⟩,  -- TID_RESET
  ⟨0x1900, 1, 1, 0x01, 0x01, .u32, .ro, 6, 0, .num 0, true, .any, 0⟩,  -- AUD_NEXT
  ⟨0x1900, 1, 1, 0x02, 0x02, .u32, .rw, 6, 6, .num 0, true, .any, 0⟩,  -- AUD_ACK
  ⟨0x1900, 1, 1, 0x03, 0x03, .u8, .rw, 6, 4, .num 0, true, .span (0) (1), 0⟩,  -- AUD_POLICY
  ⟨0x1900, 1, 1, 0x04, 0x04, .u32, .ro, 6, 0, .num 0, true, .any, 0⟩,  -- AUD_OVERWRITTEN
  ⟨0x1900, 1, 1, 0x05, 0x05, .u32, .ro, 6, 0, .num 0, true, .any, 0⟩,  -- AUD_REFUSED
  ⟨0x1901, 1, 1, 0x01, 0x01, .u32, .rw, 6, 6, .num 0, false, .any, 0⟩,  -- AUD_READ_SEQ
  ⟨0x1901, 1, 1, 0x02, 0x02, .octets, .ro, 6, 0, .zeros 0, false, .any, 0⟩  -- AUD_RECORD
  ]

/-- Entries 1902 to 1A20. -/
def odRows4 : List OdRow := [
  ⟨0x1902, 1, 1, 0x01, 0x01, .octets, .wo, 0, 7, .zeros 0, false, .len 12 12 1, 0⟩,  -- ANNOTATE
  ⟨0x1A00, 1, 1, 0x01, 0x01, .octets, .const, 7, 0, .config, true, .any, 0⟩,  -- ID_PUBKEY
  ⟨0x1A00, 1, 1, 0x02, 0x02, .octets, .const, 7, 0, .config, true, .any, 0⟩,  -- ID_CERT
  ⟨0x1A10, 1, 1, 0x01, 0x01, .u8, .rw, 7, 6, .num 0, false, .span (1) (5), 0⟩,  -- FW_CMD
  ⟨0x1A10, 1, 1, 0x02, 0x02, .u32, .rw, 7, 6, .num 0, false, .any, 0⟩,  -- FW_OFFSET
  ⟨0x1A10, 1, 1, 0x03, 0x03, .octets, .wo, 0, 6, .zeros 0, false, .len 1 256 1, 0⟩,  -- FW_CHUNK
  ⟨0x1A10, 1, 1, 0x04, 0x04, .u8, .ro, 7, 0, .num 0, false, .any, 0⟩,  -- FW_STATUS
  ⟨0x1A10, 1, 1, 0x05, 0x05, .u8, .ro, 7, 0, .num 0, false, .any, 0⟩,  -- INACTIVE_STATE
  ⟨0x1A10, 1, 1, 0x06, 0x06, .u8, .ro, 7, 0, .num 0, true, .any, 0⟩,  -- BOOT_SLOT
  ⟨0x1A10, 1, 1, 0x07, 0x07, .bool, .ro, 7, 0, .num 0, true, .span 0 1, 0⟩,  -- TRIAL
  ⟨0x1A10, 1, 1, 0x08, 0x08, .u16, .rw, 7, 6, .num 600, true, .span (60) (65535), 0⟩,  -- FW_TRIAL_S
  ⟨0x1A10, 1, 1, 0x09, 0x09, .u8, .ro, 7, 0, .num 0, true, .any, 0⟩,  -- ROLLBACK_FLOOR
  ⟨0x1A10, 1, 1, 0x0A, 0x0A, .u32, .ro, 7, 0, .num 0, false, .any, 0⟩,  -- OTHER_VERSION
  ⟨0x1A20, 1, 1, 0x01, 0x01, .octets, .rw, 7, 7, .zeros 0, false, .len 8 32 1, 0⟩,  -- ATTEST_NONCE
  ⟨0x1A20, 1, 1, 0x02, 0x02, .u8, .rw, 7, 7, .num 0, false, .oneOf [1], 0⟩,  -- ATTEST_CMD
  ⟨0x1A20, 1, 1, 0x03, 0x03, .octets, .ro, 7, 0, .zeros 224, false, .any, 0⟩,  -- ATTEST_BODY
  ⟨0x1A20, 1, 1, 0x04, 0x04, .octets, .ro, 7, 0, .zeros 64, false, .any, 0⟩  -- ATTEST_SIG
  ]

/-- Entries 1A40 to 2000. -/
def odRows5 : List OdRow := [
  ⟨0x1A40, 1, 1, 0x01, 0x01, .u32, .wo, 0, 4, .num 0, false, .any, 0⟩,  -- TEST_ACCESS
  ⟨0x2000, 1, 1, 0x01, 0x01, .u8, .ro, 7, 0, .num 0, false, .any, 0⟩,  -- SOURCE
  ⟨0x2000, 1, 1, 0x02, 0x02, .u8, .ro, 7, 0, .num 0, false, .any, 0⟩,  -- SUPPLY_STATE
  ⟨0x2000, 1, 1, 0x03, 0x03, .u8, .rw, 7, 6, .num 0, true, .span (0) (1), 0⟩,  -- SOURCE_PRIORITY
  ⟨0x2000, 1, 1, 0x04, 0x04, .u16, .ro, 7, 0, .num 0, false, .any, 0⟩,  -- MAINS_VRMS
  ⟨0x2000, 1, 1, 0x05, 0x05, .u16, .ro, 7, 0, .num 0, false, .any, 0⟩,  -- AUX_MV
  ⟨0x2000, 1, 1, 0x06, 0x06, .u16, .ro, 7, 0, .num 0, false, .any, 0⟩,  -- BUS_MW
  ⟨0x2000, 1, 1, 0x07, 0x07, .u16, .ro, 7, 0, .num 0, false, .any, 0⟩,  -- INPUT_MW
  ⟨0x2000, 1, 1, 0x08, 0x08, .u16, .ro, 7, 0, .num 0, false, .any, 0⟩,  -- STORE_MV
  ⟨0x2000, 1, 1, 0x09, 0x09, .i16, .ro, 7, 0, .num 0, false, .any, 0⟩,  -- STORE_MJ
  ⟨0x2000, 1, 1, 0x0A, 0x0A, .bool, .rw, 7, 6, .num 0, true, .span 0 1, 0⟩,  -- RIDE_SHED
  ⟨0x2000, 1, 1, 0x0B, 0x0B, .u32, .ro, 7, 0, .num 0, true, .any, 0⟩,  -- RIDE_THROUGHS
  ⟨0x2000, 1, 1, 0x0C, 0x0C, .u16, .ro, 7, 0, .num 0, true, .any, 0⟩,  -- LAST_RIDE_MS
  ⟨0x2000, 1, 1, 0x0D, 0x0D, .u32, .ro, 7, 0, .num 0, true, .any, 0⟩,  -- SHUTDOWNS
  ⟨0x2000, 1, 1, 0x0E, 0x0E, .u32, .ro, 7, 0, .num 0, true, .any, 0⟩  -- SWITCHOVERS
  ]

/-- Entries 2001 to 2010. -/
def odRows6 : List OdRow := [
  ⟨0x2001, 1, 1, 0x01, 0x01, .u8, .rw, 7, 6, .num 1, true, .span (0) (2), 0⟩,  -- VOUT_MODE
  ⟨0x2001, 1, 1, 0x02, 0x02, .u16, .rw, 7, 6, .num 500, true, .step 0 1500 10, 0⟩,  -- VOUT_GRANT_MW
  ⟨0x2001, 1, 1, 0x03, 0x03, .u16, .ro, 7, 0, .num 0, false, .any, 0⟩,  -- VOUT_MW
  ⟨0x2001, 1, 1, 0x04, 0x04, .u8, .ro, 7, 0, .num 0, false, .any, 0⟩,  -- VOUT_STATE
  ⟨0x2001, 1, 1, 0x05, 0x05, .u32, .ro, 7, 0, .num 0, true, .any, 0⟩,  -- VOUT_FAULTS
  ⟨0x2010, 1, 1, 0x01, 0x01, .u16, .rw, 7, 6, .num 5000, true, .span (0) (7000), 0⟩,  -- FIELD_TOTAL_CAP
  ⟨0x2010, 1, 1, 0x02, 0x02, .bool, .rw, 7, 4, .num 1, true, .span 0 1, 0⟩,  -- BURST_ENABLE
  ⟨0x2010, 1, 1, 0x03, 0x03, .u16, .ro, 7, 0, .num 0, false, .any, 0⟩,  -- CEILING
  ⟨0x2010, 1, 1, 0x04, 0x04, .u16, .ro, 7, 0, .num 0, false, .any, 0⟩,  -- GRANTED
  ⟨0x2010, 1, 1, 0x05, 0x05, .u16, .ro, 7, 0, .num 0, false, .any, 0⟩,  -- CORE_RESERVE
  ⟨0x2010, 1, 1, 0x06, 0x06, .u16, .ro, 7, 0, .num 4000, false, .any, 0⟩,  -- BURST_CREDIT
  ⟨0x2010, 1, 1, 0x07, 0x07, .u16, .ro, 7, 0, .num 7500, false, .any, 0⟩,  -- THERM_CEILING
  ⟨0x2010, 1, 1, 0x08, 0x08, .u16, .ro, 7, 0, .num 0, false, .any, 0⟩,  -- DISS_MW
  ⟨0x2010, 1, 1, 0x09, 0x09, .i16, .ro, 7, 0, .num 0, false, .any, 0⟩  -- T_HOT
  ]

/-- Entries 2011 to 2101. -/
def odRows7 : List OdRow := [
  ⟨0x2011, 1, 1, 0x01, 0x06, .u16, .ro, 7, 0, .num 0, false, .any, 0⟩,  -- CLASS_GRANTED
  ⟨0x2012, 1, 1, 0x01, 0x06, .u32, .ro, 7, 0, .num 0, false, .any, 0⟩,  -- CLASS_REFUSED
  ⟨0x2013, 1, 1, 0x01, 0x06, .u32, .ro, 7, 0, .num 0, false, .any, 0⟩,  -- CLASS_WAIT_US
  ⟨0x2014, 1, 1, 0x01, 0x01, .u32, .ro, 7, 0, .num 0, false, .any, 0⟩,  -- REDUCTIONS
  ⟨0x2014, 1, 1, 0x02, 0x02, .u32, .ro, 7, 0, .num 0, false, .any, 0⟩,  -- IMMEDIATE_CUTS
  ⟨0x2014, 1, 1, 0x03, 0x03, .u32, .ro, 7, 0, .num 0, false, .any, 0⟩,  -- BURST_GRANTS
  ⟨0x2020, 1, 1, 0x01, 0x01, .u8, .ro, 7, 0, .num 0, false, .any, 0⟩,  -- POWER_STATE
  ⟨0x2100, 1, 1, 0x01, 0x01, .u16, .rw, 7, 6, .num 5000, true, .span (4500) (6600), 0⟩,  -- NOMINAL_FREQ
  ⟨0x2100, 1, 1, 0x02, 0x02, .i16, .rw, 7, 4, .num 0, true, .span (-2000) (2000), 0⟩,  -- ZC_TRIM
  ⟨0x2100, 1, 1, 0x03, 0x03, .u8, .rw, 7, 6, .num 2, true, .span (0) (3), 0⟩,  -- LOOP_BW
  ⟨0x2100, 1, 1, 0x05, 0x05, .u16, .rw, 7, 6, .num 2048, true, .span (256) (8192), 0⟩,  -- EDGE_WINDOW
  ⟨0x2101, 1, 1, 0x01, 0x01, .u8, .ro, 7, 0, .num 0, false, .any, 0⟩,  -- STATE
  ⟨0x2101, 1, 1, 0x02, 0x02, .u32, .ro, 7, 0, .num 0, false, .any, 0⟩,  -- FREQ
  ⟨0x2101, 1, 1, 0x03, 0x03, .i16, .ro, 7, 0, .num 0, false, .any, 0⟩,  -- PHASE_ERR
  ⟨0x2101, 1, 1, 0x04, 0x04, .u32, .ro, 7, 0, .num 0, false, .any, 0⟩,  -- REJECTED
  ⟨0x2101, 1, 1, 0x05, 0x05, .u32, .ro, 7, 0, .num 0, false, .any, 0⟩,  -- MISSED
  ⟨0x2101, 1, 1, 0x06, 0x06, .u32, .ro, 7, 0, .num 0, false, .any, 0⟩,  -- LOCK_LOSSES
  ⟨0x2101, 1, 1, 0x07, 0x07, .u32, .ro, 7, 0, .num 0, false, .any, 0⟩  -- WINDOW_FAULTS
  ]

/-- Entries 2110 to 215F. -/
def odRows8 : List OdRow := [
  ⟨0x2110, 1, 1, 0x01, 0x01, .u16, .ro, 7, 0, .num 0, false, .any, 0⟩,  -- ANGLE
  ⟨0x2110, 1, 1, 0x02, 0x02, .u16, .ro, 7, 0, .num 0, false, .any, 0⟩,  -- CYCLE
  ⟨0x2110, 1, 1, 0x03, 0x03, .u32, .ro, 7, 0, .num 0, false, .any, 0⟩,  -- MA
  ⟨0x2120, 1, 1, 0x01, 0x01, .u8, .rw, 7, 6, .num 1, true, .span (0) (2), 0⟩,  -- LEARN_MODE
  ⟨0x2120, 1, 1, 0x02, 0x02, .u16, .rw, 7, 6, .num 64, true, .span (16) (1024), 0⟩,  -- LEARN_CYCLES
  ⟨0x2120, 1, 1, 0x03, 0x03, .u8, .rw, 7, 6, .num 10, true, .span (3) (30), 0⟩,  -- LEARN_THRESH
  ⟨0x2120, 1, 1, 0x04, 0x04, .u16, .rw, 7, 6, .num 128, true, .span (0) (2048), 0⟩,  -- LEARN_GUARD
  ⟨0x2130, 8, 1, 0x01, 0x01, .u16, .rw, 7, 6, .num 0, true, .any, 0⟩,  -- START
  ⟨0x2130, 8, 1, 0x02, 0x02, .u16, .rw, 7, 6, .num 0, true, .span (0) (8192), 0⟩,  -- LENGTH
  ⟨0x2130, 8, 1, 0x03, 0x03, .u8, .rw, 7, 6, .num 0, true, .oneOf [0, 2], 0⟩,  -- SOURCE
  ⟨0x2130, 8, 1, 0x04, 0x04, .u8, .ro, 7, 0, .num 0, true, .any, 0⟩,  -- LEVEL
  ⟨0x2140, 16, 1, 0x01, 0x01, .u16, .rw, 7, 6, .num 0, false, .any, 0⟩,  -- START
  ⟨0x2140, 16, 1, 0x02, 0x02, .u16, .rw, 7, 6, .num 1, false, .span (1) (32767), 0⟩,  -- LENGTH
  ⟨0x2140, 16, 1, 0x03, 0x03, .u8, .rw, 7, 6, .num 0, false, .oneOf [0, 4], 0⟩,  -- OWNER
  ⟨0x2140, 16, 1, 0x04, 0x04, .u8, .rw, 7, 6, .num 0, false, .any, 0x1F⟩,  -- FLAGS
  ⟨0x2140, 16, 1, 0x05, 0x05, .u8, .rw, 7, 6, .num 0, false, .any, 0⟩,  -- PERIOD
  ⟨0x2140, 16, 1, 0x06, 0x06, .u8, .rw, 7, 6, .num 0, false, .any, 0⟩,  -- PORT_MASK
  ⟨0x2140, 16, 1, 0x07, 0x07, .u16, .rw, 7, 6, .num 0, false, .span (0) (16384), 0⟩,  -- FLOAT_RANGE
  ⟨0x2140, 32, 1, 0x08, 0x08, .u32, .ro, 7, 0, .num 0, false, .any, 0⟩,  -- STATUS
  ⟨0x2150, 15, 1, 0x01, 0x01, .u16, .rw, 7, 6, .num 0, true, .any, 0⟩,  -- START
  ⟨0x2150, 15, 1, 0x02, 0x02, .u16, .rw, 7, 6, .num 1, true, .span (1) (32767), 0⟩,  -- LENGTH
  ⟨0x2150, 15, 1, 0x03, 0x03, .u8, .rw, 7, 6, .num 0, true, .oneOf [0, 4], 0⟩,  -- OWNER
  ⟨0x2150, 15, 1, 0x04, 0x04, .u8, .rw, 7, 6, .num 0, true, .any, 0x1F⟩,  -- FLAGS
  ⟨0x2150, 15, 1, 0x05, 0x05, .u8, .rw, 7, 6, .num 0, true, .any, 0⟩,  -- PERIOD
  ⟨0x2150, 15, 1, 0x06, 0x06, .u8, .rw, 7, 6, .num 0, true, .any, 0⟩,  -- PORT_MASK
  ⟨0x2150, 15, 1, 0x07, 0x07, .u16, .rw, 7, 6, .num 0, true, .span (0) (16384), 0⟩,  -- FLOAT_RANGE
  ⟨0x215F, 1, 1, 0x01, 0x01, .u16, .rw, 7, 6, .num 0, false, .any, 0⟩,  -- START
  ⟨0x215F, 1, 1, 0x02, 0x02, .u16, .rw, 7, 6, .num 1, false, .span (1) (32767), 0⟩,  -- LENGTH
  ⟨0x215F, 1, 1, 0x03, 0x03, .u8, .rw, 7, 6, .num 0, false, .oneOf [0, 4], 0⟩,  -- OWNER
  ⟨0x215F, 1, 1, 0x04, 0x04, .u8, .rw, 7, 6, .num 0, false, .any, 0x1F⟩,  -- FLAGS
  ⟨0x215F, 1, 1, 0x05, 0x05, .u8, .rw, 7, 6, .num 0, false, .any, 0⟩,  -- PERIOD
  ⟨0x215F, 1, 1, 0x06, 0x06, .u8, .rw, 7, 6, .num 0, false, .any, 0⟩,  -- PORT_MASK
  ⟨0x215F, 1, 1, 0x07, 0x07, .u16, .rw, 7, 6, .num 0, false, .span (0) (16384), 0⟩  -- FLOAT_RANGE
  ]

/-- Entries 2160 to 2205. -/
def odRows9 : List OdRow := [
  ⟨0x2160, 1, 1, 0x01, 0x01, .u8, .rw, 7, 6, .num 0, true, .span (0) (4), 0⟩,  -- SYNC_MODE
  ⟨0x2160, 1, 1, 0x02, 0x02, .u16, .rw, 7, 6, .num 0, true, .any, 0⟩,  -- SYNC_ANGLE
  ⟨0x2160, 1, 1, 0x03, 0x03, .u16, .rw, 7, 6, .num 10, true, .span (1) (1000), 0⟩,  -- SYNC_WIDTH
  ⟨0x2170, 1, 1, 0x01, 0x01, .octets, .ro, 7, 0, .zeros 256, false, .any, 0⟩,  -- NOISE_PROFILE
  ⟨0x2200, 8, 16, 0x01, 0x01, .bool, .rw, 7, 6, .num 1, true, .span 0 1, 0⟩,  -- IN_SERVICE
  ⟨0x2200, 8, 16, 0x02, 0x02, .u16, .rw, 7, 6, .num 200, true, .span (80) (400), 0⟩,  -- LOAD_NOMINAL
  ⟨0x2200, 8, 16, 0x03, 0x03, .u8, .rw, 7, 6, .num 16, true, .span (2) (64), 0⟩,  -- RAMP_UP_US
  ⟨0x2200, 8, 16, 0x04, 0x04, .u8, .rw, 7, 6, .num 16, true, .span (2) (64), 0⟩,  -- RAMP_DOWN_US
  ⟨0x2200, 8, 16, 0x05, 0x05, .u8, .rw, 7, 6, .num 1, true, .span (0) (2), 0⟩,  -- RAMP_SHAPE
  ⟨0x2200, 8, 16, 0x06, 0x06, .i16, .rw, 7, 4, .num 0, true, .span (-256) (255), 0⟩,  -- PHASE_TRIM
  ⟨0x2200, 8, 16, 0x07, 0x07, .i8, .rw, 7, 4, .num 0, true, .span (-100) (100), 0⟩,  -- AMP_TRIM
  ⟨0x2201, 8, 16, 0x01, 0x01, .u16, .rw, 7, 4, .num 2000, true, .span (0) (2000), 0⟩,  -- FIELD_CAP
  ⟨0x2202, 8, 16, 0x01, 0x01, .u8, .ro, 7, 0, .num 0, false, .any, 0⟩,  -- STATE
  ⟨0x2202, 8, 16, 0x02, 0x02, .u8, .rw, 7, 6, .num 0, false, .oneOf [0], 0⟩,  -- FAULT_CODE
  ⟨0x2202, 8, 16, 0x03, 0x03, .u16, .ro, 7, 0, .num 0, false, .any, 0⟩,  -- AMP_NOW
  ⟨0x2202, 8, 16, 0x04, 0x04, .u16, .ro, 7, 0, .num 0, false, .any, 0⟩,  -- PHASE_NOW
  ⟨0x2202, 8, 16, 0x05, 0x05, .u16, .ro, 7, 0, .num 0, false, .any, 0⟩,  -- LOAD_R
  ⟨0x2202, 8, 16, 0x06, 0x06, .i16, .ro, 7, 0, .num 0, false, .any, 0⟩,  -- LOAD_X
  ⟨0x2202, 8, 16, 0x07, 0x07, .u16, .ro, 7, 0, .num 0, false, .any, 0⟩,  -- POWER
  ⟨0x2202, 8, 16, 0x08, 0x08, .u16, .ro, 7, 0, .num 0, false, .any, 0⟩,  -- GRANT
  ⟨0x2202, 8, 16, 0x09, 0x09, .u8, .ro, 7, 0, .num 0, false, .any, 0⟩,  -- BIAS
  ⟨0x2202, 8, 16, 0x0A, 0x0A, .u16, .ro, 7, 0, .num 0, false, .any, 0⟩,  -- AMP_LIMIT
  ⟨0x2202, 8, 16, 0x0B, 0x0B, .i16, .ro, 7, 0, .num 0, false, .any, 0⟩,  -- BRIDGE_TEMP
  ⟨0x2203, 8, 16, 0x01, 0x01, .u32, .ro, 7, 0, .num 0, false, .any, 0⟩,  -- FAULTS
  ⟨0x2203, 8, 16, 0x02, 0x02, .u32, .ro, 7, 0, .num 0, false, .any, 0⟩,  -- CLAMPS
  ⟨0x2203, 8, 16, 0x03, 0x03, .u32, .ro, 7, 0, .num 0, false, .any, 0⟩,  -- REVERSALS
  ⟨0x2203, 8, 16, 0x04, 0x04, .u32, .ro, 7, 0, .num 0, false, .any, 0⟩,  -- CREDITED_STARTS
  ⟨0x2203, 8, 16, 0x05, 0x05, .u32, .ro, 7, 0, .num 0, false, .any, 0⟩,  -- GRANT_WAIT
  ⟨0x2203, 8, 16, 0x06, 0x06, .u32, .ro, 7, 0, .num 0, false, .any, 0⟩,  -- MASK_FALLBACKS
  ⟨0x2204, 8, 16, 0x01, 0x01, .u8, .rw, 7, 6, .num 0, true, .span (0) (15), 0⟩,  -- FIR_A106
  ⟨0x2204, 8, 16, 0x02, 0x02, .u8, .rw, 7, 6, .num 1, true, .span (0) (15), 0⟩,  -- FIR_A212
  ⟨0x2204, 8, 16, 0x03, 0x03, .u8, .rw, 7, 6, .num 1, true, .span (0) (15), 0⟩,  -- FIR_A424
  ⟨0x2204, 8, 16, 0x04, 0x04, .u8, .rw, 7, 6, .num 2, true, .span (0) (15), 0⟩,  -- FIR_A848
  ⟨0x2204, 8, 16, 0x05, 0x05, .u8, .rw, 7, 6, .num 3, true, .span (0) (15), 0⟩,  -- FIR_B106
  ⟨0x2204, 8, 16, 0x06, 0x06, .u8, .rw, 7, 6, .num 3, true, .span (0) (15), 0⟩,  -- FIR_B212
  ⟨0x2204, 8, 16, 0x07, 0x07, .u8, .rw, 7, 6, .num 4, true, .span (0) (15), 0⟩,  -- FIR_B424
  ⟨0x2204, 8, 16, 0x08, 0x08, .u8, .rw, 7, 6, .num 4, true, .span (0) (15), 0⟩,  -- FIR_B848
  ⟨0x2204, 8, 16, 0x09, 0x09, .u8, .rw, 7, 6, .num 5, true, .span (0) (15), 0⟩,  -- FIR_V100
  ⟨0x2204, 8, 16, 0x0A, 0x0A, .u8, .rw, 7, 6, .num 5, true, .span (0) (15), 0⟩,  -- FIR_V10
  ⟨0x2204, 8, 16, 0x0B, 0x0B, .u8, .rw, 7, 6, .num 6, true, .span (0) (15), 0⟩,  -- FIR_F212
  ⟨0x2204, 8, 16, 0x0C, 0x0C, .u8, .rw, 7, 6, .num 6, true, .span (0) (15), 0⟩,  -- FIR_F424
  ⟨0x2205, 8, 16, 0x01, 0x01, .u8, .rw, 7, 6, .num 0, false, .span (0) (2), 0⟩,  -- TEST_MODE
  ⟨0x2205, 8, 16, 0x02, 0x02, .u16, .rw, 7, 6, .num 0, false, .span (0) (1023), 0⟩,  -- TEST_AMP
  ⟨0x2205, 8, 16, 0x03, 0x03, .u16, .rw, 7, 6, .num 60, false, .span (1) (600), 0⟩  -- TEST_TIME
  ]

/-- Entries 2280 to 22A1. -/
def odRows10 : List OdRow := [
  ⟨0x2280, 1, 1, 0x01, 0x01, .u8, .rw, 7, 6, .num 8, true, .span (2) (64), 0⟩,  -- TRANSITION_US
  ⟨0x2280, 1, 1, 0x02, 0x02, .u16, .rw, 7, 6, .num 120, true, .span (80) (300), 0⟩,  -- PROG_INDEX
  ⟨0x2280, 1, 1, 0x03, 0x03, .u16, .rw, 7, 6, .num 10, true, .span (1) (3600), 0⟩,  -- RECHECK_S
  ⟨0x2280, 1, 1, 0x04, 0x04, .bool, .rw, 7, 4, .num 1, true, .span 0 1, 0⟩,  -- MASK_MONITOR
  ⟨0x2280, 1, 1, 0x05, 0x05, .u8, .rw, 7, 6, .num 25, true, .span (5) (80), 0⟩,  -- LOAD_WARN_PCT
  ⟨0x2290, 8, 1, 0x01, 0x01, .octets, .const, 7, 0, .firFactory, true, .any, 0⟩,  -- FIR_COEF
  ⟨0x2290, 8, 1, 0x02, 0x02, .u8, .ro, 7, 0, .num 0, false, .any, 0⟩,  -- FIR_STATUS
  ⟨0x2290, 16, 1, 0x03, 0x03, .u16, .ro, 7, 0, .config, false, .any, 0⟩,  -- FIR_DELAY
  ⟨0x2290, 16, 1, 0x04, 0x04, .i16, .ro, 7, 0, .config, false, .any, 0⟩,  -- FIR_MARGIN
  ⟨0x2298, 8, 1, 0x01, 0x01, .octets, .rw, 7, 6, .zeros 0, true, .len 64 64 1, 0⟩,  -- FIR_COEF
  ⟨0x2298, 8, 1, 0x02, 0x02, .u8, .ro, 7, 0, .num 3, false, .any, 0⟩,  -- FIR_STATUS
  ⟨0x22A0, 1, 1, 0x01, 0x01, .octets, .rw, 7, 4, .oct (spectralMaskDefault), true, .len 32 32 1, 0⟩,  -- MASK
  ⟨0x22A1, 1, 1, 0x01, 0x01, .u32, .ro, 7, 0, .num 0, false, .any, 0⟩,  -- MASK_EXCEEDS
  ⟨0x22A1, 1, 1, 0x02, 0x02, .u32, .ro, 7, 0, .num 0, false, .any, 0⟩  -- FIR_REJECTS
  ]

/-- Entries 2300 to 2340. -/
def odRows11 : List OdRow := [
  ⟨0x2300, 64, 1, 0x01, 0x01, .u8, .ro, 7, 0, .num 0, false, .any, 0⟩,  -- STATE
  ⟨0x2300, 64, 1, 0x02, 0x02, .u8, .rw, 7, 6, .num 255, true, .alt 255 0 15, 0⟩,  -- ZONE
  ⟨0x2300, 64, 1, 0x03, 0x03, .u8, .rw, 7, 6, .num 0, true, .span (0) (2), 0⟩,  -- KIND
  ⟨0x2300, 64, 1, 0x04, 0x04, .u8, .rw, 7, 6, .num 0, true, .any, 0⟩,  -- PORT_MASK
  ⟨0x2300, 64, 1, 0x05, 0x05, .u16, .rw, 7, 6, .num 0, true, .any, 0⟩,  -- NULL_MASK
  ⟨0x2300, 64, 1, 0x07, 0x07, .octets, .rw, 7, 6, .zeros 32, true, .len 32 32 1, 0⟩,  -- PAIRS
  ⟨0x2300, 64, 1, 0x08, 0x08, .octets, .ro, 7, 0, .zeros 32, false, .any, 0⟩,  -- EFFECTIVE
  ⟨0x2300, 64, 1, 0x09, 0x09, .u16, .ro, 7, 0, .num 0, false, .any, 0⟩,  -- PRED_NULL
  ⟨0x2300, 64, 1, 0x0A, 0x0A, .i16, .ro, 7, 0, .num 0, false, .any, 0⟩,  -- FIELD_DB
  ⟨0x2300, 64, 1, 0x0B, 0x0B, .u16, .ro, 7, 0, .num 0, false, .any, 0⟩,  -- POWER
  ⟨0x2300, 64, 1, 0x0C, 0x0C, .u32, .ro, 7, 0, .num 0, true, .any, 0⟩,  -- SURVEY_NO
  ⟨0x2340, 1, 1, 0x01, 0x01, .u8, .rw, 7, 6, .num 0, false, .oneOf [1], 0⟩,  -- SURVEY_CMD
  ⟨0x2340, 1, 1, 0x02, 0x02, .u16, .rw, 7, 6, .num 900, true, .alt 0 60 65535, 0⟩,  -- SURVEY_PERIOD
  ⟨0x2340, 1, 1, 0x03, 0x03, .u16, .rw, 7, 6, .num 80, true, .span (32) (255), 0⟩,  -- SURVEY_AMP
  ⟨0x2340, 1, 1, 0x04, 0x04, .u32, .ro, 7, 0, .num 0, true, .any, 0⟩,  -- SURVEY_COUNT
  ⟨0x2340, 1, 1, 0x05, 0x05, .u64, .ro, 7, 0, .num 0, true, .any, 0⟩,  -- SURVEY_TB
  ⟨0x2340, 1, 1, 0x06, 0x06, .u8, .ro, 7, 0, .num 0, false, .any, 0⟩,  -- SURVEY_RESULT
  ⟨0x2340, 1, 1, 0x07, 0x07, .u32, .ro, 7, 0, .num 0, false, .any, 0⟩,  -- SURVEY_REJECTS
  ⟨0x2340, 1, 1, 0x08, 0x08, .u16, .ro, 7, 0, .num 0, false, .any, 0⟩,  -- SURVEY_WAIT
  ⟨0x2340, 1, 1, 0x09, 0x09, .u16, .ro, 7, 0, .num 0, false, .any, 0⟩  -- PORT0_NULL
  ]

/-- Entries 2341 to 2350. -/
def odRows12 : List OdRow := [
  ⟨0x2341, 1, 1, 0x01, 0x01, .octets, .ro, 7, 0, .zeros 256, true, .any, 0⟩,  -- Y_MATRIX
  ⟨0x2341, 1, 1, 0x02, 0x02, .octets, .ro, 7, 0, .zeros 128, true, .any, 0⟩,  -- K_MATRIX
  ⟨0x2341, 1, 1, 0x03, 0x03, .u16, .ro, 7, 0, .num 0, false, .any, 0⟩,  -- RECIP_ERR
  ⟨0x2342, 1, 1, 0x01, 0x08, .u16, .rw, 7, 6, .num 1500, true, .span (100) (20000), 0⟩,  -- COIL_NH
  ⟨0x2350, 16, 1, 0x01, 0x01, .u8, .rw, 7, 6, .num 255, true, .alt 255 0 7, 0⟩,  -- PRIMARY
  ⟨0x2350, 16, 1, 0x02, 0x02, .u8, .rw, 7, 6, .num 255, true, .alt 255 0 63, 0⟩,  -- NOMINAL
  ⟨0x2350, 16, 1, 0x03, 0x03, .u16, .rw, 7, 6, .num 100, true, .span (1) (65535), 0⟩,  -- REF_LEVEL
  ⟨0x2350, 16, 1, 0x04, 0x04, .u16, .rw, 7, 6, .num 600, true, .span (50) (2000), 0⟩,  -- TARGET_MW
  ⟨0x2350, 16, 1, 0x05, 0x05, .octets, .rw, 7, 6, .zeros 0, true, .len 32 32 1, 0⟩,  -- REF_VECTOR
  ⟨0x2350, 16, 1, 0x06, 0x06, .u8, .rw, 7, 6, .num 0, false, .oneOf [1], 0⟩,  -- TEACH
  ⟨0x2350, 16, 1, 0x07, 0x07, .u8, .ro, 7, 0, .num 0, false, .any, 0⟩,  -- COVER_STATE
  ⟨0x2350, 16, 1, 0x08, 0x08, .i16, .ro, 7, 0, .num 0, false, .any, 0⟩,  -- COVER_DEFICIT
  ⟨0x2350, 16, 1, 0x09, 0x09, .u8, .rw, 7, 6, .num 100, true, .span (30) (200), 0⟩,  -- COVER_MAX
  ⟨0x2350, 16, 1, 0x0A, 0x0A, .u8, .rw, 7, 6, .num 2, true, .span (0) (3), 0⟩,  -- PRIORITY
  ⟨0x2350, 16, 1, 0x0B, 0x0B, .u8, .rw, 7, 6, .num 0, true, .any, 0⟩  -- NEIGHBOURS
  ]

/-- Entries 2360 to 2370. -/
def odRows13 : List OdRow := [
  ⟨0x2360, 4, 1, 0x01, 0x01, .u8, .ro, 7, 0, .num 0, false, .any, 0⟩,  -- STATE
  ⟨0x2360, 4, 1, 0x02, 0x02, .u8, .ro, 7, 0, .num 255, false, .any, 0⟩,  -- ZONE
  ⟨0x2360, 4, 1, 0x03, 0x03, .u8, .ro, 7, 0, .num 255, false, .any, 0⟩,  -- PENNANT
  ⟨0x2360, 4, 1, 0x04, 0x04, .i16, .ro, 7, 0, .num 32767, false, .any, 0⟩,  -- ISO_DN
  ⟨0x2360, 4, 1, 0x05, 0x05, .i16, .ro, 7, 0, .num 32767, false, .any, 0⟩,  -- ISO_UP
  ⟨0x2360, 4, 1, 0x06, 0x06, .octets, .ro, 7, 0, .zeros 32, false, .any, 0⟩,  -- REPLY_VEC
  ⟨0x2360, 4, 1, 0x07, 0x07, .octets, .ro, 7, 0, .zeros 32, false, .any, 0⟩,  -- WEIGHTS
  ⟨0x2360, 4, 1, 0x08, 0x08, .octets, .ro, 7, 0, .zeros 32, false, .any, 0⟩,  -- COMPONENTS
  ⟨0x2360, 4, 1, 0x09, 0x09, .u32, .ro, 7, 0, .num 0, false, .any, 0⟩,  -- EXCHANGES
  ⟨0x2360, 4, 1, 0x0A, 0x0A, .u32, .ro, 7, 0, .num 0, false, .any, 0⟩,  -- WAIT_US
  ⟨0x2370, 1, 1, 0x01, 0x01, .u8, .rw, 7, 6, .num 4, true, .span (1) (4), 0⟩,  -- MAX_LANES
  ⟨0x2370, 1, 1, 0x02, 0x02, .u16, .rw, 7, 6, .num 200, true, .span (200) (400), 0⟩,  -- ISO_MIN
  ⟨0x2370, 1, 1, 0x03, 0x03, .u16, .rw, 7, 6, .num 260, true, .span (260) (400), 0⟩,  -- ISO_MIN_100
  ⟨0x2370, 1, 1, 0x04, 0x04, .bool, .rw, 7, 6, .num 1, true, .span 0 1, 0⟩,  -- LIVE_NULL
  ⟨0x2370, 1, 1, 0x05, 0x05, .u16, .rw, 7, 6, .num 50, true, .span (1) (1000), 0⟩,  -- ADMIT_WAIT_MS
  ⟨0x2370, 1, 1, 0x06, 0x06, .u16, .rw, 7, 6, .num 500, true, .span (0) (10000), 0⟩  -- DEMOTE_HOLD_MS
  ]

/-- Entries 2371 to 2400. -/
def odRows14 : List OdRow := [
  ⟨0x2371, 1, 1, 0x01, 0x01, .u32, .ro, 7, 0, .num 0, false, .any, 0⟩,  -- LANES_OPENED
  ⟨0x2371, 1, 1, 0x02, 0x02, .u32, .ro, 7, 0, .num 0, false, .any, 0⟩,  -- REFUSED_NO_LANE
  ⟨0x2371, 1, 1, 0x03, 0x03, .u32, .ro, 7, 0, .num 0, false, .any, 0⟩,  -- REFUSED_NO_PENNANT
  ⟨0x2371, 1, 1, 0x04, 0x04, .u32, .ro, 7, 0, .num 0, false, .any, 0⟩,  -- REFUSED_POWER
  ⟨0x2371, 1, 1, 0x05, 0x05, .u32, .ro, 7, 0, .num 0, false, .any, 0⟩,  -- DEMOTIONS
  ⟨0x2371, 1, 1, 0x06, 0x06, .u32, .ro, 7, 0, .num 0, false, .any, 0⟩,  -- PROMOTIONS
  ⟨0x2371, 1, 1, 0x07, 0x07, .u32, .ro, 7, 0, .num 0, false, .any, 0⟩,  -- REPEATED_EXCHANGES
  ⟨0x2400, 8, 1, 0x01, 0x01, .u8, .ro, 7, 0, .num 0, false, .any, 0⟩,  -- CANCEL_STATE
  ⟨0x2400, 8, 1, 0x02, 0x02, .u8, .ro, 7, 0, .num 0, false, .any, 0⟩,  -- GAIN_STEP
  ⟨0x2400, 8, 1, 0x03, 0x03, .u16, .ro, 7, 0, .num 0, false, .any, 0⟩,  -- CARRIER_MV
  ⟨0x2400, 8, 1, 0x04, 0x04, .u16, .ro, 7, 0, .num 0, false, .any, 0⟩,  -- SUPPRESSION
  ⟨0x2400, 8, 1, 0x05, 0x05, .u16, .ro, 7, 0, .num 0, false, .any, 0⟩,  -- NOISE_IDLE
  ⟨0x2400, 8, 1, 0x06, 0x06, .u16, .ro, 7, 0, .num 0, false, .any, 0⟩,  -- NOISE_ACTIVE
  ⟨0x2400, 8, 1, 0x07, 0x07, .octets, .ro, 7, 0, .zeros 32, false, .any, 0⟩,  -- NOISE_PROFILE
  ⟨0x2400, 8, 1, 0x08, 0x08, .u8, .ro, 7, 0, .num 0, false, .any, 0⟩,  -- RX_HEALTH
  ⟨0x2400, 8, 1, 0x09, 0x09, .bool, .rw, 7, 6, .num 1, true, .span 0 1, 0⟩,  -- RX_ENABLE
  ⟨0x2400, 8, 1, 0x0A, 0x0A, .u32, .ro, 7, 0, .num 0, false, .any, 0⟩,  -- OVERLOADS
  ⟨0x2400, 8, 1, 0x0B, 0x0B, .u32, .ro, 7, 0, .num 0, false, .any, 0⟩  -- REACQUIRES
  ]

/-- Entries 2410 to 2420. -/
def odRows15 : List OdRow := [
  ⟨0x2410, 1, 1, 0x01, 0x01, .u8, .rw, 7, 6, .num 0, true, .span (0) (5), 0⟩,  -- GAIN_MODE
  ⟨0x2410, 1, 1, 0x02, 0x02, .u8, .rw, 7, 4, .num 1, true, .span (0) (2), 0⟩,  -- TRACK_BW
  ⟨0x2410, 1, 1, 0x03, 0x03, .u16, .rw, 7, 6, .num 100, true, .span (10) (10000), 0⟩,  -- GAIN_RESTORE_MS
  ⟨0x2410, 1, 1, 0x04, 0x04, .u16, .rw, 7, 6, .num 90, true, .span (60) (200), 0⟩,  -- RX_THRESH
  ⟨0x2410, 1, 1, 0x05, 0x05, .u16, .rw, 7, 6, .num 120, true, .span (60) (240), 0⟩,  -- COLL_THRESH
  ⟨0x2410, 1, 1, 0x06, 0x06, .u16, .rw, 7, 6, .num 160, true, .alt 0 100 300, 0⟩,  -- SPATIAL_COLL
  ⟨0x2410, 1, 1, 0x07, 0x07, .u16, .rw, 7, 6, .num 1000, true, .span (100) (60000), 0⟩,  -- NOISE_PERIOD_MS
  ⟨0x2410, 1, 1, 0x08, 0x08, .u16, .rw, 7, 6, .num 600, true, .span (250) (10000), 0⟩,  -- NOISE_ALERT_LEVEL
  ⟨0x2411, 1, 1, 0x01, 0x01, .u32, .ro, 7, 0, .num 0, false, .any, 0⟩,  -- OVERLOADED_REPLIES
  ⟨0x2411, 1, 1, 0x02, 0x02, .u32, .ro, 7, 0, .num 0, false, .any, 0⟩,  -- SC_RANGE_REJECTS
  ⟨0x2411, 1, 1, 0x03, 0x03, .u32, .ro, 7, 0, .num 0, false, .any, 0⟩,  -- FALSE_STARTS
  ⟨0x2411, 1, 1, 0x04, 0x04, .u32, .ro, 7, 0, .num 0, false, .any, 0⟩,  -- SPATIAL_FLAGS
  ⟨0x2411, 1, 1, 0x05, 0x05, .u32, .ro, 7, 0, .num 0, false, .any, 0⟩,  -- COLLISION_BITS
  ⟨0x2420, 1, 1, 0x01, 0x01, .u16, .const, 7, 0, .num 3100, true, .any, 0⟩,  -- DEMOD_DELAY_A106 to B848
  ⟨0x2420, 1, 1, 0x02, 0x02, .u16, .const, 7, 0, .num 2400, true, .any, 0⟩,  -- DEMOD_DELAY_A106 to B848
  ⟨0x2420, 1, 1, 0x03, 0x03, .u16, .const, 7, 0, .num 1600, true, .any, 0⟩,  -- DEMOD_DELAY_A106 to B848
  ⟨0x2420, 1, 1, 0x04, 0x04, .u16, .const, 7, 0, .num 1050, true, .any, 0⟩,  -- DEMOD_DELAY_A106 to B848
  ⟨0x2420, 1, 1, 0x05, 0x05, .u16, .const, 7, 0, .num 3400, true, .any, 0⟩,  -- DEMOD_DELAY_A106 to B848
  ⟨0x2420, 1, 1, 0x06, 0x06, .u16, .const, 7, 0, .num 2400, true, .any, 0⟩,  -- DEMOD_DELAY_A106 to B848
  ⟨0x2420, 1, 1, 0x07, 0x07, .u16, .const, 7, 0, .num 1600, true, .any, 0⟩,  -- DEMOD_DELAY_A106 to B848
  ⟨0x2420, 1, 1, 0x08, 0x08, .u16, .const, 7, 0, .num 1050, true, .any, 0⟩,  -- DEMOD_DELAY_A106 to B848
  ⟨0x2420, 1, 1, 0x09, 0x09, .u16, .const, 7, 0, .num 9800, true, .any, 0⟩,  -- DEMOD_DELAY_V26
  ⟨0x2420, 1, 1, 0x0A, 0x0A, .u16, .const, 7, 0, .num 36900, true, .any, 0⟩,  -- DEMOD_DELAY_V6
  ⟨0x2420, 1, 1, 0x0B, 0x0B, .u16, .const, 7, 0, .num 2600, true, .any, 0⟩,  -- DEMOD_DELAY_F212
  ⟨0x2420, 1, 1, 0x0C, 0x0C, .u16, .const, 7, 0, .num 1700, true, .any, 0⟩  -- DEMOD_DELAY_F424
  ]

/-- Entries 2500 to 2500. -/
def odRows16 : List OdRow := [
  ⟨0x2500, 1, 1, 0x01, 0x01, .u8, .rw, 7, 6, .num 15, true, .any, 0x1F⟩,  -- TECH_ENABLE
  ⟨0x2500, 1, 1, 0x02, 0x02, .u16, .rw, 7, 6, .num 12816, true, .nibbles, 0⟩,  -- POLL_ORDER
  ⟨0x2500, 1, 1, 0x03, 0x03, .u16, .rw, 7, 6, .num 5100, true, .span (5100) (20000), 0⟩,  -- RESET_GUARD_US
  ⟨0x2500, 1, 1, 0x04, 0x04, .u16, .rw, 7, 6, .num 100, true, .span (87) (2000), 0⟩,  -- GUARD_A_US
  ⟨0x2500, 1, 1, 0x05, 0x05, .u16, .rw, 7, 6, .num 150, true, .span (133) (2000), 0⟩,  -- GUARD_B_US
  ⟨0x2500, 1, 1, 0x06, 0x06, .u16, .rw, 7, 6, .num 320, true, .span (310) (2000), 0⟩,  -- GUARD_V_US
  ⟨0x2500, 1, 1, 0x07, 0x07, .u16, .rw, 7, 6, .num 200, true, .span (100) (2000), 0⟩,  -- GUARD_F_US
  ⟨0x2500, 1, 1, 0x08, 0x08, .u8, .rw, 7, 6, .num 2, true, .span (0) (5), 0⟩,  -- RETRY_MAX
  ⟨0x2500, 1, 1, 0x09, 0x09, .u16, .rw, 7, 6, .num 4500, true, .span (0) (10000), 0⟩,  -- DEFER_MAX_US
  ⟨0x2500, 1, 1, 0x0A, 0x0A, .u8, .rw, 7, 6, .num 16, true, .span (1) (64), 0⟩,  -- EXPECT_BYTES
  ⟨0x2500, 1, 1, 0x0B, 0x0B, .u8, .rw, 7, 6, .num 8, true, .span (1) (16), 0⟩,  -- MAX_IDS
  ⟨0x2500, 1, 1, 0x0C, 0x0C, .u8, .rw, 7, 6, .num 3, true, .span (0) (3), 0⟩,  -- A_MAX_RATE
  ⟨0x2500, 1, 1, 0x0D, 0x0D, .u8, .rw, 7, 6, .num 3, true, .span (0) (3), 0⟩,  -- B_MAX_RATE
  ⟨0x2500, 1, 1, 0x0E, 0x0E, .u8, .rw, 7, 6, .num 2, true, .span (0) (4), 0⟩,  -- B_SLOTS
  ⟨0x2500, 1, 1, 0x0F, 0x0F, .u8, .rw, 7, 6, .num 0, true, .any, 0⟩,  -- AFI
  ⟨0x2500, 1, 1, 0x10, 0x10, .u8, .rw, 7, 6, .num 0, true, .any, 0xF⟩,  -- V_MODE
  ⟨0x2500, 1, 1, 0x11, 0x11, .u8, .rw, 7, 6, .num 1, true, .span (0) (1), 0⟩,  -- V_SLOTS
  ⟨0x2500, 1, 1, 0x12, 0x12, .u8, .rw, 7, 6, .num 0, true, .span (0) (1), 0⟩,  -- F_RATE
  ⟨0x2500, 1, 1, 0x13, 0x13, .u16, .rw, 7, 6, .num 65535, true, .any, 0⟩,  -- F_SYSCODE
  ⟨0x2500, 1, 1, 0x14, 0x14, .u8, .rw, 7, 6, .num 3, true, .oneOf [0, 1, 3, 7, 15], 0⟩,  -- F_TSN
  ⟨0x2500, 1, 1, 0x15, 0x15, .u8, .rw, 7, 6, .num 0, true, .span (0) (2), 0⟩,  -- ACTIVATE
  ⟨0x2500, 1, 1, 0x16, 0x16, .u8, .rw, 7, 6, .num 8, true, .span (0) (8), 0⟩,  -- FSDI
  ⟨0x2500, 1, 1, 0x17, 0x17, .u16, .rw, 7, 6, .num 50, true, .span (2) (1000), 0⟩,  -- VERDICT_WAIT_US
  ⟨0x2500, 1, 1, 0x18, 0x18, .u16, .rw, 7, 6, .num 800, true, .span (500) (990), 0⟩  -- ZONE_MATCH
  ]

/-- Entries 2501 to 2550. -/
def odRows17 : List OdRow := [
  ⟨0x2501, 1, 1, 0x01, 0x01, .u16, .rw, 7, 6, .num 250, true, .span (50) (5000), 0⟩,  -- PRESENCE_MS
  ⟨0x2501, 1, 1, 0x02, 0x02, .u16, .rw, 7, 6, .num 750, true, .span (100) (30000), 0⟩,  -- PRESENCE_TIMEOUT_MS
  ⟨0x2501, 1, 1, 0x03, 0x03, .u32, .rw, 7, 6, .num 2000, true, .span (0) (600000), 0⟩,  -- HOLD_RELEASE_MS
  ⟨0x2501, 1, 1, 0x04, 0x04, .bool, .rw, 7, 6, .num 1, true, .span 0 1, 0⟩,  -- HOLD_ZONE_BOUND
  ⟨0x2501, 1, 1, 0x05, 0x05, .u8, .rw, 7, 6, .num 0, true, .span (0) (1), 0⟩,  -- STARTUP_POLICY
  ⟨0x2501, 1, 1, 0x06, 0x06, .u8, .ro, 7, 0, .num 0, false, .any, 0⟩,  -- HOLD_COUNT
  ⟨0x2510, 64, 1, 0x01, 0x01, .octets, .ro, 7, 0, .zeros 12, false, .any, 0⟩,  -- H_ID
  ⟨0x2510, 64, 1, 0x02, 0x02, .u8, .ro, 7, 0, .num 255, false, .any, 0⟩,  -- H_ZONE
  ⟨0x2510, 64, 1, 0x03, 0x03, .u8, .ro, 7, 0, .num 0, false, .any, 0⟩,  -- H_STATE
  ⟨0x2510, 64, 1, 0x04, 0x04, .u64, .ro, 7, 0, .num 0, false, .any, 0⟩,  -- H_FIRST
  ⟨0x2510, 64, 1, 0x05, 0x05, .u64, .ro, 7, 0, .num 0, false, .any, 0⟩,  -- H_LAST
  ⟨0x2550, 4, 1, 0x01, 0x01, .u8, .rw, 7, 7, .num 0, false, .oneOf [1, 2], 0⟩,  -- EXCH_CMD
  ⟨0x2550, 4, 1, 0x02, 0x02, .u8, .rw, 7, 7, .num 0, false, .span (0) (2), 0⟩,  -- EXCH_MODE
  ⟨0x2550, 4, 1, 0x03, 0x03, .octets, .rw, 7, 7, .zeros 0, false, .len 1 256 1, 0⟩,  -- EXCH_TX
  ⟨0x2550, 4, 1, 0x04, 0x04, .octets, .ro, 7, 0, .zeros 0, false, .any, 0⟩,  -- EXCH_RX
  ⟨0x2550, 4, 1, 0x05, 0x05, .u8, .ro, 7, 0, .num 0, false, .any, 0⟩,  -- EXCH_STATUS
  ⟨0x2550, 4, 1, 0x06, 0x06, .u16, .rw, 7, 7, .num 100, false, .span (1) (5000), 0⟩,  -- EXCH_TIMEOUT_MS
  ⟨0x2550, 4, 1, 0x07, 0x07, .u8, .rw, 7, 7, .num 255, false, .alt 255 0 15, 0⟩,  -- POLL_ZONE
  ⟨0x2550, 4, 1, 0x10, 0x10, .u8, .ro, 7, 0, .num 255, false, .any, 0⟩,  -- TECH
  ⟨0x2550, 4, 1, 0x11, 0x11, .u8, .ro, 7, 0, .num 0, false, .any, 0⟩,  -- CARD_STATE
  ⟨0x2550, 4, 1, 0x12, 0x12, .u8, .ro, 7, 0, .num 0, false, .any, 0⟩,  -- RATE_DS
  ⟨0x2550, 4, 1, 0x13, 0x13, .u8, .ro, 7, 0, .num 0, false, .any, 0⟩,  -- RATE_DR
  ⟨0x2550, 4, 1, 0x14, 0x14, .u8, .ro, 7, 0, .num 4, false, .any, 0⟩,  -- FWI
  ⟨0x2550, 4, 1, 0x15, 0x15, .octets, .ro, 7, 0, .zeros 24, false, .any, 0⟩,  -- LAST_ID
  ⟨0x2550, 4, 1, 0x16, 0x16, .u8, .ro, 7, 0, .num 0, false, .any, 0⟩  -- CARDS
  ]

/-- Entries 2560 to 2580. -/
def odRows18 : List OdRow := [
  ⟨0x2560, 1, 1, 0x01, 0x01, .u32, .ro, 7, 0, .num 0, false, .any, 0⟩,  -- IDS_HANDED
  ⟨0x2560, 1, 1, 0x02, 0x02, .u32, .ro, 7, 0, .num 0, false, .any, 0⟩,  -- TIMEOUTS
  ⟨0x2560, 1, 1, 0x03, 0x03, .u32, .ro, 7, 0, .num 0, false, .any, 0⟩,  -- CRC_ERRORS
  ⟨0x2560, 1, 1, 0x04, 0x04, .u32, .ro, 7, 0, .num 0, false, .any, 0⟩,  -- PARITY_ERRORS
  ⟨0x2560, 1, 1, 0x05, 0x05, .u32, .ro, 7, 0, .num 0, false, .any, 0⟩,  -- OTHER_ERRORS
  ⟨0x2560, 1, 1, 0x06, 0x06, .u32, .ro, 7, 0, .num 0, false, .any, 0⟩,  -- RETRIES
  ⟨0x2560, 1, 1, 0x07, 0x07, .u32, .ro, 7, 0, .num 0, false, .any, 0⟩,  -- SESSIONS_ABORTED
  ⟨0x2560, 1, 1, 0x08, 0x08, .u32, .ro, 7, 0, .num 0, false, .any, 0⟩,  -- DEFERRALS
  ⟨0x2560, 1, 1, 0x09, 0x09, .u32, .ro, 7, 0, .num 0, false, .any, 0⟩,  -- BLANK_RX
  ⟨0x2560, 1, 1, 0x0A, 0x0A, .u32, .ro, 7, 0, .num 0, false, .any, 0⟩,  -- VERDICTS_LATE
  ⟨0x2560, 1, 1, 0x0B, 0x0B, .u32, .ro, 7, 0, .num 0, false, .any, 0⟩,  -- HOLD_EVICTIONS
  ⟨0x2560, 1, 1, 0x0C, 0x0C, .u32, .ro, 7, 0, .num 0, false, .any, 0⟩,  -- DUPLICATE_IDS
  ⟨0x2560, 1, 1, 0x0D, 0x0D, .u32, .ro, 7, 0, .num 0, false, .any, 0⟩,  -- HELD_PRESENTATIONS
  ⟨0x2580, 16, 1, 0x01, 0x01, .u8, .rw, 7, 6, .num 255, true, .any, 0⟩  -- ZONE_TECH
  ]

/-- Entries 2600 to 2600. -/
def odRows19 : List OdRow := [
  ⟨0x2600, 1, 1, 0x01, 0x01, .u8, .rw, 7, 6, .num 255, true, .any, 0⟩,  -- FROND_ENABLE
  ⟨0x2600, 1, 1, 0x02, 0x02, .u8, .rw, 7, 6, .num 8, true, .span (2) (9), 0⟩,  -- PROBE_MV
  ⟨0x2600, 1, 1, 0x03, 0x03, .u16, .rw, 7, 6, .num 16384, true, .any, 0⟩,  -- PING_ANGLE
  ⟨0x2600, 1, 1, 0x04, 0x04, .u16, .rw, 7, 6, .num 64, true, .span (32) (4096), 0⟩,  -- PING_STEP
  ⟨0x2600, 1, 1, 0x05, 0x05, .u16, .rw, 7, 6, .num 32, true, .span (24) (1024), 0⟩,  -- WIN_LENGTH
  ⟨0x2600, 1, 1, 0x06, 0x06, .u16, .rw, 7, 6, .num 0, true, .alt 0 1 16384, 0⟩,  -- PING_FLOAT
  ⟨0x2600, 1, 1, 0x07, 0x07, .i16, .rw, 7, 6, .num (-300), true, .any, 0⟩,  -- CARD_LO
  ⟨0x2600, 1, 1, 0x08, 0x08, .i16, .rw, 7, 6, .num 600, true, .any, 0⟩,  -- CARD_HI
  ⟨0x2600, 1, 1, 0x09, 0x09, .i16, .rw, 7, 6, .num 1200, true, .any, 0⟩,  -- PHONE_HI
  ⟨0x2600, 1, 1, 0x0A, 0x0A, .i16, .rw, 7, 6, .num (-1500), true, .span (-1800) (32767), 0⟩,  -- METAL_LO
  ⟨0x2600, 1, 1, 0x0B, 0x0B, .u8, .rw, 7, 6, .num 2, true, .span (1) (50), 0⟩,  -- EXT_MV
  ⟨0x2600, 1, 1, 0x0C, 0x0C, .u16, .rw, 7, 6, .num 500, true, .span (0) (5000), 0⟩,  -- WAKE_MERGE_US
  ⟨0x2600, 1, 1, 0x0D, 0x0D, .u8, .rw, 7, 6, .num 6, true, .span (3) (10), 0⟩,  -- BASE_SHIFT
  ⟨0x2600, 1, 1, 0x0E, 0x0E, .u8, .rw, 7, 6, .num 8, true, .span (4) (64), 0⟩,  -- LEARN_PINGS
  ⟨0x2600, 1, 1, 0x0F, 0x0F, .u16, .rw, 7, 6, .num 300, true, .alt 0 10 65535, 0⟩,  -- DISARM_ABSORB_S
  ⟨0x2600, 1, 1, 0x10, 0x10, .u16, .rw, 7, 6, .num 200, true, .span (50) (2000), 0⟩,  -- LANE_DELTA
  ⟨0x2600, 1, 1, 0x11, 0x11, .u16, .rw, 7, 6, .num 500, true, .span (50) (5000), 0⟩  -- DRIFT_LIMIT
  ]

/-- Entries 2610 to 2610. -/
def odRows20 : List OdRow := [
  ⟨0x2610, 8, 1, 0x01, 0x01, .u8, .rw, 7, 6, .num 4, true, .span (1) (64), 0⟩,  -- RATE_HZ
  ⟨0x2610, 8, 1, 0x02, 0x02, .u16, .ro, 7, 0, .num 0, false, .any, 0⟩,  -- RATE_ACTUAL
  ⟨0x2610, 8, 1, 0x03, 0x03, .u16, .rw, 7, 6, .num 30, true, .span (5) (2000), 0⟩,  -- THRESH_ON
  ⟨0x2610, 8, 1, 0x04, 0x04, .u16, .rw, 7, 6, .num 15, true, .span (5) (2000), 0⟩,  -- THRESH_OFF
  ⟨0x2610, 8, 1, 0x05, 0x05, .u8, .rw, 7, 6, .num 1, true, .span (1) (4), 0⟩,  -- CONFIRM
  ⟨0x2610, 8, 1, 0x06, 0x06, .u8, .rw, 7, 6, .num 69, true, .actions, 0⟩,  -- ACTIONS
  ⟨0x2610, 8, 1, 0x07, 0x07, .u8, .ro, 7, 0, .num 0, false, .any, 0⟩,  -- STATE
  ⟨0x2610, 8, 1, 0x08, 0x08, .u8, .ro, 7, 0, .num 0, false, .any, 0⟩,  -- CLASS
  ⟨0x2610, 8, 1, 0x09, 0x09, .u16, .ro, 7, 0, .num 0, false, .any, 0⟩,  -- DETUNE_MAG
  ⟨0x2610, 8, 1, 0x0A, 0x0A, .i16, .ro, 7, 0, .num 0, false, .any, 0⟩,  -- DETUNE_ANGLE
  ⟨0x2610, 8, 1, 0x0B, 0x0B, .octets, .ro, 7, 0, .zeros 8, true, .any, 0⟩,  -- BASELINE
  ⟨0x2610, 8, 1, 0x0C, 0x0C, .u8, .ro, 7, 0, .num 255, false, .any, 0⟩,  -- SLOT
  ⟨0x2610, 8, 1, 0x0D, 0x0D, .u32, .ro, 7, 0, .num 0, false, .any, 0⟩,  -- PINGS
  ⟨0x2610, 8, 1, 0x0E, 0x0E, .u32, .ro, 7, 0, .num 0, false, .any, 0⟩,  -- SKIPPED
  ⟨0x2610, 8, 1, 0x0F, 0x0F, .u32, .ro, 7, 0, .num 0, false, .any, 0⟩,  -- WAKES
  ⟨0x2610, 8, 1, 0x10, 0x10, .u32, .ro, 7, 0, .num 0, false, .any, 0⟩,  -- MERGED
  ⟨0x2610, 8, 1, 0x11, 0x11, .u32, .ro, 7, 0, .num 0, false, .any, 0⟩,  -- NONCARD
  ⟨0x2610, 8, 1, 0x12, 0x12, .octets, .ro, 7, 0, .zeros 8, false, .any, 0⟩,  -- Z_LAST
  ⟨0x2610, 8, 1, 0x13, 0x13, .octets, .ro, 7, 0, .zeros 8, true, .any, 0⟩,  -- BASE_REF
  ⟨0x2610, 8, 1, 0x14, 0x14, .u8, .rw, 7, 6, .num 0, false, .oneOf [1], 0⟩  -- BASE_RESET
  ]

/-- Entries 2700 to 2710. -/
def odRows21 : List OdRow := [
  ⟨0x2700, 1, 1, 0x01, 0x01, .octets, .const, 7, 0, .config, true, .any, 0⟩,  -- TAG_UID
  ⟨0x2700, 1, 1, 0x02, 0x02, .u8, .const, 7, 0, .config, true, .any, 0⟩,  -- MFG_CODE
  ⟨0x2700, 1, 1, 0x03, 0x03, .u8, .rw, 7, 6, .num 0, true, .any, 0⟩,  -- AFI
  ⟨0x2700, 1, 1, 0x04, 0x04, .u8, .rw, 7, 6, .num 0, true, .any, 0⟩,  -- DSFID
  ⟨0x2701, 1, 1, 0x01, 0x01, .u8, .rw, 7, 6, .num 1, true, .span (0) (2), 0⟩,  -- TAG_MODE
  ⟨0x2701, 1, 1, 0x02, 0x02, .u16, .rw, 7, 6, .num 500, true, .span (100) (10000), 0⟩,  -- TAG_RELEASE_MS
  ⟨0x2701, 1, 1, 0x03, 0x03, .u16, .rw, 7, 6, .num 2750, true, .span (2000) (3500), 0⟩,  -- QUIET_HOLD_MS
  ⟨0x2701, 1, 1, 0x04, 0x04, .u8, .rw, 7, 6, .num 0, false, .span (0) (1), 0⟩,  -- HOLD
  ⟨0x2701, 1, 1, 0x05, 0x05, .u16, .rw, 7, 6, .num 1000, true, .span (10) (60000), 0⟩,  -- HOLD_MAX_MS
  ⟨0x2701, 1, 1, 0x06, 0x06, .bool, .ro, 7, 0, .num 0, false, .span 0 1, 0⟩,  -- ASSIGNED
  ⟨0x2701, 1, 1, 0x07, 0x07, .u8, .ro, 7, 0, .num 0, false, .any, 0⟩,  -- TAG_STATE
  ⟨0x2701, 1, 1, 0x08, 0x08, .u8, .ro, 7, 0, .num 0, false, .any, 0⟩,  -- LEVEL
  ⟨0x2701, 1, 1, 0x09, 0x09, .u16, .ro, 7, 0, .num 0, false, .any, 0⟩,  -- LOCKOUT_DS
  ⟨0x2710, 1, 1, 0x01, 0x01, .u8, .rw, 7, 4, .num 1, true, .span (1) (2), 0⟩,  -- STAGE_WRITE_LEVEL
  ⟨0x2710, 1, 1, 0x02, 0x02, .u8, .rw, 7, 6, .num 0, true, .span (0) (2), 0⟩,  -- APPLY_POLICY
  ⟨0x2710, 1, 1, 0x03, 0x03, .u8, .ro, 7, 0, .num 0, false, .any, 0⟩,  -- STAGE_STATE
  ⟨0x2710, 1, 1, 0x04, 0x04, .u8, .ro, 7, 0, .num 0, false, .any, 0⟩,  -- APPLY_RESULT
  ⟨0x2710, 1, 1, 0x05, 0x05, .u16, .ro, 7, 0, .num 65535, false, .any, 0⟩,  -- APPLY_FAIL_REC
  ⟨0x2710, 1, 1, 0x06, 0x06, .u32, .ro, 7, 0, .num 0, true, .any, 0⟩  -- APPLIED_SEQ
  ]

/-- Entries 2720 to 2740. -/
def odRows22 : List OdRow := [
  ⟨0x2720, 1, 1, 0x01, 0x01, .u32, .wo, 0, 6, .num 0, true, .any, 0⟩,  -- PASSWORD
  ⟨0x2720, 1, 1, 0x02, 0x02, .octets, .wo, 0, 6, .zeros 16, true, .len 16 16 1, 0⟩,  -- KEY_INSTALLER
  ⟨0x2720, 1, 1, 0x03, 0x03, .octets, .wo, 0, 4, .zeros 16, true, .len 16 16 1, 0⟩,  -- KEY_MAKER
  ⟨0x2720, 1, 1, 0x04, 0x04, .u8, .ro, 7, 0, .num 0, true, .any, 0⟩,  -- AUTH_FAILS
  ⟨0x2730, 1, 1, 0x01, 0x01, .u16, .rw, 7, 7, .num 0, false, .span (0) (991), 0⟩,  -- STORE_BLOCK
  ⟨0x2730, 1, 1, 0x02, 0x02, .u8, .rw, 7, 7, .num 1, false, .span (1) (8), 0⟩,  -- STORE_COUNT
  ⟨0x2730, 1, 1, 0x03, 0x03, .octets, .rw, 7, 6, .zeros 0, false, .len 32 256 32, 0⟩,  -- STORE_DATA
  ⟨0x2730, 1, 1, 0x04, 0x04, .u8, .rw, 7, 7, .num 0, false, .oneOf [1, 2], 0⟩,  -- STORE_CMD
  ⟨0x2730, 1, 1, 0x05, 0x05, .u8, .ro, 7, 0, .num 0, false, .any, 0⟩,  -- STORE_STATUS
  ⟨0x2740, 1, 1, 0x01, 0x01, .u32, .ro, 7, 0, .num 0, false, .any, 0⟩,  -- FIELD_SESSIONS
  ⟨0x2740, 1, 1, 0x02, 0x02, .u32, .ro, 7, 0, .num 0, true, .any, 0⟩,  -- FIELD_GROUPS
  ⟨0x2740, 1, 1, 0x03, 0x03, .u32, .ro, 7, 0, .num 0, true, .any, 0⟩,  -- RECOVERIES
  ⟨0x2740, 1, 1, 0x04, 0x04, .u32, .ro, 7, 0, .num 0, true, .any, 0⟩,  -- AUTH_FAILURES
  ⟨0x2740, 1, 1, 0x05, 0x05, .u32, .ro, 7, 0, .num 0, true, .any, 0⟩,  -- LOCKOUTS
  ⟨0x2740, 1, 1, 0x06, 0x06, .u32, .ro, 7, 0, .num 0, true, .any, 0⟩,  -- GATE_REFUSALS
  ⟨0x2740, 1, 1, 0x07, 0x07, .u32, .ro, 7, 0, .num 0, false, .any, 0⟩,  -- HOLD_REFUSALS
  ⟨0x2740, 1, 1, 0x08, 0x08, .u32, .ro, 7, 0, .num 0, false, .any, 0⟩,  -- HOST_BUSY
  ⟨0x2740, 1, 1, 0x09, 0x09, .u32, .ro, 7, 0, .num 0, false, .any, 0⟩  -- UNANSWERED
  ]

/-- Entries 2800 to 2820. -/
def odRows23 : List OdRow := [
  ⟨0x2800, 1, 1, 0x01, 0x01, .u16, .ro, 7, 0, .num 0, false, .any, 0⟩,  -- ENTRIES
  ⟨0x2800, 1, 1, 0x02, 0x02, .u32, .ro, 7, 0, .num 0, false, .any, 0⟩,  -- LOOKUPS
  ⟨0x2800, 1, 1, 0x03, 0x03, .u32, .ro, 7, 0, .num 0, false, .any, 0⟩,  -- HITS
  ⟨0x2810, 1, 1, 0x01, 0x01, .u8, .rw, 7, 7, .num 0, false, .span (1) (4), 0⟩,  -- CMD
  ⟨0x2810, 1, 1, 0x02, 0x02, .u8, .rw, 7, 7, .num 0, false, .span (1) (7), 0⟩,  -- KEYTYPE
  ⟨0x2810, 1, 1, 0x03, 0x03, .octets, .rw, 7, 7, .zeros 10, false, .len 10 10 1, 0⟩,  -- KEY
  ⟨0x2810, 1, 1, 0x04, 0x04, .u64, .rw, 7, 7, .num 0, false, .any, 0xFFFFFFFFFFF⟩,  -- FIELDS
  ⟨0x2810, 1, 1, 0x05, 0x05, .u8, .ro, 7, 0, .num 0, false, .any, 0⟩,  -- STATUS
  ⟨0x2810, 1, 1, 0x06, 0x06, .u16, .ro, 7, 0, .num 16383, false, .any, 0⟩,  -- SLOT
  ⟨0x2810, 1, 1, 0x07, 0x07, .u8, .ro, 7, 0, .num 0, false, .any, 0⟩,  -- VERDICT
  ⟨0x2811, 1, 1, 0x01, 0x01, .u32, .ro, 7, 0, .num 0, false, .any, 0⟩,  -- INSERT_FULL
  ⟨0x2811, 1, 1, 0x02, 0x02, .u32, .ro, 7, 0, .num 0, false, .any, 0⟩,  -- MOVES
  ⟨0x2820, 1, 1, 0x01, 0x01, .bool, .rw, 7, 6, .num 1, true, .span 0 1, 0⟩,  -- RULES_ON
  ⟨0x2820, 1, 1, 0x02, 0x02, .u8, .ro, 7, 0, .num 0, false, .any, 0⟩,  -- QUEUE_NOW
  ⟨0x2820, 1, 1, 0x03, 0x03, .u32, .ro, 7, 0, .num 0, false, .any, 0⟩,  -- QUEUE_FULL
  ⟨0x2820, 1, 1, 0x04, 0x04, .u32, .ro, 7, 0, .num 0, false, .any, 0⟩,  -- DEPTH_DROPS
  ⟨0x2820, 1, 1, 0x05, 0x05, .u32, .ro, 7, 0, .num 0, false, .any, 0⟩,  -- SCENE_PREEMPTS
  ⟨0x2820, 1, 1, 0x06, 0x06, .u32, .ro, 7, 0, .num 0, false, .any, 0⟩,  -- ACTION_FAILS
  ⟨0x2820, 1, 1, 0x07, 0x07, .u32, .ro, 7, 0, .num 0, false, .any, 0⟩  -- LAST_NOTE
  ]

/-- Entries 2880 to 2910. -/
def odRows24 : List OdRow := [
  ⟨0x2880, 1, 1, 0x01, 0x01, .u16, .rw, 7, 6, .num 0, true, .any, 0⟩,  -- RULE_GPIO_MASK
  ⟨0x2890, 1, 1, 0x01, 0x20, .u32, .rw, 7, 7, .num 0, false, .any, 0⟩,  -- VAR
  ⟨0x2900, 1, 1, 0x01, 0x01, .u16, .ro, 7, 0, .num 8192, false, .any, 0⟩,  -- POOL_FREE
  ⟨0x2900, 1, 1, 0x02, 0x02, .u16, .ro, 7, 0, .num 8192, false, .any, 0⟩,  -- POOL_FREE_MIN
  ⟨0x2900, 1, 1, 0x03, 0x03, .u16, .rw, 7, 6, .num 512, true, .span (0) (8192), 0⟩,  -- POOL_LOW_CELLS
  ⟨0x2900, 1, 1, 0x04, 0x04, .u32, .ro, 7, 0, .num 0, false, .any, 0⟩,  -- NO_CELL_REFUSALS
  ⟨0x2900, 1, 1, 0x05, 0x05, .u32, .ro, 7, 0, .num 0, false, .any, 0⟩,  -- LEAKS_RECLAIMED
  ⟨0x2900, 1, 1, 0x06, 0x06, .u32, .ro, 7, 0, .num 0, false, .any, 0⟩,  -- BUNTING_FAULTS
  ⟨0x2900, 1, 1, 0x07, 0x07, .bool, .rw, 7, 6, .num 0, true, .span 0 1, 0⟩,  -- MIRROR
  ⟨0x2900, 1, 1, 0x08, 0x08, .u32, .ro, 7, 0, .num 0, false, .any, 0⟩,  -- DENIED
  ⟨0x2900, 1, 1, 0x09, 0x09, .u16, .ro, 7, 0, .num 976, false, .any, 0⟩,  -- RESERVE_SUM
  ⟨0x2910, 32, 1, 0x01, 0x01, .u16, .ro, 7, 0, .num 0, false, .any, 0⟩,  -- DEPTH
  ⟨0x2910, 32, 1, 0x02, 0x02, .u16, .ro, 7, 0, .num 0, false, .any, 0⟩,  -- CELLS
  ⟨0x2910, 32, 1, 0x03, 0x03, .u16, .rw, 7, 6, .byIndex queueDepthMax, true, .span (1) (8192), 0⟩,  -- DEPTH_MAX
  ⟨0x2910, 32, 1, 0x04, 0x04, .u16, .rw, 7, 6, .byIndex queueHigh, true, .span (1) (8192), 0⟩,  -- HIGH
  ⟨0x2910, 32, 1, 0x05, 0x05, .u16, .rw, 7, 6, .byIndex queueLow, true, .span (0) (8191), 0⟩,  -- LOW
  ⟨0x2910, 32, 1, 0x06, 0x06, .u16, .rw, 7, 6, .byIndex queueReserve, true, .span (0) (6144), 0⟩,  -- RESERVE
  ⟨0x2910, 32, 1, 0x07, 0x07, .u16, .rw, 7, 6, .byIndex queueQuota, true, .span (1) (8192), 0⟩,  -- QUOTA
  ⟨0x2910, 32, 1, 0x08, 0x08, .u8, .rw, 7, 6, .num 32, true, .span (1) (32), 0⟩,  -- MAX_CELLS
  ⟨0x2910, 32, 1, 0x09, 0x09, .u8, .rw, 7, 7, .num 0, false, .any, 0x1F⟩,  -- FLAGS
  ⟨0x2910, 32, 1, 0x0A, 0x0A, .u8, .rw, 7, 6, .num 15, true, .any, 0x1F⟩,  -- EVENT_MASK
  ⟨0x2910, 32, 1, 0x0B, 0x0B, .u32, .ro, 7, 0, .num 0, false, .any, 0⟩,  -- PUSHES
  ⟨0x2910, 32, 1, 0x0C, 0x0C, .u32, .ro, 7, 0, .num 0, false, .any, 0⟩,  -- POPS
  ⟨0x2910, 32, 1, 0x0D, 0x0D, .u32, .ro, 7, 0, .num 0, false, .any, 0⟩,  -- OVERFLOWS
  ⟨0x2910, 32, 1, 0x0E, 0x0E, .u32, .ro, 7, 0, .num 0, false, .any, 0⟩,  -- UNDERFLOWS
  ⟨0x2910, 32, 1, 0x0F, 0x0F, .u32, .ro, 7, 0, .num 0, false, .any, 0⟩,  -- DROPS
  ⟨0x2910, 32, 1, 0x10, 0x10, .u16, .ro, 7, 0, .num 0, false, .any, 0⟩,  -- PEAK
  ⟨0x2910, 32, 1, 0x11, 0x11, .u32, .ro, 7, 0, .num 0, false, .any, 0⟩  -- NO_CELLS
  ]

/-- Entries 2A00 to 2A10. -/
def odRows25 : List OdRow := [
  ⟨0x2A00, 1, 1, 0x01, 0x01, .u64, .ro, 7, 0, .num 0, false, .any, 0⟩,  -- TB64
  ⟨0x2A01, 1, 1, 0x01, 0x01, .u32, .ro, 7, 0, .num 0, true, .any, 0⟩,  -- POWERED_S
  ⟨0x2A01, 1, 1, 0x02, 0x02, .u32, .ro, 7, 0, .num 0, true, .any, 0⟩,  -- POWER_CYCLES
  ⟨0x2A01, 1, 1, 0x03, 0x03, .u32, .ro, 7, 0, .num 0, false, .any, 0⟩,  -- PSEC_AT_START
  ⟨0x2A01, 1, 1, 0x04, 0x04, .bool, .rw, 7, 4, .num 0, false, .span 0 1, 0⟩,  -- FREEZE
  ⟨0x2A01, 1, 1, 0x05, 0x05, .u64, .ro, 7, 0, .num 0, false, .any, 0⟩,  -- FROZEN_TICKS
  ⟨0x2A01, 1, 1, 0x06, 0x06, .u64, .ro, 7, 0, .num 0, false, .any, 0⟩,  -- MAKEUP_LAST
  ⟨0x2A01, 1, 1, 0x07, 0x07, .u32, .ro, 7, 0, .num 0, false, .any, 0⟩,  -- SLEEPS
  ⟨0x2A10, 16, 1, 0x01, 0x01, .u8, .rw, 7, 7, .num 0, false, .any, 0x7⟩,  -- CTRL
  ⟨0x2A10, 16, 1, 0x02, 0x02, .u64, .rw, 7, 7, .num 0, false, .any, 0xFFFFFFFFFFFF⟩,  -- VALUE
  ⟨0x2A10, 16, 1, 0x03, 0x03, .u64, .rw, 7, 7, .num 0, false, .span (1) (140737488355327), 0xFFFFFFFFFFFF⟩,  -- PERIOD
  ⟨0x2A10, 16, 1, 0x04, 0x04, .u8, .rw, 7, 7, .num 0, false, .any, 0x7⟩,  -- STATUS
  ⟨0x2A10, 16, 1, 0x05, 0x05, .u32, .ro, 7, 0, .num 0, false, .any, 0⟩,  -- FIRES
  ⟨0x2A10, 16, 1, 0x06, 0x06, .u32, .ro, 7, 0, .num 0, false, .any, 0⟩  -- SKIPPED
  ]

/-- Entries 2A30 to 3000. -/
def odRows26 : List OdRow := [
  ⟨0x2A30, 8, 1, 0x01, 0x01, .u8, .rw, 7, 6, .num 0, true, .span (0) (22), 0⟩,  -- SOURCE
  ⟨0x2A30, 8, 1, 0x02, 0x02, .u8, .rw, 7, 6, .num 1, true, .span (1) (3), 0⟩,  -- EDGE
  ⟨0x2A30, 8, 1, 0x03, 0x03, .u64, .ro, 7, 0, .num 0, false, .any, 0⟩,  -- VALUE
  ⟨0x2A30, 8, 1, 0x04, 0x04, .u8, .rw, 7, 7, .num 0, false, .any, 0x3⟩,  -- STATUS
  ⟨0x2A30, 8, 1, 0x05, 0x05, .u32, .ro, 7, 0, .num 0, false, .any, 0⟩,  -- CAPTURES
  ⟨0x2A30, 8, 1, 0x06, 0x06, .u32, .ro, 7, 0, .num 0, false, .any, 0⟩,  -- OVERRUNS
  ⟨0x2A40, 4, 1, 0x01, 0x01, .u8, .rw, 7, 7, .num 0, false, .any, 0x7⟩,  -- CTRL
  ⟨0x2A40, 4, 1, 0x02, 0x02, .u8, .rw, 7, 7, .num 0, false, .span (0) (15), 0⟩,  -- PRESCALE
  ⟨0x2A40, 4, 1, 0x03, 0x03, .u16, .rw, 7, 7, .num 0, false, .any, 0⟩,  -- COUNT
  ⟨0x2A40, 4, 1, 0x04, 0x04, .bool, .rw, 7, 7, .num 0, false, .span 0 1, 0⟩,  -- OVF
  ⟨0x3000, 1, 1, 0x01, 0x01, .u8, .ro, 7, 0, .num 0, false, .any, 0⟩,  -- RADIO_STATE
  ⟨0x3000, 1, 1, 0x02, 0x02, .u8, .rw, 7, 4, .num 0, true, .span (0) (2), 0⟩,  -- BAND
  ⟨0x3000, 1, 1, 0x03, 0x03, .u8, .rw, 7, 6, .num 3, true, .span (0) (3), 0⟩,  -- RETURN_AFTER_RX
  ⟨0x3000, 1, 1, 0x04, 0x04, .u8, .rw, 7, 6, .num 3, true, .span (0) (3), 0⟩,  -- RETURN_AFTER_TX
  ⟨0x3000, 1, 1, 0x05, 0x05, .u8, .rw, 7, 6, .num 0, true, .span (0) (1), 0⟩,  -- RETURN_SOURCE
  ⟨0x3000, 1, 1, 0x06, 0x06, .u8, .rw, 7, 6, .num 0, true, .span (0) (2), 0⟩,  -- RX_AERIAL
  ⟨0x3000, 1, 1, 0x07, 0x07, .u8, .rw, 7, 6, .num 0, true, .span (0) (2), 0⟩,  -- TX_AERIAL
  ⟨0x3000, 1, 1, 0x08, 0x08, .i8, .rw, 7, 6, .num 28, true, .span (-20) (40), 0⟩,  -- TX_POWER
  ⟨0x3000, 1, 1, 0x09, 0x09, .u16, .rw, 7, 6, .num 60, true, .span (30) (200), 0⟩,  -- CAPTURE_DB
  ⟨0x3000, 1, 1, 0x0A, 0x0A, .u16, .rw, 7, 6, .num 250, true, .span (20) (10000), 0⟩,  -- SNIFF_INTERVAL_MS
  ⟨0x3000, 1, 1, 0x0B, 0x0B, .u16, .rw, 7, 6, .num 3100, true, .span (100) (10000), 0⟩,  -- SNIFF_LISTEN_US
  ⟨0x3000, 1, 1, 0x0C, 0x0C, .u8, .rw, 7, 6, .num 0, false, .span (0) (2), 0⟩,  -- TEST_MODE
  ⟨0x3000, 1, 1, 0x0D, 0x0D, .u8, .rw, 7, 6, .num 0, false, .span (0) (15), 0⟩,  -- TEST_CHANNEL
  ⟨0x3000, 1, 1, 0x0E, 0x0E, .u16, .rw, 7, 6, .num 60, false, .span (1) (600), 0⟩,  -- TEST_TIME
  ⟨0x3000, 1, 1, 0x0F, 0x0F, .u16, .rw, 7, 6, .num 60, true, .span (1) (3600), 0⟩  -- RECIP_HOLD_S
  ]

/-- Entries 3001 to 3020. -/
def odRows27 : List OdRow := [
  ⟨0x3001, 1, 1, 0x01, 0x10, .u32, .rw, 7, 6, .num 0, true, .any, 0⟩,  -- CHANNEL
  ⟨0x3002, 1, 1, 0x01, 0x01, .i8, .ro, 7, 0, .num 0, false, .any, 0⟩,  -- POWER_LAST
  ⟨0x3002, 1, 1, 0x02, 0x02, .u8, .ro, 7, 0, .num 0, false, .any, 0⟩,  -- AERIAL_LAST
  ⟨0x3002, 1, 1, 0x03, 0x03, .i16, .ro, 7, 0, .num 0, false, .any, 0⟩,  -- RSSI_LAST
  ⟨0x3010, 1, 1, 0x01, 0x01, .i8, .rw, 7, 4, .num 40, true, .span (-20) (40), 0⟩,  -- POWER_CAP
  ⟨0x3010, 1, 1, 0x02, 0x02, .u8, .ro, 7, 0, .num 0, false, .any, 0⟩,  -- LOCK_STATE
  ⟨0x3011, 8, 1, 0x01, 0x01, .u32, .rw, 7, 4, .num 0, true, .any, 0⟩,  -- LOW_KHZ
  ⟨0x3011, 8, 1, 0x02, 0x02, .u32, .rw, 7, 4, .num 0, true, .any, 0⟩,  -- HIGH_KHZ
  ⟨0x3011, 8, 1, 0x03, 0x03, .i8, .rw, 7, 4, .num (-20), true, .span (-20) (40), 0⟩,  -- CAP
  ⟨0x3011, 8, 1, 0x04, 0x04, .u32, .rw, 7, 4, .num 0, true, .span (0) (100000), 0⟩,  -- DUTY
  ⟨0x3011, 8, 1, 0x05, 0x05, .u32, .ro, 7, 0, .num 0, true, .any, 0⟩,  -- USED_MS
  ⟨0x3011, 8, 1, 0x06, 0x06, .u32, .ro, 7, 0, .num 0, false, .any, 0⟩,  -- REMAINING_MS
  ⟨0x3020, 1, 1, 0x01, 0x01, .u32, .ro, 7, 0, .num 0, false, .any, 0⟩,  -- TX_SENT
  ⟨0x3020, 1, 1, 0x02, 0x02, .u32, .ro, 7, 0, .num 0, false, .any, 0⟩,  -- RX_CRC
  ⟨0x3020, 1, 1, 0x03, 0x03, .u32, .ro, 7, 0, .num 0, false, .any, 0⟩,  -- TX_DEADLINE
  ⟨0x3020, 1, 1, 0x04, 0x04, .u32, .ro, 7, 0, .num 0, false, .any, 0⟩,  -- TX_DUTY
  ⟨0x3020, 1, 1, 0x05, 0x05, .u32, .ro, 7, 0, .num 0, false, .any, 0⟩,  -- TX_LOCKED
  ⟨0x3020, 1, 1, 0x06, 0x06, .u32, .ro, 7, 0, .num 0, false, .any, 0⟩,  -- TX_ABORTED
  ⟨0x3020, 1, 1, 0x07, 0x07, .u32, .ro, 7, 0, .num 0, false, .any, 0⟩,  -- RX_CAPTURED
  ⟨0x3020, 1, 1, 0x08, 0x08, .u32, .ro, 7, 0, .num 0, false, .any, 0⟩,  -- RX_PREEMPTED
  ⟨0x3020, 1, 1, 0x09, 0x09, .u32, .ro, 7, 0, .num 0, false, .any, 0⟩,  -- UNLOCKS
  ⟨0x3020, 1, 1, 0x0A, 0x0A, .u32, .ro, 7, 0, .num 0, false, .any, 0⟩,  -- DIV_A
  ⟨0x3020, 1, 1, 0x0B, 0x0B, .u32, .ro, 7, 0, .num 0, false, .any, 0⟩,  -- DIV_B
  ⟨0x3020, 1, 1, 0x0C, 0x0C, .u32, .ro, 7, 0, .num 0, false, .any, 0⟩,  -- DIV_SHORT
  ⟨0x3020, 1, 1, 0x0D, 0x0D, .u32, .ro, 7, 0, .num 0, false, .any, 0⟩,  -- RX_QUEUE_FULL
  ⟨0x3020, 1, 1, 0x0E, 0x0E, .u32, .ro, 7, 0, .num 0, false, .any, 0⟩,  -- RX_FRAMES
  ⟨0x3020, 1, 1, 0x0F, 0x0F, .u32, .ro, 7, 0, .num 0, false, .any, 0⟩  -- SNIFF_DETECTS
  ]

/-- Entries 3100 to 3101. -/
def odRows28 : List OdRow := [
  ⟨0x3100, 1, 1, 0x01, 0x01, .u8, .rw, 7, 6, .num 1, true, .span (0) (2), 0⟩,  -- BASE_RATE
  ⟨0x3100, 1, 1, 0x02, 0x02, .u8, .rw, 7, 6, .num 32, true, .span (16) (255), 0⟩,  -- PREAMBLE_LEN
  ⟨0x3100, 1, 1, 0x03, 0x03, .u32, .rw, 7, 6, .num 2047775701, true, .any, 0⟩,  -- SYNC_WORD
  ⟨0x3100, 1, 1, 0x04, 0x04, .u8, .rw, 7, 6, .num 1, true, .span (0) (3), 0⟩,  -- SYNC_TOL
  ⟨0x3100, 1, 1, 0x05, 0x05, .bool, .rw, 7, 6, .num 0, true, .span 0 1, 0⟩,  -- TOLERANT
  ⟨0x3100, 1, 1, 0x06, 0x06, .u8, .rw, 7, 4, .num 24, true, .span (4) (24), 0⟩,  -- LDPC_ITER_MAX
  ⟨0x3100, 1, 1, 0x07, 0x07, .u8, .rw, 7, 6, .num 3, true, .span (1) (15), 0⟩,  -- LDPC_AFTER
  ⟨0x3100, 1, 1, 0x08, 0x08, .u16, .rw, 7, 6, .num 300, true, .span (10) (3600), 0⟩,  -- LDPC_HOLD_S
  ⟨0x3100, 1, 1, 0x09, 0x09, .u16, .rw, 7, 6, .num 1000, true, .span (100) (60000), 0⟩,  -- NF_PERIOD_MS
  ⟨0x3101, 1, 1, 0x01, 0x01, .u16, .const, 7, 0, .num 60, true, .any, 0⟩,  -- OBW_KHZ
  ⟨0x3101, 1, 1, 0x02, 0x02, .u16, .const, 7, 0, .num 120, true, .any, 0⟩,  -- OBW_KHZ
  ⟨0x3101, 1, 1, 0x03, 0x03, .u16, .const, 7, 0, .num 230, true, .any, 0⟩,  -- OBW_KHZ
  ⟨0x3101, 1, 1, 0x04, 0x04, .u16, .const, 7, 0, .num 240, true, .any, 0⟩,  -- OBW_KHZ
  ⟨0x3101, 1, 1, 0x05, 0x05, .u16, .const, 7, 0, .num 360, true, .any, 0⟩  -- OBW_KHZ
  ]

/-- Entries 3110 to 3160. -/
def odRows29 : List OdRow := [
  ⟨0x3110, 64, 1, 0x01, 0x01, .u8, .rw, 7, 6, .num 255, true, .alt 255 0 4, 0⟩,  -- RATE
  ⟨0x3110, 64, 1, 0x02, 0x02, .u8, .rw, 7, 6, .num 0, true, .span (0) (3), 0⟩,  -- CODING
  ⟨0x3110, 64, 1, 0x03, 0x03, .u8, .ro, 7, 0, .num 1, false, .any, 0⟩,  -- CODING_NOW
  ⟨0x3110, 64, 1, 0x04, 0x04, .u8, .ro, 7, 0, .num 0, false, .any, 0⟩,  -- CONV_FAILS
  ⟨0x3110, 64, 1, 0x05, 0x05, .u32, .ro, 7, 0, .num 0, false, .any, 0⟩,  -- FALLBACKS
  ⟨0x3150, 16, 1, 0x01, 0x01, .i16, .ro, 7, 0, .num (-32768), false, .any, 0⟩,  -- NF_A
  ⟨0x3150, 16, 1, 0x02, 0x02, .i16, .ro, 7, 0, .num (-32768), false, .any, 0⟩,  -- NF_B
  ⟨0x3160, 1, 1, 0x01, 0x01, .u32, .ro, 7, 0, .num 0, false, .any, 0⟩,  -- SYNC_DETECTS
  ⟨0x3160, 1, 1, 0x02, 0x02, .u32, .ro, 7, 0, .num 0, false, .any, 0⟩,  -- HEADER_ERRORS
  ⟨0x3160, 1, 1, 0x03, 0x03, .u32, .ro, 7, 0, .num 0, false, .any, 0⟩,  -- MODE_UNSUPPORTED
  ⟨0x3160, 1, 1, 0x04, 0x04, .u32, .ro, 7, 0, .num 0, false, .any, 0⟩,  -- RATE_REJECTS
  ⟨0x3160, 1, 1, 0x05, 0x05, .u32, .ro, 7, 0, .num 0, false, .any, 0⟩,  -- LDPC_UNCONVERGED
  ⟨0x3160, 1, 1, 0x06, 0x06, .u32, .ro, 7, 0, .num 0, false, .any, 0⟩,  -- FRAMES_UNCODED
  ⟨0x3160, 1, 1, 0x07, 0x07, .u32, .ro, 7, 0, .num 0, false, .any, 0⟩,  -- FRAMES_CONV
  ⟨0x3160, 1, 1, 0x08, 0x08, .u32, .ro, 7, 0, .num 0, false, .any, 0⟩  -- FRAMES_LDPC
  ]

/-- Entries 3200 to 3201. -/
def odRows30 : List OdRow := [
  ⟨0x3200, 1, 1, 0x01, 0x01, .u8, .rw, 7, 4, .num 0, true, .span (0) (2), 0⟩,  -- BAND
  ⟨0x3200, 1, 1, 0x02, 0x02, .u16, .rw, 7, 4, .num 1200, true, .span (900) (1260), 0⟩,  -- LEVEL_CAP
  ⟨0x3200, 1, 1, 0x03, 0x03, .u16, .rw, 7, 6, .num 1200, true, .step 900 1260 5, 0⟩,  -- TX_LEVEL
  ⟨0x3200, 1, 1, 0x04, 0x04, .u8, .ro, 7, 0, .num 0, false, .any, 0⟩,  -- LOCK_STATE
  ⟨0x3200, 1, 1, 0x05, 0x05, .u8, .rw, 7, 6, .num 30, true, .span (0) (100), 0⟩,  -- LOAD_MARGIN
  ⟨0x3200, 1, 1, 0x06, 0x06, .u16, .rw, 7, 6, .num 10, true, .span (1) (600), 0⟩,  -- TM_PERIOD_S
  ⟨0x3200, 1, 1, 0x07, 0x07, .u16, .rw, 7, 6, .num 60, true, .span (10) (3600), 0⟩,  -- TM_MAX_AGE_S
  ⟨0x3200, 1, 1, 0x08, 0x08, .u16, .rw, 7, 6, .num 2000, true, .span (500) (20000), 0⟩,  -- PL_IFS_US
  ⟨0x3200, 1, 1, 0x09, 0x09, .u8, .rw, 7, 6, .num 7, true, .span (0) (31), 0⟩,  -- CW_SLOTS
  ⟨0x3200, 1, 1, 0x0A, 0x0A, .u16, .rw, 7, 6, .num 1000, true, .span (100) (60000), 0⟩,  -- NF_PERIOD_MS
  ⟨0x3200, 1, 1, 0x0B, 0x0B, .u8, .ro, 7, 0, .num 0, false, .any, 0⟩,  -- LINE_STATE
  ⟨0x3201, 1, 1, 0x01, 0x01, .u16, .rw, 7, 6, .num 0, true, .any, 0⟩,  -- TX_ANGLE
  ⟨0x3201, 1, 1, 0x02, 0x02, .u16, .rw, 7, 6, .num 32767, true, .span (1) (32767), 0⟩,  -- TX_SPAN
  ⟨0x3201, 1, 1, 0x03, 0x03, .u8, .ro, 7, 0, .num 255, false, .any, 0⟩  -- TX_SLOT
  ]

/-- Entries 3208 to 3220. -/
def odRows31 : List OdRow := [
  ⟨0x3208, 8, 1, 0x01, 0x01, .u16, .rw, 7, 4, .num 0, true, .any, 0⟩,  -- NOTCH_LOW_KHZ
  ⟨0x3208, 8, 1, 0x02, 0x02, .u16, .rw, 7, 4, .num 0, true, .any, 0⟩,  -- NOTCH_HIGH_KHZ
  ⟨0x3210, 1, 1, 0x01, 0x06, .octets, .ro, 7, 0, .zeros 36, false, .any, 0⟩,  -- NOISE
  ⟨0x3220, 1, 1, 0x01, 0x01, .u32, .ro, 7, 0, .num 0, false, .any, 0⟩,  -- TX_SENT
  ⟨0x3220, 1, 1, 0x02, 0x02, .u32, .ro, 7, 0, .num 0, false, .any, 0⟩,  -- RX_FRAMES
  ⟨0x3220, 1, 1, 0x03, 0x03, .u32, .ro, 7, 0, .num 0, false, .any, 0⟩,  -- RX_HEADER
  ⟨0x3220, 1, 1, 0x04, 0x04, .u32, .ro, 7, 0, .num 0, false, .any, 0⟩,  -- RX_CRC
  ⟨0x3220, 1, 1, 0x05, 0x05, .u32, .ro, 7, 0, .num 0, false, .any, 0⟩,  -- TX_DEADLINE
  ⟨0x3220, 1, 1, 0x06, 0x06, .u32, .ro, 7, 0, .num 0, false, .any, 0⟩,  -- TX_NO_LINE
  ⟨0x3220, 1, 1, 0x07, 0x07, .u32, .ro, 7, 0, .num 0, false, .any, 0⟩,  -- TX_LOCKED
  ⟨0x3220, 1, 1, 0x08, 0x08, .u32, .ro, 7, 0, .num 0, false, .any, 0⟩,  -- TX_ABORTED
  ⟨0x3220, 1, 1, 0x09, 0x09, .u32, .ro, 7, 0, .num 0, false, .any, 0⟩,  -- NULL_SLOTS
  ⟨0x3220, 1, 1, 0x0A, 0x0A, .u32, .ro, 7, 0, .num 0, false, .any, 0⟩,  -- MAP_UNKNOWN
  ⟨0x3220, 1, 1, 0x0B, 0x0B, .u32, .ro, 7, 0, .num 0, false, .any, 0⟩,  -- TRUNCATED
  ⟨0x3220, 1, 1, 0x0C, 0x0C, .u32, .ro, 7, 0, .num 0, false, .any, 0⟩,  -- RX_LOST
  ⟨0x3220, 1, 1, 0x0D, 0x0D, .u32, .ro, 7, 0, .num 0, false, .any, 0⟩,  -- REPORTS_SENT
  ⟨0x3220, 1, 1, 0x0E, 0x0E, .u32, .ro, 7, 0, .num 0, false, .any, 0⟩,  -- REPORTS_RECEIVED
  ⟨0x3220, 1, 1, 0x0F, 0x0F, .u32, .ro, 7, 0, .num 0, false, .any, 0⟩  -- TX_BLANKED
  ]

/-- Entries 3240 to 3401. -/
def odRows32 : List OdRow := [
  ⟨0x3240, 64, 1, 0x01, 0x01, .octets, .ro, 7, 0, .zeros 0, false, .any, 0⟩,  -- TX_MAPS
  ⟨0x3240, 64, 1, 0x02, 0x02, .u8, .ro, 7, 0, .num 0, false, .any, 0⟩,  -- TX_MAP_ID
  ⟨0x3240, 64, 1, 0x03, 0x03, .u16, .ro, 7, 0, .num 0, false, .any, 0⟩,  -- TX_OFFSET
  ⟨0x3240, 64, 1, 0x04, 0x04, .u16, .ro, 7, 0, .num 65535, false, .any, 0⟩,  -- TX_MAP_AGE_S
  ⟨0x3240, 64, 1, 0x05, 0x05, .octets, .ro, 7, 0, .zeros 0, false, .any, 0⟩,  -- RX_MAPS
  ⟨0x3240, 64, 1, 0x06, 0x06, .u8, .ro, 7, 0, .num 0, false, .any, 0⟩,  -- RX_MAP_ID
  ⟨0x3240, 64, 1, 0x07, 0x07, .octets, .ro, 7, 0, .zeros 36, false, .any, 0⟩,  -- SIGNAL
  ⟨0x3400, 1, 1, 0x01, 0x01, .bool, .rw, 7, 4, .num 1, true, .span 0 1, 0⟩,  -- ST_ENABLE
  ⟨0x3400, 1, 1, 0x02, 0x02, .u16, .rw, 7, 6, .num 1000, true, .span (100) (60000), 0⟩,  -- SLICE_PERIOD_MS
  ⟨0x3400, 1, 1, 0x03, 0x03, .u16, .rw, 7, 6, .num 4096, true, .any, 0⟩,  -- ST_ANGLE
  ⟨0x3400, 1, 1, 0x04, 0x04, .u8, .rw, 7, 6, .num 16, true, .span (4) (64), 0⟩,  -- STARVE_LIMIT
  ⟨0x3400, 1, 1, 0x05, 0x05, .u16, .ro, 7, 0, .num 0, false, .any, 0⟩,  -- SEQ_POS
  ⟨0x3400, 1, 1, 0x06, 0x06, .u32, .ro, 7, 0, .num 0, false, .any, 0⟩,  -- CYCLES
  ⟨0x3401, 1, 1, 0x01, 0x01, .u32, .ro, 7, 0, .num 0, false, .any, 0⟩,  -- SLICES
  ⟨0x3401, 1, 1, 0x02, 0x02, .u32, .ro, 7, 0, .num 0, false, .any, 0⟩,  -- PREEMPTED
  ⟨0x3401, 1, 1, 0x03, 0x03, .u32, .ro, 7, 0, .num 0, false, .any, 0⟩,  -- ESCALATED
  ⟨0x3401, 1, 1, 0x04, 0x04, .u32, .ro, 7, 0, .num 0, false, .any, 0⟩,  -- STARVED
  ⟨0x3401, 1, 1, 0x05, 0x05, .u32, .ro, 7, 0, .num 0, true, .any, 0⟩,  -- FINDINGS
  ⟨0x3401, 1, 1, 0x06, 0x06, .u32, .ro, 7, 0, .num 0, true, .any, 0⟩,  -- REPAIRS
  ⟨0x3401, 1, 1, 0x07, 0x07, .u32, .ro, 7, 0, .num 0, false, .any, 0⟩,  -- ECC_CORRECTED
  ⟨0x3401, 1, 1, 0x08, 0x08, .u32, .ro, 7, 0, .num 0, true, .any, 0⟩  -- ECC_UNCORRECTED
  ]

/-- Entries 3410 to 3510. -/
def odRows33 : List OdRow := [
  ⟨0x3410, 11, 1, 0x01, 0x01, .u8, .ro, 7, 0, .num 0, false, .any, 0⟩,  -- CONSEC_PREEMPT
  ⟨0x3410, 11, 1, 0x02, 0x02, .u8, .ro, 7, 0, .num 0, false, .any, 0⟩,  -- GROUP_STATE
  ⟨0x3410, 11, 1, 0x03, 0x03, .u16, .ro, 7, 0, .num 0, true, .any, 0⟩,  -- SPARES_USED
  ⟨0x3410, 11, 1, 0x04, 0x04, .u16, .const, 7, 0, .byIndex spareTotals, true, .any, 0⟩,  -- SPARES_TOTAL
  ⟨0x3420, 1, 1, 0x01, 0x10, .octets, .ro, 7, 0, .zeros 24, true, .any, 0⟩,  -- FINDING
  ⟨0x3500, 1, 1, 0x01, 0x01, .u16, .rw, 7, 6, .num 0, false, .any, 0x3FF⟩,  -- CAL_REQUEST
  ⟨0x3500, 1, 1, 0x02, 0x02, .u16, .rw, 7, 6, .num 80, true, .span (40) (200), 0⟩,  -- CAL_DELTA
  ⟨0x3500, 1, 1, 0x03, 0x03, .u16, .rw, 7, 6, .num 600, true, .span (10) (3600), 0⟩,  -- CAL_DEFER_MAX_S
  ⟨0x3500, 1, 1, 0x04, 0x04, .u16, .rw, 7, 6, .num 24576, true, .any, 0⟩,  -- CAL_ANGLE
  ⟨0x3500, 1, 1, 0x05, 0x05, .u16, .rw, 7, 6, .num 3750, true, .span (3200) (8000), 0⟩,  -- CAL_SPAN
  ⟨0x3500, 1, 1, 0x06, 0x06, .u8, .ro, 7, 0, .num 255, false, .any, 0⟩,  -- CAL_SLOT
  ⟨0x3501, 1, 1, 0x01, 0x06, .i16, .ro, 7, 0, .num 0, false, .any, 0⟩,  -- DIE_T
  ⟨0x3502, 1, 1, 0x01, 0x06, .bool, .ro, 7, 0, .num 1, false, .span 0 1, 0⟩,  -- SENSOR_OK
  ⟨0x3510, 10, 1, 0x01, 0x01, .u32, .ro, 7, 0, .num 0, true, .any, 0⟩,  -- LAST_CAL_S
  ⟨0x3510, 10, 1, 0x02, 0x02, .i16, .ro, 7, 0, .num 0, true, .any, 0⟩,  -- LAST_CAL_T
  ⟨0x3510, 10, 1, 0x03, 0x03, .u8, .ro, 7, 0, .num 0, false, .any, 0⟩,  -- CAL_RESULT
  ⟨0x3510, 10, 1, 0x04, 0x04, .u32, .ro, 7, 0, .num 0, true, .any, 0⟩,  -- CAL_COUNT
  ⟨0x3510, 10, 1, 0x05, 0x05, .octets, .ro, 7, 0, .zeros 8, true, .any, 0⟩  -- OFFSET
  ]

/-- Entries 3600 to 3710. -/
def odRows34 : List OdRow := [
  ⟨0x3600, 1, 1, 0x01, 0x03, .u32, .rw, 7, 7, .num 0, false, .any, 0⟩,  -- PENDING
  ⟨0x3601, 1, 1, 0x01, 0x03, .u32, .rw, 7, 7, .num 0, false, .any, 0⟩,  -- ENABLE
  ⟨0x3602, 1, 1, 0x01, 0x04, .u8, .rw, 7, 6, .num 1, true, .any, 0xF⟩,  -- LINE_MODE
  ⟨0x3603, 1, 1, 0x01, 0x04, .u16, .rw, 7, 6, .num 10, true, .span (1) (1000), 0⟩,  -- PULSE_US
  ⟨0x3610, 1, 1, 0x01, 0x60, .u8, .rw, 7, 7, .num 1, false, .any, 0xF⟩,  -- ROUTE
  ⟨0x3620, 1, 1, 0x01, 0x60, .u32, .ro, 7, 0, .num 0, false, .any, 0⟩,  -- COUNT
  ⟨0x3630, 1, 1, 0x01, 0x60, .u64, .ro, 7, 0, .num 0, false, .any, 0⟩,  -- LAST_TB
  ⟨0x3700, 16, 1, 0x01, 0x01, .u8, .rw, 7, 6, .num 0, true, .span (0) (2), 0⟩,  -- DIR
  ⟨0x3700, 16, 1, 0x02, 0x02, .u8, .rw, 7, 6, .num 0, true, .span (0) (2), 0⟩,  -- PULL
  ⟨0x3700, 16, 1, 0x03, 0x03, .bool, .rw, 7, 6, .num 0, true, .span 0 1, 0⟩,  -- INIT
  ⟨0x3700, 16, 1, 0x04, 0x04, .bool, .rw, 7, 7, .num 0, false, .span 0 1, 0⟩,  -- OUT
  ⟨0x3700, 16, 1, 0x05, 0x05, .bool, .ro, 7, 0, .num 0, false, .span 0 1, 0⟩,  -- IN
  ⟨0x3700, 16, 1, 0x06, 0x06, .u16, .ro, 7, 0, .num 0, false, .any, 0⟩,  -- PULSE_LEFT_MS
  ⟨0x3710, 1, 1, 0x01, 0x01, .u16, .ro, 7, 0, .num 0, false, .any, 0⟩,  -- GP_IN
  ⟨0x3710, 1, 1, 0x02, 0x02, .u16, .rw, 7, 7, .num 0, false, .any, 0⟩  -- GP_OUT
  ]

/-- Entries 3800 to 3801. -/
def odRows35 : List OdRow := [
  ⟨0x3800, 1, 1, 0x01, 0x01, .u8, .rw, 7, 6, .num 1, true, .span (0) (2), 0⟩,  -- STANDBY_TARGET
  ⟨0x3800, 1, 1, 0x02, 0x02, .u16, .rw, 7, 6, .num 2000, true, .span (100) (60000), 0⟩,  -- IDLE_MS
  ⟨0x3800, 1, 1, 0x03, 0x03, .u8, .rw, 7, 6, .num 0, false, .span (0) (1), 0⟩,  -- SLEEP_CMD
  ⟨0x3800, 1, 1, 0x04, 0x04, .u8, .rw, 7, 6, .num 1, true, .any, 0x3⟩,  -- SLEEP_WAKE
  ⟨0x3800, 1, 1, 0x05, 0x05, .u32, .rw, 7, 6, .num 0, true, .alt 0 1 16777215, 0⟩,  -- SLEEP_MAX_S
  ⟨0x3800, 1, 1, 0x06, 0x06, .u8, .rw, 7, 6, .num 2, true, .span (1) (3), 0⟩,  -- WAKE_EDGE
  ⟨0x3801, 1, 1, 0x01, 0x01, .u8, .ro, 7, 0, .num 0, false, .any, 0⟩,  -- RESET_CAUSE
  ⟨0x3801, 1, 1, 0x02, 0x02, .u8, .ro, 7, 0, .num 1, false, .any, 0⟩,  -- BOOT_TRIES
  ⟨0x3801, 1, 1, 0x03, 0x03, .u16, .ro, 7, 0, .num 0, false, .any, 0⟩,  -- READY_MS
  ⟨0x3801, 1, 1, 0x04, 0x04, .u16, .ro, 7, 0, .num 0, false, .any, 0⟩,  -- STORE_WAIT_MS
  ⟨0x3801, 1, 1, 0x05, 0x05, .u32, .ro, 7, 0, .num 0, false, .any, 0⟩,  -- STANDBY_ENTRIES
  ⟨0x3801, 1, 1, 0x06, 0x06, .u32, .ro, 7, 0, .num 0, false, .any, 0⟩,  -- SLEEP_ENTRIES
  ⟨0x3801, 1, 1, 0x07, 0x07, .u32, .ro, 7, 0, .num 0, false, .any, 0⟩,  -- SLEEP_REFUSALS
  ⟨0x3801, 1, 1, 0x08, 0x08, .u8, .ro, 7, 0, .num 0, false, .any, 0⟩  -- LAST_WAKE
  ]

/-- Entries 3802 to 8000. -/
def odRows36 : List OdRow := [
  ⟨0x3802, 1, 1, 0x01, 0x01, .u32, .wo, 0, 6, .num 0, false, .oneOf [0x5E7A_1C0D], 0⟩,  -- SOFT_RESET
  ⟨0x3802, 1, 1, 0x02, 0x02, .u16, .rw, 7, 4, .num 500, true, .span (50) (10000), 0⟩,  -- WATCHDOG_MS
  ⟨0x3803, 1, 1, 0x01, 0x01, .u32, .wo, 0, 6, .num 0, false, .any, 0⟩,  -- RESTORE_DEFAULTS
  ⟨0x6000, 8192, 1, 0x01, 0x02, .octets, .rw, 7, 7, .zeros 16, true, .len 16 16 1, 0⟩,  -- MATCH_SLOT (R198)
  ⟨0x8000, 1024, 1, 0x01, 0x01, .bool, .rw, 7, 6, .num 0, true, .span 0 1, 0⟩,  -- ENABLE
  ⟨0x8000, 1024, 1, 0x02, 0x02, .u16, .rw, 7, 6, .num 0, true, .any, 0⟩,  -- TRIGGER
  ⟨0x8000, 1024, 1, 0x03, 0x03, .u16, .rw, 7, 6, .num 65535, true, .any, 0⟩,  -- ZONE_MASK
  ⟨0x8000, 1024, 1, 0x04, 0x04, .u16, .rw, 7, 6, .num 65535, true, .any, 0⟩,  -- CLASS_MASK
  ⟨0x8000, 1024, 1, 0x05, 0x05, .u8, .rw, 7, 6, .num 2, true, .any, 0xF⟩,  -- VERDICT_MASK
  ⟨0x8000, 1024, 1, 0x06, 0x06, .u16, .rw, 7, 6, .num 0, true, .any, 0x1FF⟩,  -- GROUP_TEST
  ⟨0x8000, 1024, 1, 0x07, 0x07, .u8, .rw, 7, 6, .num 0, true, .any, 0xF⟩,  -- ACTION_BITS
  ⟨0x8000, 1024, 1, 0x08, 0x08, .u32, .rw, 7, 6, .num 0, true, .any, 0xFFFFFF⟩,  -- COND_OBJ
  ⟨0x8000, 1024, 1, 0x09, 0x09, .u8, .rw, 7, 6, .num 0, true, .span (0) (5), 0⟩,  -- COND_OP
  ⟨0x8000, 1024, 1, 0x0A, 0x0A, .u32, .rw, 7, 6, .num 0, true, .any, 0⟩,  -- COND_VAL
  ⟨0x8000, 1024, 1, 0x0B, 0x0B, .u8, .rw, 7, 6, .num 0, true, .span (0) (6), 0⟩,  -- ACTION
  ⟨0x8000, 1024, 1, 0x0C, 0x0C, .u32, .rw, 7, 6, .num 0, true, .any, 0⟩,  -- ACTION_ARG
  ⟨0x8000, 1024, 1, 0x0D, 0x0D, .u32, .rw, 7, 6, .num 0, true, .any, 0⟩,  -- ACTION_VAL
  ⟨0x8000, 1024, 1, 0x0E, 0x0E, .u8, .rw, 7, 6, .num 0, true, .any, 0x3⟩,  -- FLAGS
  ⟨0x8000, 1024, 1, 0x0F, 0x0F, .u32, .ro, 7, 0, .num 0, false, .any, 0⟩  -- FIRED
  ]

/-- Entries 8400 to 8400. -/
def odRows37 : List OdRow := [
  ⟨0x8400, 256, 1, 0x01, 0x01, .octets, .rw, 7, 6, .zeros 0, true, .len 0 96 12, 0⟩,  -- STEPS
  ⟨0x8400, 256, 1, 0x02, 0x02, .bool, .ro, 7, 0, .num 0, false, .span 0 1, 0⟩,  -- RUNNING
  ⟨0x8400, 256, 1, 0x03, 0x03, .u8, .ro, 7, 0, .num 0, false, .any, 0⟩,  -- STEP_NOW
  ⟨0x8400, 256, 1, 0x04, 0x04, .u32, .ro, 7, 0, .num 0, false, .any, 0⟩  -- RECALLS
  ]

/-- Every entry of the dictionary, in index order. -/
def odRows : List OdRow :=
  odRows0 ++ odRows1 ++ odRows2 ++ odRows3 ++ odRows4 ++ odRows5 ++ odRows6 ++ odRows7 ++ odRows8 ++ odRows9 ++ odRows10 ++ odRows11 ++ odRows12 ++ odRows13 ++ odRows14 ++ odRows15 ++ odRows16 ++ odRows17 ++ odRows18 ++ odRows19 ++ odRows20 ++ odRows21 ++ odRows22 ++ odRows23 ++ odRows24 ++ odRows25 ++ odRows26 ++ odRows27 ++ odRows28 ++ odRows29 ++ odRows30 ++ odRows31 ++ odRows32 ++ odRows33 ++ odRows34 ++ odRows35 ++ odRows36 ++ odRows37

/-- The rows that can hold an index: the part of the table it falls in. -/
def odRowsAt (index : Nat) : List OdRow :=
  if index < 0x1011 then odRows0 else
  if index < 0x1100 then odRows1 else
  if index < 0x1812 then odRows2 else
  if index < 0x1902 then odRows3 else
  if index < 0x1A40 then odRows4 else
  if index < 0x2001 then odRows5 else
  if index < 0x2011 then odRows6 else
  if index < 0x2110 then odRows7 else
  if index < 0x2160 then odRows8 else
  if index < 0x2280 then odRows9 else
  if index < 0x2300 then odRows10 else
  if index < 0x2341 then odRows11 else
  if index < 0x2360 then odRows12 else
  if index < 0x2371 then odRows13 else
  if index < 0x2410 then odRows14 else
  if index < 0x2500 then odRows15 else
  if index < 0x2501 then odRows16 else
  if index < 0x2560 then odRows17 else
  if index < 0x2600 then odRows18 else
  if index < 0x2610 then odRows19 else
  if index < 0x2700 then odRows20 else
  if index < 0x2720 then odRows21 else
  if index < 0x2800 then odRows22 else
  if index < 0x2880 then odRows23 else
  if index < 0x2A00 then odRows24 else
  if index < 0x2A30 then odRows25 else
  if index < 0x3001 then odRows26 else
  if index < 0x3100 then odRows27 else
  if index < 0x3110 then odRows28 else
  if index < 0x3200 then odRows29 else
  if index < 0x3208 then odRows30 else
  if index < 0x3240 then odRows31 else
  if index < 0x3410 then odRows32 else
  if index < 0x3600 then odRows33 else
  if index < 0x3800 then odRows34 else
  if index < 0x3802 then odRows35 else
  if index < 0x8400 then odRows36 else
  odRows37

end Sys2Proof.Machine
end

