-- ==== Sys2Proof/Machine/OdStore.lean ====
section
/-!
DEFINITION. The dictionary's stored values: a list of (key, value) pairs, keys strictly rising, no pair holding the
entry's default. A key is index * 256 + subindex, so OD 2101/04 is written 0x2101_04. Read, write, the canonical form,
and the descriptor of an entry.
-/

namespace Sys2Proof.Machine

open Sys2Proof

/-- The row covers this index. -/
def OdRow.hasIndex (r : OdRow) (index : Nat) : Bool :=
  decide (r.base ≤ index) && decide ((index - r.base) % r.stride = 0) && decide ((index - r.base) / r.stride < r.count)

/-- The row covers this key. -/
def OdRow.covers (r : OdRow) (k : Nat) : Bool :=
  r.hasIndex (k / 256) && decide (r.lo ≤ k % 256) && decide (k % 256 ≤ r.hi)

/-- The descriptor of an entry (R322); none where no entry stands. -/
def odRow? (k : Nat) : Option OdRow := (odRowsAt (k / 256)).find? (·.covers k)

/-- Some entry stands at this index (R322). -/
def odHasIndex (index : Nat) : Bool :=
  (odRowsAt index).any (·.hasIndex index)

/-- Subindex 00 of an index: the highest subindex in use (R322). -/
def odHighestSub (index : Nat) : Nat :=
  ((odRowsAt index).filter (·.hasIndex index)).foldl (fun m r => max m r.hi) 0

/-- n zero octets. -/
def zeroBytes (n : Nat) : List Byte := List.replicate n 0

/-- b cut or filled up with zeros to n octets. -/
def padded (n : Nat) (b : List Byte) : List Byte := (b ++ zeroBytes n).take n

/-- Uacen's manufacturer code (OD 2700/02). -/
def mfgCode : Byte := BitVec.ofInt 8 (Config.manufacture 0x2700_02).int

/-- SERIAL: up to 32 bytes (OD 1000/03). -/
def serialText : List Byte := (Config.manufacture 0x1000_03).octets.take 32

/-- ID_PUBKEY: 32 bytes (OD 1A00/01). -/
def identityKey : List Byte := padded 32 (Config.manufacture 0x1A00_01).octets

/-- The coefficients of FIR set s as shipped (Table 3-4). -/
def factoryFir (s : Nat) : List Byte := if s = 7 then [0x00, 0x40] ++ zeroBytes 62 else padded 64 (Config.firFactory s)

/-- The modes of OD 22p4 whose Default is factory set s (Table 3-10). -/
def factoryModes (s : Nat) : List Nat :=
  (([0, 1, 1, 2, 3, 3, 4, 4, 5, 5, 6, 6] : List Nat).zipIdx.filter fun x => x.1 = s).map fun x => x.2 + 1

/-- The default mask (Table 3-5): the Default of OD 22A0/01. -/
def factoryMask : List Byte :=
  match (odRowsAt 0x22A0).find? (·.covers 0x22A0_01) with
  | some ⟨_, _, _, _, _, _, _, _, _, .oct b, _, _, _⟩ => b
  | _ => []

/-- FIR_DELAY and FIR_MARGIN of a factory set as shipped: those of its coefficients under the default mask in its default modes;
nothing for an empty set or one mapped to no mode (R51, R52; log 41). -/
def firShipped (s sub : Nat) : Int :=
  if 7 < s then 0
  else if sub = 3 then (Config.firDelay (factoryFir s) % 65536 : Nat)
  else match factoryModes s with
    | [] => 0
    | m :: ms =>
      let w := ms.foldl (fun (w : Int) n => min w (Config.firMargin (factoryFir s) factoryMask n)) (Config.firMargin (factoryFir s) factoryMask m)
      if w < -32768 then -32768 else if 32767 < w then 32767 else w

/-- The constants of manufacture in the widths and layouts the spec gives them: TAG_UID is 0xE0, the manufacturer code and six
bytes of the module's (Table 8-1); ID_CERT is the public key, SERIAL and a signature (OD 1A00/02). -/
def manufactured (k : Nat) : Val :=
  if k = 0x1000_03 then .oct serialText
  else if k = 0x1000_04 then .num (BitVec.ofInt 16 (Config.manufacture k).int).toNat
  else if k = 0x1A00_01 then .oct identityKey
  else if 0x2290 ≤ k / 256 ∧ k / 256 < 0x22A0 then .num (firShipped (k / 256 - 0x2290) (k % 256))
  else if k = 0x1A00_02 then .oct (identityKey ++ padded 32 serialText ++ padded 64 (Config.manufacture k).octets)
  else if k = 0x2700_01 then .oct (0xE0 :: mfgCode :: padded 6 (Config.manufacture k).octets)
  else .num mfgCode.toNat

/-- The default of the entry at key k, from its row. -/
def OdRow.defaultAt (r : OdRow) (k : Nat) : Val :=
  match r.dflt with
  | .num i => .num i
  | .zeros n => .oct (zeroBytes n)
  | .oct b => .oct b
  | .text t => .oct (t.toList.map fun c => BitVec.ofNat 8 c.toNat)
  | .byIndex vs => .num (vs.getD ((k / 256 - r.base) / r.stride) 0)
  | .firFactory => .oct (factoryFir (k / 256 - 0x2290))
  | .config => manufactured k

/-- What an unlisted key reads as: the Default column (R326); a key with no entry reads as 0. -/
def odDefault (k : Nat) : Val :=
  match odRow? k with
  | some r => r.defaultAt k
  | none => .num 0

/-- The stored pairs of the dictionary. -/
abbrev OdStore := List (Nat × Val)

/-- The pair stored under a key. -/
def OdStore.find (m : OdStore) (k : Nat) : Option Val :=
  match m with
  | [] => none
  | (k', v) :: rest => if k' = k then some v else OdStore.find rest k

/-- Read one entry: its stored value, or its default. -/
def OdStore.get (m : OdStore) (k : Nat) : Val := (OdStore.find m k).getD (odDefault k)

/-- Remove a key. -/
def OdStore.erase (m : OdStore) (k : Nat) : OdStore :=
  match m with
  | [] => []
  | (k', v) :: rest => if k' = k then OdStore.erase rest k else (k', v) :: OdStore.erase rest k

/-- Insert a pair in key order, replacing the key's pair. -/
def OdStore.insert (m : OdStore) (k : Nat) (v : Val) : OdStore :=
  match m with
  | [] => [(k, v)]
  | (k', v') :: rest =>
    if k' < k then (k', v') :: OdStore.insert rest k v
    else if k' = k then (k, v) :: rest
    else (k, v) :: (k', v') :: rest

/-- Write one entry; a value equal to the default is not listed. -/
def OdStore.put (m : OdStore) (k : Nat) (v : Val) : OdStore :=
  if v = odDefault k then OdStore.erase m k else OdStore.insert m k v

/-- Keys strictly rise from above `lo` and no pair holds its entry's default. -/
def OdStore.wfFrom (lo : Nat) (m : OdStore) : Bool :=
  match m with
  | [] => true
  | (k, v) :: rest => decide (lo ≤ k) && decide (v ≠ odDefault k) && OdStore.wfFrom (k + 1) rest

/-- The canonical form of the dictionary's store. -/
def OdStore.wf (m : OdStore) : Bool := OdStore.wfFrom 0 m

/-- The store in canonical form: itself where it already is, else its pairs written one by one. -/
def OdStore.canon (m : OdStore) : OdStore := if m.wf then m else m.foldr (fun kv acc => acc.put kv.1 kv.2) []

/-- FIR_DELAY and FIR_MARGIN: figures of coefficients, mask and mappings, which are stored (OD 2290+s/03 and 04). -/
def firFigure (k : Nat) : Bool := 0x2290 ≤ k / 256 && decide (k / 256 < 0x22A0) && (k % 256 = 3 || k % 256 = 4)

/-- The volatile entries take their defaults (R326): only stored entries, and what follows from them, stay listed. -/
def OdStore.dropVolatile (m : OdStore) : OdStore :=
  m.filter fun kv => match odRow? kv.1 with
    | some r => r.stored || firFigure kv.1
    | none => false

end Sys2Proof.Machine
end

