-- ==== Sys2Proof/Machine/State.lean ====
section
/-!
DEFINITION. The state of the UX8640 block: plain data. What has a dictionary entry and no state machine of its own is
held in `od`, the dictionary's store; state machines, queues, timers and what the manual only implies stand in fields of
their own, one structure per chapter.
-/

namespace Sys2Proof.Machine

open Sys2Proof

/-! ### Faults and refusals -/

/-- Why the block stops. No meaning raises it: every row of the command table has an effect in every state
(log 1). Safe: it only stops. -/
inductive Fault where
  /-- A command outside the block's interface. Raised by no meaning. Safe. -/
  | unreachable
deriving DecidableEq, Repr

/-- Why a command is refused. -/
inductive Refusal where
  /-- A command of the table that has no meaning yet; raised only by an arm of `exec`. Safe: the model stops there. -/
  | notModelled (mnemonic : String)
deriving DecidableEq, Repr

/-! ### Access (chapters 16 and 17) -/

/-- The access status codes of Table 16-3. -/
inductive Status where
  | ok | busy | noEntry | noSubindex | readDenied | writeDenied | type | range | state | tooLong | auth | timeout
  | noPath | noNode | aborted
deriving DecidableEq, Repr, Inhabited

/-! ### Events and interrupt lines (chapter 20) -/

/-- A line in pulse mode: at rest, giving its active pulse, or in the 1 µs between a pulse and an owed one (R417). -/
inductive LinePhase where
  | idle | pulse | gap
deriving DecidableEq, Repr, Inhabited

/-- One IRQ line: its phase, when the phase began, whether one more pulse is owed (R417), and the LINE_MODE that a pulse in
progress completes with (R416). -/
structure LineSt where
  phase : LinePhase := .idle
  t0 : Nat := 0
  owed : Bool := false
  mode : Nat := 0
deriving DecidableEq, Repr, Inhabited

/-! ### Rule triggers (chapter 9) -/

/-- A verdict of the match engine: its code (Table 9-2), the slot and the entry's bits [47:0]. -/
structure Verdict where
  code : Nat := 0
  slot : Nat := 0x3FFF
  bits : BitVec 48 := 0
deriving DecidableEq, Repr, Inhabited

/-- A trigger waiting for the rule sequencer (Table 9-3, R200): its kind 1 to 7 and argument, the lane, event or pad that
orders it, its depth in causes (R202), its TB stamp, the zone it names, and the record and verdict that a NOTIFY sends. -/
structure Trigger where
  kind : Nat
  arg : Nat
  order : Nat
  level : Nat
  stamp : Nat
  zone : Option Nat
  ident : List Byte
  verdict : Verdict
deriving DecidableEq, Repr, Inhabited

/-! ### Time base (chapter 12) -/

/-- The time base and its counters. `ph` is the fabric clock's phase, 0 to 19: a TB tick every 10 fabric clocks and a bus
clock every 4 (Table 1-3). -/
structure TimeBase where
  tb : BitVec 48 := 0
  epoch : BitVec 16 := 0
  ph : Nat := 0
  /-- crystal cycles of the present powered second -/
  secTicks : Nat := 0
  /-- F, the 32-bit fractional accumulator of the make-up (R249) -/
  frac : BitVec 32 := 0
  /-- FW_TB_HI as latched for the SPI host and for the UART maker service (R241) -/
  hiSpi : Option (BitVec 32) := none
  hiUart : Option (BitVec 32) := none
  /-- the write tick W in which each compare channel was last armed (R245) -/
  cmpW : List Nat := List.replicate 16 0
  /-- bit n: a make-up crossed CMPn's VALUE and its next evaluation fires it (R250) -/
  cmpCrossed : BitVec 16 := 0
  /-- TB_EPOCH:TB as the last make-up left it -/
  upAt : Nat := 0
  /-- bit i: a written COUNT of LCi is loaded in the next bus clock, which does not count (R253) -/
  lcLoaded : BitVec 4 := 0
  /-- the prescaler counts of LC0 to LC3 (R253) -/
  lcPre : List Nat := List.replicate 4 0
  /-- the 40-bit slow counter of the present sleep (R249) -/
  slow : Nat := 0
  /-- capture channels that took an edge in this tick with FULL 0, each with its VALUE before (R248) -/
  capOld : List (Nat × Nat) := []
  /-- edges of this tick on channels with FULL 1, with their stamps: a read in the tick comes before them (R248) -/
  capHeld : List (Nat × Nat) := []
deriving DecidableEq, Repr, Inhabited

/-! ### Mains angle (chapter 2) -/

/-- Table 2-1. -/
inductive MaState where
  | freeRun | acquire | locked | holdover | outOfRange
deriving DecidableEq, Repr, Inhabited

/-- A span of angle: its first unit and its length. -/
structure Span where
  start : Nat := 0
  len : Nat := 0
deriving DecidableEq, Repr, Inhabited

/-- The running part of a burgee slot: the acting occurrence that is open (the MA value at its opening and its length),
the occurrences to pass before the next that acts, and the (cycle, half) last judged (R29, R33). -/
structure Burgee where
  openAt : Option Nat := none
  openLen : Nat := 0
  /-- its owner, and whether it is EXCLUSIVE: an open occurrence runs on the values that it opened with (R33) -/
  openOwner : Nat := 0
  openExcl : Bool := false
  skip : Nat := 0
  last : Option (Nat × Bool) := none
deriving DecidableEq, Repr, Inhabited

/-- The mains-angle block. The angle is acc * 65536 / maCycle, where one mains cycle is maCycle accumulator units and the
accumulator advances by `rate`, the angle's rate in µHz, at each crystal cycle (R18, R450; log 20). -/
structure Angle where
  state : MaState := .freeRun
  acc : Nat := 0
  cycle : BitVec 16 := 0
  rate : Nat := 50_000_000
  /-- the correction being spread over the present cycle: accumulator units per crystal cycle, and the cycles left -/
  moveRate : Int := 0
  moveLeft : Nat := 0
  /-- the crystal cycles that this correction is spread over, and those passed since it began -/
  moveLen : Nat := 0
  moveAge : Nat := 0
  /-- the rate before its last change, and the crystal cycles passed since that change -/
  ratePrev : Nat := 50_000_000
  rateAge : Nat := 0
  /-- the stamp of the last accepted positive crossing, corrected -/
  lastZc : Option Nat := none
  /-- FW_MA_ZC -/
  zcTb : BitVec 32 := 0
  /-- a crossing has been accepted since reset (R22) -/
  everZc : Bool := false
  /-- expected crossings missed since the last accepted one (R20, R449) -/
  missed : Nat := 0
  /-- runs of Table 2-1: crossings within 64, beyond 512, intervals outside 44-67 Hz and inside 45-66 Hz -/
  small : Nat := 0
  big : Nat := 0
  outside : Nat := 0
  inside : Nat := 0
  /-- the edge window of this angle 0x0000 has been judged; a crossing was accepted ahead of the next 0x0000 -/
  judged : Bool := true
  early : Bool := false
  /-- when the loop last entered ACQUIRE or accepted a crossing there -/
  acqT0 : Nat := 0
  stepped : Bool := false
  /-- OD 2110/02 as latched for each reader (R24) -/
  latch : List (Who × BitVec 16) := []
  /-- the blanking windows in force, and the remainders of windows that ran across the last 0x0000 (R27) -/
  blank : List Span := List.replicate 8 {}
  carry : List Nat := List.replicate 8 0
  /-- cycles accumulated by the present learning pass (R25) -/
  learned : Nat := 0
  /-- the measurements of conducted noise that serve it, newest first: the bin of each and its levels (R25, R113, R317) -/
  heard : List (Nat × List Nat) := []
  burgee : List Burgee := List.replicate 32 {}
  /-- the level of MA_SYNC_OUT as driven, and when its pulse began (R34) -/
  sync : Bool := false
  syncPulse : Option Nat := none
deriving DecidableEq, Repr, Inhabited

/-! ### Field ports (chapter 3) -/

/-- Table 3-1. -/
inductive PortState where
  | off | charging | rampUp | carrier | modulating | rampDown | fault
deriving DecidableEq, Repr, Inhabited

/-- What a component of a port is doing (R41, R42): ramping in, steady, or moving to its codes along a straight line. -/
inductive CompPhase where
  | rampIn | steady | moving
deriving DecidableEq, Repr, Inhabited

/-- One lane's component on a port (R40): its lane 0 to 3 (4 for the survey, 5 for a test), and the amplitude and phase codes that
it has or is on its way to. -/
structure Component where
  lane : Nat
  amp : Nat
  phase : Nat
  doing : CompPhase := .steady
  t0 : Nat := 0
  /-- the position on its ramp's profile at `t0`, in 1/65536 (R41) -/
  x0 : Nat := 0
  /-- where its straight line began, I and Q in 1/65536 of a code (R42) -/
  src : Int × Int := (0, 0)
  /-- TRANSITION_US as it set out with on that line (R42) -/
  span : Nat := 8
  /-- the codes that wait until Halyard grants their power (R42) -/
  next : Option (Nat × Nat) := none
  /-- when its use was withdrawn; until its own ramp out begins, with the end of a frame or not at all, it goes on with what it
  does (R41, R46) -/
  left : Option Nat := none
  /-- the drive word with which its own ramp out begins (R41) -/
  out : Option Nat := none
  /-- where and when its last ramp in began, which its FIR still spans (R41, R51) -/
  ramped : Option (Nat × Nat) := none
  /-- the FIR coefficients and the modulation index that its lane's last frame took; none before one (R50, R52) -/
  coef : List Byte := []
  index : Nat := 0
deriving DecidableEq, Repr, Inhabited

/-- One field port. `x0` is the ramp's position at `t0` in 1/65536 of the whole profile (R45); `bias0` is q at `t0` in quanta
(R44). -/
structure Port where
  state : PortState := .off
  t0 : Nat := 0
  /-- the state that is left, which shows until the drive-word boundary `seenAt` (R43) -/
  was : PortState := .off
  seenAt : Nat := 0
  bias0 : Nat := 0
  x0 : Nat := 0
  /-- when something on the port last came out of transition or modulation (R152) -/
  stirT0 : Nat := 0
  /-- the 2 µs emergency profile is in force (R47) -/
  emergency : Bool := false
  /-- RAMP_UP_US, RAMP_DOWN_US and RAMP_SHAPE as taken at the entry to CHARGING (R62) -/
  upUs : Nat := 16
  downUs : Nat := 16
  shape : Nat := 1
  /-- a survey drives the port alone, with its 10 µs raised-cosine ramps (R65) -/
  surveyRamp : Bool := false
  /-- PHASE_TRIM and AMP_TRIM as taken there (R38, R62) -/
  phaseTrim : Int := 0
  ampTrim : Int := 0
  /-- the factor that holds the phasor sum within A_lim, in 1/2^32, and the line on which it moves: from where, since when
  (R42, R55) -/
  clampTo : Nat := 4294967296
  clampFrom : Nat := 4294967296
  clampT0 : Nat := 0
  clampUs : Nat := 8
  comps : List Component := []
  /-- R45: the ramp up waits at its present amplitude for a grant; a ramp down toward a lower target keeps the amplitude code
  that its profile is scaled to -/
  hold : Bool := false
  downFrom : Option Nat := none
  /-- it stops at that lower target (R45) -/
  lower : Bool := false
  aLim : Nat := 0
  /-- the load was measured in the present run from OFF (R55) -/
  measured : Bool := false
  /-- the frames on air in MODULATING: lane, stamp of the last modulation edge, and mode (the subindex of OD 22p4) -/
  frames : List (Nat × Nat × Nat) := []
  /-- the fault that a ramp-down leads to (Table 3-6) -/
  faultNext : Option Nat := none
  /-- a non-immediate reduction of the grant waits for the frame's end (R56) -/
  cutAtEnd : Option Nat := none
  /-- consecutive 1 ms checks with the load beyond LOAD_WARN_PCT (R59), and when the last check ran -/
  deviant : Nat := 0
  checkT0 : Nat := 0
  hot : Bool := false
  /-- entry to FAULT, rechecks made on its schedule, consecutive passes, and the immediate series: its start and the
  rechecks made in it (R58) -/
  faultT0 : Nat := 0
  rechecks : Nat := 0
  /-- the last scheduled recheck, the entry to FAULT or the last write of RECHECK_S (R58) -/
  recheckT0 : Nat := 0
  passes : Nat := 0
  series : Option (Nat × Nat) := none
  testT0 : Nat := 0
  /-- frames in a row above the mask, for each of the twelve modes of OD 22p4 (R53) -/
  exceeds : List Nat := List.replicate 12 0
  /-- when the port began to wait for a grant -/
  waitT0 : Option Nat := none
  /-- the port is in a calibration outage (R87, R90) -/
  outage : Bool := false
deriving DecidableEq, Repr, Inhabited

/-- The FIR set under check, the coefficients it replaces, when the check began, and the mapping that waits on it. -/
structure FirCheck where
  set : Nat
  t0 : Nat
  coef : Option (List Byte) := none
  map : Option (Nat × Nat) := none
deriving DecidableEq, Repr, Inhabited

/-! ### Survey, pennants and lanes (chapter 4) -/

/-- Table 4-2. -/
inductive PennantState where
  | empty | valid | stale | degraded | failed
deriving DecidableEq, Repr, Inhabited

/-- A survey: none, one requested, one driving the ports (steps 1 to 4), or one solving, its ports in OFF (step 5). -/
inductive SurveyPhase where
  | idle | requested | driving | solving
deriving DecidableEq, Repr, Inhabited

/-- The survey and what it measured: Z and the drive-side admittance, 64 complex elements each, in µΩ and nS. `again` holds
a request made while one runs (R70). -/
structure Survey where
  phase : SurveyPhase := .idle
  t0 : Nat := 0
  /-- the rows of Table 4-1, step 3, run, and since when -/
  rows : Bool := false
  rowT0 : Nat := 0
  periodT0 : Nat := 0
  /-- the ports that drove, once step 4 has begun -/
  fell : Option (List Nat) := none
  again : Bool := false
  accepted : Bool := false
  z : List (Int × Int) := []
  yd : List (Int × Int) := []
deriving DecidableEq, Repr, Inhabited

/-- The running part of a pennant: its state (Table 4-2), and whether R72 has no solution. -/
structure Pennant where
  state : PennantState := .empty
  failed : Bool := false
deriving DecidableEq, Repr, Inhabited

/-- Teaching of a zone (R71): its start, the sum of the reply vectors, their number and the UID they came from. -/
structure Teach where
  t0 : Nat := 0
  sum : List (Int × Int) := []
  count : Nat := 0
  uid : List Byte := []
deriving DecidableEq, Repr, Inhabited

/-- Table 4-3. -/
inductive LaneState where
  | idle | opening | concurrent | interleaved | closing
deriving DecidableEq, Repr, Inhabited

/-- One lane. `marks` are the lanes that R82 marks with it and the clean replies still wanted of this one; `short` the lanes
of a pair whose figures fell below Table 4-4 (R79). -/
structure Lane where
  state : LaneState := .idle
  t0 : Nat := 0
  zone : Nat := 0xFF
  pennant : Nat := 0xFF
  live : Bool := false
  /-- the last 16 reply vectors, newest first, in 0.1 µV -/
  replies : List (List (Int × Int)) := []
  /-- the ports that took part in each of them (R103) -/
  took : List (List Nat) := []
  marks : List (Nat × Nat) := []
  short : List Nat := []
  demotedT0 : Nat := 0
  goodRun : Nat := 0
  /-- the components the lane changes to in its next gap between exchanges, and the pennant they belong to -/
  change : Option (Nat × List (Nat × Nat)) := none
  liveT0 : Nat := 0
  waitT0 : Option Nat := none
  /-- the open lane that changes its pennant before this lane's first frame (R78) -/
  swaps : Option Nat := none
  /-- the noise bandwidth of the exchange's mode in Hz (R84), and whether the next command, once queued, uses 100 % ASK -/
  bw : Nat := 105940
  nextAsk : Option Bool := none
  /-- the frame in progress was lost: the engine is told of a transmit abort (R47, R57) -/
  txAbort : Bool := false
  /-- the lane's last frame: its start and its bytes (R50) -/
  frameT0 : Nat := 0
  frame : List Byte := []
deriving DecidableEq, Repr, Inhabited

/-- A request for a lane: its zone, the lane a host poll asks for, and the 1 µs tick it came in (R77). -/
structure LaneRequest where
  zone : Nat
  lane : Option Nat
  t0 : Nat
  /-- the port whose Frond wake made it (R157) -/
  wake : Option Nat := none
deriving DecidableEq, Repr, Inhabited

/-! ### HF receive (chapter 5) -/

/-- CANCEL_STATE (OD 2400+p/01). -/
inductive CancelState where
  | off | acquire | track | hold | measure
deriving DecidableEq, Repr, Inhabited

/-- One receive path (chapter 5). -/
structure Rx where
  cancel : CancelState := .off
  /-- the canceller was not OFF at some moment of the present Halyard tick (Table 10-5) -/
  ticked : Bool := false
  /-- when the canceller entered its state -/
  t0 : Nat := 0
  /-- the gain step, and the highest gain that R96 allows since the last entry to ACQUIRE -/
  gain : Nat := 0
  allowed : Nat := 0
  /-- the carrier last predicted, in mV RMS (R94, R96) -/
  predicted : Nat := 0
  /-- consecutive failed acquisitions, the fault of R112 and the passing slices since -/
  failed : Nat := 0
  faulty : Bool := false
  passes : Nat := 0
  /-- the last overload or gain restoration; steps that wait for the exit from HOLD (R97, R98) -/
  overT0 : Nat := 0
  stepDown : Bool := false
  stepUp : Bool := false
  /-- OD 2410/01 to 2410/06 as in force on this port (R117) -/
  cfg : List Nat := [0, 1, 100, 90, 120, 160]
  /-- the last NOISE_ACTIVE measured at each gain step (R114) -/
  noiseAt : List (Option Nat) := List.replicate 5 none
  /-- idle measurements in a row above and below the alert level, and whether the alert stands (R115) -/
  high : Nat := 0
  low : Nat := 0
  alerted : Bool := false
deriving DecidableEq, Repr, Inhabited

/-! ### Radio (chapter 13) -/

/-- RADIO_STATE (OD 3000/01). -/
inductive RadioState where
  | sleep | standby | synth | rx | tx | cal
deriving DecidableEq, Repr, Inhabited

/-- A transition in progress (Table 13-1): its number, the state it leads to, when it began and how long it takes, in
quanta. `ramp` marks the PA ramp-down that opens transitions 6 and 7; `chan` is the channel that transitions 2 and 9 lock to;
`timed` marks a transition to TX for the held frame. -/
structure RadioMove where
  no : Nat
  dest : RadioState
  t0 : Nat
  dur : Nat
  ramp : Bool := false
  chan : Nat := 0
  timed : Bool := false
deriving DecidableEq, Repr, Inhabited

/-- A test emission (R281): its TEST_MODE, whether it is on the air and since when, the quanta that it was on the air before,
and the milliseconds charged since. -/
structure RadioTest where
  mode : Nat
  on : Bool := false
  t0 : Nat := 0
  spent : Nat := 0
  ms : Nat := 0
deriving DecidableEq, Repr, Inhabited

/-- A transmit frame taken from queue 5 (Table 13-3): its number, descriptor and PSDU; with its grant (R276, R296) its rate,
coding, power in 0.5 dB and range are fixed, and when that was. -/
structure RadioFrame where
  key : Nat
  psdu : List Byte
  timed : Bool := false
  start : Nat := 0
  late : Nat := 0
  ack : Bool := false
  channel : Nat := 0
  aerial : Nat := 0
  ret : Option Nat := none
  node : Nat := 0
  claimed : Bool := false
  granted : Option Nat := none
  rate : Nat := 0
  coding : Nat := 0
  power : Int := 0
deriving DecidableEq, Repr, Inhabited

/-- A reception in progress (R269, R271): since its preamble, the aerial in use and its RSSI in 0.1 dBm; the symbol-rate
offset of its preamble in 0.1 % (R294); and RETURN_AFTER_RX, CAPTURE_DB, SYNC_WORD, SYNC_TOL, TOLERANT and LDPC_ITER_MAX as
the frame found them (R283, R300). -/
structure RadioRx where
  t0 : Nat
  aerial : Nat
  rssi : Int
  rate : Int := 0
  ret : Nat := 3
  capture : Nat := 60
  sync : Nat := 0x7A0E93D5
  tol : Nat := 1
  tolerant : Bool := false
  iterMax : Nat := 24
deriving DecidableEq, Repr, Inhabited

/-- The radio. -/
structure Radio where
  state : RadioState := .sleep
  move : Option RadioMove := none
  /-- the channel that the synthesiser is locked to -/
  channel : Nat := 0
  /-- where the radio goes when no command needs it (R261) -/
  goal : RadioState := .sleep
  /-- the untimed frame in preparation, the timed frame that is held, and the frame on air with its start and its length in
  quanta -/
  cur : Option RadioFrame := none
  held : Option RadioFrame := none
  /-- the timed frames behind the held one, by their START (R262) -/
  later : List RadioFrame := []
  air : Option (RadioFrame × Nat × Nat) := none
  /-- the bits of the frame on air, in order, and the aerial they leave by -/
  bits : List Bool := []
  /-- its symbols in order, as deviations in Hz (R285) -/
  devs : List Int := []
  /-- RETURN_AFTER_TX as the frame on air found it (R283) -/
  airRet : Nat := 3
  aerial : Nat := 1
  /-- the PA holds its level during a ramp-down until more power is granted: the quanta that the reversal then takes -/
  reversal : Option Nat := none
  /-- that reversal is for the held frame -/
  revHeld : Bool := false
  rx : Option RadioRx := none
  /-- per node: the aerial of the last correct frame and its POWERED_S (R270) -/
  aerials : List (Option (Nat × Nat)) := List.replicate 64 none
  /-- per range: the 60 bins of charged time in thirds of a nanosecond, the present one first (R276), and event 76 given -/
  bins : List (List Nat) := List.replicate 8 (List.replicate 60 0)
  dutyGiven : BitVec 8 := 0
  /-- POWERED_S at the start of the present bin -/
  binS : Nat := 0
  /-- the bins and their POWERED_S as ferroelectric memory last held them, and that step 3 of the last shutdown wrote them
  (R276, R277) -/
  savedBins : List (List Nat) := List.replicate 8 (List.replicate 60 0)
  savedBinS : Nat := 0
  cleanSave : Bool := true
  /-- the last sniff wake, and the listen of a sniff in progress (R278) -/
  sniffT0 : Nat := 0
  sniff : Option Nat := none
  /-- time spent in RX since the last noise measurement, and when the present stay in RX began (R299) -/
  rxTime : Nat := 0
  rxT0 : Option Nat := none
  /-- time in RX without a preamble since the last one or the last noise measurement, and since when that goes on (R299) -/
  quiet : Nat := 0
  quietT0 : Option Nat := none
  /-- the last 16 measurements of each channel and aerial, newest first (R299) -/
  noise : List (List Int) := List.replicate 32 []
  /-- per node: POWERED_S at the switch to LDPC, and whether its next frame is the trial of R297 -/
  ldpcT0 : List (Option Nat) := List.replicate 64 none
  trial : BitVec 64 := 0
  /-- the test emission that TEST_MODE asks for (R281) -/
  test : Option RadioTest := none
  /-- a self-test finding pins reception to this aerial, or fails transmission on this one (R387) -/
  rxPin : Option Nat := none
  txBad : Option Nat := none
deriving DecidableEq, Repr, Inhabited

/-! ### Powerline (chapter 15) -/

/-- A powerline frame: its number, PSDU and descriptor (Table 15-6); a report carries TYPE 1 and no number. -/
structure PlFrame where
  key : Option Nat
  psdu : List Byte
  timed : Bool := false
  start : Nat := 0
  late : Nat := 0
  ack : Bool := false
  robust : Bool := false
  node : Nat := 0
  report : Bool := false
  claimed : Bool := false
deriving DecidableEq, Repr, Inhabited

/-- One cell of a powerline symbol: a notched or unloaded sub-carrier, a pilot's bit, or the bits of a data sub-carrier's Gray-coded
point, the most significant first (R303, R304). -/
inductive PlCell where
  | off
  | pilot (b : Bool)
  | data (bits : List Bool)
deriving DecidableEq, Repr, Inhabited

/-- A symbol of a powerline frame: SYNCP and its negative SYNCM, a header or payload symbol with its cells from the lowest
sub-carrier up, or a null slot, in which the line driver is idle (R303, R306). -/
inductive PlSymbol where
  | sync (phases : List (Option Nat)) | idle
  | cells (c : List PlCell)
deriving DecidableEq, Repr, Inhabited

/-- What the receiver keeps of a peer (R308, R309): the frames received from it, the preambles measured and the sums of their
levels on each sub-carrier, its last differences of angle, newest first, the previous set with its OFFSET, the current one's
OFFSET, when it was issued, whether a new set is asked for, and POWERED_S at the receipt of the set for sending to it. -/
structure PlPeer where
  frames : Nat := 0
  seen : Nat := 0
  sums : List Nat := []
  diffs : List Nat := []
  prev : Option (Nat × List Byte × Nat) := none
  offset : Nat := 0
  issuedT0 : Nat := 0
  asked : Bool := false
  takenS : Option Nat := none
deriving DecidableEq, Repr, Inhabited

/-- The powerline link. -/
structure Powerline where
  /-- the band last valid (R301) -/
  lastBand : Nat := 1
  cur : Option PlFrame := none
  held : Option PlFrame := none
  /-- the frame on the line: its start, its length in quanta, its MAP, its header and the loadings of its slots, none for a
  null slot -/
  air : Option (PlFrame × Nat × Nat) := none
  map : Nat := 0
  header : BitVec 64 := 0
  slots : List (Option (List Nat)) := []
  /-- its symbols in order -/
  symbols : List PlSymbol := []
  /-- the end of the last frame or detected preamble, and r of R315 as drawn for the frame that waits -/
  quietT0 : Nat := 0
  wait : Option Nat := none
  /-- a frame is being received: its preamble's stamp -/
  rx : Option Nat := none
  /-- reports that wait to be sent, the peers they go to -/
  reports : List Nat := []
  peers : List PlPeer := List.replicate 64 {}
  /-- the smoothed noise of each region and sub-carrier, in 1/4096 of 0.5 dB (R317) -/
  noise : List (List Nat) := List.replicate 6 []
  noiseT0 : Nat := 0
  /-- a calibration outage since, and a failed calibration or a finding keeps the transmitter off (R319, R387, R393) -/
  outage : Option Nat := none
  calFailed : Bool := false
  finding : Bool := false
deriving DecidableEq, Repr, Inhabited

/-! ### Dravlink (chapter 16) -/

/-- Where a copy of a message stands: the standby waits for its primary; a wake train runs with the WAKE frames left; the
frame is in its transmit queue; the acknowledgement is awaited; the random gap runs; it has ended. -/
inductive CopyStage where
  | standby
  | train (left : Nat)
  | queued | ackWait | gap | ended
deriving DecidableEq, Repr, Inhabited

/-- One copy of a message on a path (R340): the frames handed over, the bunting's number, the start and length of the stage in
quanta, whether a frame went on air, and whether the last one was coded convolutionally. -/
structure Copy where
  pl : Bool
  stage : CopyStage
  tries : Nat := 0
  key : Nat := 0
  t0 : Nat := 0
  dur : Nat := 0
  sent : Bool := false
  conv : Bool := false
deriving DecidableEq, Repr, Inhabited

/-- Where a message came from: queue 0 with its TAG, queue 2, queue 4, or a session's FW_OD_CMD. -/
inductive MsgSource where
  | host (tag : Nat)
  | rule
  | reply
  | access (x : Sess)
deriving DecidableEq, Repr, Inhabited

/-- What of OD 1010 a message was handed over under (R352): NODE, SEGMENT_ID, HEAD, LINK_RETRIES, RETRY_JITTER_MS, PATH_FAILS,
RF_ACK_TURN_US, PL_ACK_WAIT_MS and BCAST_REPEAT. -/
structure LinkSet where
  node : Nat := 0
  segment : Nat := 0
  head : Bool := false
  retries : Nat := 0
  jitter : Nat := 0
  pathFails : Nat := 1
  rfTurn : Nat := 0
  plWait : Nat := 0
  repeats : Nat := 0
deriving DecidableEq, Repr, Inhabited

/-- A message in flight: class, destination, SEQ, payload without AUTH filled, the key role of its AUTH, its timeout in ms,
its first hand-over, and the stamp that R342 counts from. -/
structure Msg where
  cls : Nat
  dst : Nat
  seq : Nat := 0
  payload : List Byte
  role : Role := .operator
  robust : Bool := false
  source : MsgSource
  tmo : Nat
  t0 : Nat := 0
  bound : Nat := 0
  resync : Bool := false
  /-- the standby copy starts only when the primary one has ended (R348) -/
  hangBack : Bool := false
  /-- the settings it was handed over under (R352) -/
  set : LinkSet := {}
  copies : List Copy := []
deriving DecidableEq, Repr, Inhabited

/-- A transaction (R346): its TID, node, role, timeout in ms, hand-over, where its result goes, and whether the message of the
request still waits for a place. -/
structure Txn where
  tid : Nat
  dst : Nat
  role : Role
  tmo : Nat
  t0 : Nat
  source : MsgSource
deriving DecidableEq, Repr, Inhabited

/-- What the receiver keeps of a peer (R339, R344): its map of SEQ values, bit i for H − i, whether it has acknowledged a frame
with RESYNC, and the consecutive failed copies on radio and powerline. -/
structure Peer where
  map : BitVec 64 := 0
  synced : Bool := false
  fails : Nat × Nat := (0, 0)
deriving DecidableEq, Repr, Inhabited

/-- An entry of the reply cache (R347), with the role its request was checked under. -/
structure Cached where
  src : Nat
  tid : Nat
  tmo : Nat
  t0 : Nat
  reply : List Byte
  role : Role
deriving DecidableEq, Repr, Inhabited

/-- What goes with a bunting of queue 4 beside its packet: destination, role, the arrival of its request and its TMO in ms. -/
structure ReplyTo where
  key : Nat
  dst : Nat
  role : Role
  t0 : Nat
  tmo : Nat
deriving DecidableEq, Repr, Inhabited

/-- The link layer. -/
structure Link where
  /-- Dravlink runs (R401), and since when; RESYNC in every frame (R339) -/
  running : Bool := false
  t0 : Nat := 0
  resyncAll : Bool := true
  msgs : List Msg := []
  txns : List Txn := []
  /-- remote accesses that wait for a place in flight -/
  waiting : List Msg := []
  peers : List Peer := List.replicate 64 {}
  cache : List Cached := []
  /-- the destinations of notifications in queue 2 by bunting number, and what goes with the replies in queue 4 -/
  notes : List (Nat × Nat) := []
  replies : List ReplyTo := []
  /-- an addressed WAKE holds the radio in RX: since, and for how many quanta (R348) -/
  wakeHold : Option (Nat × Nat) := none
deriving DecidableEq, Repr, Inhabited

/-! ### Supply and Halyard (chapter 10) -/

/-- The carrying source (OD 2000/01). -/
inductive Source where
  | store | mains | aux
deriving DecidableEq, Repr, Inhabited

/-- SUPPLY_STATE (OD 2000/02). -/
inductive SupplyState where
  | normal | switchover | rideThrough | shutdown
deriving DecidableEq, Repr, Inhabited

/-- VOUT_STATE (OD 2001/04). -/
inductive VoutState where
  | off | on | limiting | fault
deriving DecidableEq, Repr, Inhabited

/-- The sources, the store and VOUT_3V3. -/
structure Supply where
  source : Source := .store
  state : SupplyState := .normal
  mains : Bool := false
  aux : Bool := false
  /-- when each source became present -/
  mainsT0 : Nat := 0
  auxT0 : Nat := 0
  swT0 : Nat := 0
  rideT0 : Nat := 0
  pwrGood : Bool := false
  vout : VoutState := .off
  voutT0 : Nat := 0
  /-- a source came back during the shutdown (R213) -/
  returned : Bool := false
  /-- the source whose loss began the ride-through (R208) -/
  lost : Source := .store
  /-- the store's energy E, counted above 15.25 V, in 10^-8 mJ; an empty store's until it is known (R210) -/
  energy : Int := -12790800000
deriving DecidableEq, Repr, Inhabited

/-- Who may hold or claim power (Table 10-6). -/
inductive Claimant where
  | ackRadio | ackPl
  | port (p : Nat)
  | radio | powerline | vout
deriving DecidableEq, Repr, Inhabited

/-- What a claim came to. -/
inductive ClaimStatus where
  | waiting | granted | size | deadline | noLine
deriving DecidableEq, Repr, Inhabited

/-- A waiting claim: the power wanted beyond what is held, in mW, its lane priority, when it was made and, if timed, the
stamp by which it must be granted. -/
structure Claim where
  who : Claimant
  mw : Nat
  prio : Nat
  t0 : Nat
  deadline : Option Nat
deriving DecidableEq, Repr, Inhabited

/-- Halyard: grants held in mW, waiting claims in the order made, the last status given to each claimant, the round-robin
pointers of classes 1 and 2, the burst ticks of the window, and the tick number. -/
structure Halyard where
  held : List (Claimant × Nat) := []
  claims : List Claim := []
  answers : List (Claimant × ClaimStatus) := []
  rrAck : Nat := 0
  rrPort : Nat := 0
  bursts : List Nat := []
  tick : Nat := 0
  tickT0 : Nat := 0
  /-- the core reserve of the last tick -/
  core : Nat := 0
  thermT0 : Nat := 0
  /-- the estimates D of the last second, the newest first (R220) -/
  diss : List Nat := []
  /-- when D was last estimated -/
  dissT0 : Nat := 0
deriving DecidableEq, Repr, Inhabited

/-- POWER_STATE (Table 10-7). -/
inductive PowerState where
  | active | networked | deep | sleep
deriving DecidableEq, Repr, Inhabited

/-- Where the core domain stands (chapter 19): off, in ROM recovery, at each wait of Table 19-1, or in service. -/
inductive Phase where
  | off | recovery | gate | survey | finish | service
deriving DecidableEq, Repr, Inhabited

/-! ### HF protocol engine (chapter 6) -/

/-- Exchange status (Table 6-8), in the order of the codes. -/
inductive ExStatus where
  | ok | timeout | crc | parity | coding | timing | collision | suspected | scRange | overload | txAbort | noCard | busy | tooLong
  | protocol | refused
deriving DecidableEq, Repr, Inhabited

/-- A row of Table 6-2, times in carrier cycles. -/
inductive ReplyTime where
  | fixedA | hltA | rats
  | upTo (wait extra : Nat)
  | slotB | fixedV | writeV
  | slotsF (tsn : Nat)
deriving DecidableEq, Repr, Inhabited

/-- One exchange: the technology of its framing (0 A, 1 B, 2 V, 3 F), its rates, the frame without check bytes, the bits of
a bit-oriented frame (0 for whole bytes), whether check bytes are added and checked, when the reply may come, its greatest
length in bytes, and whether it belongs to anticollision (R140). -/
structure Exch where
  tech : Nat := 0
  dr : Nat := 0
  ds : Nat := 0
  tx : List Byte := []
  bits : Nat := 0
  crc : Bool := true
  time : ReplyTime := .fixedA
  longest : Nat := 0
  antic : Bool := false
deriving DecidableEq, Repr, Inhabited

/-- A card that a lane serves: bytes 0 to 11 of its record (Table 6-6), its zone and correlation, CARD_STATE, rates, FWI or
WT, the longest frame it takes, whether it runs NFC-DEP, its block number, INFO, its last successful check and the last
check due. -/
structure Card where
  ident : List Byte := []
  zone : Nat := 0
  corr : Nat := 0
  state : Nat := 0
  ds : Nat := 0
  dr : Nat := 0
  fwi : Nat := 4
  fsc : Nat := 16
  dep : Bool := false
  bn : Nat := 0
  info : Nat := 0
  okT0 : Nat := 0
  checkT0 : Nat := 0
deriving DecidableEq, Repr, Inhabited

/-- A 15693 UID or an NFCID2 recorded in a round: the reply's bytes, its reply vector and the TB of its end (R129, R131, R133). -/
structure Recorded where
  data : List Byte
  vector : List (Int × Int) := []
  tb : Nat := 0
deriving DecidableEq, Repr, Inhabited

/-- Where a sequencer stands in the flows of R129, R130, R139, R141 and R142: the command it sends next or has sent. -/
inductive HfStep where
  | free
  | aPoll | aAntic | aSelect | aHalt | aRats | aPps | dAtr | dPsl
  | bPoll | bMark | bHalt | bAttrib
  | vInv | vEof | vQuiet
  | fPoll
  | wake | wakeSelect | wakeHalt | nak | wakeB | wakeHaltB | resetV | quietV | pollF | atn
  | raw | block | more | resend | wtx
  | release
deriving DecidableEq, Repr, Inhabited

/-- What a sequencer runs (R127, R139, R142). -/
inductive HfJob where
  | none | poll | presence | host
deriving DecidableEq, Repr, Inhabited

/-- A poll cycle or a presence check that a host exchange interrupts between two exchanges (R143): what it goes on with. -/
structure Parked where
  job : HfJob
  step : HfStep
  cur : Card
  level : Nat
  sak : Nat
  now : Nat
  seek : List Byte
  seekOk : Bool
  ownCur : Bool
  /-- what the flow of a poll cycle goes on with, and what its end does -/
  cfg : List Nat
  tech : Nat
  order : List Nat
  found : Nat
  known : List Bool
  uid : List Byte
  atqa : Nat
  n : Nat
  slot : Nat
  pending : Bool
  rounds : Nat
  masks : List (List Bool)
  got : List Recorded
  tsn : Nat
  toActivate : List Byte
  byHost : Bool
  hostLane : Bool
  wakePort : Option Nat
deriving DecidableEq, Repr, Inhabited

/-- A sequencer is at rest, has a command to send, sends it, listens, or takes in a reply. -/
inductive HfStage where
  | idle | ready | sending | listening | reply
deriving DecidableEq, Repr, Inhabited

/-- One sequencer. -/
structure Seq where
  job : HfJob := .none
  step : HfStep := .free
  stage : HfStage := .idle
  exch : Exch := {}
  /-- the frame's start and last edge, the reply's start, the end of the last exchange -/
  t0 : Nat := 0
  endT : Nat := 0
  replyT : Nat := 0
  lastEnd : Nat := 0
  /-- when the queued command could first start, and the start that a deferral chose (R125) -/
  planT0 : Option Nat := none
  deferT : Option Nat := none
  /-- the reply started outside its window; the lanes it may have met on the air (R82); an overload was seen -/
  late : Bool := false
  met : List Nat := []
  overloaded : Bool := false
  /-- the ports that combine in this reply -/
  ports : List Nat := []
  /-- repetitions of this exchange: card errors, and the single ones of R126, R82, R97 and R47; the present one must be
  clear of blanking -/
  retries : Nat := 0
  againBlank : Bool := false
  againMet : Bool := false
  againOver : Bool := false
  againAbort : Bool := false
  clear : Bool := false
  /-- the present attempt is a single repetition of R126 or R82, which counts toward RETRY_MAX if it also fails -/
  special : Bool := false
  /-- the reply in progress met a blanking window before the last 0x0000 (R126) -/
  blanked : Bool := false
  /-- the noise of the present exchange has been measured (R114) -/
  noised : Bool := false
  /-- carrier-on of the lane and the end of its reset guard (R122) -/
  carrierT0 : Option Nat := none
  guardDone : Bool := false
  /-- OD 2500/01 to 2500/18 and the zone's technologies as in force in this poll cycle (R145) -/
  cfg : List Nat := []
  tech : Nat := 0
  /-- the poll cycle: a host asked for it or opened the lane by it, the technologies left, identifiers found -/
  byHost : Bool := false
  hostLane : Bool := false
  /-- the port whose Frond wake opened the lane, until the poll cycle it started ends (R157) -/
  wakePort : Option Nat := none
  order : List Nat := []
  now : Nat := 0
  found : Nat := 0
  /-- Type A: level, known bits, UID so far, ATQA and SAK -/
  level : Nat := 1
  known : List Bool := []
  uid : List Byte := []
  atqa : Nat := 0
  sak : Nat := 0
  /-- Type B: N, slot, a collision seen, rounds at N = 16 -/
  n : Nat := 1
  slot : Nat := 1
  pending : Bool := false
  rounds : Nat := 0
  /-- ISO/IEC 15693: masks as bits, the present one first; UIDs recorded -/
  masks : List (List Bool) := []
  got : List Recorded := []
  tsn : Nat := 0
  /-- the first F card of the cycle where it is to be activated to NFC-DEP when its round ends (R130) -/
  toActivate : List Byte := []
  /-- the card in work was completed and is this lane's, though not yet among its cards (R132) -/
  ownCur : Bool := false
  /-- the identifier that a flow of a check looks for, and whether it was found (Table 6-7) -/
  seek : List Byte := []
  seekOk : Bool := false
  /-- jobs that stepped aside, the last one first (R143) -/
  parked : List Parked := []
  /-- the card in work, the cards held, and the verdicts outstanding as frame-end stamps (R133, R134) -/
  cur : Card := {}
  cards : List Card := []
  waits : List Nat := []
  /-- cards that were handed and then given up, while they have not left (R136, R141) -/
  dropped : List Card := []
  /-- a host exchange that waits or runs: its mode, when it was asked, the bytes left to send and received (R142) -/
  hostJob : Option (Nat × Nat) := none
  hostTx : List Byte := []
  hostRx : List Byte := []
  hostWait : Nat := 1
  /-- a host poll request waits for its turn; a poll cycle follows a failed presence check -/
  pollJob : Bool := false
  repoll : Bool := false
  /-- the lane closes at the end of the exchange in flight; the carrier had its last successful check -/
  leave : Bool := false
  okT0 : Nat := 0
deriving DecidableEq, Repr, Inhabited

/-- An entry of the handled-hold table: bytes 0 to 11 of the record, the zone, H_STATE, first and last seen (R135). -/
structure Hold where
  ident : List Byte := []
  zone : Nat := 0xFF
  state : Nat := 0
  first : Nat := 0
  last : Nat := 0
deriving DecidableEq, Repr, Inhabited

/-! ### Frond (chapter 7) -/

/-- Table 7-4. -/
inductive FrondState where
  | off | learn | absent | present | disarmed
deriving DecidableEq, Repr, Inhabited

/-- A ping in progress (R147): its start, whether it is a lane ping, whether the canceller was tracking, and whether the
listen met an external field, in which case no probe was sent (R159). -/
structure Ping where
  t0 : Nat
  inLane : Bool
  track : Bool
  ext : Bool
  /-- THRESH_ON, THRESH_OFF and LANE_DELTA as they stood at its start (R165) -/
  on : Nat := 0
  off : Nat := 0
  delta : Nat := 0
deriving DecidableEq, Repr, Inhabited

/-- One port's Frond. Impedances are pairs of real and imaginary part in pΩ, the live baseline B among them (log 70). -/
structure Frond where
  state : FrondState := .off
  cls : Nat := 0
  base : Int × Int := (0, 0)
  /-- when B was last stored (R155) -/
  storeT0 : Option Nat := none
  /-- the sum and the number of the pings of LEARN -/
  sum : Int × Int := (0, 0)
  learned : Nat := 0
  /-- consecutive pings at or above THRESH_ON in ABSENT, and at or below THRESH_OFF in PRESENT and DISARMED -/
  onRun : Nat := 0
  offRun : Nat := 0
  /-- Z − B of the last ping and of the entry to DISARMED, and when that was -/
  last : Int × Int := (0, 0)
  ref : Int × Int := (0, 0)
  disarmT0 : Nat := 0
  /-- DISARM_ABSORB_S has passed: the next free ping's Z becomes B (R157) -/
  absorb : Bool := false
  ping : Option Ping := none
  /-- when the last ping ended (R153) -/
  overT0 : Nat := 0
  /-- the occurrence (its opening) that has had its ping or was skipped; a lane ping is due -/
  handled : Option Nat := none
  laneDue : Bool := false
  /-- Z − B of the first lane ping in each lane that the port is in (event 33) -/
  laneFirst : List (Nat × (Int × Int)) := []
  skips : Nat := 0
  /-- the port left FAULT or returned to service since its last ping; DRIFT_LIMIT was exceeded since the last LEARN -/
  relearn : Bool := false
  drifted : Bool := false
deriving DecidableEq, Repr, Inhabited

/-! ### Commissioning tag (chapter 8) -/

/-- Table 8-2. -/
inductive TagState where
  | noField | ready | selected | quiet
deriving DecidableEq, Repr, Inhabited

/-- Table 8-3, with the slot of SECURED-AUTH. -/
inductive TagLevel where
  | opened | password | auth (slot : Nat)
deriving DecidableEq, Repr, Inhabited

/-- The commit record (Table 8-8a): COMMITTED or not, the first block, the number of blocks, the sequence. -/
structure Commit where
  committed : Bool := false
  first : Nat := 0
  n : Nat := 0
  seq : Nat := 0
deriving DecidableEq, Repr, Inhabited

/-- A group write in progress or waiting for the one before it (R178, R186): its first block, its length, whether the field or
the host writes it (else the module), what its blocks held before it, and the end of its S4. -/
structure Group where
  first : Nat
  n : Nat
  field : Bool
  host : Bool
  prior : List Byte
  to_ : Nat
deriving DecidableEq, Repr, Inhabited

/-- The tag domain. -/
structure Tag where
  state : TagState := .noField
  level : TagLevel := .opened
  /-- the Lichen latch, and when the field was lost under it (R170) -/
  lichen : Bool := false
  lostT0 : Nat := 0
  nonce : Option (BitVec 32) := none
  /-- the slot and RndT of an AUTH_BEGIN (R173) -/
  begun : Option (Nat × List Byte) := none
  /-- lockout: quanta of energised time left at `lockT0` (R174) -/
  lockLeft : Option Nat := none
  lockT0 : Nat := 0
  /-- the shadow blocks and the commit record of the last group (R178) -/
  shadow : List Byte := []
  commit : Commit := {}
  /-- a roll-forward ran while unpowered and is still to be reported (R181) -/
  recovered : Bool := false
  /-- the last answer on the air, none where the tag did not answer, and the Inventory slot it stood in -/
  reply : Option (List Byte) := none
  slot : Nat := 0
  /-- the end of the present transaction (R189) -/
  busyTo : Nat := 0
  /-- the groups in progress, one after another, the first to run first; whether the last group of host or module was the host's
  (R178, R186) -/
  groups : List Group := []
  rrHost : Bool := false
  /-- HOLD was taken -/
  hold : Option Nat := none
  /-- an external field is at the coil, and when it was lost -/
  field : Bool := false
  fieldT0 : Nat := 0
  /-- a ready set waits to be applied; the status blocks are to be written, and when they last were -/
  stageDue : Bool := false
  /-- the set that waits does so since the start (R184) -/
  stageStart : Bool := false
  statusT0 : Nat := 0
deriving DecidableEq, Repr, Inhabited

/-! ### Match engine, rules and scenes (chapter 9) -/

/-- A lookup that waits: the lane that handed it (none for a card that left), its 24-byte record, whether the presentation
is new, and its TB stamp (R133, R194, Table 9-3). -/
structure Lookup where
  lane : Option Nat := none
  record : List Byte := []
  fresh : Bool := true
  stamp : Nat := 0
deriving DecidableEq, Repr, Inhabited

/-- A running scene: its number, its steps as taken at the recall, the next step, the TB tick its delay counts from, and the
depth and order of its recall (R204, R205, R202). -/
structure Scene where
  scene : Nat
  steps : List Byte
  next : Nat := 0
  t0 : Nat := 0
  level : Nat := 0
deriving DecidableEq, Repr, Inhabited

/-! ### Sessions, firmware and attestation (chapters 16 and 17) -/

/-- A local session: its role, the nonce issued to it and when, failed claims and the lockout's start (R354 to R357), its
last frame, and its copy of the dictionary registers (Table 16-5). -/
structure Session where
  role : Role := .operator
  nonce : Option (List Byte × Nat) := none
  fails : Nat := 0
  lockT0 : Option Nat := none
  frameT0 : Nat := 0
  /-- SPI_RDY is high again from here on, after the last frame (R329) -/
  readyT : Nat := 0
  addr : BitVec 32 := 0
  buf : List Byte := []
  ptr : Nat := 0
  len : Nat := 0
  code : Nat := 0
  stat : Nat := 0
  rejected : Bool := false
  tid : BitVec 16 := 0
deriving DecidableEq, Repr, Inhabited

/-- A firmware slot: its bytes, none where it holds the image of manufacture, and its INACTIVE_STATE code (log 90). -/
structure Image where
  data : Option (List Byte) := some []
  st : Nat := 0
deriving DecidableEq, Repr, Inhabited

/-- The firmware machinery: the running slot, both slots, the command in progress and its start, whether the image in trial
has had its first start, and that start. -/
structure Firmware where
  running : Nat := 0
  slots : List Image := [{ data := none, st := 2 }, {}]
  busy : Option (Nat × Nat) := none
  tried : Bool := false
  trialT0 : Nat := 0
deriving DecidableEq, Repr, Inhabited

/-! ### Moss pool (chapter 11) -/

/-- A committed bunting: its packet, its producer's code (Table 11-4), the TB value at commit, its number (the two of a twin
push share one, R227), whether it is delivered CORRUPT (R235), and whether a twin push made it (R261). -/
structure Bunting where
  data : List Byte
  producer : Nat
  stamp : Nat
  key : Nat
  corrupt : Bool := false
  twin : Bool := false
deriving DecidableEq, Repr, Inhabited

/-- A queue: the open bunting of each producer, the queued buntings in commit order, the host's current bunting with the words
read of it, and the flags of R232. -/
structure Queue where
  opens : List (Nat × List Byte) := []
  items : List Bunting := []
  current : Option Bunting := none
  words : Nat := 0
  above : Bool := false
  high : Bool := false
  low : Bool := false
  overflow : Bool := false
  underflow : Bool := false
deriving DecidableEq, Repr, Inhabited

/-- The pool: its queues, the fast window's FREE_MIN, event 57 given and not yet armed again, the next bunting's number, cells
that no chain reaches, FW_Q_SEL and the last push-port and pop-port status (Table 11-3). -/
structure Pool where
  queues : List Queue := List.replicate 32 {}
  freeMin : Nat := 8192
  lowGiven : Bool := false
  key : Nat := 0
  leaked : Nat := 0
  sel : BitVec 32 := 0x100
  pushStat : Nat := 0
  popStat : Nat := 0
deriving DecidableEq, Repr, Inhabited

/-! ### Self-test and calibration (chapter 18) -/

/-- A slice in progress: its group, its number within the group (the units of Table 18-1 in order), and whether it is
escalated. -/
structure Slice where
  group : Nat
  index : Nat
  escalated : Bool := false
  targeted : Bool := false
deriving DecidableEq, Repr, Inhabited

/-- Self-test: slices done of each group in this cycle, the group whose turn comes next, the last regular start, the slice in
progress, the escalated groups with the attempts made, the occurrence of slot 31 last attempted, the targeted slices that wait, the addresses that ECC corrected with
POWERED_S, the spare rows used of each unit, and the faulty units of groups 0 and 6 to 9 with the passes since. -/
structure SelfTest where
  counts : List Nat := List.replicate 11 0
  turn : Nat := 0
  t0 : Nat := 0
  run : Option Slice := none
  escalated : List (Nat × Nat) := []
  tried : Option Nat := none
  targets : List Slice := []
  ecc : List (Nat × Nat × Nat) := []
  spares : List (Nat × Nat × Nat) := []
  faulty : List (Nat × Nat × Nat) := []
deriving DecidableEq, Repr, Inhabited

/-- Calibration: for each block when its request became pending and whether event 92 marked its deferral, the port
calibration in progress, the sensors' last reading, the four corrections in force at each port, and the ports at which newer ones
wait (R389). -/
structure Cal where
  pendT0 : List Nat := List.replicate 10 0
  limitGiven : BitVec 10 := 0
  run : Option (Nat × Nat) := none
  sensorT0 : Nat := 0
  corr : List (List Int) := List.replicate 8 [0, 0, 0, 0]
  corrWait : BitVec 8 := 0
deriving DecidableEq, Repr, Inhabited

/-! ### Pads (chapter 21) -/

/-- A rule pulse on a GP pad: the TB tick of its start, its length in ms and the level that it restores (R432). -/
structure Pulse where
  t0 : Nat
  ms : Nat
  back : Bool
deriving DecidableEq, Repr, Inhabited

/-- A local dictionary access that waits for the end of a debug halt (R409): who makes it, its entry, the value it writes,
and whether it came through FW_OD_CMD. -/
structure Wait where
  who : Who
  key : Nat
  value : Option (List Byte)
  cmd : Bool
deriving DecidableEq, Repr

/-- The whole block. -/
structure State where
  /-- the model's own time, in quanta of 1/1280 crystal cycle (log 2) -/
  now : Nat := 0
  /-- how many free values have been drawn (the model's own, log 3) -/
  drawn : Nat := 0
  /-- the dictionary's store -/
  od : OdStore := []
  /-- what the last read command returned, and the status of the last dictionary access (the model's own view of the
  reader's side, log 4) -/
  out : Val := .num 0
  status : Status := .ok
  lines : List LineSt := List.replicate 4 {}
  /-- the events raised in the fabric clock `raisedT`, each with whether it was pending before; a clear in that clock does not
  clear them (R414) -/
  raised : List (Nat × Bool) := []
  raisedT : Nat := 0
  /-- the waiting rule triggers, and the depth that a trigger caused now takes (R200, R202) -/
  triggers : List Trigger := []
  causeLevel : Nat := 0
  tb : TimeBase := {}
  ma : Angle := {}
  /-- the control core is in debug halt (R409) -/
  halted : Bool := false
  ports : List Port := List.replicate 8 {}
  fir : List FirCheck := []
  /-- the (set, mode) pairs that the mask check has passed (R52) -/
  firOk : List (Nat × Nat) := []
  survey : Survey := {}
  pennants : List Pennant := List.replicate 64 {}
  teach : List Teach := List.replicate 16 {}
  lanes : List Lane := List.replicate 4 {}
  requests : List LaneRequest := []
  /-- writes to pennants and zones that a lane uses, which take effect when it closes, the first written first (R92) -/
  deferred : List (Nat × Val) := []
  /-- pennants to compute again when the lane that uses them closes -/
  dirty : List Nat := []
  /-- the round-robin pointer of the zones at admission (R77) and of the lanes in their turns (R81) -/
  rrZone : Nat := 0
  rrLane : List Nat := List.replicate 4 0
  /-- the lanes that had their turn while another of their PRIORITY waited for it (R13, R81) -/
  turned : List Nat := []
  /-- SURVEY_COUNT at each port's last calibration of this run (R74) -/
  portCal : List (Option Nat) := List.replicate 8 none
  /-- port 0 is assigned to the emulated tag (OD 2701/06) -/
  assigned : Bool := false
  supply : Supply := {}
  hal : Halyard := {}
  power : PowerState := .active
  /-- a momentary wake cause of R407 that has come: its LAST_WAKE code -/
  wakeDue : Option Nat := none
  rx : List Rx := List.replicate 8 {}
  radio : Radio := {}
  pl : Powerline := {}
  link : Link := {}
  /-- TX_SEQ (OD 1012/01), random at start (R338) -/
  txSeq : Nat := 0
  seqs : List Seq := List.replicate 4 {}
  holds : List Hold := List.replicate 64 {}
  /-- bit l: lane l has still to run its first poll cycle since start-up (R137) -/
  firstPoll : BitVec 4 := 0xF
  noiseT0 : Nat := 0
  lookups : List Lookup := []
  /-- the lane whose lookups are served first (R13) -/
  lookTurn : Nat := 0
  /-- the scenes that run, the one recalled longest ago first -/
  scenes : List Scene := []
  fronds : List Frond := List.replicate 8 {}
  /-- the zones that Frond asked to be read, and when (R161) -/
  wakes : List (Nat × Nat) := []
  tag : Tag := {}
  /-- the commissioning store: the bytes of blocks 0 to 991 that are not 0 (chapter 8) -/
  store : StoreCells := []
  /-- the audit ring: the records it holds, newest first (R364) -/
  audit : List (List Byte) := []
  /-- the TB stamp of each of these records, captured as it was made (R16) -/
  auditTb : List Nat := []
  phase : Phase := .off
  /-- the SPI host's session and the UART maker service's (R327) -/
  sessions : List Session := [{}, {}]
  firmware : Firmware := {}
  /-- bit n−1: TID_LAST of peer n holds an accepted TID (R359, R360; log 92) -/
  tidSeen : BitVec 64 := 0
  /-- the start of the attestation in progress, and whether test access or a debug halt was entered since the start -/
  attestT0 : Option Nat := none
  testAccess : Bool := false
  testEntered : Bool := false
  haltSeen : Bool := false
  pool : Pool := {}
  st : SelfTest := {}
  cal : Cal := {}
  /-- the start of the core domain or the reset's release, the beginning of the start gate (R398, R401), and the last moment
  at which the module was not idle (R405) -/
  startT0 : Nat := 0
  gateT0 : Nat := 0
  idleT0 : Nat := 0
  /-- the rule pulses that run on GP0 to GP15 -/
  pulses : List (Option Pulse) := List.replicate 16 none
  /-- the accesses that wait for the end of a debug halt, first in first out, and the local host whose turn is next where both wait
  (R13, R327) -/
  waits : List Wait := []
  rrLocal : Who := .spi
  /-- the commands that wait, first in first out -/
  pending : List Instr := []
deriving DecidableEq, Repr

/-- The module as it leaves manufacture, before its supply first comes: every dictionary entry at its Default (R326), the core
domain off, every latch, queue and ring empty. CORE_START boots it (Table 19-1); what a reset of the running core leaves is
`State.resetCore` (R402). The values of fields that the spec gives no value at this moment are named in log 7. -/
def State.reset : State := {}

end Sys2Proof.Machine
end

