-- ==== Sys2Proof/Machine/Ops.lean ====
section
/-!
DEFINITION. The named operations every chapter uses: dictionary values, counters, free values, time, events and their
lines, and the trigger queue of the rule sequencer.
-/

namespace Sys2Proof.Machine

open Sys2Proof

/-- What a meaning answers. -/
abbrev Out := Host.Outcome State Fault Refusal

/-- l at length n: itself where it has that length, else cut or filled up with d. -/
def sized {α : Type} (n : Nat) (d : α) (l : List α) : List α := if l.length = n then l else (l ++ List.replicate n d).take n

/-- The state in its one canonical shape: the dictionary's and the commissioning store's cells in canonical form, and each
list of a fixed number of like things at that length. No meaning changes such a length; this says so of every state a
command leaves. -/
def State.shaped (t : State) : State :=
  { t with
    od := t.od.canon, store := t.store.canon
    lines := sized 4 {} t.lines, ports := sized 8 {} t.ports, pennants := sized 64 {} t.pennants, teach := sized 16 {} t.teach
    lanes := sized 4 {} t.lanes, rx := sized 8 {} t.rx, seqs := sized 4 {} t.seqs, holds := sized 64 {} t.holds
    fronds := sized 8 {} t.fronds, sessions := sized 2 {} t.sessions, pulses := sized 16 none t.pulses
    tb := { t.tb with cmpW := sized 16 0 t.tb.cmpW, lcPre := sized 4 0 t.tb.lcPre }
    ma := { t.ma with blank := sized 8 {} t.ma.blank, carry := sized 8 0 t.ma.carry, burgee := sized 32 {} t.ma.burgee }
    pl := { t.pl with peers := sized 64 {} t.pl.peers }
    link := { t.link with peers := sized 64 {} t.link.peers }
    pool := { t.pool with queues := sized 32 {} t.pool.queues }
    firmware := { t.firmware with slots := sized 2 {} t.firmware.slots } }

/-- What a command with effect t leaves: t in its canonical shape, and the queue of waiting commands as it was. -/
def State.finish (s t : State) : State := { t.shaped with pending := s.pending }

/-- The core domain runs its image (R166, chapter 19): it does not while unpowered, in SLEEP, or in ROM recovery. -/
def State.coreOn (s : State) : Bool := s.phase ≠ .off && s.phase ≠ .recovery && s.power ≠ .sleep

/-- The core domain is powered and its clocks run, ROM recovery included (R166). -/
def State.coreRuns (s : State) : Bool := s.phase ≠ .off && s.power ≠ .sleep

/-- The meaning of a command of the core domain with effect t on s; while the core domain does not run it meets nothing
(log 5). -/
def done (s t : State) : Out := .next (if s.coreOn then s.finish t else s)

/-- The same for an effect that happens under a condition of the state: an event that has not come about changes nothing
(log 5). -/
def nextWhen (c : Bool) (s t : State) : Out := .next (if c && s.coreOn then s.finish t else s)

/-- The meaning of a command of the always-on block, the supply or the tag domain, which need no core domain. -/
def doneAny (s t : State) : Out := .next (s.finish t)

/-- The same, under a condition. -/
def nextAny (c : Bool) (s t : State) : Out := .next (if c then s.finish t else s)

/-! ### Dictionary values -/

/-- The value of the entry at key k (index * 256 + subindex). -/
def State.val (s : State) (k : Nat) : Val := s.od.get k

/-- A numeric entry. -/
def State.int (s : State) (k : Nat) : Int := (s.val k).int

/-- An unsigned entry. -/
def State.nat (s : State) (k : Nat) : Nat := (s.val k).int.toNat

/-- A BOOL entry. -/
def State.flag (s : State) (k : Nat) : Bool := decide ((s.val k).int ≠ 0)

/-- Bit i of an unsigned entry. -/
def State.bit (s : State) (k i : Nat) : Bool := (s.nat k).testBit i

/-- An OCTETS entry. -/
def State.oct (s : State) (k : Nat) : List Byte := (s.val k).octets

/-- Write one entry. -/
def State.put (s : State) (k : Nat) (v : Val) : State := { s with od := s.od.put k v }

/-- Write a numeric entry. -/
def State.setI (s : State) (k : Nat) (i : Int) : State := s.put k (.num i)

/-- Write an unsigned entry. -/
def State.setN (s : State) (k n : Nat) : State := s.put k (.num n)

/-- Write a BOOL entry. -/
def State.setB (s : State) (k : Nat) (b : Bool) : State := s.put k (.num (boolNat b))

/-- Write an OCTETS entry. -/
def State.setO (s : State) (k : Nat) (b : List Byte) : State := s.put k (.oct b)

/-- Set or clear bit i of an unsigned entry. -/
def State.setBit (s : State) (k i : Nat) (b : Bool) : State :=
  let n := s.nat k
  s.setN k (if b = n.testBit i then n else if b then n + 2 ^ i else n - 2 ^ i)

/-- A fresh free value, and the state that has drawn it (log 3). -/
def State.draw (s : State) : Nat × State := (Config.freeNat s.drawn, { s with drawn := s.drawn + 1 })

/-- A fresh random number below n. -/
def State.random (s : State) (n : Nat) : Nat × State := (Config.random s.drawn % n, { s with drawn := s.drawn + 1 })

/-- n fresh random bytes. -/
def State.randomBytes (s : State) (n : Nat) : List Byte × State :=
  ((List.range n).map fun i => BitVec.ofNat 8 (Config.random (s.drawn + i)), { s with drawn := s.drawn + n })

/-- Write a value into an entry of `bits` bits: where it no longer fits, the spec states no value and a free value is
written (log 3). -/
def State.setFit (s : State) (k bits n : Nat) : State :=
  if n < 2 ^ bits then s.setN k n else
    let (f, s) := s.draw
    s.setN k (f % 2 ^ bits)

/-- Add n to a U32 counter. -/
def State.add (s : State) (k n : Nat) : State := s.setFit k 32 (s.nat k + n)

/-- Increment a U32 counter. -/
def State.bump (s : State) (k : Nat) : State := s.add k 1

/-- A value saturated into a signed range. -/
def clampI (lo hi x : Int) : Int := if x < lo then lo else if hi < x then hi else x

/-- a / b rounded to the nearest whole number, halves up; b is positive. -/
def divNear (a b : Int) : Int := (2 * a + b) / (2 * b)

/-- A natural number held at most hi. -/
def clampN (hi n : Nat) : Nat := min hi n

/-! ### Ordered lists -/

/-- Insert before the first element that x goes before or equals. -/
def insertBy {α : Type} (le : α → α → Bool) (x : α) : List α → List α
  | [] => [x]
  | y :: rest => if le x y then x :: y :: rest else y :: insertBy le x rest

/-- l in the order `le`, equals as they stood. -/
def sortBy {α : Type} (le : α → α → Bool) : List α → List α
  | [] => []
  | x :: rest => insertBy le x (sortBy le rest)

/-! ### Time (log 2) -/

/-- Quanta of one fabric clock (271.2 MHz), of one crystal cycle (27.12 MHz) and of one slow tick (32.768 kHz). -/
def quantaFabric : Nat := 128
def quantaTick : Nat := 1280
def quantaSlow : Nat := 1059375

/-- us microseconds have passed since the stamp t0. One microsecond is 34,713.6 quanta. -/
def State.passedUs (s : State) (t0 us : Nat) : Bool := decide (us * 347136 ≤ (s.now - t0) * 10)

/-- ms milliseconds have passed since the stamp t0. -/
def State.passedMs (s : State) (t0 ms : Nat) : Bool := s.passedUs t0 (ms * 1000)

/-- sec seconds have passed since the stamp t0. -/
def State.passedS (s : State) (t0 sec : Nat) : Bool := s.passedUs t0 (sec * 1000000)

/-- Whole microseconds since the stamp t0. -/
def State.sinceUs (s : State) (t0 : Nat) : Nat := (s.now - t0) * 10 / 347136

/-- Quanta of us microseconds, rounded up. -/
def usQuanta (us : Nat) : Nat := (us * 347136 + 9) / 10

/-- TB_EPOCH:TB (R240). -/
def State.tb64 (s : State) : Nat := s.tb.epoch.toNat * 2 ^ 48 + s.tb.tb.toNat

/-! ### Little-endian octets (R323) -/

/-- n bytes of a number, least significant first. -/
def leBytes (n v : Nat) : List Byte := (List.range n).map fun i => BitVec.ofNat 8 (v / 256 ^ i)

/-- The number that bytes carry, least significant first. -/
def leNat (b : List Byte) : Nat := b.foldr (fun x acc => x.toNat + 256 * acc) 0

/-- The two's complement reading of a number of `bits` bits. -/
def toSigned (bits n : Nat) : Int := if n % 2 ^ bits < 2 ^ (bits - 1) then ((n % 2 ^ bits : Nat) : Int) else ((n % 2 ^ bits : Nat) : Int) - 2 ^ bits

/-- The two's complement bits of an integer. -/
def ofSigned (bits : Nat) (i : Int) : Nat := (i % 2 ^ bits).toNat

/-- n bytes of a signed number, least significant first. -/
def leBytesI (n : Nat) (i : Int) : List Byte := leBytes n (ofSigned (8 * n) i)

/-- len bytes of b from offset o, short of the end padded with zeros. -/
def slice (b : List Byte) (o len : Nat) : List Byte := (List.range len).map fun i => b.getD (o + i) 0

/-- b with the bytes of v written from offset o. -/
def splice (b : List Byte) (o : Nat) (v : List Byte) : List Byte := b.take o ++ v ++ b.drop (o + v.length)

/-- The unsigned number at offset o, of n bytes. -/
def uAt (b : List Byte) (o n : Nat) : Nat := leNat (slice b o n)

/-- The signed number at offset o, of n bytes. -/
def iAt (b : List Byte) (o n : Nat) : Int := toSigned (8 * n) (uAt b o n)

/-! ### The trigger queue (R200, R202) -/

/-- a goes before b: by TB stamp, then kind, then lane, event or pad number (R200). -/
def Trigger.before (a b : Trigger) : Bool :=
  decide (a.stamp < b.stamp) || (decide (a.stamp = b.stamp) && (decide (a.kind < b.kind) ||
    (decide (a.kind = b.kind) && decide (a.order < b.order))))

/-- Insert a trigger behind every trigger that it does not go before. -/
def enqueueTrigger (t : Trigger) : List Trigger → List Trigger
  | [] => [t]
  | u :: rest => if t.before u then t :: u :: rest else u :: enqueueTrigger t rest

/-! ### Events (chapter 20) -/

/-- The pending bit of event e. -/
def State.isPending (s : State) (e : Nat) : Bool := s.bit (0x3600_01 + e / 32) (e % 32)

/-- The enable bit of event e. -/
def State.isEnabled (s : State) (e : Nat) : Bool := s.bit (0x3601_01 + e / 32) (e % 32)

/-- LINE_MODE of line l: MODE, POLARITY and DRIVE (R416). -/
def State.lineMode (s : State) (l : Nat) : Nat := s.nat (0x3602_01 + l) % 4

/-- Event e reaches line l (R415). -/
def State.reaches (s : State) (e l : Nat) : Bool :=
  s.isPending e && s.isEnabled e && s.bit (0x3610_01 + e) l && decide (s.lineMode l ≠ 0)

/-- The events that are pending and enabled, in number order. -/
def State.liveEvents (s : State) : List Nat := (List.range 96).filter fun e => s.isPending e && s.isEnabled e

/-- Some event reaches line l. -/
def State.lineReached (s : State) (l : Nat) : Bool := s.liveEvents.any fun e => s.reaches e l

/-- The line is active as driven (R416, R417): a pulse in progress completes, level mode shows the events. -/
def State.lineActive (s : State) (l : Nat) : Bool :=
  (s.lines.getD l {}).phase = .pulse || (decide (s.lineMode l = 1) && s.lineReached l)

/-- An event newly reaches line l: in pulse mode a pulse starts, or one more is owed (R417). -/
def State.newlyReach (s : State) (l : Nat) : State :=
  if s.lineMode l = 2 then
    { s with lines := s.lines.modify l fun x =>
        if x.phase = .idle || (decide (x.phase = .gap) && !x.owed && s.passedUs x.t0 1) then
          { phase := .pulse, t0 := s.now, owed := false, mode := s.nat (0x3602_01 + l) } else { x with owed := true } }
  else s

/-- The lines that some event reaches in `s` and did not reach in `old` take a pulse (R417). -/
def State.pulseNew (s old : State) : State :=
  (List.range 4).foldl (fun t l => if s.liveEvents.any (fun e => s.reaches e l && !old.reaches e l) then t.newlyReach l else t) s

/-- Set the pending bit of event e, and pulse the lines it newly reaches (R413, R417). -/
def State.setPending (s : State) (e : Nat) : State :=
  if s.isPending e then s else
    let s' := s.setBit (0x3600_01 + e / 32) (e % 32) true
    (List.range 4).foldl (fun t l => if s'.reaches e l then t.newlyReach l else t) s'

/-- A trigger of this depth enters the queue, or is refused as too deep or as full (R202): the state, and whether it was
refused. With RULES_ON 0 it is discarded and counted (OD 2820/01), which is no refusal. An action on a level-3 trigger is
four levels deep in causes, so a trigger of level 4 is refused (DEDUCED, log 31). -/
def State.enqueue (s : State) (t : Trigger) : State × Bool :=
  let t := { t with level := max t.level s.causeLevel }
  if ¬ s.flag 0x2820_01 then (s.bump 0x2820_03, false)
  else if 4 ≤ t.level then (s.bump 0x2820_04, true)
  else if 64 ≤ s.triggers.length then (s.bump 0x2820_03, true)
  else ({ s with triggers := enqueueTrigger t s.triggers }, false)

/-- What hardware does before an action takes effect: its triggers are of level 0, whatever the action's level (R202). -/
def State.asHardware (s : State) (f : State → State) : State := { f { s with causeLevel := 0 } with causeLevel := s.causeLevel }

/-- The zone whose PRIMARY is port p, the lowest where several name it (R199). -/
def State.zoneOfPort (s : State) (p : Nat) : Option Nat := (List.range 16).find? fun z => s.nat (0x2350_01 + 0x100 * z) = p

/-- The events raised in the present fabric clock, each with whether it was pending before (R414). -/
def State.raisedNow (s : State) : List (Nat × Bool) := if s.raisedT = s.now then s.raised else []

/-- Event e is noted as raised in the present fabric clock; the first raise of a clock finds whether it was pending. -/
def State.noteRaise (s : State) (e : Nat) : State :=
  { s with raisedT := s.now, raised := if s.raisedNow.any (fun x => x.1 = e) then s.raisedNow else (e, s.isPending e) :: s.raisedNow }

/-- Count, stamp and hold an event (R413), without its trigger. -/
def State.latch (s : State) (e stamp : Nat) : State :=
  (((s.bump (0x3620_01 + e)).setN (0x3630_01 + e) stamp).noteRaise e).setPending e

/-- The EVENT trigger of event e (R419, R200). -/
def eventTrigger (e stamp : Nat) (zone : Option Nat) : Trigger :=
  { kind := 4, arg := e, order := e, level := 0, stamp := stamp, zone := zone, ident := zeroBytes 24, verdict := {} }

/-- A trigger goes to the sequencer; a refused one raises event 49 (R202). The EVENT trigger of that event 49 is offered
once and, refused in its turn, only counts (DESIGN CHOICE, log 276). -/
def State.trigger (s : State) (t : Trigger) : State :=
  let (s, refused) := s.enqueue t
  if refused then ((s.latch 49 s.tb64).enqueue (eventTrigger 49 s.tb64 none)).1 else s

/-- Event e is raised with this stamp and, for a port event, its port's zone (R413, R419). -/
def State.raiseAt (s : State) (e stamp : Nat) (port : Option Nat) : State :=
  (s.latch e stamp).trigger (eventTrigger e stamp (port.bind s.zoneOfPort))

/-- Event e is raised now. -/
def State.raise (s : State) (e : Nat) : State := s.raiseAt e s.tb64 none

/-- Event e of port p is raised now. -/
def State.raisePort (s : State) (e p : Nat) : State := s.raiseAt e s.tb64 (some p)

end Sys2Proof.Machine
end

