-- ==== Sys2Proof/Machine/Linear.lean ====
section
/-!
DEFINITION. The arithmetic of coherent fields: phase codes as phasors, complex vectors over exact rationals, linear
equations, and decibel figures (chapters 3 and 4). A phase code is turned into a phasor with 48-bit constants; all else is
exact (log 40).
-/

namespace Sys2Proof.Machine

open Sys2Proof

/-- The greatest r with r * r ≤ n, for n below 2^192. -/
def isqrt (n : Nat) : Nat :=
  (List.range 96).foldl (fun r i => if (r + 2 ^ (95 - i)) * (r + 2 ^ (95 - i)) ≤ n then r + 2 ^ (95 - i) else r) 0

/-- A complex number. -/
structure Cx where
  re : Rat
  im : Rat
deriving DecidableEq, Repr, Inhabited

def Cx.zero : Cx := ⟨0, 0⟩
def Cx.one : Cx := ⟨1, 0⟩
def Cx.add (a b : Cx) : Cx := ⟨a.re + b.re, a.im + b.im⟩
def Cx.sub (a b : Cx) : Cx := ⟨a.re - b.re, a.im - b.im⟩
def Cx.mul (a b : Cx) : Cx := ⟨a.re * b.re - a.im * b.im, a.re * b.im + a.im * b.re⟩
def Cx.conj (a : Cx) : Cx := ⟨a.re, -a.im⟩
def Cx.scale (k : Rat) (a : Cx) : Cx := ⟨k * a.re, k * a.im⟩
def Cx.normSq (a : Cx) : Rat := a.re * a.re + a.im * a.im
def Cx.inv (a : Cx) : Cx := ⟨a.re / a.normSq, -a.im / a.normSq⟩
def Cx.ofInts (x : Int × Int) : Cx := ⟨x.1, x.2⟩

/-- Σ a_k b_k, without conjugation. -/
def Cx.dot (a b : List Cx) : Cx := (a.zip b).foldl (fun s x => s.add (x.1.mul x.2)) Cx.zero

/-- Σ |a_k|². -/
def Cx.lenSq (a : List Cx) : Rat := a.foldl (fun s x => s + x.normSq) 0

/-- A matrix by rows. -/
abbrev CMat := List (List Cx)

def CMat.at_ (m : CMat) (i j : Nat) : Cx := (m.getD i []).getD j Cx.zero

/-- Matrix times vector. -/
def CMat.mulVec (m : CMat) (v : List Cx) : List Cx := m.map fun row => Cx.dot row v

/-- Subtract f times row p from row r. -/
def rowSub (r p : List Cx) (f : Cx) : List Cx := (r.zip p).map fun x => x.1.sub (f.mul x.2)

/-- One elimination step on column c: the first row from c on with a non-zero entry becomes the pivot; none if singular. -/
def eliminate (m : CMat) (c : Nat) : Option CMat :=
  match (List.range m.length).find? fun r => c ≤ r && (m.at_ r c ≠ Cx.zero) with
  | none => none
  | some r =>
    let pr := m.getD r []
    let m := (m.set r (m.getD c []))
    let p := pr.map fun x => x.mul ((pr.getD c Cx.one).inv)
    some ((m.set c p).zipIdx.map fun x => if x.2 = c then x.1 else rowSub x.1 p (x.1.getD c Cx.zero))

/-- Solve a square system m x = b for several right-hand sides given as columns appended to each row; none if singular. -/
def solveRows (n : Nat) (m : CMat) : Option CMat :=
  ((List.range n).foldl (fun acc c => acc.bind fun a => eliminate a c) (some m)).map fun a => a.map (·.drop n)

/-- Solve m x = b. -/
def solveVec (m : CMat) (b : List Cx) : Option (List Cx) :=
  (solveRows m.length ((m.zip b).map fun x => x.1 ++ [x.2])).map fun r => r.map (·.getD 0 Cx.zero)

/-! ### Codes and phasors (R38, R39) -/

/-- 2^48 (cos, sin) of 2π * 2^k / 4096. -/
def turnTable : List (Int × Int) :=
  [(281474645541751, 431777037209), (281473652035816, 863553058405), (281469678023765, 1727097988720),
   (281453782162583, 3454130953177), (281390201710184, 6907741726938), (281135927774060, 13811322488556),
   (280119597762857, 27589372291508), (276066513959654, 54913043845964), (260048969897066, 107715810212518),
   (199032864766430, 199032864766430), (0, 281474976710656), (-281474976710656, 0)]

/-- The phasor of phase code c, times 2^48. -/
def turn (c : Nat) : Int × Int :=
  (turnTable.zipIdx).foldl (fun acc x => if c.testBit x.2 then
    ((acc.1 * x.1.1 - acc.2 * x.1.2) / 2 ^ 48, (acc.1 * x.1.2 + acc.2 * x.1.1) / 2 ^ 48) else acc) (2 ^ 48, 0)

/-- The complex amplitude of an amplitude and phase code, in codes. -/
def codePhasor (amp phase : Nat) : Cx := (Cx.ofInts (turn phase)).scale ((amp : Rat) / 2 ^ 48)

/-- The square root of a rational, scaled by k, rounded to the nearest whole number. -/
def sqrtRound (k : Nat) (x : Rat) : Nat :=
  let n := (x * (4 * k * k)).floor.toNat
  (isqrt n + 1) / 2

/-- The phase code nearest to the argument of a number: 0 for zero. A code c is at or before the argument where the number
turned back by c lies in the upper half-plane (log 40). -/
def phaseCode (z : Cx) : Nat :=
  if z = Cx.zero then 0 else
    let before (c2 : Nat) : Bool :=
      let t := turn (c2 / 2)
      let h : Int × Int := if c2 % 2 = 1 then (281474893886200, 215888585127) else (2 ^ 48, 0)
      let w := (z.mul (Cx.ofInts t).conj).mul (Cx.ofInts h).conj
      decide (0 ≤ w.im)
    let base := if 0 < z.im ∨ (z.im = 0 ∧ 0 < z.re) then 0 else 4096
    let half := (List.range 12).foldl (fun c i => if before (base + c + 2 ^ (11 - i)) then c + 2 ^ (11 - i) else c) 0
    ((base + half + 1) / 2) % 4096

/-- 2^48 (cos, sin) of 2π * 2^k / 7200. -/
def degreeTable : List (Int × Int) :=
  [(281474869532936, 245633224102), (281474547999859, 491266261144), (281473261868774, 982531025805),
   (281468117364025, 1965050079780), (281447539658445, 3930004385791), (281365233850720, 7859242609440),
   (281036090845093, 15712356817905), (279720801901526, 31375715096737), (274480141792570, 62360358207720),
   (253843289366791, 121621326081044), (176373293210620, 219364135528817), (-60442621213304, 274908806798053),
   (-255516644628508, -118065265137774)]

/-- The argument of a non-zero number in 0.1°, from −1799 to 1800, rounded to the nearest (log 40). -/
def deciDegrees (z : Cx) : Int :=
  let at_ (c : Nat) : Int × Int := (degreeTable.zipIdx).foldl (fun acc x => if c.testBit x.2 then
    ((acc.1 * x.1.1 - acc.2 * x.1.2) / 2 ^ 48, (acc.1 * x.1.2 + acc.2 * x.1.1) / 2 ^ 48) else acc) (2 ^ 48, 0)
  let before (c : Nat) : Bool := decide (0 ≤ (z.mul (Cx.ofInts (at_ c)).conj).im)
  let base := if 0 < z.im ∨ (z.im = 0 ∧ 0 < z.re) then 0 else 3600
  let half := (List.range 12).foldl (fun c i => let d := c + 2 ^ (11 - i); if d < 3600 ∧ before (base + d) then d else c) 0
  let a := ((base + half + 1) / 2) % 3600
  if 1800 < a then (a : Int) - 3600 else a

/-- The amplitude code nearest to a magnitude in codes. -/
def ampCode (z : Cx) : Nat := sqrtRound 1 z.normSq

/-- The phasor sum of components, in codes (R40). -/
def phasorSum (cs : List (Nat × Nat)) : Cx := cs.foldl (fun s c => s.add (codePhasor c.1 c.2)) Cx.zero

/-! ### Decibels -/

/-- 10 log₁₀ of a power ratio in 0.1 dB, rounded down, held within −2000 to 2000: the greatest k with 10^k ≤ ratio^100. A
ratio of 0 gives −2000. -/
def deciBel (ratio : Rat) : Int :=
  if ratio ≤ 0 then -2000 else
    let r := ratio ^ 100
    let ok (k : Int) : Bool := if 0 ≤ k then decide (((10 ^ k.toNat : Nat) : Rat) ≤ r) else decide (1 ≤ r * ((10 ^ (-k).toNat : Nat) : Rat))
    (List.range 12).foldl (fun k i => let c := k + 2 ^ (11 - i); if c ≤ 2000 && ok c then c else k) (-2000)

end Sys2Proof.Machine
end

