-- ==== Sys2Proof/Machine/Capture.lean ====
section
/-!
DEFINITION. Capture channels (R247, R248, R252): what takes an edge, what lands, and the tick in which an edge and a read meet.
-/

namespace Sys2Proof.Machine

open Sys2Proof

def capKey (c sub : Nat) : Nat := 0x2A30_00 + 0x100 * c + sub

/-- TB freezes: FREEZE is 1 and the control core is in debug halt (R252). -/
def State.frozen (s : State) : Bool := s.flag 0x2A01_04 && s.halted

/-- The channel takes an edge of this direction: an internal source ignores EDGE; a GP pad must be an input (R247). -/
def State.capTakes (s : State) (c : Nat) (rising : Bool) : Bool :=
  let src := s.nat (capKey c 1)
  let edge := s.nat (capKey c 2)
  let input := src = 0 || 16 < src || decide (s.nat (0x3700_01 + 0x100 * (src - 1)) = 0)
  decide (src ≠ 0) && input && (18 < src || decide (edge = 3) || decide (edge = if rising then 1 else 2))

/-- The stamp of an edge that reached its place so many ticks ago; in a freeze the frozen TB (R247, R252). -/
def State.capStamp (s : State) (ago : Nat) : Nat := if s.frozen then s.tb64 else s.tb64 - ago

/-- An edge lands: VALUE, FULL and CAPTURES, and an overrun if FULL was set (R247, R248). -/
def State.capLand (s : State) (c stamp : Nat) : State :=
  let full := s.bit (capKey c 4) 0
  let s := ((s.setN (capKey c 3) stamp).setBit (capKey c 4) 0 true).bump (capKey c 5)
  let s := if full then ((s.setBit (capKey c 4) 1 true).bump (capKey c 6)) else s
  let s := s.raise 62
  if full then s.raise 63 else s

/-- The edges that still wait of this tick land, now that no read of the tick can come before them (R248). -/
def State.capFlush (s : State) : State :=
  s.tb.capHeld.foldl (fun (t : State) x => t.capLand x.1 x.2) { s with tb := { s.tb with capHeld := [], capOld := [] } }

/-- A channel takes an edge. Where FULL is 1 the edge waits for the tick's end, since a read in the same tick is served first; else
it lands, and the VALUE before it stays at hand for such a read (R248). -/
def State.capTake (s : State) (c stamp : Nat) : State :=
  if s.bit (capKey c 4) 0 then
    let s := if s.tb.capHeld.any (fun x => x.1 = c) then s.capFlush else s
    { s with tb := { s.tb with capHeld := s.tb.capHeld ++ [(c, stamp)] } }
  else
    let old := s.nat (capKey c 3)
    let s := s.capLand c stamp
    { s with tb := { s.tb with capOld := (c, old) :: s.tb.capOld.filter fun x => x.1 ≠ c } }

/-- An edge of a source: every channel that it is the source of, and that takes its direction, takes it (R247). -/
def State.capEdge (s : State) (src : Nat) (rising : Bool) (stamp : Nat) : State :=
  (List.range 8).foldl (fun (t : State) c => if t.nat (capKey c 1) = src && t.capTakes c rising then t.capTake c stamp else t) s

/-- A read of VALUE returns it and clears FULL. One in the tick of an edge is served before it: it returns the old VALUE, and
the edge then lands with no overrun (R248). -/
def State.readCapture (s : State) (c : Nat) : State :=
  match s.tb.capHeld.find? (fun x => x.1 = c), s.tb.capOld.find? (fun x => x.1 = c) with
  | some x, _ =>
    let old := s.nat (capKey c 3)
    let t := (s.setBit (capKey c 4) 0 false).capLand c x.2
    { t with out := .num (old : Nat), tb := { t.tb with capHeld := t.tb.capHeld.filter (fun y => y.1 ≠ c), capOld := (c, old) :: t.tb.capOld.filter fun y => y.1 ≠ c } }
  | none, some x => { s with out := .num (x.2 : Nat) }
  | none, none => ({ s with out := s.val (capKey c 3) }).setBit (capKey c 4) 0 false

end Sys2Proof.Machine
end

