-- ==== Sys2Proof/Machine/Angle.lean ====
section
/-!
DEFINITION. Operations of the mains-angle block (chapter 2): the angle and its rate, blanking, burgee windows and
MA_SYNC_OUT.
-/

namespace Sys2Proof.Machine

open Sys2Proof

/-- Accumulator units of one mains cycle: the accumulator gains `rate` (µHz) each crystal cycle, so one cycle takes
27.12 MHz * 10^6 of them (log 20). -/
def maCycle : Nat := 27_120_000_000_000

/-- Quanta of one second. -/
def quantaSecond : Nat := 34_713_600_000

/-- MA[15:0] (R18). -/
def State.angle (s : State) : Nat := s.ma.acc * 65536 / maCycle

/-- MA[31:0]: the cycle count over the angle (R18). -/
def State.ma32 (s : State) : Nat := s.ma.cycle.toNat * 65536 + s.angle

/-- Angle a minus angle b, forward round the cycle. -/
def angleAhead (a b : Nat) : Nat := (a + 65536 - b % 65536) % 65536

/-- The angle reaches x: within one angle unit of it (R29, R34). -/
def State.atAngle (s : State) (x : Nat) : Bool := decide (angleAhead s.angle x ≤ 1)

/-! ### Blanking (R26, R27) -/

/-- The blanking span that slot b holds in the dictionary: nothing while its SOURCE is 0 or its LENGTH 0 (R26). -/
def State.blankSlot (s : State) (b : Nat) : Span :=
  if s.nat (0x2130_03 + 0x100 * b) = 0 then {} else { start := s.nat (0x2130_01 + 0x100 * b), len := s.nat (0x2130_02 + 0x100 * b) }

/-- Blanking slot b is active at the present angle: the window in force, or the remainder of one that ran across the last
0x0000 (R27). -/
def State.blankActive (s : State) (b : Nat) : Bool :=
  let w := s.ma.blank.getD b {}
  let a := s.angle
  (decide (w.start ≤ a) && decide (a < w.start + w.len)) || decide (a < s.ma.carry.getD b 0)

/-- Some blanking window is active (FW_MA_STAT[4]). -/
def State.inBlank (s : State) : Bool := (List.range 8).any s.blankActive

/-- Two spans of the circle share an angle. -/
def Span.overlaps (x y : Span) : Bool :=
  decide (0 < x.len) && decide (0 < y.len) &&
    (decide (angleAhead y.start x.start < x.len) || decide (angleAhead x.start y.start < y.len))

/-- The blanking windows that count now: those in force, and what is left of those that ran across the last 0x0000 (R27). -/
def State.blankSpans (s : State) : List Span :=
  s.ma.blank ++ s.ma.carry.filterMap fun c => if s.angle < c then some { start := 0, len := c } else none

/-- A span meets a blanking window. -/
def State.meetsBlank (s : State) (x : Span) : Bool := s.blankSpans.any (·.overlaps x)

/-! ### Burgee windows (R29 to R33) -/

/-- The parameters of a burgee window. -/
structure BurgeeSpec where
  start : Nat
  len : Nat
  owner : Nat
  flags : Nat
  period : Nat
  ports : Nat
  float : Nat
deriving DecidableEq, Repr, Inhabited

/-- Slot w as the dictionary holds it (Table 2-8). -/
def State.burgeeSpec (s : State) (w : Nat) : BurgeeSpec :=
  let k := 0x2140_00 + 0x100 * w
  { start := s.nat (k + 1), len := s.nat (k + 2), owner := s.nat (k + 3), flags := s.nat (k + 4)
    period := s.nat (k + 5), ports := s.nat (k + 6), float := s.nat (k + 7) }

/-- FLAGS[0] ENABLE, [1] HALF, [2] FLOAT, [3] EXCLUSIVE, [4] EVENT. -/
def BurgeeSpec.enabled (b : BurgeeSpec) : Bool := b.flags.testBit 0
def BurgeeSpec.half (b : BurgeeSpec) : Bool := b.flags.testBit 1
def BurgeeSpec.floats (b : BurgeeSpec) : Bool := b.flags.testBit 2
def BurgeeSpec.exclusive (b : BurgeeSpec) : Bool := b.flags.testBit 3
def BurgeeSpec.notes (b : BurgeeSpec) : Bool := b.flags.testBit 4

/-- Slot w's occurrences act: it is enabled, and a window of owners 1 to 3 only from ready for service on (R401; log 223). -/
def State.burgeeActs (s : State) (w : Nat) : Bool :=
  let b := s.burgeeSpec w
  b.enabled && (s.phase = .service || b.owner < 1 || 3 < b.owner)

/-- The spans that a window takes in one cycle, from the START in use. -/
def BurgeeSpec.spans (b : BurgeeSpec) (start : Nat) : List Span :=
  { start := start % 65536, len := b.len } :: if b.half then [{ start := (start + 0x8000) % 65536, len := b.len }] else []

/-- Some span of b at this start meets blanking. -/
def State.blanked (s : State) (b : BurgeeSpec) (start : Nat) : Bool := (b.spans start).any s.meetsBlank

/-- The starts at which a moved window just clears one blanking window: right after it, or ending right before it. -/
def State.floatStarts (s : State) (b : BurgeeSpec) : List Nat :=
  s.blankSpans.flatMap fun w => if w.len = 0 then [] else
    [w.start + w.len, w.start + 65536 - b.len, w.start + w.len + 0x8000, w.start + 65536 - b.len + 0x8000].map (· % 65536)

/-- The signed offset of a start from the booked START. -/
def angleOffset (start base : Nat) : Int := toSigned 16 (angleAhead start base)

/-- The nearest clear START within FLOAT_RANGE, the later of two equally near (R31). -/
def State.floatTo (s : State) (b : BurgeeSpec) : Option Nat :=
  let ok := (s.floatStarts b).filter fun x => (angleOffset x b.start).natAbs ≤ b.float && !s.blanked b x
  ok.foldl (fun best x => match best with
    | none => some x
    | some y =>
      let dx := angleOffset x b.start
      let dy := angleOffset y b.start
      if dx.natAbs < dy.natAbs || (decide (dx.natAbs = dy.natAbs) && decide (dy < dx)) then some x else best) none

/-- The START in use of slot w and whether the window is suspended by blanking (R31). -/
def State.burgeeStart (s : State) (w : Nat) : Nat × Bool :=
  let b := s.burgeeSpec w
  if s.blanked b b.start then
    match (if b.floats then s.floatTo b else none) with
    | some x => (x, false)
    | none => (b.start, true)
  else (b.start, false)

/-- STATUS of slot w (OD 2140+w/08). Where a HALF window meets blanking in one of its halves only, STATUS shows it suspended
although the other half still opens: R31 says no more than that the window is suspended (DESIGN CHOICE, log 200). -/
def State.burgeeStatus (s : State) (w : Nat) : Nat :=
  let b := s.burgeeSpec w
  if b.enabled then
    let (x, susp) := s.burgeeStart w
    (if susp then 2 ^ 31 else 0) + (if x ≠ b.start then 2 ^ 30 else 0) + angleAhead x b.start
  else 0

/-- The windows meet the blanking now in force: each STATUS follows, and a window newly suspended or moved raises event 71
(R31, R35). -/
def State.burgeeRefresh (s : State) : State :=
  (List.range 32).foldl (fun t w =>
    let k := 0x2140_08 + 0x100 * w
    let new := t.burgeeStatus w
    if t.nat k = new then t else
      let t' := t.setN k new
      if new ≥ 2 ^ 30 then t'.raise 71 else t') s

/-- The windows of two specs share an angle. -/
def BurgeeSpec.overlaps (a b : BurgeeSpec) : Bool := (a.spans a.start).any fun x => (b.spans b.start).any x.overlaps

/-- Another enabled window of the same owner overlaps b (R30). OWNER 0 counts as an owner here: an enabled host slot that
Table 2-3 calls free clashes with another such slot, is judged and counts its skips (DESIGN CHOICE, log 201). -/
def State.burgeeClash (s : State) (w : Nat) (b : BurgeeSpec) : Bool :=
  (List.range 32).any fun v => v ≠ w && (s.burgeeSpec v).enabled && decide ((s.burgeeSpec v).owner = b.owner) && (s.burgeeSpec v).overlaps b

/-- A refused booking is counted and noted (R30, R35). -/
def State.burgeeRefuse (s : State) : State := (s.bump 0x2101_07).raise 71

/-- Write a window into slot w; an enable loads the slot's PERIOD counter (R29). -/
def State.burgeePut (s : State) (w : Nat) (b : BurgeeSpec) : State :=
  let k := 0x2140_00 + 0x100 * w
  let s := (((((((s.setN (k + 1) b.start).setN (k + 2) b.len).setN (k + 3) b.owner).setN (k + 4) b.flags).setN (k + 5) b.period).setN
    (k + 6) b.ports).setN (k + 7) b.float)
  ({ s with ma := { s.ma with burgee := s.ma.burgee.modify w fun x => { x with skip := 0, last := none } } }).burgeeRefresh

/-- Free slot w. An occurrence that is open runs to its close (R33). -/
def State.burgeeFree (s : State) (w : Nat) : State :=
  s.burgeePut w { start := 0, len := 1, owner := 0, flags := 0, period := 0, ports := 0, float := 0 }

/-- A subsystem books the lowest free slot of 0 to 15, or the booking is refused (R30). -/
def State.burgeeBook (s : State) (b : BurgeeSpec) : State × Option Nat :=
  match (List.range 16).find? fun w => (s.burgeeSpec w).owner = 0 with
  | some w => if s.burgeeClash w b then (s.burgeeRefuse, none) else (s.burgeePut w b, some w)
  | none => (s.burgeeRefuse, none)

/-- An acting occurrence of slot w is open now (R29). -/
def State.burgeeOpen (s : State) (w : Nat) : Bool :=
  match (s.ma.burgee.getD w {}).openAt with
  | some m => decide ((s.ma32 + 2 ^ 32 - m) % 2 ^ 32 < (s.ma.burgee.getD w {}).openLen)
  | none => false

/-- Angle units left until slot w closes. -/
def State.burgeeLeft (s : State) (w : Nat) : Nat :=
  match (s.ma.burgee.getD w {}).openAt with
  | some m => (s.ma.burgee.getD w {}).openLen - (s.ma32 + 2 ^ 32 - m) % 2 ^ 32
  | none => 0

/-- Angle units that us microseconds take at the present rate, rounded up. -/
def State.unitsOfUs (s : State) (us : Nat) : Nat := (us * s.ma.rate * 65536 + 999_999_999_999) / 1_000_000_000_000

/-- An activity of us microseconds fits before slot w closes (R29). -/
def State.fitsWindow (s : State) (w us : Nat) : Bool := s.burgeeOpen w && decide (s.unitsOfUs us ≤ s.burgeeLeft w)

/-- Change one burgee slot's running part. -/
def State.updBurgee (s : State) (w : Nat) (f : Burgee → Burgee) : State :=
  { s with ma := { s.ma with burgee := s.ma.burgee.modify w f } }

/-- The occurrence of slot v in this half opens at `at_`, which lies ahead, and acts there: it is due by its PERIOD count and
meets no blanking. -/
def State.willAct (s : State) (v : Nat) (half : Bool) (at_ : Nat) : Bool :=
  let b := s.burgeeSpec v
  let cyc := if s.angle ≤ at_ then s.ma.cycle else s.ma.cycle + 1
  s.burgeeActs v && decide ((s.ma.burgee.getD v {}).last ≠ some (cyc.toNat, half)) && decide ((s.ma.burgee.getD v {}).skip = 0) &&
    !s.meetsBlank { start := at_, len := b.len }

/-- Slot v opens in an acting occurrence while the span is open: one of its STARTs in use lies inside the span. -/
def State.opensWithin (s : State) (v : Nat) (x : Span) : Bool :=
  [false, true].any fun half =>
    let st := ((s.burgeeStart v).1 + (if half then 0x8000 else 0)) % 65536
    (!half || (s.burgeeSpec v).half) && decide (angleAhead st x.start < x.len) && s.willAct v half st

/-- An acting occurrence of another owner's EXCLUSIVE window overlaps the span x of slot w (R32): it is open, or it will
open before x closes. Of two EXCLUSIVE windows that overlap, the one that opens first holds the other (DESIGN CHOICE,
log 202). -/
def State.heldByExclusive (s : State) (w : Nat) (b : BurgeeSpec) (x : Span) : Bool :=
  (List.range 32).any fun v =>
    let g := s.ma.burgee.getD v {}
    v ≠ w && ((s.burgeeOpen v && g.openExcl && decide (g.openOwner ≠ b.owner)) ||
      ((s.burgeeSpec v).exclusive && decide ((s.burgeeSpec v).owner ≠ b.owner) && !b.exclusive && s.opensWithin v x))

/-- An occurrence that should have acted is skipped: counted and noted (R33, R35). -/
def State.burgeeSkip (s : State) : State := (s.bump 0x2101_07).raise 71

/-- One occurrence of slot w is judged (R29 to R33): passed over by the PERIOD count, skipped (jumped over or suspended),
held by an EXCLUSIVE window, or opened. -/
def State.occurrence (s : State) (w : Nat) (half jumped : Bool) : State :=
  let b := s.burgeeSpec w
  let g := s.ma.burgee.getD w {}
  let s := s.updBurgee w fun x => { x with last := some (s.ma.cycle.toNat, half), skip := if x.skip = 0 then b.period else x.skip - 1 }
  if g.skip ≠ 0 then s
  else
    let st := ((s.burgeeStart w).1 + (if half then 0x8000 else 0)) % 65536
    if jumped || s.meetsBlank { start := st, len := b.len } then s.burgeeSkip
    else if s.heldByExclusive w b { start := st, len := b.len } then s
    else
      let s := s.updBurgee w fun x => { x with openAt := some s.ma32, openLen := b.len, openOwner := b.owner, openExcl := b.exclusive }
      if b.owner = 4 && b.notes then s.raise 71 else s

/-- The occurrence of slot w in this half of this cycle is yet to be judged. -/
def State.occurrenceDue (s : State) (w : Nat) (half : Bool) : Bool :=
  let b := s.burgeeSpec w
  s.burgeeActs w && (!half || b.half) && decide ((s.ma.burgee.getD w {}).last ≠ some (s.ma.cycle.toNat, half))

/-- Occurrences whose START lies from angle `from_` up to `upto` are jumped over by a forward step (R33). -/
def State.jumpOver (s : State) (from_ upto : Nat) : State :=
  (List.range 32).foldl (fun t w => [false, true].foldl (fun t half =>
    let st := ((t.burgeeStart w).1 + (if half then 0x8000 else 0)) % 65536
    if t.occurrenceDue w half && decide (from_ ≤ st) && decide (st < upto) then t.occurrence w half true else t) t) s

/-! ### MA_SYNC_OUT (R34) -/

/-- Drive MA_SYNC_OUT; a change of the pad as driven is an edge of capture source 18 (Table 12-2). -/
def State.driveSync (s : State) (level : Bool) : State :=
  if s.ma.sync = level then s
  else
    let t : State := { s with ma := { s.ma with sync := level } }
    if s.phase = .service then t.capEdge 18 level t.tb64 else t

/-- No pulse is running. -/
def State.syncStill (s : State) : State := { s with ma := { s.ma with syncPulse := none } }

/-- In mode 4 the pad follows blanking; in mode 0 it is low; in mode 3 it is high below 0x8000 (R34). -/
def State.syncFollow (s : State) : State :=
  match s.nat 0x2160_01 with
  | 0 => (s.driveSync false).syncStill
  | 3 => (s.driveSync (decide (s.angle < 0x8000))).syncStill
  | 4 => (s.driveSync s.inBlank).syncStill
  | _ => s

/-! ### Passing the ends of the cycle -/

/-- Changed blanking takes effect at angle 0x0000; a window that runs across it blanks to its end on its old values
(R27). -/
def State.blankLoad (s : State) : State :=
  let carry := s.ma.blank.map fun w => w.start + w.len - 65536
  ({ s with ma := { s.ma with blank := (List.range 8).map s.blankSlot, carry := carry } }).burgeeRefresh

/-- Windows that have closed are forgotten, so that none reads as open again when the angle comes back to it, by a backward
step or when the cycle count has gone round (R29, R33). -/
def State.burgeeShut (s : State) : State :=
  (List.range 32).foldl (fun (t : State) w => if t.burgeeOpen w then t else t.updBurgee w fun g => { g with openAt := none }) s

/-- A reply that began at stamp t0 has met a blanking window of the present cycle (R126). -/
def State.blankedSince (s : State) (t0 : Nat) : Bool :=
  let to_ := s.ma.acc * 1280
  let from_ := to_ - s.ma.rate * (s.now - t0)
  let met (w : Span) : Bool :=
    decide (0 < w.len) && decide (w.start * maCycle * 1280 / 65536 < to_) && decide (from_ < (w.start + w.len) * maCycle * 1280 / 65536)
  s.ma.blank.any met || (s.ma.carry.any fun c => met { start := 0, len := c })

/-- Learning runs: it is on, and the loop is LOCKED (R25). -/
def State.learning (s : State) : Bool := decide (s.ma.state = .locked) && decide (s.nat 0x2120_01 ≠ 0)

/-- A measurement of conducted noise serves learning, in the bin of its angle (R25, R113, R317). -/
def State.learnHear (s : State) (levels : List Nat) : State :=
  if s.learning then { s with ma := { s.ma with heard := (s.angle / 256, levels) :: s.ma.heard } } else s

/-- The angle passes from 0xFFFF to 0x0000: the cycle count increments, the next edge window is to be judged, a learning
pass gains a cycle while LOCKED, changed blanking takes effect, and MA_SYNC_OUT follows (R18, R25, R27, R34). -/
def State.maWrap (s : State) (acc : Nat) : State :=
  let s : State := { s with seqs := s.seqs.map fun (x : Seq) => if x.stage = .reply then { x with blanked := x.blanked || s.blankedSince x.replyT } else x }
  let s := { s with ma := { s.ma with
    acc := acc, cycle := s.ma.cycle + 1, judged := s.ma.early, early := false, learned := if s.learning then s.ma.learned + 1 else s.ma.learned } }
  s.burgeeShut.blankLoad.syncFollow

/-- The angle passes 0x8000. -/
def State.maHalf (s : State) (acc : Nat) : State := ({ s with ma := { s.ma with acc := acc } }).syncFollow

/-- The rate of the angle changes; the rate before it is kept. -/
def Angle.setRate (x : Angle) (rate : Nat) : Angle :=
  if rate = x.rate then x else { x with rate := rate, ratePrev := x.rate, rateAge := 0 }

/-- A correction that is being spread stops here (R450). -/
def Angle.stopMove (x : Angle) : Angle := { x with moveLeft := 0, moveLen := x.moveLen - x.moveLeft }

/-- Accumulator units that the angle has gained in the last `ago` crystal cycles: its rate, and what a spread correction added
in them (R19, R450). -/
def Angle.gained (x : Angle) (ago : Nat) : Int :=
  let spread := min x.moveAge x.moveLen - min (x.moveAge - ago) x.moveLen
  ((x.rate * min ago x.rateAge + x.ratePrev * (ago - x.rateAge) : Nat) : Int) + x.moveRate * (spread : Nat)

/-- The angle that MA showed `ago` crystal cycles back, in accumulator units (R19). -/
def Angle.back (x : Angle) (ago : Nat) : Nat := (((x.acc : Int) - x.gained ago) % (maCycle : Int)).toNat

/-- The accumulator after the next crystal cycle, before it wraps: with any move that R450 spreads. -/
def State.accNext (s : State) : Nat := (((s.ma.acc + s.ma.rate : Nat) : Int) + (if s.ma.moveLeft ≠ 0 then s.ma.moveRate else 0)).toNat

/-- The phase accumulator advances by one crystal cycle. -/
def State.maTick (s : State) : State :=
  let acc := s.accNext
  let s := { s with ma := { s.ma with moveLeft := s.ma.moveLeft - 1, moveAge := s.ma.moveAge + 1, rateAge := s.ma.rateAge + 1 } }
  if maCycle ≤ acc then s.maWrap (acc - maCycle)
  else if s.ma.acc * 2 < maCycle ∧ maCycle ≤ acc * 2 then s.maHalf acc
  else { s with ma := { s.ma with acc := acc } }

/-- The nominal rate, in µHz (OD 2100/01 is in 0.01 Hz). -/
def State.nominalRate (s : State) : Nat := s.nat 0x2100_01 * 10_000

end Sys2Proof.Machine
end

