-- ==== Sys2Proof/Machine/Slices.lean ====
section
/-!
DEFINITION. Pre-emption of self-test slices (R379, R380): what a service request does to the slice in progress.
-/

namespace Sys2Proof.Machine

open Sys2Proof

def groupKey (g sub : Nat) : Nat := 0x3410_00 + 0x100 * g + sub

/-- The slices of each group (Table 18-1). -/
def sliceCounts : List Nat := [1, 256, 32, 32, 16, 4, 40, 16, 4, 2, 16]

def State.updSt (s : State) (f : SelfTest → SelfTest) : State := { s with st := f s.st }

/-- The unit that a slice of a group tests (Tables 18-1 and 18-2). -/
def sliceUnit (g i : Nat) : Nat :=
  match g with
  | 1 | 2 => i / 8
  | 3 | 7 | 8 => i / 2
  | 6 => i / 5
  | 9 => i
  | _ => 0

/-- The window of escalated slices (R380): 260 µs at the nominal frequency, rounded up. -/
def State.escalationWindow (s : State) : BurgeeSpec :=
  { start := s.nat 0x3400_03, len := (260 * s.nat 0x2100_01 * 65536 + 999_999) / 1_000_000, owner := 6, flags := 13, period := 0, ports := 0, float := 0x1000 }

/-- A group becomes escalated, which counts its escalated slice, once for all its attempts (DEDUCED, log 67); the first one books
slot 31. -/
def State.escalate (s : State) (g : Nat) : State :=
  if s.st.escalated.any fun x => x.1 = g then s
  else
    let first := s.st.escalated = []
    let s := (s.updSt fun x => { x with escalated := x.escalated ++ [(g, 0)], tried := if first then none else x.tried }).bump 0x3401_03
    if first then s.burgeePut 31 s.escalationWindow else s

/-- An escalated group is done with: slot 31 goes to the next one, or is free; CONSEC_PREEMPT returns to 0. -/
def State.deescalate (s : State) (g : Nat) : State :=
  let s := (s.updSt fun x => { x with escalated := x.escalated.filter fun y => y.1 ≠ g }).setN (groupKey g 1) 0
  if s.st.escalated = [] then s.burgeeFree 31 else s.burgeePut 31 s.escalationWindow

/-- One slice of a group counts for the cycle; the last completes it (R377). -/
def State.sliceCount (s : State) (g : Nat) : State :=
  let cs := s.st.counts.modify g (· + 1)
  let n := cs.foldl (· + ·) 0
  if 419 ≤ n then ((s.updSt fun x => { x with counts := List.replicate 11 0 }).setN 0x3400_05 0).bump 0x3400_06
  else (s.updSt fun x => { x with counts := cs }).setN 0x3400_05 n

/-- A targeted slice that was pre-empted is the group's next one again (R379, R383). -/
def State.targetAgain (s : State) (x : Slice) : State :=
  if x.targeted then s.updSt fun y => { y with targets := { x with escalated := false } :: y.targets } else s

/-- A slice is pre-empted, at its start or in progress: counted; the eighth in a row escalates its group; an escalated one that
reaches STARVE_LIMIT is skipped for the cycle (R379, R380). -/
def State.slicePreempted (s : State) (x : Slice) : State :=
  let g := x.group
  let n := min 255 (s.nat (groupKey g 1) + 1)
  let s := ((s.updSt fun y => { y with run := none }).bump 0x3401_02).setN (groupKey g 1) n
  if x.escalated then
    let tries := (((s.st.escalated.find? fun y => y.1 = g).map (·.2)).getD 0) + 1
    if s.nat 0x3400_04 ≤ tries then ((((if x.targeted then s else s.sliceCount g).bump 0x3401_04).setN (groupKey g 2) 2).raise 91).deescalate g
    else (s.updSt fun y => { y with escalated := y.escalated.map fun z => if z.1 = g then (g, tries) else z }).targetAgain x
  else if n = 8 then (s.escalate g).targetAgain x
  else s.targetAgain x

/-- A slice of a group is in progress. -/
def State.sliceIn (s : State) (g : Nat) : Bool := s.st.run.any fun x => x.group = g

/-- A service request for units of a group ends a slice on one of them (R379). -/
def State.sliceYield (s : State) (g : Nat) (units : Nat → Bool) : State :=
  match s.st.run with
  | some x => if x.group = g && units (sliceUnit g x.index) then s.slicePreempted x else s
  | none => s

end Sys2Proof.Machine
end

