-- ==== Sys2Proof/Machine/Clock.lean ====
section
/-!
DEFINITION. The clocks: a crystal cycle of TB, powered time and the angle, a bus clock of the legacy counters, and one
fabric clock, which is what the block does while no command waits (chapters 1 and 12; log 2).
-/

namespace Sys2Proof.Machine

open Sys2Proof

/-- Add to one of the counters of R242, which never decrease: one at its last value stays there. -/
def State.addUp (s : State) (k n : Nat) : State := s.setN k (min (2 ^ 32 - 1) (s.nat k + n))

/-- A powered second is complete: POWERED_S advances, and it and the duty bins are stored (R242, R276). -/
def State.poweredSecond (s : State) : State :=
  (({ s with tb := { s.tb with secTicks := 0 }, radio := { s.radio with savedBins := s.radio.bins, savedBinS := s.radio.binS, cleanSave := false } } : State)).addUp 0x2A01_01 1

/-- One crystal cycle toward the powered second; a debug freeze does not stop it (R242, R252). -/
def State.secondTick (s : State) : State :=
  if 27_119_999 ≤ s.tb.secTicks then s.poweredSecond else { s with tb := { s.tb with secTicks := s.tb.secTicks + 1 } }

/-- TB passes 2^48: TB_EPOCH advances and event 65 is raised (R240). -/
def State.tbWrap (s : State) : State :=
  ({ s with tb := { s.tb with tb := 0, epoch := s.tb.epoch + 1 } }).raise 65

/-- TB advances by one (R240). -/
def State.tbTick (s : State) : State :=
  if s.tb.tb = BitVec.allOnes 48 then s.tbWrap else { s with tb := { s.tb with tb := s.tb.tb + 1 } }

/-- Legacy counter i wraps: OVF is set and event 64 raised if EVENT is 1 (R253). -/
def State.lcWrap (s : State) (i : Nat) : State :=
  let s := (s.setN (0x2A40_03 + 0x100 * i) 0).setN (0x2A40_04 + 0x100 * i) 1
  if s.bit (0x2A40_01 + 0x100 * i) 1 then s.raise 64 else s

/-- Legacy counter i counts once: the new state, and whether it wrapped. In the bus clock that loads a COUNT written before,
the write wins (R253). -/
def State.lcCount (s : State) (i : Nat) : State × Bool :=
  let c := s.nat (0x2A40_03 + 0x100 * i)
  if s.tb.lcLoaded.getLsbD i then (s, false)
  else if c = 0xFFFF then (s.lcWrap i, true) else (s.setN (0x2A40_03 + 0x100 * i) (c + 1), false)

/-- Legacy counter i is chained: LC1 and LC3 with CHAIN (R254). -/
def State.lcChained (s : State) (i : Nat) : Bool := decide (i % 2 = 1) && s.bit (0x2A40_01 + 0x100 * i) 2

/-- Legacy counter i runs. -/
def State.lcRuns (s : State) (i : Nat) : Bool := s.bit (0x2A40_01 + 0x100 * i) 0

/-- A wrap of counter i is counted by the counter chained to it (R254). -/
def State.lcCarry (s : State) (i : Nat) : State :=
  if i % 2 = 0 && s.lcChained (i + 1) && s.lcRuns (i + 1) then (s.lcCount (i + 1)).1 else s

/-- Counter i's prescaler is at its last count. -/
def State.lcDue (s : State) (i : Nat) : Bool :=
  s.lcRuns i && !s.lcChained i && decide (2 ^ s.nat (0x2A40_02 + 0x100 * i) ≤ s.tb.lcPre.getD i 0 + 1)

/-- Counter i counts and its prescaler restarts. -/
def State.lcStep (s : State) (i : Nat) : State :=
  let s := { s with tb := { s.tb with lcPre := s.tb.lcPre.set i 0 } }
  let (s, wrapped) := s.lcCount i
  if wrapped then s.lcCarry i else s

/-- One bus clock of the four legacy counters (R253, R254). -/
def State.busTick (s : State) : State :=
  let t := (List.range 4).foldl (fun (t : State) i =>
    if t.lcDue i then t.lcStep i
    else if t.lcRuns i && !t.lcChained i then { t with tb := { t.tb with lcPre := t.tb.lcPre.modify i (· + 1) } }
    else t) s
  { t with tb := { t.tb with lcLoaded := 0 } }

/-- One crystal cycle: the edges of the tick that ends land. While a freeze is in force TB does not advance and the tick
counts as lost (R252). -/
def State.crystalTick (s : State) (frozen : Bool) : State :=
  let s := s.capFlush.secondTick
  let s := if frozen then s.setN 0x2A01_05 (s.nat 0x2A01_05 + 1) else s.tbTick
  s.maTick

/-- One fabric clock: every tenth is a crystal cycle, every fourth a bus clock (Table 1-3). -/
def State.fabricTick (s : State) (frozen : Bool) : State :=
  let ph := (s.tb.ph + 1) % 20
  let s := { s with now := s.now + quantaFabric, tb := { s.tb with ph := ph } }
  let s := if ph % 10 = 0 then s.crystalTick frozen else s
  if ph % 4 = 0 && !frozen then s.busTick else s

/-- So many fabric clocks pass. -/
def State.fabricTicks (s : State) : Nat → State
  | 0 => s
  | n + 1 => (s.fabricTick s.frozen).fabricTicks n

/-- Time passes up to the next crystal cycle, and through it. -/
def State.toCrystal (s : State) : State := s.fabricTicks (10 - s.tb.ph % 10)

/-- Time passes up to the next bus clock, and through it. -/
def State.toBus (s : State) : State := s.fabricTicks (4 - s.tb.ph % 4)

end Sys2Proof.Machine
end

