-- ==== Sys2Proof/Machine/MainsAngle.lean ====
section
/-!
DEFINITION. The meanings of the mains-angle commands (chapter 2): the tracking loop, learning, burgee occurrences and
MA_SYNC_OUT.
-/

namespace Sys2Proof.Machine

open Sys2Proof

/-! ### The tracking loop (R19 to R22, R449, R450) -/

/-- The code of a tracking state (OD 2101/01). -/
def MaState.code : MaState → Nat
  | .freeRun => 0
  | .acquire => 1
  | .locked => 2
  | .holdover => 3
  | .outOfRange => 4

/-- The loop bandwidth in quarter hertz: 4 Hz in ACQUIRE, LOOP_BW otherwise (R450). -/
def State.loopBw4 (s : State) : Nat := if s.ma.state = .acquire then 16 else 2 ^ s.nat 0x2100_03

/-- The rate held within 44.0 to 67.0 Hz (R450). -/
def holdRate (r : Int) : Nat := (clampI 44_000_000 67_000_000 r).toNat

/-- π * 10^15 and π² * 10^12, rounded (log 20). -/
def piE15 : Int := 3_141_592_653_589_793
def piSqE12 : Int := 9_869_604_401_089

/-- The change of rate at an accepted crossing, in µHz: −ω² e units per cycle with ω = 2πB/F. B is b4/4 Hz and F is
`rate` µHz, so it is −π² b4² e / (4 * 65536 F) (R450). -/
def loopRateStep (b4 rate : Nat) (e : Int) : Int := divNear (-(piSqE12 * (b4 * b4 : Nat) * e)) (4 * 65536 * (rate : Int))

/-- The move at an accepted crossing, in accumulator units: −1.414 ω e units of angle, held within ±512 of them (R450). -/
def loopMove (b4 rate : Nat) (e : Int) : Int :=
  let most : Int := 512 * (maCycle : Int) / 65536
  clampI (-most) most (divNear (-(1414 * piE15 * (b4 : Nat) * e * (maCycle : Int))) (2 * 65536 * (rate : Int) * 1_000_000_000_000))

/-- The loop corrects rate and phase; the move is spread evenly over the next cycle, replacing one still being spread (R450).
What one crystal cycle takes of it is rounded to the nearest accumulator unit (log 20). -/
def State.loopCorrect (s : State) (e : Int) : State :=
  let b4 := s.loopBw4
  let mv := loopMove b4 s.ma.rate e
  let rate := holdRate (s.ma.rate + loopRateStep b4 s.ma.rate e)
  let n := maCycle / rate
  { s with ma := { s.ma.setRate rate with moveRate := divNear mv n, moveLeft := n, moveLen := n, moveAge := 0 } }

/-- The loop enters a tracking state: its rate (Table 2-2, R450), its runs, and event 68. -/
def State.maEnter (s : State) (st : MaState) : State :=
  if s.ma.state = st then s else
    let s := if s.ma.state = .locked then s.bump 0x2101_06 else s
    let measured := s.nat 0x2101_02 * 1000
    let rate := match st with
      | .freeRun | .outOfRange => s.nominalRate
      | .holdover => if measured = 0 then s.ma.rate else measured
      | .acquire => if measured = 0 then s.ma.rate else holdRate measured
      | .locked => s.ma.rate
    let stop := st = .freeRun || st = .outOfRange || st = .holdover
    let ma := if stop then s.ma.stopMove else s.ma
    ({ s with ma := { ma.setRate rate with state := st, small := 0, big := 0, inside := 0, acqT0 := s.now } }).raise 68

/-- The angle is stepped to a corrected crossing that lies `ago` crystal cycles back (R22): over 0x0000 where the angle was
0x8000 or above, else within the cycle, forward or back. Occurrences that a forward step jumps over are skipped; after a
backward one none acts again, and a window that the step leaves is closed (R33). The crossing is the one expected at this
0x0000. -/
def State.maStep (s : State) (ago : Nat) : State :=
  let acc := s.ma.rate * ago % maCycle
  let old := s.angle
  let s :=
    if 0x8000 ≤ old then
      let t := (s.jumpOver old 65536).maWrap acc
      t.jumpOver 0 t.angle
    else
      let t := s.jumpOver old (acc * 65536 / maCycle)
      { t with ma := { t.ma with acc := acc } }
  ({ s with ma := { s.ma with stepped := true, judged := true, early := false } }).burgeeShut.syncFollow.raise 69

/-- Entry to ACQUIRE from FREE_RUN, HOLDOVER or OUT_OF_RANGE: an error of at most 4,096 units is slewed, a larger one
and the first crossing after reset step the angle (R22). A crossing that takes the loop out of HOLDOVER is corrected as well,
from the error it had (R450). -/
def State.acquireFrom (s : State) (e : Int) (ago : Nat) : State :=
  let step := !s.ma.everZc || decide (4096 < e.natAbs)
  let out := s.ma.state = .holdover
  let s := s.maEnter .acquire
  let s := if step then s.maStep ago else s
  if out then s.loopCorrect e else s

/-- The transitions of Table 2-1 at an accepted crossing with error e, after the interval was measured. -/
def State.maCrossed (s : State) (e : Int) (ago : Nat) : State :=
  match s.ma.state with
  | .freeRun => s.acquireFrom e ago
  | .outOfRange => if 4 ≤ s.ma.inside then s.acquireFrom e ago else s
  | .holdover => if e.natAbs ≤ 64 then (s.maEnter .locked).loopCorrect e else s.acquireFrom e ago
  | .locked =>
    let big := if 512 < e.natAbs then s.ma.big + 1 else 0
    let s := { s with ma := { s.ma with big := big } }
    (if 2 ≤ big then s.maEnter .acquire else s).loopCorrect e
  | .acquire =>
    let small := if e.natAbs ≤ 64 then s.ma.small + 1 else 0
    let s := { s with ma := { s.ma with small := small, acqT0 := s.now } }
    let s := s.loopCorrect e
    if 4 ≤ small then s.maEnter .locked else s

/-- The expected crossings that an interval spans (R449): in LOCKED and HOLDOVER those missed and the one accepted, which may be
the last that was missed: an edge that arrives past the end of the window in which its corrected crossing lies (DEDUCED, log
256). -/
def State.spanned (s : State) (e : Int) : Nat :=
  let late := s.ma.judged && decide (0 ≤ e) && decide (0 < s.ma.missed)
  if s.ma.state = .locked ∨ s.ma.state = .holdover then s.ma.missed + (if late then 0 else 1) else 1

/-- The interval that an accepted crossing with error e ends (R449): FREQ and the runs of intervals outside 44 to 67 Hz and inside
45 to 66 Hz. An interval over 200 ms is not measured. -/
def State.maMeasure (s : State) (at_ : Nat) (e : Int) : State :=
  match s.ma.lastZc with
  | none => s
  | some t0 =>
    let q := at_ - t0
    let m := s.spanned e
    if q = 0 ∨ quantaSecond < q * 5 then s
    else
      let n := m * quantaSecond
      let out := decide (q * 67 < n) || decide (n < q * 44)
      let inn := decide (n ≤ q * 66) && decide (q * 45 ≤ n)
      let s := s.setFit 0x2101_02 32 (n * 1000 / q)
      { s with ma := { s.ma with outside := if out then s.ma.outside + 1 else 0, inside := if inn then s.ma.inside + 1 else 0 } }

/-- The delay of an edge in quanta: filter and isolator for the measured frequency, plus ZC_TRIM (R19). -/
def State.crossingDelay (s : State) : Nat :=
  ((Config.crossingDelayNs (s.nat 0x2101_02) : Int) + s.int 0x2100_02).toNat * 347136 / 10_000_000

/-- An accepted crossing is noted, with its stamp, which source 19 captures (R19, R247). -/
def State.crossingNoted (s : State) (at_ ago : Nat) (e : Int) : State :=
  let early := decide (e < 0) && decide (0x8000 ≤ s.angle)
  let stamp : BitVec 32 := BitVec.ofNat 32 (s.tb64 - ago)
  ({ s with ma := { s.ma with lastZc := some at_, missed := 0, judged := true, early := early, zcTb := stamp } } : State).capEdge 19 true (s.capStamp ago)

/-- A mains zero-crossing edge (R19). Only a positive-going one steers the loop. It is rejected as a bounce within 7.5 ms
of the last accepted crossing, and in LOCKED and HOLDOVER outside the edge window; otherwise it is accepted. -/
def State.zeroCrossing (s : State) (positive : Bool) : State :=
  if !positive then s else
    let at_ := s.now - s.crossingDelay
    let ago := s.crossingDelay / quantaTick
    let e := toSigned 16 (s.ma.back ago * 65536 / maCycle)
    let bounce := match s.ma.lastZc with
      | some t0 => decide ((at_ - t0) * 2000 < 15 * quantaSecond)
      | none => false
    let gated := s.ma.state = .locked || s.ma.state = .holdover
    if bounce || (gated && decide (s.nat 0x2100_05 < e.natAbs)) then s.bump 0x2101_04
    else
      let s := s.maMeasure at_ e
      let s := s.setI 0x2101_03 e
      let s := s.crossingNoted at_ ago e
      let s := if s.ma.state ≠ .outOfRange && decide (2 ≤ s.ma.outside) then
          ({ s with ma := { s.ma with outside := 0 } }).maEnter .outOfRange
        else s.maCrossed e ago
      { s with ma := { s.ma with everZc := true } }

def execZeroCrossingEdge (positive : Bool) (s : State) : Out := done s (s.zeroCrossing positive)

/-- The edge window of the present 0x0000 has ended with no accepted crossing (R20): it is past EDGE_WINDOW, in the first
half of the cycle, and not yet judged. -/
def State.windowMissed (s : State) : Bool :=
  (s.ma.state = .locked || s.ma.state = .holdover) && !s.ma.judged && decide (s.nat 0x2100_05 ≤ s.angle) && decide (s.angle < 0x8000)

/-- A crossing is missed: LOCKED goes to HOLDOVER, and the eighth in a row takes HOLDOVER to FREE_RUN (Table 2-1). -/
def State.missCrossing (s : State) : State :=
  let s := s.bump 0x2101_05
  let s := { s with ma := { s.ma with judged := true, missed := s.ma.missed + 1 } }
  if s.ma.state = .locked then s.maEnter .holdover
  else if 8 ≤ s.ma.missed then s.maEnter .freeRun else s

def execEdgeWindowEnd (s : State) : Out := nextWhen s.windowMissed s s.missCrossing

/-- No crossing has been accepted in ACQUIRE for 8 nominal cycles (Table 2-1). -/
def State.acquireTimedOut (s : State) : Bool :=
  s.ma.state = .acquire && decide (8 * quantaSecond * 1_000_000 ≤ (s.now - s.ma.acqT0) * s.nominalRate)

def execAcquireTimeout (s : State) : Out := nextWhen s.acquireTimedOut s (s.maEnter .freeRun)

/-- The angle passes to 0x0000 with the next crystal cycle, up to which time passes (R18; log 259). -/
def execAngleWrap (s : State) : Out := nextWhen (decide (maCycle ≤ s.accNext)) s s.toCrystal

/-- The angle passes 0x8000 with the next crystal cycle, up to which time passes (R34, mode 3; log 259). -/
def execAngleHalfCycle (s : State) : Out :=
  nextWhen (decide (s.ma.acc * 2 < maCycle) && decide (maCycle ≤ s.accNext * 2) && decide (s.accNext < maCycle)) s s.toCrystal

/-- The angle enters or leaves a blanking window: MA_SYNC_OUT in mode 4 follows (R28, R34). What else blanking gates reads
the active windows when it starts; a burgee window that only the remainder of an old window suspended is suspended no more
(R27, R31). -/
def execBlankingWindowEdge (s : State) : Out := done s s.burgeeRefresh.syncFollow

/-! ### Learning (R25, R26) -/

/-- A learned region: its first bin and number of bins, and its peak level in 0.5 dB. -/
structure Region where
  span : Span
  peak : Nat
deriving DecidableEq, Repr, Inhabited

/-- The marked bins, in order. -/
def markedBins (levels : List Byte) (thresh : Nat) : List Nat :=
  (List.range 256).filter fun i => 2 * thresh ≤ (levels.getD i 0).toNat

/-- Runs of marked bins, joined where fewer than two unmarked bins separate them (R25). -/
def joinBins (levels : List Byte) : List Nat → List Region → List Region
  | [], acc => acc.reverse
  | i :: rest, [] => joinBins levels rest [⟨⟨i, 1⟩, (levels.getD i 0).toNat⟩]
  | i :: rest, r :: acc =>
    if i ≤ r.span.start + r.span.len + 1 then
      joinBins levels rest (⟨⟨r.span.start, i + 1 - r.span.start⟩, max r.peak (levels.getD i 0).toNat⟩ :: acc)
    else joinBins levels rest (⟨⟨i, 1⟩, (levels.getD i 0).toNat⟩ :: r :: acc)

/-- The last region of the cycle joins the first across 0x0000. -/
def joinRound (rs : List Region) : List Region :=
  match rs, rs.getLast? with
  | f :: g :: rest, some l =>
    if f.span.start + 256 ≤ l.span.start + l.span.len + 1 then
      ((g :: rest).dropLast) ++ [⟨⟨l.span.start, f.span.start + 256 + f.span.len - l.span.start⟩, max f.peak l.peak⟩]
    else rs
  | _, _ => rs

/-- The learned regions in units of angle, each widened by the guard on both sides (R25). -/
def learnRegions (levels : List Byte) (thresh guard_ : Nat) : List Region :=
  (joinRound (joinBins levels (markedBins levels thresh) [])).map fun r =>
    ⟨⟨(r.span.start * 256 + 65536 - guard_) % 65536, r.span.len * 256 + 2 * guard_⟩, r.peak⟩

/-- The gap from region i to the one that follows it round the cycle: none where their guards overlap. -/
def gapAfter (rs : List Region) (i : Nat) : Nat :=
  let a := (rs.getD i default).span
  let b := (rs.getD ((i + 1) % rs.length) default).span
  angleAhead b.start a.start - a.len

/-- The length of the window that spans both: from the first one's start to the end that lies farther. -/
def mergedLen (a b : Span) : Nat := max a.len (angleAhead b.start a.start + b.len)

/-- The first index with the least value of f: of equals the one earlier in the cycle (DESIGN CHOICE, log 204). -/
def argMin (f : Nat → Nat) (n : Nat) : Nat := (List.range n).foldl (fun best i => if f i < f best then i else best) 0

/-- The two nearest regions merge, span included; a merge over 8,192 units drops the weakest region instead, and counts it
(R26). Answers the regions that fit `room` and the number dropped. -/
def fitRegions (room : Nat) : Nat → List Region → Nat → List Region × Nat
  | 0, rs, d => (rs, d)
  | fuel + 1, rs, d =>
    if rs.length ≤ room then (rs, d)
    else
      let i := argMin (gapAfter rs) rs.length
      let j := (i + 1) % rs.length
      let a := rs.getD i default
      let b := rs.getD j default
      let len := mergedLen a.span b.span
      if 1 < rs.length ∧ len ≤ 8192 then
        fitRegions room fuel (((rs.set i ⟨⟨a.span.start, len⟩, max a.peak b.peak⟩)).eraseIdx j) d
      else fitRegions room fuel (rs.eraseIdx (argMin (fun k => (rs.getD k default).peak) rs.length)) (d + 1)

/-- Strongest first. -/
def byStrength (rs : List Region) : List Region := rs |> sortBy fun a b => b.peak ≤ a.peak

/-- Write one blanking slot. -/
def State.blankPut (s : State) (b start len source level : Nat) : State :=
  let k := 0x2130_00 + 0x100 * b
  (((s.setN (k + 1) start).setN (k + 2) len).setN (k + 3) source).setN (k + 4) level

/-- Give the regions to the slots, strongest first; a slot left over becomes free (R26). A region of more than 8,192 units
on its own has no LENGTH that the spec states: a free value (log 22). -/
def State.blankFill (s : State) : List Nat → List Region → State
  | [], _ => s
  | b :: bs, [] => (s.setN (0x2130_03 + 0x100 * b) 0).blankFill bs []
  | b :: bs, r :: rs =>
    let (f, s) := if r.span.len ≤ 8192 then (r.span.len, s) else ((s.draw).1 % 8193, (s.draw).2)
    (s.blankPut b r.span.start f 1 r.peak).blankFill bs rs

/-- The levels of the bins as a pass ends: measurements that fell into a bin count in it (R25, R113, R317). -/
def State.binLevels (s : State) (levels : List Byte) : List Byte :=
  levels.zipIdx.map fun x =>
    match (s.ma.heard.filter fun h => h.1 = x.2).map (·.2) with
    | [] => x.1
    | hs => BitVec.ofNat 8 (Config.binLevel hs x.1.toNat)

/-- A learning pass ends: its regions are written to the slots that learning may take, the levels are published, and event
70 is raised; mode 2 returns to 0 (R25, R26). -/
def State.learnEnd (s : State) (levels : List Byte) : State :=
  let levels := s.binLevels levels
  let slots := (List.range 8).filter fun b => s.nat (0x2130_03 + 0x100 * b) ≠ 2
  let regions := learnRegions levels (s.nat 0x2120_03) (s.nat 0x2120_04)
  let (fit, dropped) := fitRegions slots.length regions.length regions 0
  let s := s.blankFill slots (byStrength fit)
  let s := if dropped = 0 then s else s.add 0x2101_07 dropped
  let s := s.setO 0x2170_01 levels
  let s := { s with ma := { s.ma with learned := 0, heard := [] } }
  let s := if s.nat 0x2120_01 = 2 then s.setN 0x2120_01 0 else s
  s.raise 70

/-- A pass is due: the loop is LOCKED, learning is on and LEARN_CYCLES cycles are accumulated (R25). -/
def State.learnDue (s : State) : Bool :=
  s.ma.state = .locked && decide (s.nat 0x2120_01 ≠ 0) && decide (s.nat 0x2120_02 ≤ s.ma.learned)

def execLearnPassEnd (levels : List Byte) (s : State) : Out := nextWhen s.learnDue s (s.learnEnd levels)

/-! ### Burgee windows and MA_SYNC_OUT -/

/-- The angle reaches the START in use of slot w, in the half given (R29). -/
def State.occurrenceNow (s : State) (w : Nat) (half : Bool) : Bool :=
  s.occurrenceDue w half && s.atAngle ((s.burgeeStart w).1 + if half then 0x8000 else 0)

/-- The angle reaches SYNC_ANGLE in mode 1 or 2, or SYNC_ANGLE + 0x8000 in mode 2 (R34). -/
def State.syncDue (s : State) : Bool :=
  ((s.nat 0x2160_01 = 1 || s.nat 0x2160_01 = 2) && s.atAngle (s.nat 0x2160_02)) ||
    (decide (s.nat 0x2160_01 = 2) && s.atAngle (s.nat 0x2160_02 + 0x8000))

def execMaSyncPulse (s : State) : Out :=
  nextWhen s.syncDue s (({ s with ma := { s.ma with syncPulse := some s.now } } : State).driveSync true)

/-- SYNC_WIDTH has passed since the pulse began (R34). -/
def State.syncOver (s : State) : Bool :=
  match s.ma.syncPulse with
  | some t0 => s.passedUs t0 (s.nat 0x2160_03)
  | none => false

def execMaSyncPulseEnd (s : State) : Out :=
  nextWhen s.syncOver s (s.driveSync false).syncStill

/-! ### Reads with a side effect (R24, R36) -/

/-- The key under which a reader keeps its latch: each node has one, whatever role its request carries (R24). -/
def readerOf : Who → Who
  | .remote n _ => .remote n .operator
  | .staged _ => .rules
  | w => w

/-- A read of OD 2110/01: the angle, and the cycle count of the same instant latched for that reader (R24). -/
def State.readAngle (s : State) (who : Who) : State :=
  { s with out := .num s.angle
           ma := { s.ma with latch := (readerOf who, s.ma.cycle) :: s.ma.latch.filter fun x => x.1 ≠ readerOf who } }

/-- OD 2110/02 for one reader: its latch, or the live count (R24). -/
def State.readCycle (s : State) (who : Who) : Nat :=
  match s.ma.latch.find? fun x => x.1 = readerOf who with
  | some x => x.2.toNat
  | none => s.ma.cycle.toNat

/-- FW_MA_STAT (Table 2-5). -/
def State.maStat (s : State) : Nat :=
  s.ma.state.code + (if s.ma.stepped then 8 else 0) + (if s.inBlank then 16 else 0) +
    256 * (List.range 8).foldl (fun m b => if s.blankActive b then m + 2 ^ b else m) 0

/-- A read of FW_MA_STAT returns the status and clears STEPPED (R36). -/
def State.readMaStat (s : State) : State := { s with out := .num s.maStat, ma := { s.ma with stepped := false } }

def execMaStatRead (s : State) : Out := done s s.readMaStat

/-! ### Dictionary writes of indices 2100 to 21FF (R37) -/

/-- The module's own burgee slots, 0 to 15 and 31, which no host writes (Table 2-8). -/
def slotDenied (k : Nat) : Bool := 0x2140_00 ≤ k && decide (k < 0x2160_00) && (decide (k < 0x2150_00) || decide (0x215F_00 ≤ k))

/-- A host booking that overlaps another window of its owner is refused (R30, Table 2-8). -/
def State.angleCheck (s : State) (k : Nat) (v : Val) : Status :=
  let w := k / 256 - 0x2140
  if 0x2140_01 ≤ k ∧ k ≤ 0x215F_07 then
    let s' := s.put k v
    if (s'.burgeeSpec w).enabled && s.burgeeClash w (s'.burgeeSpec w) then .state else .ok
  else .ok

/-- A refused booking is counted (R30). -/
def State.angleRefused (s : State) (k : Nat) : State :=
  if 0x2150_01 ≤ k ∧ k ≤ 0x215E_07 then s.burgeeRefuse else s

/-- What follows an accepted write of a mains-angle entry that already holds its new value; `old` is the state before. A write
of LEARN_MODE in the middle of a pass leaves the cycles accumulated so far, and the next pass goes on from them (DESIGN
CHOICE, log 203). -/
def State.angleWritten (s old : State) (k : Nat) : State :=
  if k = 0x2100_01 then
    (if s.ma.state = .freeRun ∨ s.ma.state = .outOfRange then { s with ma := s.ma.setRate s.nominalRate } else s)
  else if 0x2130_01 ≤ k ∧ k ≤ 0x2137_04 then
    let b := k / 256 - 0x2130
    if k % 256 = 3 then s.setN (0x2130_04 + 0x100 * b) 0
    else if s.nat (0x2130_03 + 0x100 * b) = 1 then (s.setN (0x2130_03 + 0x100 * b) 2).setN (0x2130_04 + 0x100 * b) 0
    else s
  else if 0x2150_01 ≤ k ∧ k ≤ 0x215E_07 then
    let w := k / 256 - 0x2140
    let armed := !(old.burgeeSpec w).enabled && (s.burgeeSpec w).enabled
    (if armed then s.updBurgee w fun x => { x with skip := 0, last := none } else s).burgeeRefresh
  else if 0x2160_01 = k then
    (s.driveSync false).syncStill.syncFollow
  else s

end Sys2Proof.Machine
end

