-- ==== Sys2Proof/Machine/TimeBase.lean ====
section
/-!
DEFINITION. The meanings of the time-base commands (chapter 12): TB, compare and capture channels, legacy counters.
-/

namespace Sys2Proof.Machine

open Sys2Proof

/-- Key of a compare, capture or legacy-counter entry. -/
def cmpKey (n sub : Nat) : Nat := 0x2A10_00 + 0x100 * n + sub
def lcKey (i sub : Nat) : Nat := 0x2A40_00 + 0x100 * i + sub

/-! ### TB -/

/-- TB stands at 2^48 − 1 and wraps with the next crystal cycle, up to which time passes (R240; log 259). -/
def execTbWrap (s : State) : Out := nextAny (decide (s.tb.tb = BitVec.allOnes 48) && !s.frozen && s.coreRuns) s s.toCrystal

/-- A read of FW_TB_LO returns TB[31:0] and latches FW_TB_HI for that session (R241). -/
def State.readTbLo (s : State) (sess : Sess) : State :=
  let hi : BitVec 32 := BitVec.ofNat 32 (s.tb64 / 2 ^ 32)
  { s with out := .num (s.tb64 % 2 ^ 32 : Nat)
           tb := match sess with
             | .spi => { s.tb with hiSpi := some hi }
             | .uart => { s.tb with hiUart := some hi } }

def execTbLoRead (sess : Sess) (s : State) : Out := done s (s.readTbLo sess)

/-- FW_TB_HI: the latched value, or the live one if FW_TB_LO has not been read since reset (R241). -/
def State.tbHi (s : State) (sess : Sess) : Nat :=
  ((match sess with | .spi => s.tb.hiSpi | .uart => s.tb.hiUart).getD (BitVec.ofNat 32 (s.tb64 / 2 ^ 32))).toNat

/-- The 27,120,000th crystal cycle of a second, up to which time passes (R242; log 259). -/
def execPoweredSecond (s : State) : Out := nextAny (decide (s.tb.secTicks = 27_119_999) && s.coreRuns) s s.toCrystal

/-! ### Compare channels (R244 to R246, R250) -/

/-- (t − value) mod 2^48. -/
def tbDiff (t value : Nat) : Nat := (t % 2 ^ 48 + 2 ^ 48 - value % 2 ^ 48) % 2 ^ 48

/-- Channel n is enabled and armed. -/
def State.cmpArmed (s : State) (n : Nat) : Bool := s.bit (cmpKey n 1) 0 && s.bit (cmpKey n 4) 0

/-- Arm channel n: the write tick W is now (R245). -/
def State.cmpArm (s : State) (n : Nat) : State :=
  ({ s with tb := { s.tb with cmpW := s.tb.cmpW.set n s.tb64, cmpCrossed := s.tb.cmpCrossed &&& ~~~ BitVec.ofNat 16 (2 ^ n) } }).setBit (cmpKey n 4) 0 true

/-- The first evaluation of channel n, at tick W + 1, finds VALUE reached (R245). -/
def State.cmpAtOnce (s : State) (n : Nat) : Bool := decide (tbDiff (s.tb.cmpW.getD n 0 + 1) (s.nat (cmpKey n 2)) < 2 ^ 47)

/-- A make-up crossed the channel's VALUE (R250). -/
def State.cmpCrossed (s : State) (n : Nat) : Bool := s.tb.cmpCrossed.getLsbD n

/-- Channel n fires by the present tick: it is armed, TB has passed its write tick, and a make-up crossed VALUE or VALUE is
reached (R244, R250). A freeze stops evaluation (R252). -/
def State.cmpDue (s : State) (n : Nat) : Bool :=
  s.cmpArmed n && !s.frozen && decide (s.tb.cmpW.getD n 0 < s.tb64) &&
    (s.cmpCrossed n || decide (tbDiff s.tb64 (s.nat (cmpKey n 2)) < 2 ^ 47))

/-- The tick at which channel n fires: the first one after a make-up, W + 1 when VALUE was behind, else VALUE. -/
def State.cmpFireTick (s : State) (n : Nat) : Nat :=
  if s.cmpCrossed n then s.tb.upAt + 1 else if s.cmpAtOnce n then s.tb.cmpW.getD n 0 + 1 else s.nat (cmpKey n 2)

/-- The firing is LATE: made by a make-up, or at the first evaluation with VALUE different from that tick (R245, R250). -/
def State.cmpLate (s : State) (n : Nat) : Bool :=
  s.cmpCrossed n || (s.cmpAtOnce n && decide (s.nat (cmpKey n 2) ≠ (s.tb.cmpW.getD n 0 + 1) % 2 ^ 48))

/-- The least m ≥ 1 for which VALUE + m * PERIOD lies in the future at the tick after t (R246). -/
def periodsTo (t value period : Nat) : Nat := tbDiff (t + 1) value / period + 1

/-- Channel n fires (R244): ARMED clears, FIRED sets, FIRES counts; a periodic channel re-arms past the present (R246). -/
def State.cmpFire (s : State) (n : Nat) : State :=
  let ctrl := s.nat (cmpKey n 1)
  let value := s.nat (cmpKey n 2)
  let period := s.nat (cmpKey n 3)
  let t := s.cmpFireTick n
  let periodic := ctrl.testBit 2 && decide (period ≠ 0)
  let m := periodsTo t value period
  let late := s.cmpLate n || (periodic && decide (1 < m))
  let s := { s with tb := { s.tb with cmpCrossed := s.tb.cmpCrossed &&& ~~~ BitVec.ofNat 16 (2 ^ n) } }
  let s := ((s.setBit (cmpKey n 4) 0 false).setBit (cmpKey n 4) 1 true).bump (cmpKey n 5)
  let s := if late then s.setBit (cmpKey n 4) 2 true else s
  let s := if periodic then
      let s := s.setN (cmpKey n 2) ((value + m * period) % 2 ^ 48)
      let s := if 1 < m then s.add (cmpKey n 6) (m - 1) else s
      ({ s with tb := { s.tb with cmpW := s.tb.cmpW.set n t } }).setBit (cmpKey n 4) 0 true
    else s
  let s := if ctrl.testBit 1 then s.raise 60 else s
  if late then s.raise 61 else s

def execCompareFire (n : Fin 16) (s : State) : Out := nextWhen (s.cmpDue n) s (s.cmpFire n)

/-! ### Capture channels (R247, R248) -/

/-- CAPTURE_EDGE (R247): an edge at a pad, GP0 to GP15 or WAKE, accepted after two TB ticks and corrected by them, within the
tick either way that the rule allows (`off`). The events of the other sources are the block's own, and each lands as it
happens. -/
def execCaptureEdge (c : Fin 8) (rising : Bool) (off : Fin 3) (s : State) : Out :=
  nextWhen (s.capTakes c rising && decide (s.nat (capKey c 1) ≤ 17)) s (s.capTake c (s.capStamp (1 + off)))

/-! ### Legacy counters (R253, R254) -/

/-- The counter stands at 0xFFFF and its prescaler at its last count: it wraps with the next bus clock, up to which time
passes (R253; log 259). -/
def execLcOverflow (i : Fin 4) (s : State) : Out :=
  nextWhen (s.lcDue i && decide (s.nat (lcKey i 3) = 0xFFFF) && !s.frozen && !s.tb.lcLoaded.getLsbD i) s s.toBus

/-! ### Dictionary writes of indices 2A00 to 2AFF -/

/-- Writing PERIODIC 1 with PERIOD 0 is refused (R246; its status is the model's choice, log 12). -/
def State.timerCheck (s : State) (k : Nat) (v : Val) : Status :=
  if 0x2A10_00 ≤ k ∧ k < 0x2A20_00 ∧ k % 256 = 1 ∧ v.int.toNat.testBit 2 ∧ s.nat (k + 2) = 0 then .state else .ok

/-- What an accepted write leaves in a status entry: writing 1 clears a sticky flag, the read-only flag stays, and OVF is
cleared by 0 alone (Tables 12-9 to 12-11). -/
def State.timerMerge (s : State) (k : Nat) (v : Val) : Val :=
  if 0x2A10_00 ≤ k ∧ k < 0x2A20_00 ∧ k % 256 = 4 then .num ((s.nat k - (s.nat k &&& (v.int.toNat &&& 6)) : Nat))
  else if 0x2A30_00 ≤ k ∧ k < 0x2A38_00 ∧ k % 256 = 4 then .num ((s.nat k - (s.nat k &&& (v.int.toNat &&& 2)) : Nat))
  else if 0x2A40_00 ≤ k ∧ k < 0x2A44_00 ∧ k % 256 = 4 ∧ v.int = 1 then s.val k
  else v

/-- A write of a compare channel's CTRL, VALUE or PERIOD acts from tick W + 1: what the channel fires by tick W it still fires, with
its old values (R245). -/
def State.cmpFirst (s : State) (k : Nat) : State :=
  if 0x2A10_00 ≤ k ∧ k < 0x2A20_00 ∧ k % 256 ≤ 3 ∧ s.cmpDue (k / 256 - 0x2A10) then s.asHardware fun u => u.cmpFire (k / 256 - 0x2A10) else s

/-- A freeze begins or ends with this write of FREEZE while the core is halted (R252). -/
def State.freezeEdge (s old : State) : State := if s.frozen ≠ old.frozen then s.raise 67 else s

/-- What follows an accepted write of a time-base entry that already holds its new value. -/
def State.timerWritten (s old : State) (k : Nat) : State :=
  if 0x2A10_00 ≤ k ∧ k < 0x2A20_00 then
    let n := k / 256 - 0x2A10
    if k % 256 = 1 then
      if !s.bit k 0 then s.setBit (cmpKey n 4) 0 false
      else if !old.bit k 0 then s.cmpArm n else s
    else if k % 256 = 2 then s.cmpArm n
    else s
  else if 0x2A40_00 ≤ k ∧ k < 0x2A44_00 then
    let i := k / 256 - 0x2A40
    if k % 256 = 2 ∨ (k % 256 = 1 ∧ s.bit k 0 ∧ ¬ old.bit k 0) then { s with tb := { s.tb with lcPre := s.tb.lcPre.set i 0 } }
    else if k % 256 = 3 then { s with tb := { s.tb with lcLoaded := s.tb.lcLoaded ||| BitVec.ofNat 4 (2 ^ i) } } else s
  else if k = 0x2A01_04 then s.freezeEdge old
  else s

/-- FW_TMR_FLAGS (Table 12-7). -/
def State.tmrFlags (s : State) : Nat :=
  (List.range 16).foldl (fun m n => if s.bit (cmpKey n 4) 1 then m + 2 ^ n else m) 0 +
  (List.range 8).foldl (fun m c => (if s.bit (capKey c 4) 0 then 2 ^ (16 + c) else 0) + (if s.bit (capKey c 4) 1 then 2 ^ (24 + c) else 0) + m) 0

/-- A write of FW_TMR_FLAGS clears the FIRED and OVERRUN flags written 1 (Table 12-7). -/
def State.tmrClear (s : State) (v : Nat) : State :=
  let s := (List.range 16).foldl (fun t n => if v.testBit n then t.setBit (cmpKey n 4) 1 false else t) s
  (List.range 8).foldl (fun t c => if v.testBit (24 + c) then t.setBit (capKey c 4) 1 false else t) s

end Sys2Proof.Machine
end

