-- ==== Sys2Proof/Machine/Power.lean ====
section
/-!
DEFINITION. Grants held and claims made with Halyard (R217, R218), and the core reserve (Table 10-5).
-/

namespace Sys2Proof.Machine

open Sys2Proof

/-! ### Claims and grants held (R217, R218) -/

/-- What a claimant holds, in mW. -/
def heldOf (h : List (Claimant × Nat)) (c : Claimant) : Nat :=
  match h with
  | [] => 0
  | x :: rest => if x.1 = c then x.2 else heldOf rest c

/-- Set what a claimant holds; nothing held is not listed. -/
def setHeld (h : List (Claimant × Nat)) (c : Claimant) (mw : Nat) : List (Claimant × Nat) :=
  let rest := h.filter fun x => x.1 ≠ c
  if mw = 0 then rest else (c, mw) :: rest

/-- The grant a claimant holds. -/
def State.held (s : State) (c : Claimant) : Nat := heldOf s.hal.held c

def State.setGrant (s : State) (c : Claimant) (mw : Nat) : State :=
  { s with hal := { s.hal with held := setHeld s.hal.held c mw } }

/-- The status last given to a claimant. -/
def State.answerTo (s : State) (c : Claimant) : Option ClaimStatus := (s.hal.answers.find? fun x => x.1 = c).map (·.2)

def State.answer (s : State) (c : Claimant) (a : ClaimStatus) : State :=
  { s with hal := { s.hal with answers := (c, a) :: s.hal.answers.filter fun x => x.1 ≠ c } }

/-- The class of a claimant (Table 10-6). -/
def Claimant.cls : Claimant → Nat
  | .ackRadio | .ackPl => 1
  | .port _ => 2
  | .radio => 3
  | .powerline => 4
  | .vout => 5

/-- The claim of this claimant that waits. -/
def State.claimOf (s : State) (c : Claimant) : Option Claim := s.hal.claims.find? fun x => x.who = c

/-- Withdraw a waiting claim. -/
def State.dropClaim (s : State) (c : Claimant) : State :=
  { s with hal := { s.hal with claims := s.hal.claims.filter fun x => x.who ≠ c } }

/-- A claim for mw beyond what is held takes its place behind those waiting; a claim of the same claimant that already
waits keeps its place and its time with the new size. -/
def State.submitClaim (s : State) (c : Claim) : State :=
  let s := match s.claimOf c.who with
    | some _ => { s with hal := { s.hal with claims := s.hal.claims.map fun (x : Claim) => if x.who = c.who then { c with t0 := x.t0 } else x } }
    | none => { s with hal := { s.hal with claims := s.hal.claims ++ [c] } }
  s.answer c.who .waiting

def SupplyState.code : SupplyState → Nat
  | .normal => 0
  | .switchover => 1
  | .rideThrough => 2
  | .shutdown => 3

def PowerState.code : PowerState → Nat
  | .active => 0
  | .networked => 1
  | .deep => 2
  | .sleep => 3

/-- The powerline receiver is on: the line is present, and the module is ready and not in deep standby or SLEEP; BAND 0 turns
off the transmitter alone (R301, R318, R401, Table 19-3). -/
def State.plOn (s : State) : Bool :=
  s.phase = .service && decide (s.nat 0x3200_0B ≠ 0) && (s.power = .active || s.power = .networked)

/-- The claimants of the powerline transmitter: its frames and its acknowledgements. -/
def Claimant.isPl (c : Claimant) : Bool := c = .powerline || c = .ackPl

/-- The core reserve of this tick (Table 10-5). -/
def State.coreReserve (s : State) : Nat :=
  match s.power with
  | .active =>
    620 + 85 * (s.rx.filter fun r => r.cancel ≠ .off || r.ticked).length + (if s.radio.state = .rx then 95 else 0) + (if s.plOn then 70 else 0)
  | .networked => 120
  | .deep => 36
  | .sleep => 0

/-- A claimant is refused: the status, the class's counter and the wait. -/
def State.refuseClaim (s : State) (c : Claim) (a : ClaimStatus) : State :=
  (((s.dropClaim c.who).bump (0x2012_01 + c.who.cls)).add (0x2013_01 + c.who.cls) (s.sinceUs c.t0)).answer c.who a

/-- The claim of a claimant that still waits ends: refused with a status, which is counted with its wait, or withdrawn (R217). -/
def State.endClaim (s : State) (c : Claimant) (a : Option ClaimStatus) : State :=
  match s.claimOf c, a with
  | some x, some a => s.refuseClaim x a
  | some _, none => s.dropClaim c
  | none, _ => s

/-- No mains carries the line: ride-through, or the line absent (R211, R318). -/
def State.noLine (s : State) : Bool := s.supply.state = .rideThrough || decide (s.nat 0x3200_0B = 0)

/-- The largest claim that could ever be granted (R217). -/
def State.claimMax (s : State) (c : Claimant) : Nat :=
  let m := (if s.flag 0x2010_02 then 14000 else 7500) - s.coreReserve - s.held .vout
  if c.cls = 2 then min m (s.nat 0x2010_01) else m

/-- A claim is made: one too large ever to be granted is refused with SIZE, a powerline claim in ride-through with NO_LINE;
any other waits for a tick (R211, R217). -/
def State.claim (s : State) (c : Claim) : State :=
  if s.claimMax c.who < s.held c.who + c.mw then s.refuseClaim c .size
  else if c.who.isPl && s.noLine then s.refuseClaim c .noLine
  else s.submitClaim c

end Sys2Proof.Machine
end

