-- ==== Sys2Proof/Machine/Ports.lean ====
section
/-!
DEFINITION. Operations of the field ports (chapter 3).
-/

namespace Sys2Proof.Machine

open Sys2Proof

/-! ### A port's entries and state -/

/-- Key of an entry of port p: index 22pd. -/
def portKey (p d sub : Nat) : Nat := 0x2200_00 + 0x1000 * p + 0x100 * d + sub

def State.port (s : State) (p : Nat) : Port := s.ports.getD p {}

def State.updPort (s : State) (p : Nat) (f : Port → Port) : State := { s with ports := s.ports.modify p f }

def PortState.code : PortState → Nat
  | .off => 0
  | .charging => 1
  | .rampUp => 2
  | .carrier => 3
  | .modulating => 4
  | .rampDown => 5
  | .fault => 6

/-- The carrier runs: CARRIER or MODULATING. -/
def PortState.on : PortState → Bool
  | .carrier | .modulating => true
  | _ => false

/-- The port may hold a grant: CHARGING through RAMP_DOWN (R54). -/
def PortState.live : PortState → Bool
  | .off | .fault => false
  | _ => true

/-- The bias charge at quanta `at_` in quanta, 20 µs at the most (R44). -/
def State.biasAt (s : State) (p at_ : Nat) : Nat :=
  let x := s.port p
  match x.state with
  | .off | .fault => x.bias0 - (at_ - x.t0)
  | .charging => min (usQuanta 20) (x.bias0 + (at_ - x.t0))
  | _ => usQuanta 20

/-- The present bias charge in quanta (R44). -/
def State.biasQuanta (s : State) (p : Nat) : Nat := s.biasAt p s.now

/-- q in whole µs-equivalent (R44). In CHARGING it counts whole µs from the whole µs of the credit, so that it reaches 20 after
20 − q rounded up to a whole µs. -/
def State.bias (s : State) (p : Nat) : Nat :=
  let x := s.port p
  match x.state with
  | .charging => min 20 (x.bias0 * 10 / 347136 + s.sinceUs x.t0)
  | _ => s.biasQuanta p * 10 / 347136

/-! ### Ramps (R45, R49) -/

/-- Table 3-2: the amplitude fraction at x, both in 1/65536. -/
def profile (shape x : Nat) : Nat :=
  if shape = 0 then x
  else if shape = 1 then ((2 ^ 48 - (turn (x / 32)).1) / 2 ^ 33).toNat
  else (3 * x * x * 65536 - 2 * x * x * x) / 2 ^ 32

/-- RAMP_UP_US, RAMP_DOWN_US and RAMP_SHAPE as they hold: a survey has ramps of its own (R62, R65). -/
def Port.upNow (x : Port) : Nat := if x.surveyRamp then 10 else x.upUs
def Port.downNow (x : Port) : Nat := if x.surveyRamp then 10 else x.downUs
def Port.ownShape (x : Port) : Nat := if x.surveyRamp then 1 else x.shape

/-- Quanta of the whole ramp in force: RAMP_UP_US or RAMP_DOWN_US, or 2 µs in an emergency (R47). -/
def Port.rampQuanta (x : Port) : Nat :=
  if x.emergency then usQuanta 2 else if x.state = .rampUp then usQuanta x.upNow else usQuanta x.downNow

/-- The shape in force: raised cosine in an emergency (R47). -/
def Port.shapeNow (x : Port) : Nat := if x.emergency then 1 else x.ownShape

/-- Quanta of one drive word (6.78 MHz). -/
def quantaWord : Nat := 4 * quantaTick

/-- The drive-word boundary at or after now, and the last one (R43). -/
def State.nextWord (s : State) : Nat := (s.now + (quantaWord - 1)) / quantaWord * quantaWord
def State.lastWord (s : State) : Nat := s.now / quantaWord * quantaWord

/-- Something on the port modulates or is in transition: the port's ramp, a frame, or a component's own way (R152). -/
def Port.stirs (x : Port) : Bool :=
  x.state = .rampUp || x.state = .modulating || x.state = .rampDown || x.comps.any fun c => c.doing ≠ .steady || c.out.isSome

/-- The port changes its state from quanta `at_` on; until then the state it leaves shows, or the one that showed until the same
boundary (R43). -/
def Port.goes (x : Port) (st : PortState) (at_ : Nat) : Port :=
  { x with state := st, t0 := at_, was := if at_ = x.seenAt then x.was else x.state, seenAt := at_, stirT0 := if x.stirs then at_ else x.stirT0 }

/-- The state that OD 22p2/01 shows (R43). -/
def State.stateSeen (s : State) (p : Nat) : PortState := if s.now < (s.port p).seenAt then (s.port p).was else (s.port p).state

/-- The position of the ramp on its profile, in 1/65536 of full amplitude's place; it steps once per carrier cycle (R49). -/
def State.rampPos (s : State) (p : Nat) : Nat :=
  let x := s.port p
  let d := (s.now / (2 * quantaTick) * (2 * quantaTick) - x.t0) * 65536 / x.rampQuanta
  match x.state with
  | .rampUp => if x.hold then x.x0 else min 65536 (x.x0 + d)
  | .rampDown => x.x0 - d
  | .carrier | .modulating => 65536
  | _ => 0

/-- The target codes of a component: the ones that wait, else those it has or is on its way to. -/
def Component.target (c : Component) : Nat × Nat := c.next.getD (c.amp, c.phase)

/-- A component that is planned: not withdrawn. -/
def Component.planned (c : Component) : Bool := c.left.isNone

/-- The codes that a port's planned components ask for. -/
def Port.targets (x : Port) : List (Nat × Nat) := (x.comps.filter Component.planned).map Component.target

/-- The port is in use: some planned component is non-zero (R40). -/
def Port.inUse (x : Port) : Bool := x.targets.any fun c => c.1 ≠ 0

/-- Row r, column p of the Sylvester–Hadamard matrix is −1 (R65). -/
def hadamardMinus (r p : Nat) : Bool := decide (((List.range 3).filter fun i => r.testBit i && p.testBit i).length % 2 = 1)

/-- The row of the survey's pattern that is driven: 295 µs each (Table 4-1, step 3). -/
def State.surveyRow (s : State) : Nat := min 7 (s.sinceUs s.survey.rowT0 / 295)

/-- The sign and size of a survey component on port p at quanta `at_` (R65): ±1, and on the straight line of the 5 µs
transition in between. -/
def State.surveySign (s : State) (p at_ : Nat) : Rat :=
  let d := at_ - s.survey.rowT0
  let r := min 7 (d / usQuanta 295)
  let sign (r : Nat) : Rat := if hadamardMinus r p then -1 else 1
  let into := min 65536 ((d - r * usQuanta 295) * 65536 / usQuanta 5)
  if s.survey.phase ≠ .driving || !s.survey.rows || r = 0 then 1
  else sign (r - 1) + (sign r - sign (r - 1)) * (((into : Nat) : Rat) / 65536)

/-- The coefficients that filter a component: those its lane's last frame took, else those mapped for a mode of OD 22p4 (R51,
R52). -/
def State.filterOf (s : State) (p : Nat) (c : Component) (mode : Nat) : List Byte :=
  if c.coef = [] then s.oct (0x2290_01 + 0x100 * s.nat (portKey p 4 mode)) else c.coef

/-- The 32-tap FIR over an envelope at quanta `at_`, tap 0 the newest word (R51). -/
def filtered (coef : List Byte) (env : Nat → Rat) (at_ : Nat) : Rat :=
  (List.range 32).foldl (fun m i => m + ((iAt coef (2 * i) 2 : Int) : Rat) * env (at_ - i * quantaWord)) 0 / 16384

/-- The place on the profile, in 1/65536, of a ramp in that began at stamp r.1 from place r.2 (R41). -/
def Port.inPos (x : Port) (r : Nat × Nat) (at_ : Nat) : Nat := min 65536 (r.2 + (at_ - r.1) * 65536 / usQuanta x.upNow)

/-- The place of a component's own ramp at quanta `at_`: where a ramp the other way begins (R41). -/
def Port.ownPos (x : Port) (c : Component) (at_ : Nat) : Nat :=
  match c.doing with
  | .rampIn => x.inPos (c.t0, c.x0) at_
  | _ => 65536

/-- n of 65536. -/
def part (n : Nat) : Rat := ((n : Nat) : Rat) / 65536

/-- The value of a component at quanta `at_` but for its ramp out and without modulation: its ramp in, through the FIR of its lane,
its way along the straight line, or its codes (R41, R42, R49, R51), and in a survey the row's sign (R65). -/
def State.goingAt (s : State) (p at_ : Nat) (c : Component) : Cx :=
  let x := s.port p
  let full := codePhasor c.amp c.phase
  let full := if c.lane = 4 then full.scale (s.surveySign p at_) else full
  let ramp (r : Nat × Nat) : Cx := full.scale (filtered (s.filterOf p c 1) (fun w => part (profile x.ownShape (x.inPos r w))) at_)
  match c.doing with
  | .rampIn => ramp (c.t0, c.x0)
  | .moving =>
    let src := (Cx.ofInts c.src).scale (1 / 65536)
    src.add ((full.sub src).scale (part (min 65536 ((at_ - c.t0) * 65536 / usQuanta c.span))))
  | .steady => match c.ramped with
    | some r => if at_ < r.1 + usQuanta x.upNow + 32 * quantaWord then ramp r else full
    | none => full

/-- The value of a component at quanta `at_` without modulation: on its own ramp out it goes down from where it was, through the FIR
of its lane (R41, R51). -/
def State.componentAt (s : State) (p at_ : Nat) (c : Component) : Cx :=
  match c.out with
  | some o =>
    let x := s.port p
    let from_ := x.ownPos c o
    let env (w : Nat) : Rat := if w ≤ o then 1 else
      ((profile x.ownShape (from_ - (w - o) * 65536 / usQuanta x.downNow) : Nat) : Rat) / ((max 1 (profile x.ownShape from_) : Nat) : Rat)
    if at_ ≤ o then s.goingAt p at_ c else (s.goingAt p o c).scale (filtered (s.filterOf p c 1) env at_)
  | none => s.goingAt p at_ c

/-- The phasor sum of the components in the last drive word, unmodulated and not yet held within A_lim (R40). -/
def State.sumNow (s : State) (p : Nat) : Cx :=
  (s.port p).comps.foldl (fun acc c => acc.add (s.componentAt p s.lastWord c)) Cx.zero

/-- The factor that holds the sum within A_lim at the last drive word, in 1/2^32 (R42, R55). -/
def State.clampNow (s : State) (p : Nat) : Nat :=
  let x := s.port p
  let d := min 65536 ((s.lastWord - x.clampT0) * 65536 / usQuanta x.clampUs)
  ((x.clampFrom : Int) + ((x.clampTo : Int) - x.clampFrom) * d / 65536).toNat

/-- A length scaled by the clamp and by the ramp's profile, as a code. -/
def State.scaledAmp (s : State) (p : Nat) (z : Cx) : Nat :=
  let k : Rat := ((s.clampNow p * profile (s.port p).shapeNow (s.rampPos p) : Nat) : Rat) / (4294967296 * 65536)
  match (s.port p).downFrom with
  | some a => (a * profile (s.port p).shapeNow (s.rampPos p) + 32768) / 65536
  | none => sqrtRound 1 (z.normSq * k * k)

/-- The amplitude code that the port's components and ramp give, apart from modulation. -/
def State.ampBase (s : State) (p : Nat) : Nat := s.scaledAmp p (s.sumNow p)

/-! ### Modulation and shaping of the envelope (R50, R51) -/

/-- The modulation index of a mode of OD 22p4 in 0.1 % (Table 3-3). -/
def State.modIndex (s : State) (mode : Nat) : Nat :=
  if mode ≤ 4 || mode = 9 then 1000 else if mode ≤ 8 || mode = 10 then 100 else s.nat 0x2280_02

/-- The modulated code b of an amplitude code: round(a (1 − m) / (1 + m)) (R50). -/
def modulatedCode (a m : Nat) : Nat := (2 * a * (1000 - m) + (1000 + m)) / (2 * (1000 + m))

/-- The envelope of a component in drive word n after the frame's start, before shaping: a, or b where the frame's keying
modulates (R50). -/
def envelope (a b : Nat) (keyed : Nat → Bool) (n : Int) : Nat := if 0 ≤ n && keyed n.toNat then b else a

/-- The 32-tap FIR over the envelope up to drive word n (R51): coefficients in Q2.14, tap 0 the newest word. -/
def firOut (coef : List Byte) (env : Int → Nat) (n : Int) : Int :=
  divNear ((List.range 32).foldl (fun m i => m + iAt coef (2 * i) 2 * (env (n - i) : Nat)) 0) 16384

/-- The modulation index by which a component is keyed in a mode of OD 22p4: the one that its frame took. -/
def State.indexOf (s : State) (c : Component) (mode : Nat) : Nat := if c.coef = [] then s.modIndex mode else c.index

/-- The shaped envelope of a component whose keying began at quanta t0 in a mode of OD 22p4, in the last drive word. -/
def State.keyedEnvelope (s : State) (p : Nat) (c : Component) (mode t0 : Nat) (keyed : Nat → Bool) : Int :=
  let n : Int := ((s.lastWord : Int) - t0) / (quantaWord : Int)
  firOut (s.filterOf p c mode) (envelope c.amp (modulatedCode c.amp (s.indexOf c mode)) keyed) n

/-- A component in the last drive word with its modulation: that of its lane's frame on this port, or of a test's pattern,
whatever else the component does; the modulation of another lane does not touch it (R40, R50). -/
def State.componentNow (s : State) (p : Nat) (c : Component) : Cx :=
  let base := s.componentAt p s.lastWord c
  let with_ (a : Int) : Cx := base.scale ((a : Rat) / ((max 1 c.amp : Nat) : Rat))
  match (s.port p).frames.find? fun f => f.1 = c.lane with
  | some f => with_ (s.keyedEnvelope p c f.2.2 (s.lanes.getD c.lane {}).frameT0 (Config.keyed f.2.2 (s.lanes.getD c.lane {}).frame))
  | none =>
    if c.lane = 5 && decide (s.nat (portKey p 5 1) = 2) then with_ (s.keyedEnvelope p c 1 c.t0 Config.keyedTest) else base

/-- The phasor sum that the last drive word carries (R40). -/
def State.wordNow (s : State) (p : Nat) : Cx := (s.port p).comps.foldl (fun acc c => acc.add (s.componentNow p c)) Cx.zero

/-- The amplitude and phase codes of the last drive word: the phasor sum, held within A_lim and scaled by the port's ramp
(OD 22p2/03 and 04). The amplitude has 10 bits (R38). A drive word that the FIR would lift above A_lim holds A_lim: all its
components are scaled alike, and it is not counted as a clamp (R55; DESIGN CHOICE, log 207). -/
def State.ampNow (s : State) (p : Nat) : Nat :=
  min 1023 (min (max (s.port p).aLim (s.ampBase p)) (s.scaledAmp p (s.wordNow p)))

def State.phaseNow (s : State) (p : Nat) : Nat := if s.ampNow p = 0 then 0 else phaseCode (s.wordNow p)

/-- What the trims add to the drive after calibration: phase codes, and 0.01 dB of amplitude (R38, R62). They act on the drive
that the calibration corrects, after the drive word, so AMP_NOW and PHASE_NOW do not show them (log 206). -/
def State.driveTrim (s : State) (p : Nat) : Int × Int := ((s.port p).phaseTrim, (s.port p).ampTrim)

/-! ### Loads, power and limits (R38, R54, R55) -/

/-- Output power in mW of an amplitude code squared into a load in 0.01 Ω: (A * 8.739 mV)² / Re(Z). -/
def powerMw (ampSq : Rat) (load : Nat) : Rat := ampSq * 76370121 / (10_000_000 * ((max load 1 : Nat) : Rat))

/-- ceil10(1.08 * P + 40 mW) (R54). -/
def grantFor (p : Rat) : Nat := 10 * ((p * 108 / 100 + 40) / 10).ceil.toNat

/-- The greatest code whose power into the load is at most p mW (R55). -/
def limitCode (p : Rat) (load : Nat) : Nat := isqrt (p * 10_000_000 * (load : Rat) / 76370121).floor.toNat

/-- The drive of all ports as planned, in codes. -/
def State.plannedDrive (s : State) : List Cx := (List.range 8).map fun p => phasorSum (s.port p).targets

/-- The survey load of port p under a drive (R65): the real part of drive voltage over drive current, in 0.01 Ω. -/
def State.surveyLoad (s : State) (drive : List Cx) (p : Nat) : Nat :=
  let row := (List.range 8).map fun j => Cx.ofInts (s.survey.yd.getD (8 * p + j) (0, 0))
  let i := Cx.dot row drive
  if i = Cx.zero then 0 else ((((drive.getD p Cx.zero).mul i.inv).re) * 100_000_000_000).floor.toNat

/-- The load by which a port's limits are worked: measured in this run, else the survey's, else LOAD_NOMINAL (R55). -/
def State.loadOf (s : State) (drive : List Cx) (p : Nat) : Nat :=
  if (s.port p).measured then s.nat (portKey p 2 5)
  else if s.survey.accepted then s.surveyLoad drive p
  else s.nat (portKey p 0 2) * 10

/-- min(2,000 mW, FIELD_CAP). -/
def State.portCap (s : State) (p : Nat) : Nat := if s.nat 0x3010_02 ≠ 0 then 0 else min 2000 (s.nat (portKey p 1 1))

/-- The output power that the port's target needs, or what it still drives on the way there if that is more, limited to
min(2,000 mW, FIELD_CAP) (R54, R218). -/
def State.targetPower (s : State) (p : Nat) : Rat :=
  let driven := if (s.port p).state.on then (s.sumNow p).normSq else 0
  min ((s.portCap p : Nat) : Rat) (powerMw (max (phasorSum (s.port p).targets).normSq driven) (s.loadOf s.plannedDrive p))

/-- The grant that the port's target needs (R54); nothing for a port not in use. -/
def State.portNeeds (s : State) (p : Nat) : Nat := if (s.port p).inUse then grantFor (s.targetPower p) else 0

/-- P_lim = min(2,000 mW, FIELD_CAP, (G − 40 mW) / 1.08) (R55). -/
def State.pLim (s : State) (p : Nat) : Rat :=
  min ((s.portCap p : Nat) : Rat) ((((s.held (.port p) - 40 : Nat) : Rat)) * 100 / 108)

/-- A_lim (R55). -/
def State.aLimOf (s : State) (p : Nat) : Nat := limitCode (s.pLim p) (s.loadOf s.plannedDrive p)

/-- A whole factor, in 1/2^32. -/
def unclamped : Nat := 4294967296

/-- The values between which a component goes, while its change lasts: where it is, and where it goes; a change that waits for its
grant counts with the old codes (R41, R42). -/
def State.cornersOf (s : State) (p : Nat) (c : Component) : List Cx :=
  let full := codePhasor c.amp c.phase
  let here := s.componentAt p s.lastWord c
  if c.out.isSome then [here, Cx.zero] else if c.doing = .steady then [full] else [here, full]

/-- The greatest amplitude code that the phasor sum can take until the changes under way are over: each component goes between two
values on a straight line, so the sum is greatest where each is at one of its two. -/
def State.sumMost (s : State) (p : Nat) : Nat :=
  let sums := (s.port p).comps.foldl (fun (acc : List Cx) c => (s.cornersOf p c).flatMap fun v => acc.map fun z => z.add v) [Cx.zero]
  sums.foldl (fun m z => max m (ampCode z)) 0

/-- The factor that holds the phasor sum, now and on the way where its components go, within A_lim and the 10 bits of the
amplitude code (R38, R55). -/
def State.clampFor (s : State) (p : Nat) : Nat :=
  let m := min 1023 (s.port p).aLim
  let sum := s.sumMost p
  if m < sum then m * unclamped / sum else unclamped

/-- Where the phasor sum would exceed A_lim, every component is scaled by the same factor, along a straight line while the port
drives (R42); a scaling is counted and raises event 2 (R55). The components keep their codes: the factor lasts only while
their sum would exceed A_lim (DESIGN CHOICE, log 207). -/
def State.reclamp (s : State) (p : Nat) : State :=
  let f := s.clampFor p
  let old := (s.port p).clampTo
  if f = old || (s.port p).state = .rampDown then s
  else
    let from_ := if (s.port p).state.on || (s.port p).state = .rampUp then s.clampNow p else f
    let s := s.updPort p fun x => { x with clampTo := f, clampFrom := from_, clampT0 := s.nextWord, clampUs := s.nat 0x2280_01 }
    if f < old then (s.bump (portKey p 3 2)).raisePort 2 p else s

/-- A_lim is computed again (R55). -/
def State.relimit (s : State) (p : Nat) : State := (s.updPort p fun x => { x with aLim := s.aLimOf p }).reclamp p

/-- The grant of a port that drives or charges has changed, and A_lim follows (R55). -/
def State.regrant (s : State) (p mw : Nat) : State :=
  let s := s.setGrant (.port p) mw
  if (s.port p).state.live then s.relimit p else s

/-! ### Entering states -/

/-- Release the port's grant and withdraw its claim. -/
def State.releasePort (s : State) (p : Nat) : State := (s.dropClaim (.port p)).setGrant (.port p) 0

/-- The lane priority at which a port claims: the highest of the lanes it serves (R86); the lowest for a test or survey. -/
def State.portPrio (s : State) (p : Nat) : Nat :=
  (s.port p).comps.foldl (fun m c => if c.lane < 4 then min m (s.nat (0x2350_0A + 0x100 * (s.lanes.getD c.lane {}).zone)) else m) 3

/-- The time a port waited for its grant is counted (R56). -/
def State.countWait (s : State) (p : Nat) : State :=
  match (s.port p).waitT0 with
  | some t0 => (s.add (portKey p 3 5) (s.sinceUs t0)).updPort p fun x => { x with waitT0 := none }
  | none => s

/-- The port claims what its target needs beyond its grant, or releases the surplus in the same tick (R54, R218). In OFF and
RAMP_UP its waiting time counts (R56). -/
def State.portClaim (s : State) (p : Nat) : State :=
  let need := s.portNeeds p
  let g := s.held (.port p)
  if g < need then
    let counts := (s.port p).state = .off || (s.port p).state = .rampUp
    let s := s.updPort p fun x => { x with waitT0 := if counts then some (x.waitT0.getD s.now) else x.waitT0 }
    s.claim { who := .port p, mw := need - g, prio := s.portPrio p, t0 := s.now, deadline := none }
  else
    let s := (s.dropClaim (.port p)).countWait p
    if (s.port p).state.live && need ≠ 0 && need < g then s.regrant p need else s

/-- A component at its target, at rest. -/
def Component.rested (c : Component) : Component :=
  { c with amp := c.target.1, phase := c.target.2, doing := .steady, next := none, out := none, ramped := none }

/-- The planned components alone, at their targets: how a ramp of the port carries them (R45). -/
def Port.restComps (x : Port) : List Component := (x.comps.filter Component.planned).map Component.rested

/-- The port enters OFF at the next drive word (R43) with its bias charge as credit, and its grant is released (R44, R54).
Components that were not withdrawn keep their claim on the port: use goes on being requested (R47). -/
def State.portOff (s : State) (p : Nat) : State :=
  let q := s.biasAt p s.nextWord
  (((s.countWait p).releasePort p).updPort p fun x => { x.goes .off s.nextWord with
    bias0 := q, emergency := false, aLim := 0, measured := false, frames := [], surveyRamp := false
    cutAtEnd := none, waitT0 := none, hold := false, downFrom := none, lower := false, clampTo := unclamped, clampFrom := unclamped
    comps := x.restComps }).portClaim p

/-- The lanes whose frames are lost with the port's frame are told of a transmit abort (R47, R57). -/
def State.loseFrames (s : State) (p : Nat) : State :=
  { s with lanes := s.lanes.zipIdx.map fun x =>
      if (s.port p).frames.any fun f => f.1 = x.2 then { x.1 with txAbort := true } else x.1 }

/-- The port enters RAMP_DOWN from its present amplitude at the next drive word (Table 3-1); out of RAMP_UP it is a reversal
(R45). -/
def State.portDown (s : State) (p : Nat) : State :=
  let pos := s.rampPos p
  let reversal := (s.port p).state = .rampUp
  let at_ := s.nextWord
  let s := (s.countWait p).updPort p fun x => { x.goes .rampDown at_ with x0 := pos, hold := false, cutAtEnd := none, frames := [] }
  if reversal then s.bump (portKey p 3 3) else s

/-- The position on the new profile with the same amplitude as the present one toward a new target (R45). -/
def equalPoint (shape amp target : Nat) : Nat :=
  (List.range 17).foldl (fun x i => let c := x + 2 ^ (16 - i); if c ≤ 65536 ∧ profile shape c * target ≤ amp * 65536 then c else x) 0

/-- Where the raised-cosine profile of an emergency has the ramp's present amplitude (R47). -/
def State.emergencyPos (s : State) (p : Nat) : Nat :=
  let pos := s.rampPos p
  let shape := (s.port p).shapeNow
  if shape = 1 then pos else equalPoint 1 (profile shape pos) 65536

/-- An emergency: RAMP_DOWN at once, with the next drive word (R43), with the 2 µs raised-cosine profile; a frame in progress
is lost (R47). Out of RAMP_UP it is a reversal of the ramp as well (R45). -/
def State.portEmergency (s : State) (p : Nat) : State :=
  let st := (s.port p).state
  if st.on || st = .rampUp then
    let s := (s.loseFrames p).countWait p
    let pos := s.emergencyPos p
    let s := s.updPort p fun x => { x.goes .rampDown s.nextWord with x0 := pos, emergency := true, hold := false, cutAtEnd := none, frames := [] }
    if st = .rampUp then s.bump (portKey p 3 3) else s
  else if st = .rampDown then
    let pos := s.emergencyPos p
    s.updPort p fun x => { x with t0 := s.nextWord, x0 := pos, emergency := true, lower := false }
  else if st = .charging then s.portOff p
  else s

/-- The survey's own ramps end on the port; a ramp in progress goes on from its amplitude with the port's own settings (R62, R65,
R67). -/
def State.ownRamps (s : State) (p : Nat) : State :=
  let x := s.port p
  if !x.surveyRamp then s
  else
    let pos := s.rampPos p
    let y : Port := { x with surveyRamp := false }
    s.updPort p fun _ =>
      if (x.state = .rampUp || x.state = .rampDown) && !x.emergency then
        { y with x0 := if y.shape = 1 then pos else equalPoint y.shape (profile 1 pos) 65536, t0 := s.nextWord } else y

/-- A survey alone uses the port (R65). -/
def State.surveyOnly (s : State) (p : Nat) : Bool :=
  s.survey.phase = .driving && (s.port p).inUse && (s.port p).comps.all fun c => c.lane = 4

/-- OFF to CHARGING on a grant, at the next drive word (Table 3-1): the bias charge is credited, the ramp settings are taken,
A_lim is computed. A survey uses 10 µs raised-cosine ramps (R65). -/
def State.portCharge (s : State) (p : Nat) : State :=
  let q := s.biasAt p s.nextWord
  let survey := s.surveyOnly p
  let s := if 0 < q then s.bump (portKey p 3 4) else s
  let s := s.countWait p
  let s := s.updPort p fun x => { x.goes .charging s.nextWord with
    bias0 := q, emergency := false, measured := false
    phaseTrim := s.int (portKey p 0 6), ampTrim := s.int (portKey p 0 7)
    upUs := s.nat (portKey p 0 3), downUs := s.nat (portKey p 0 4), shape := s.nat (portKey p 0 5), surveyRamp := survey }
  s.relimit p

/-- A complex number in 1/65536, rounded down. -/
def Cx.fine (z : Cx) : Int × Int := ((z.re * 65536).floor, (z.im * 65536).floor)

/-- A component sets out from where it is for new codes, along a straight line (R42); one that was not there ramps in (R41). -/
def State.sentTo (s : State) (p : Nat) (c : Component) (amp phase : Nat) : Component :=
  if c.amp = 0 && c.doing ≠ .moving then { c with amp := amp, phase := phase, doing := .rampIn, t0 := s.nextWord, x0 := 0, next := none, ramped := none }
  else { c with amp := amp, phase := phase, doing := .moving, t0 := s.nextWord, src := (s.componentAt p s.lastWord c).fine, next := none
                span := s.nat 0x2280_01, ramped := none }

/-- The waiting changes of a port's components start, once the grant covers them (R42). -/
def State.startWaiting (s : State) (p : Nat) : State :=
  s.updPort p fun (x : Port) => { x with comps := x.comps.map fun (c : Component) => match c.next with
    | some (a, ph) => if a = c.amp ∧ ph = c.phase then { c with next := none } else s.sentTo p c a ph
    | none => c }

/-- Halyard has granted the port's claim (Table 3-1, R42, R45). A port of a survey waits for the others (R65). -/
def State.portGranted (s : State) (p : Nat) : State :=
  match (s.port p).state with
  | .off => if !(s.port p).inUse then s.releasePort p else if s.surveyOnly p then s else s.portCharge p
  | .fault => s.releasePort p
  | _ =>
    let held := (s.port p).hold
    let s := ((s.countWait p).startWaiting p).updPort p fun x => { x with hold := false, t0 := if held then s.nextWord else x.t0 }
    s.relimit p

/-- Every port of a survey holds what it needs: those still in OFF charge together (Table 4-1, step 1). -/
def State.surveyCharge (s : State) : State :=
  let ps := (List.range 8).filter s.surveyOnly
  if ps.all fun p => decide (s.portNeeds p ≤ s.held (.port p)) then
    (ps.filter fun p => (s.port p).state = .off).foldl (fun t p => t.portCharge p) s
  else s

/-- A port in OFF that holds already what its use needs charges at once: one of a survey that was abandoned (R67). -/
def State.grantMet (s : State) (p : Nat) : State :=
  if (s.port p).state = .off && (s.port p).inUse && !s.surveyOnly p && decide (s.portNeeds p ≤ s.held (.port p)) && decide (0 < s.held (.port p)) then
    s.portCharge p
  else s

/-! ### Components (R40 to R42) -/

/-- The amplitude code that a port's present ramp scales: that of its components' sum, held within A_lim. -/
def State.rampTop (s : State) (p : Nat) : Nat :=
  let k : Rat := (s.clampNow p : Rat) / (unclamped : Rat)
  (s.port p).downFrom.getD (sqrtRound 1 ((s.sumNow p).normSq * k * k))

/-- The amplitude code of the target that a port reverses to: that of its planned components, scaled as its clamp goes to
(R45, R55). -/
def State.rampTarget (s : State) (p : Nat) : Nat :=
  ampCode ((phasorSum (s.port p).targets).scale (((s.port p).clampTo : Rat) / (unclamped : Rat)))

/-- RAMP_DOWN reverses (R45): into RAMP_UP from the present amplitude, held there until Halyard grants what the new target
needs beyond the grant that is kept; toward a lower target the port goes on down. The target is the one that A_lim allows, so
that no clamp follows that the ramp does not hold; while it waits for a larger grant it is the whole one. The reversal is
counted before the target is looked at, so one that goes on down counts too: R45 says each reversal, and not whether this is
one (DESIGN CHOICE, log 208). -/
def State.portUp (s : State) (p : Nat) : State :=
  let amp := s.ampBase p
  let top := s.rampTop p
  let was := (s.port p).clampTo
  let s := (s.bump (portKey p 3 3)).updPort p fun x => { x with comps := x.restComps }
  let hold := decide (s.held (.port p) < s.portNeeds p)
  let s := s.updPort p fun x => { x with aLim := s.aLimOf p }
  let f := if hold then unclamped else s.clampFor p
  let s := s.updPort p fun x => { x with clampTo := f, clampFrom := f }
  let s := if f < was then (s.bump (portKey p 3 2)).raisePort 2 p else s
  let target := s.rampTarget p
  let s := if target < amp then s.updPort p fun x => { x with downFrom := some top, lower := true }
    else s.updPort p fun x => { x.goes .rampUp s.nextWord with
      emergency := false, downFrom := none, lower := false, hold := hold, x0 := equalPoint x.ownShape amp target }
  s.portClaim p

/-- The port can take a component: it is in service, serves no test but its own, and is not in FAULT (R48, R63). -/
def State.portUsable (s : State) (p lane : Nat) : Bool :=
  (s.port p).state ≠ .fault && s.flag (portKey p 0 1) && (decide (s.nat (portKey p 5 1) = 0) || decide (lane = 5))

/-- A component was withdrawn within this drive word (R41). -/
def State.justLeft (s : State) (c : Component) : Bool :=
  match c.left with
  | some t0 => decide (s.now - t0 < quantaWord)
  | none => false

/-- A withdrawn component that is asked for again goes on as if it had been kept (R41). -/
def Component.kept (c : Component) : Component := { c with left := none, out := none }

/-- The component of the lane that a new one takes the place of: a planned one, one withdrawn within this drive word, or one whose
withdrawal waits for a frame's end (R41, R46). -/
def State.keeps (s : State) (p lane : Nat) (c : Component) : Bool :=
  decide (c.lane = lane) && (c.planned || s.justLeft c || ((s.port p).state = .modulating && c.out.isNone))

/-- Put or change a lane's component on a port that drives: a new one ramps in and a kept one moves, once the grant covers them
(R40 to R42). -/
def State.changeComponent (s : State) (p lane amp phase : Nat) : State :=
  let keeps := s.keeps p lane
  let taken (cs : List Component) : List Component :=
    if cs.any keeps then cs.map fun (c : Component) => if keeps c then { c.kept with next := some (amp, phase) } else c
    else cs ++ [{ lane := lane, amp := 0, phase := phase, t0 := s.now, next := some (amp, phase) }]
  let s := s.updPort p fun (x : Port) => { x with comps := taken x.comps }
  let s := s.portClaim p
  if s.portNeeds p ≤ s.held (.port p) then (s.startWaiting p).relimit p else s

/-- The port's use was withdrawn within this drive word, so its ramp down has not begun (R41, R43). -/
def State.stillOn (s : State) (p lane : Nat) : Bool :=
  let x := s.port p
  x.state = .rampDown && x.was.on && !x.emergency && x.faultNext.isNone && decide (0 < s.held (.port p)) &&
    x.comps.any fun c => decide (c.lane = lane) && c.out.isNone && s.justLeft c

/-- Put or change a lane's component on a port. A port in RAMP_UP or CARRIER changes its components; a port at rest claims its
grant; a port ramping down reverses, but where the use was withdrawn within this drive word it counts as kept (R40 to R42,
R45). A self-test slice on the driver yields (Table 18-1, group 7). -/
def State.putComponent (s : State) (p lane amp phase : Nat) : State :=
  let x := s.port p
  let new : Component := { lane := lane, amp := amp, phase := phase, doing := .steady, t0 := s.now }
  let place (s : State) : State := (s.sliceYield 7 (· = p)).updPort p fun x => { x with comps := x.comps.filter (fun c => !s.keeps p lane c) ++ [new] }
  if !s.portUsable p lane then s
  else match x.state with
    | .carrier | .modulating | .rampUp => s.changeComponent p lane amp phase
    | .rampDown =>
      if x.faultNext.isSome then s
      else if s.stillOn p lane then (s.updPort p fun x => x.goes .carrier s.nextWord).changeComponent p lane amp phase
      else (place s).portUp p
    | _ => (place s).portClaim p

/-- Withdraw a lane's component from a port. Other components go on; the last one withdraws the port's use (Table 3-1, R41). In
MODULATING the component, and its frame, go on until the frame in progress ends (R46). -/
def State.dropComponent (s : State) (p lane : Nat) : State :=
  let x := s.port p
  if ¬ x.comps.any (fun c => c.lane = lane) then s
  else
    let rest := x.comps.filter fun c => c.lane ≠ lane
    let stays := rest.any fun c => c.planned && decide (c.target.1 ≠ 0)
    let gone := s.updPort p fun x => { x with comps := rest }
    let mark (f : Component → Component) : State := s.updPort p fun (x : Port) => { x with comps := x.comps.map fun (c : Component) =>
      if c.lane = lane ∧ c.planned then { f c with next := none, left := some s.now } else c }
    let out := mark fun c => { c with out := some s.nextWord }
    let leave := mark id
    match x.state with
    | .off | .fault => if stays then gone.portClaim p else (gone.countWait p).releasePort p
    | .charging => if stays then (gone.portClaim p).relimit p else gone.portOff p
    | .rampUp | .carrier => if stays then (out.portClaim p).reclamp p else leave.portDown p
    | .rampDown | .modulating => leave

/-- The change of a component is over (R41, R42); one that ramps out is gone when the FIR has run out as well (R51; DESIGN CHOICE,
log 242). -/
def State.componentDone (s : State) (p : Nat) (c : Component) : Bool :=
  let x := s.port p
  match c.out with
  | some o => decide (usQuanta x.downNow * x.ownPos c o ≤ (s.now - o - 32 * quantaWord) * 65536)
  | none => match c.doing with
    | .rampIn => decide (usQuanta x.upNow * (65536 - c.x0) ≤ (s.now - c.t0) * 65536)
    | .moving => decide (usQuanta c.span ≤ s.now - c.t0)
    | .steady => false

/-- A component after its change: its codes are in force; a component that ramped out is gone. -/
def Component.settled (c : Component) : Option Component :=
  if c.out.isSome then none
  else match c.doing with
    | .rampIn => some { c with doing := .steady, ramped := some (c.t0, c.x0) }
    | .moving => some { c with doing := .steady }
    | .steady => some c

/-- Settle a component whose change is over. -/
def State.settleComponent (s : State) (p lane : Nat) : State :=
  let f (c : Component) : Option Component :=
    if (c.lane = lane) ∧ (s.componentDone p c) then c.settled.map fun c => { c with t0 := s.now } else some c
  let s := s.updPort p fun x => { x with comps := x.comps.filterMap f, stirT0 := if x.stirs then s.now else x.stirT0 }
  (s.portClaim p).reclamp p

/-- The factor of R55 moves along its line (R42). -/
def State.clampMoves (s : State) (p : Nat) : Bool :=
  decide ((s.port p).clampFrom ≠ (s.port p).clampTo) && decide (s.now - (s.port p).clampT0 < usQuanta (s.port p).clampUs)

/-- A lane's components are all steady on ports in CARRIER: frames may start (R41, R42). -/
def State.laneReady (s : State) (l : Nat) : Bool :=
  (List.range 8).any (fun p => (s.port p).comps.any fun c => c.lane = l) &&
    (List.range 8).all fun p => (s.port p).comps.all fun c => c.lane ≠ l || (c.doing = .steady && c.out.isNone && (s.port p).state.on && !s.clampMoves p)

/-- The ports that carry a component of lane l. -/
def State.lanePorts (s : State) (l : Nat) : List Nat :=
  (List.range 8).filter fun p => (s.port p).comps.any fun c => c.lane = l && c.planned

/-- A frame of lane l starts on its ports in a mode of OD 22p4, its last edge at stamp endT; they are MODULATING from the next
drive word on (Table 3-1). -/
def State.portsModulate (s : State) (l endT mode : Nat) (frame : List Byte) : State :=
  let s := { s with lanes := s.lanes.modify l fun y => { y with frameT0 := s.now, frame := frame } }
  (s.lanePorts l).foldl (fun t p => t.updPort p fun x =>
    let takes (c : Component) : Component :=
      if c.lane = l then { c with coef := s.oct (0x2290_01 + 0x100 * s.nat (portKey p 4 mode)), index := s.modIndex mode } else c
    if x.state.on then { x with state := .modulating, was := if s.nextWord = x.seenAt then x.was else x.state, seenAt := s.nextWord, comps := x.comps.map takes,
                                frames := (x.frames.filter fun f => f.1 ≠ l) ++ [(l, endT, mode)] } else x) s

/-! ### Grant reductions (R47, R56) -/

/-- A non-immediate reduction acts: the lower grant, R42 with the lower limit, or RAMP_DOWN when nothing is left, and
event 3 (R56). The port claims what it still needs (R218, R219). -/
def State.cutNow (s : State) (p mw : Nat) : State :=
  let s := (s.regrant p mw).raisePort 3 p
  if mw = 0 then
    (match (s.port p).state with
      | .charging => (s.portOff p)
      | .rampUp | .carrier | .modulating => s.portDown p
      | _ => s)
  else s.portClaim p

/-- Halyard reduces a port's grant without immediacy: at the end of the frame in progress (R56). -/
def State.cutPort (s : State) (p mw : Nat) : State :=
  if (s.port p).state = .modulating then s.updPort p fun x => { x with cutAtEnd := some mw } else s.cutNow p mw

/-- Halyard reduces a port's grant at once: an emergency (R47), with event 3. A port in CHARGING gives no output that could ramp
down: it leaves for OFF where nothing is left, and goes on with the lower grant where something is (Table 3-1; DESIGN CHOICE,
log 243). -/
def State.cutEmergency (s : State) (p mw : Nat) : State :=
  (if (s.port p).state = .charging then (if mw = 0 then s.portOff p else (s.regrant p mw).portClaim p)
   else (s.portEmergency p).regrant p mw).raisePort 3 p

/-- The frame's end: the withdrawals that waited take effect, a reduction that waited acts (R46, R56). -/
def State.frameEnded (s : State) (p : Nat) : State :=
  let x := s.port p
  let leaves (c : Component) : Component := if c.left.isSome && c.out.isNone then { c with out := some s.nextWord } else c
  let s := s.updPort p fun (x : Port) => { x.goes .carrier s.nextWord with
    frames := [], comps := if x.inUse then x.comps.map leaves else x.comps }
  let s := match x.cutAtEnd with
    | some mw => (s.updPort p fun x => { x with cutAtEnd := none }).cutNow p mw
    | none => s
  if (s.port p).state.on then (if (s.port p).inUse then (s.portClaim p).reclamp p else s.portDown p) else s

end Sys2Proof.Machine
end

