-- ==== Sys2Proof/Machine/Pennants.lean ====
section
/-!
DEFINITION. Zones, pennants and covers (R64 to R75, R87 to R89): the solution of R72 in exact arithmetic, the states of
Table 4-2 and the cover of a missing port.
-/

namespace Sys2Proof.Machine

open Sys2Proof

def penKey (n sub : Nat) : Nat := 0x2300_00 + 0x100 * n + sub
def zoneKey (z sub : Nat) : Nat := 0x2350_00 + 0x100 * z + sub

def PennantState.code : PennantState → Nat
  | .empty => 0
  | .valid => 1
  | .stale => 2
  | .degraded => 3
  | .failed => 4

def State.pennant (s : State) (n : Nat) : Pennant := s.pennants.getD n {}

def State.updPennant (s : State) (n : Nat) (f : Pennant → Pennant) : State := { s with pennants := s.pennants.modify n f }

/-! ### Lanes between exchanges -/

def State.lane (s : State) (l : Nat) : Lane := s.lanes.getD l {}

def State.updLane (s : State) (l : Nat) (f : Lane → Lane) : State := { s with lanes := s.lanes.modify l f }

/-- An exchange of lane m is in progress (R81). -/
def State.inExchange (s : State) (m : Nat) : Bool :=
  let st := (s.seqs.getD m {}).stage
  st = .sending || st = .listening || st = .reply

/-- A lane's components become the eight pairs of a drive (R42, R78, R83). -/
def State.applyDrive (s : State) (l : Nat) (drive : List (Nat × Nat)) : State :=
  (List.range 8).foldl (fun t p =>
    let d := drive.getD p (0, 0)
    if d.1 = 0 then t.dropComponent p l else t.putComponent p l d.1 d.2) s

/-- A gap between exchanges of lane l: a change of pennant or live components that waits is made (R42). A change to live
components carries its pennant plus 256 (R83). -/
def State.laneGap (s : State) (l : Nat) : State :=
  match (s.lane l).change with
  | some (n, drive) =>
    (s.updLane l fun x => { x with change := none, pennant := n % 256, live := decide (256 ≤ n) }).applyDrive l drive
  | none => s

/-- Lane l is to change to a drive of pennant n: at once where it is between exchanges, else in its next gap (R42, R78, R87). -/
def State.changeLane (s : State) (l n : Nat) (drive : List (Nat × Nat)) : State :=
  let s := s.updLane l fun x => { x with change := some (n, drive) }
  if s.inExchange l then s else s.laneGap l

/-! ### Vectors and pairs -/

/-- The eight amplitude and phase codes of 32 bytes in PAIRS layout; res. bits read 0 (Table 4-8). -/
def pairsOf (b : List Byte) : List (Nat × Nat) :=
  (List.range 8).map fun p => (uAt b (4 * p) 2 % 1024, uAt b (4 * p + 2) 2 % 4096)

/-- The 32 bytes of eight pairs. -/
def pairBytes (ps : List (Nat × Nat)) : List Byte := ps.flatMap fun x => leBytes 2 x.1 ++ leBytes 2 x.2

/-- The 32 bytes of eight complex I16 values. -/
def vecBytes (v : List (Int × Int)) : List Byte := v.flatMap fun x => leBytesI 2 x.1 ++ leBytesI 2 x.2

/-- The eight complex I16 values of 32 bytes. -/
def vecOf (b : List Byte) : List (Int × Int) := (List.range 8).map fun p => (iAt b (4 * p) 2, iAt b (4 * p + 2) 2)

/-- REF_VECTOR of zone z: as written, or its default, the unit vector on PRIMARY (R71). -/
def State.refBytes (s : State) (z : Nat) : List Byte :=
  let b := s.oct (zoneKey z 5)
  if b.length = 32 then b
  else vecBytes ((List.range 8).map fun p => if p = s.nat (zoneKey z 1) then (32767, 0) else (0, 0))

/-- The square root of a rational, to twelve decimal places. -/
def sqrtRat (x : Rat) : Rat := (isqrt (x * 1_000_000_000_000_000_000_000_000).floor.toNat : Rat) / 1_000_000_000_000

/-- A vector at unit length; the zero vector stays zero. -/
def unitVec (v : List Cx) : List Cx :=
  let l := sqrtRat (Cx.lenSq v)
  if l = 0 then v else v.map (Cx.scale (1 / l))

/-- g_z, the zone's vector at unit length (R71). -/
def State.zoneVec (s : State) (z : Nat) : List Cx := unitVec ((vecOf (s.refBytes z)).map Cx.ofInts)

/-- Y as stored in OD 2341/01, in A/V. -/
def State.yMat (s : State) : CMat :=
  let b := s.oct 0x2341_01
  (List.range 8).map fun i => (List.range 8).map fun j =>
    (Cx.ofInts (iAt b (4 * (8 * i + j)) 2, iAt b (4 * (8 * i + j) + 2) 2)).scale (1 / 100000)

/-- Z of the last accepted survey, in Ω. -/
def State.zMat (s : State) : CMat :=
  (List.range 8).map fun i => (List.range 8).map fun j => (Cx.ofInts (s.survey.z.getD (8 * i + j) (0, 0))).scale (1 / 1000000)

/-- The coil currents of a drive given in codes: i = Y v. -/
def State.currents (s : State) (drive : List (Nat × Nat)) : List Cx :=
  s.yMat.mulVec (drive.map fun d => (codePhasor d.1 d.2).scale (8739 / 1000000))

/-- The drive of eight pairs, in codes. -/
def driveOf (ps : List (Nat × Nat)) : List Cx := ps.map fun d => codePhasor d.1 d.2

/-! ### Availability (R87) -/

/-- Port p is unavailable to pennants. -/
def State.unavailable (s : State) (p : Nat) : Bool :=
  (s.port p).state = .fault || !s.flag (portKey p 0 1) || decide (s.nat (portKey p 5 1) ≠ 0) || (s.port p).outage ||
    (decide (p = 0) && s.assigned)

/-! ### Combining (R103) -/

/-- Key of an entry of port p's receive path. -/
def rxKey (p sub : Nat) : Nat := 0x2400_00 + 0x100 * p + sub

def State.rxp (s : State) (p : Nat) : Rx := s.rx.getD p {}

def State.updRx (s : State) (p : Nat) (f : Rx → Rx) : State := { s with rx := s.rx.modify p f }

/-- Port p takes part in combining. -/
def State.combining (s : State) (p : Nat) : Bool := s.flag (rxKey p 9) && !s.unavailable p && !(s.rxp p).faulty

def State.combiningPorts (s : State) : List Nat := (List.range 8).filter s.combining

/-- Combiner weights without the ports that do not combine: their elements are 0 (R103). -/
def State.dropWeights (s : State) (b : List Byte) : List Byte :=
  (List.range 8).flatMap fun p => if s.combining p then slice b (4 * p) 4 else zeroBytes 4

/-- A port that left the combining set takes no part in the replies in progress, and its weight in every open lane's combiner
is 0 at once (R103). -/
def State.narrow (s : State) : State :=
  let s : State := { s with seqs := s.seqs.map fun x => { x with ports := x.ports.filter s.combining } }
  (List.range 4).foldl (fun (t : State) l =>
    if (t.lane l).state = .idle then t else t.setO (0x2360_07 + 0x100 * l) (t.dropWeights (t.oct (0x2360_07 + 0x100 * l)))) s

/-! ### The canceller's states that Frond and ports move (R94, R148) -/

/-- The canceller enters a state. A self-test slice on the path yields as it leaves OFF (Table 18-1, group 6). -/
def State.enterCancel (s : State) (p : Nat) (c : CancelState) : State :=
  let s := if (s.rxp p).cancel = .off && decide (c ≠ .off) then s.sliceYield 6 (· = p) else s
  let s := s.updRx p fun x => { x with cancel := c, t0 := s.now, ticked := x.ticked || decide (c ≠ .off) }
  if c = .off then s.setN (rxKey p 4) 0 else s

/-- What a path senses at a moment that no operand brings it for: carrier, suppression and prediction are free values (R94, R95;
log 217). -/
def State.senseDrawn (s : State) (p : Nat) : State :=
  if (s.rxp p).cancel = .off then s
  else
    let (a, s) := s.draw
    let (b, s) := s.draw
    let (c, s) := s.draw
    ((s.setN (rxKey p 3) (a % 65536)).setN (rxKey p 4) (c % 65536)).updRx p fun r => { r with predicted := b % 65536 }

/-- The measurement ends: TRACK or OFF by the carrier then present (Table 5-2). The table names no level there; the model takes
the 5 mV at which a tracking canceller would go OFF, of either carrier (DESIGN CHOICE, log 217). -/
def State.rxMeasured (s : State) (p : Nat) : State :=
  let mv := max (s.nat (rxKey p 3)) (s.rxp p).predicted
  if (s.rxp p).cancel = .measure then s.enterCancel p (if 5 ≤ mv then .track else .off) else s

/-! ### The Frond states that follow the ports (R157, R162) -/

def frondKey (p sub : Nat) : Nat := 0x2610_00 + 0x100 * p + sub

def FrondState.code : FrondState → Nat
  | .off => 0
  | .learn => 1
  | .absent => 2
  | .present => 3
  | .disarmed => 4

def State.frond (s : State) (p : Nat) : Frond := s.fronds.getD p {}

def State.updFrond (s : State) (p : Nat) (f : Frond → Frond) : State := { s with fronds := s.fronds.modify p f }

/-- Frond may run on port p: enabled, its window booked, the port available (R157). -/
def State.frondRuns (s : State) (p : Nat) : Bool := s.bit 0x2600_01 p && decide (s.nat (frondKey p 12) ≠ 0xFF) && !s.unavailable p

/-- A ping ends without a decision: the path that it had goes back (R148). -/
def State.pingDropped (s : State) (p : Nat) : State :=
  if (s.frond p).ping.isSome then (s.updFrond p fun f => { f with ping := none, overT0 := s.now }).senseDrawn p |>.rxMeasured p else s

/-- The baseline that OD 2610+p/0B holds, in pΩ; zeros are none (Table 7-10). -/
def State.storedBase (s : State) (p : Nat) : Option (Int × Int) :=
  let b := s.oct (frondKey p 11)
  let z := (iAt b 0 4 * 1000000, iAt b 4 4 * 1000000)
  if z = (0, 0) then none else some z

/-- Port p's Frond state follows the port: OFF where it may not run; out of OFF to LEARN without a valid stored baseline or
after a FAULT or a return to service, else to ABSENT (Table 7-4). A stored baseline is the B of a port that learns anew. -/
def State.frondFollow (s : State) (p : Nat) : State :=
  let f := s.frond p
  if !s.frondRuns p then
    if f.state = .off then s
    else (s.pingDropped p).updFrond p fun f => { f with state := .off, cls := 0, laneDue := false, laneFirst := [], absorb := false }
  else if f.state ≠ .off then s
  else match s.storedBase p with
    | some b => if f.relearn then s.updFrond p fun f => { f with state := .learn, base := b, sum := (0, 0), learned := 0 }
      else s.updFrond p fun f => { f with state := .absent, base := b, onRun := 0, offRun := 0 }
    | none => s.updFrond p fun f => { f with state := .learn, base := (0, 0), sum := (0, 0), learned := 0 }

/-- The poll cycle that this port's wake started found no identifier: PRESENT to DISARMED, with event 32 (Table 7-4). -/
def State.frondNonCard (s : State) (p : Nat) : State :=
  if (s.frond p).state = .present then
    ((s.updFrond p fun f => { f with state := .disarmed, cls := 0, ref := f.last, disarmT0 := s.now, absorb := false, onRun := 0, offRun := 0 }).bump
      (frondKey p 17)).raisePort 32 p
  else s

/-- The Frond state of every port follows. -/
def State.frondFollowAll (s : State) : State := (List.range 8).foldl (fun t p => t.frondFollow p) s

/-- The ports of a mask. -/
def portsIn (mask : Nat) : List Nat := (List.range 8).filter fun p => mask.testBit p

/-- The ports a pennant uses: its PORT_MASK, or the ports a manual pennant drives. -/
def State.pennantPorts (s : State) (n : Nat) : List Nat :=
  if s.nat (penKey n 3) = 2 then (List.range 8).filter fun p => ((pairsOf (s.oct (penKey n 7))).getD p (0, 0)).1 ≠ 0
  else portsIn (s.nat (penKey n 4))

/-- The zones a pennant nulls; its own zone's bit is ignored (Table 4-8). -/
def State.pennantNulls (s : State) (n : Nat) : List Nat :=
  (List.range 16).filter fun y => (s.nat (penKey n 5)).testBit y && decide (y ≠ s.nat (penKey n 2))

/-! ### The solution of R72 -/

/-- The target field of zone z: TARGET_MW dissipated in the primary port's coil alone. -/
def State.targetField (s : State) (z : Nat) : Rat :=
  let p := s.nat (zoneKey z 1)
  let rho := (s.zMat.at_ p p).re
  sqrtRat ((s.zoneVec z).getD p Cx.zero).normSq * sqrtRat (if rho ≤ 0 then 0 else (s.nat (zoneKey z 4) : Rat) / 1000 / rho)

/-- The drive of eight pairs in codes, from codes on the ports ms. -/
def spread (ms : List Nat) (v : List Cx) : List Cx :=
  (List.range 8).map fun p => match ms.idxOf? p with
    | some a => v.getD a Cx.zero
    | none => Cx.zero

/-- The constraint rows on coil currents: the own zone first, then each null, then, where asked, coil 0 (R89). -/
def State.constraints (s : State) (own : List Cx) (nulls : List (List Cx)) (coil0 : Bool) : CMat :=
  own :: nulls ++ if coil0 then [s.zMat.getD 0 []] else []

/-- The constraint rows on the drive of the ports ms: each row of coil currents times Y. -/
def State.driveRows (s : State) (ms : List Nat) (own : List Cx) (nulls : List (List Cx)) (coil0 : Bool) : CMat :=
  let y := s.yMat
  (s.constraints own nulls coil0).map fun row => ms.map fun p => Cx.dot row ((List.range 8).map fun i => y.at_ i p)

/-- Least coil loss subject to the constraints with drive on the ports ms only: v = H⁻¹ Cᴴ λ with H = Yᴴ R Y and
C H⁻¹ Cᴴ λ = d (R72). None where it has no solution. -/
def State.leastLoss (s : State) (ms : List Nat) (own : List Cx) (nulls : List (List Cx)) (coil0 : Bool) (target : Rat) : Option (List Cx) :=
  let y := s.yMat
  let z := s.zMat
  let h : CMat := ms.map fun a => ms.map fun b =>
    (List.range 8).foldl (fun acc i => acc.add (((y.at_ i a).conj.mul (y.at_ i b)).scale (z.at_ i i).re)) Cx.zero
  let c := s.driveRows ms own nulls coil0
  let k := c.length
  match solveRows ms.length ((List.range ms.length).map fun a => h.getD a [] ++ (List.range k).map fun r => (c.at_ r a).conj) with
  | none => none
  | some hc =>  -- H⁻¹ Cᴴ, one row for each port, one column for each constraint
    let g : CMat := (List.range k).map fun r => (List.range k).map fun q =>
      Cx.dot (c.getD r []) ((List.range ms.length).map fun a => hc.at_ a q)
    let d := (List.range k).map fun r => if r = 0 then (⟨target, 0⟩ : Cx) else Cx.zero
    (solveVec g d).map fun lam => hc.map fun row => Cx.dot row lam

/-- The eight pairs of a drive given on the ports ms in volts (R72). -/
def pairsOfVolts (ms : List Nat) (v : List Cx) : List (Nat × Nat) :=
  (List.range 8).map fun p => match ms.idxOf? p with
    | some a => let x := (v.getD a Cx.zero).scale (1000000 / 8739); (ampCode x, phaseCode x)
    | none => (0, 0)

/-- The greatest code of port p at the survey load of a drive, with P_lim = min(2,000 mW, FIELD_CAP) (R55, R72). -/
def State.surveyLimit (s : State) (drive : List (Nat × Nat)) (p : Nat) : Nat :=
  limitCode (s.portCap p) (s.surveyLoad (driveOf drive) p)

/-- Every code of a drive is within 1,023 and within its port's limit at the survey load. -/
def State.withinLimits (s : State) (drive : List (Nat × Nat)) : Bool :=
  (List.range 8).all fun p => let a := (drive.getD p (0, 0)).1; a = 0 || (decide (a ≤ 1023) && decide (a ≤ s.surveyLimit drive p))

/-- The field of a drive at a zone vector, as a power. -/
def State.fieldSq (s : State) (g : List Cx) (drive : List (Nat × Nat)) : Rat := (Cx.dot g (s.currents drive)).normSq

/-- FIELD_DB: the field of a drive over the zone's target, in 0.1 dB. -/
def State.fieldDb (s : State) (z : Nat) (drive : List (Nat × Nat)) : Int :=
  let t := s.targetField z
  if t = 0 then 0 else deciBel (s.fieldSq (s.zoneVec z) drive / (t * t))

/-- POWER: total drive power at the survey loads, in mW. -/
def State.drivePower (s : State) (drive : List (Nat × Nat)) : Nat :=
  ((List.range 8).foldl (fun (acc : Rat) p =>
    let a := (drive.getD p (0, 0)).1
    if a = 0 then acc else acc + powerMw ((a * a : Nat) : Rat) (s.surveyLoad (driveOf drive) p)) 0).floor.toNat

/-- PRED_NULL (R73): the least, over the nulled zones, of the own field over ε Σ |g_y,p| |i_p|, in 0.1 dB. Where that sum is 0 the
rule gives no figure: the model takes 200.0 dB, its greatest; a greater figure reads as that, and a negative one, which the
entry's U16 cannot hold, as 0 (DESIGN CHOICE, log 246). -/
def State.predNull (s : State) (n : Nat) (drive : List (Nat × Nat)) : Nat :=
  let i := s.currents drive
  let own := (Cx.dot (s.zoneVec (s.nat (penKey n 2))) i).normSq
  let depth (y : Nat) : Int :=
    let e := ((s.zoneVec y).zip i).foldl (fun acc x => acc + sqrtRat x.1.normSq * sqrtRat x.2.normSq) (0 : Rat)
    let d := e * 482 / 10000
    if d = 0 then 2000 else deciBel (own / (d * d))
  match s.pennantNulls n with
  | [] => 0
  | ys => (ys.foldl (fun m y => min m (depth y)) 2000).toNat

/-- No drive. -/
def zeroDrive : List (Nat × Nat) := List.replicate 8 (0, 0)

/-- The zone's greatest field within the limits of R87 is sought by rounds of reweighting: 24 of them, and 14 halvings where the
field cap left binds (DESIGN CHOICE, log 211). -/
def greatestRounds : Nat := 24

/-- The factors d of a drive v = ω d on some ports that gives the row c the greatest value for its weighted length while the
rows a give 0: d = c̄ − aᴴ μ. -/
def heldClear (c : List Cx) (a : CMat) (w : List Rat) : List Cx :=
  let row (r : List Cx) (z : List Cx) : Cx := (r.zip (w.zip z)).foldl (fun m x => m.add ((x.1.mul x.2.2).scale x.2.1)) Cx.zero
  let cc := c.map Cx.conj
  match solveVec (a.map fun r => a.map fun q => row r (q.map Cx.conj)) (a.map fun r => row r cc) with
  | none => c.map fun _ => Cx.zero
  | some mu => cc.zipIdx.map fun x => (a.zip mu).foldl (fun m r => m.sub (((r.1.getD x.2 Cx.zero).conj).mul r.2)) x.1

/-- The drive in codes of factors and weights. -/
def weightedDrive (w : List Rat) (d : List Cx) : List Cx := (w.zip d).map fun x => x.2.scale x.1

/-- The load of port p under a drive in codes, or alone where the drive leaves it out (R65). -/
def State.loadUnder (s : State) (drive : List Cx) (p : Nat) : Nat :=
  if drive.getD p Cx.zero = Cx.zero then s.surveyLoad ((List.range 8).map fun q => if q = p then Cx.one else Cx.zero) p
  else s.surveyLoad drive p

/-- The greatest code of port p under a drive: A_lim at the survey load, and 10 bits (R38, R55, R87). -/
def State.greatestCode (s : State) (drive : List Cx) (p : Nat) : Nat := min 1023 (limitCode (s.portCap p) (s.loadUnder drive p))

/-- One round: each port's weight becomes what brings it to its limit, or, where the power counts, to the share m of its load. -/
def State.reweigh (s : State) (ms : List Nat) (c : List Cx) (a : CMat) (m : Option Rat) (w : List Rat) : List Rat :=
  let d := heldClear c a w
  let drive := spread ms (weightedDrive w d)
  (ms.zip (w.zip d)).map fun x =>
    let size := sqrtRat x.2.2.normSq
    let own : Rat := if size = 0 then x.2.1 else ((s.greatestCode drive x.1 : Nat) : Rat) / size
    let share : Rat := match m with
      | some m => min own (m * ((s.loadUnder drive x.1 : Nat) : Rat))
      | none => own
    (((share * 1024).floor.toNat : Nat) : Rat) / 1024

/-- A drive in codes scaled down, or up where `up`, until its first port meets its limit; as pairs, amplitudes rounded down. -/
def State.fitted (s : State) (drive : List Cx) (up : Bool) : List (Nat × Nat) :=
  let room := (List.range 8).filterMap fun p =>
    let size := sqrtRat (drive.getD p Cx.zero).normSq
    if size = 0 then none else some (((s.greatestCode drive p : Nat) : Rat) / size)
  let t := match room with
    | [] => 1
    | r :: rs => let t := rs.foldl min r; if up then t else min 1 t
  (List.range 8).map fun p =>
    let z := (drive.getD p Cx.zero).scale t
    let a := min (s.greatestCode drive p) (isqrt z.normSq.floor.toNat)
    if a = 0 then (0, 0) else (a, phaseCode z)

/-- The drive on the ports ms of the greatest field with power share m, or with no bound but the ports' own. -/
def State.greatestWith (s : State) (ms : List Nat) (c : List Cx) (a : CMat) (m : Option Rat) : List (Nat × Nat) :=
  let w := (List.range greatestRounds).foldl (fun w _ => s.reweigh ms c a m w) (ms.map fun _ => (1 : Rat))
  s.fitted (spread ms (weightedDrive w (heldClear c a w))) m.isNone

/-- The total of the grants that a drive's ports need (R54). -/
def State.driveGrants (s : State) (drive : List (Nat × Nat)) : Nat :=
  (List.range 8).foldl (fun m p =>
    let a := (drive.getD p (0, 0)).1
    if a = 0 then m else m + grantFor (min ((s.portCap p : Nat) : Rat) (powerMw ((a * a : Nat) : Rat) (s.surveyLoad (driveOf drive) p)))) 0

/-- The drive on the ports ms that gives the greatest field at a zone vector within each port's limit at the survey load, the
field cap left and the nulls (R87). -/
def State.greatestDrive (s : State) (ms : List Nat) (own : List Cx) (nulls : List (List Cx)) (coil0 : Bool) (cap : Nat) : List (Nat × Nat) :=
  match s.driveRows ms own nulls coil0 with
  | [] => zeroDrive
  | c :: a =>
    let free := s.greatestWith ms c a none
    if s.driveGrants free ≤ cap then free
    else
      let unit : Rat := 16 / (max (sqrtRat (Cx.lenSq c)) (1 / 1_000_000))
      ((List.range 14).foldl (fun (x : Rat × List (Nat × Nat)) i =>
        let m := x.1 + unit / ((2 ^ (i + 1) : Nat) : Rat)
        let d := s.greatestWith ms c a (some m)
        if s.driveGrants d ≤ cap then (m, d) else x) ((0 : Rat), zeroDrive)).2

/-- The pairs of a computed pennant on given ports, with coil 0 nulled or not; none where R72 marks it FAILED. -/
def State.solvePennant (s : State) (n : Nat) (ms : List Nat) (coil0 : Bool) : Option (List (Nat × Nat)) :=
  let z := s.nat (penKey n 2)
  if ¬ s.survey.accepted ∨ ms.length ≤ (s.pennantNulls n).length then none
  else
    match s.leastLoss ms (s.zoneVec z) ((s.pennantNulls n).map s.zoneVec) coil0 (s.targetField z) with
    | none => none
    | some v => let ps := pairsOfVolts ms v; if s.withinLimits ps then some ps else none

/-! ### Covers (R87, R88) -/

/-- The field cap that Halyard has left (R215), with the grants of the ports ps added back. -/
def State.fieldCapLeft (s : State) (ps : List Nat) : Nat :=
  let back := ps.foldl (fun m p => m + s.held (.port p)) 0
  let field := (List.range 8).foldl (fun m p => m + s.held (.port p)) 0
  let all := s.hal.held.foldl (fun m x => m + x.2) s.hal.core
  min (s.nat 0x2010_01 + back - field) (s.nat 0x2010_03 + back - all)

/-- The ports that a cover of pennant n may use: those of its stored mask and the zone's neighbours that are available (R87). -/
def State.coverPorts (s : State) (n : Nat) : List Nat :=
  (List.range 8).filter fun p =>
    ((s.pennantPorts n).contains p || (portsIn (s.nat (zoneKey (s.nat (penKey n 2)) 11))).contains p) && !s.unavailable p

/-- The cover of pennant n that reaches the zone's target: R72 on the cover's ports within the field cap left, where it has a
solution (R87). -/
def State.coverSolved (s : State) (n : Nat) : Option (List (Nat × Nat)) :=
  (s.solvePennant n (s.coverPorts n) s.assigned).filter fun ps => decide (s.driveGrants ps ≤ s.fieldCapLeft (s.coverPorts n))

/-- The cover form of pennant n: the solution that reaches the target, else the greatest field within the limits (R87). While
port 0 is the tag's it nulls coil 0 where its ports leave room for one more null (R89). -/
def State.coverForm (s : State) (n : Nat) : List (Nat × Nat) :=
  let ms := s.coverPorts n
  let nulls := (s.pennantNulls n).map s.zoneVec
  (s.coverSolved n).getD (s.greatestDrive ms (s.zoneVec (s.nat (penKey n 2))) nulls (s.assigned && decide (nulls.length + 1 < ms.length))
    (s.fieldCapLeft ms))

/-- A drive without the part that induces a voltage in coil 0, held within the ports' limits; the drive itself where nothing else
is left of it (R89; DESIGN CHOICE, log 212). -/
def State.withoutCoil0 (s : State) (drive : List (Nat × Nat)) : List (Nat × Nat) :=
  let ms := (List.range 8).filter fun p => (drive.getD p (0, 0)).1 ≠ 0
  let b := (s.driveRows ms [] [] true).getD 1 []
  let v := ms.map fun p => (driveOf drive).getD p Cx.zero
  let k := (Cx.dot b v).scale (1 / (Cx.lenSq b))
  let d := s.fitted (spread ms ((v.zip b).map fun x => x.1.sub (x.2.conj.mul k))) false
  if Cx.lenSq b = 0 || d.all fun x => x.1 = 0 then drive else d

/-- The pairs of a pennant whose ports are all available: as stored; while port 0 is the tag's, coil 0 is nulled as well: of a
computed pennant where R72 then has a solution, of a manual one by taking out the part that meets coil 0 (R89). -/
def State.pairsInUse (s : State) (n : Nat) : List Byte :=
  let stored := s.oct (penKey n 7)
  if !s.assigned then stored
  else if s.nat (penKey n 3) = 1 then
    match s.solvePennant n (s.pennantPorts n) true with
    | some ps => pairBytes ps
    | none => stored
  else if s.survey.accepted then pairBytes (s.withoutCoil0 (pairsOf stored)) else stored

/-- PRED_NULL, FIELD_DB and POWER of the pairs in use (R73, R74); a pennant without nulls reads PRED_NULL 0. -/
def State.pennantFigures (s : State) (n : Nat) : State :=
  let ps := pairsOf (s.oct (penKey n 8))
  let s := if s.pennantNulls n = [] then s.setN (penKey n 9) 0 else s
  if s.survey.accepted && ((s.pennant n).state ≠ .empty && (s.pennant n).state ≠ .failed) then
    ((s.setN (penKey n 9) (s.predNull n ps)).setI (penKey n 10) (clampI (-32768) 32767 (s.fieldDb (s.nat (penKey n 2)) ps))).setN
      (penKey n 11) (min 65535 (s.drivePower ps))
  else s

/-- COVER_DEFICIT and COVER_STATE of zone z follow its NOMINAL pennant; a cover that reaches the target leaves no deficit; event 13
when the zone becomes UNCOVERED (R88). -/
def State.coverZone (s : State) (z : Nat) : State :=
  let n := s.nat (zoneKey z 2)
  let missing := decide (n < 64) && (s.pennant n).state = .degraded && (s.coverSolved n).isNone
  let d := if missing then min 0 (s.fieldDb z (pairsOf (s.oct (penKey n 8)))) else 0
  let st := if d = 0 then 0 else if d.natAbs ≤ s.nat (zoneKey z 9) then 1 else 2
  let was := s.nat (zoneKey z 7)
  let s := (s.setI (zoneKey z 8) d).setN (zoneKey z 7) st
  if st = 2 ∧ was ≠ 2 then s.raise 13 else s

/-- The lanes on pennant n change to the pairs now in use in their next gap between exchanges; a lane on live components
leaves them (R83, R87). -/
def State.lanesFollow (s : State) (n : Nat) : State :=
  let ps := pairsOf (s.oct (penKey n 8))
  (List.range 4).foldl (fun t l =>
    let x := t.lane l
    if x.state ≠ .idle ∧ x.state ≠ .closing ∧ x.pennant = n then (t.updLane l fun x => { x with live := false }).changeLane l n ps else t) s

/-- Every zone's cover follows (R88). -/
def State.coverZones (s : State) : State :=
  (List.range 16).foldl (fun t z => if t.nat (zoneKey z 2) = 0xFF && t.nat (zoneKey z 7) = 0 then t else t.coverZone z) s

/-- A port that pennant n now uses has been calibrated since the survey on which it was computed (R74). -/
def State.staleNow (s : State) (n : Nat) : Bool :=
  (s.pennantPorts n).any fun p => match s.portCal.getD p none with
    | some c => decide (s.nat (penKey n 12) ≤ c)
    | none => false

/-- Pennant n takes the state that its flags and its ports give it (Table 4-2); EFFECTIVE holds the pairs in use; events 10,
11 and 12 mark the changes (R74, R87). -/
def State.refreshPennant (s : State) (n : Nat) : State :=
  let x := s.pennant n
  let empty := s.nat (penKey n 2) = 0xFF || decide (s.nat (penKey n 3) = 0)
  let missing := (s.pennantPorts n).any s.unavailable
  let st : PennantState := if empty then .empty else if x.failed then .failed else if missing then .degraded
    else if s.staleNow n then .stale else .valid
  let eff := if st = .empty then zeroBytes 32 else if st = .degraded then pairBytes (s.coverForm n) else s.pairsInUse n
  let changed := decide (s.oct (penKey n 8) ≠ eff)
  let s := (s.updPennant n fun x => { x with state := st }).setO (penKey n 8) eff
  let s := (if changed && st ≠ .empty then s.lanesFollow n else s).pennantFigures n
  if st = .degraded && x.state ≠ .degraded then
    if x.state = .valid || s.lanes.any (fun l => l.state ≠ .idle && l.pennant = n) then s.raise 10 else s
  else if x.state = .degraded && (st = .valid || st = .stale) then (if st = .stale then (s.raise 11).raise 12 else s.raise 11)
  else if st = .stale && x.state ≠ .stale then s.raise 12
  else s

/-- Every pennant and zone, Frond, and the replies in progress meet the ports now available (R87, R88, R89, R103, R157). -/
def State.coverAll (s : State) : State :=
  let s := s.narrow.frondFollowAll
  let s := (List.range 64).foldl (fun t n =>
    if t.nat (penKey n 2) = 0xFF && (t.pennant n).state = .empty then t else t.refreshPennant n) s
  s.coverZones

/-- Some open lane uses pennant n (R92). -/
def State.pennantInUse (s : State) (n : Nat) : Bool := s.lanes.any fun l => l.state ≠ .idle && decide (l.pennant = n)

/-- A computed pennant is solved again; a manual one has its figures worked again (R72 to R74). Until a survey has been accepted
either is FAILED (Table 4-2). -/
def State.recompute (s : State) (n : Nat) : State :=
  let kind := s.nat (penKey n 3)
  if s.nat (penKey n 2) = 0xFF ∨ kind = 0 then (s.refreshPennant n).coverZones
  else
    let sol := if kind = 1 then s.solvePennant n (portsIn (s.nat (penKey n 4))) false else if s.survey.accepted then some (pairsOf (s.oct (penKey n 7))) else none
    let s := s.updPennant n fun x => { x with failed := sol.isNone }
    let s := match sol with
      | none => s
      | some ps => (if kind = 1 then s.setO (penKey n 7) (pairBytes ps) else s).setN (penKey n 12) (s.nat 0x2340_04)
    (s.refreshPennant n).coverZones

/-- Recompute now, or when the lane that uses it closes (R92). -/
def State.recomputeLater (s : State) (n : Nat) : State :=
  if s.pennantInUse n then { s with dirty := n :: s.dirty.filter (· ≠ n) } else s.recompute n

/-- The pennants of zone z or that null it (R71). -/
def State.pennantsOf (s : State) (z : Nat) : List Nat :=
  (List.range 64).filter fun n => s.nat (penKey n 2) ≠ 0xFF && (s.nat (penKey n 2) = z || (s.pennantNulls n).contains z)

/-- A zone's vector or target changed: the computed pennants that depend on it are solved again (R71, R72). -/
def State.recomputeZone (s : State) (z : Nat) : State :=
  let s := (s.pennantsOf z).foldl (fun t n => t.recomputeLater n) s
  s.coverZone z

/-- These ports are calibrated now: the pennants that use them become STALE (R74). -/
def State.staleFor (s : State) (ps : List Nat) : State :=
  let s : State := { s with portCal := ps.foldl (fun l p => l.set p (some (s.nat 0x2340_04))) s.portCal }
  (List.range 64).foldl (fun t n =>
    if t.nat (penKey n 2) ≠ 0xFF && (t.pennantPorts n).any ps.contains then t.refreshPennant n else t) s

/-! ### Survey requests (R70) -/

/-- A survey is requested: it merges into one that waits, and follows one that runs. -/
def State.requestSurvey (s : State) : State :=
  match s.survey.phase with
  | .idle => { s with survey := { s.survey with phase := .requested, t0 := s.now } }
  | .requested => s
  | _ => { s with survey := { s.survey with again := true } }

/-- The survey ends; one requested while it ran becomes pending (R70). -/
def State.surveyOver (s : State) : State :=
  { s with survey := { s.survey with phase := if s.survey.again then .requested else .idle, t0 := s.now, fell := none, again := false } }

/-! ### Port faults (R57) -/

/-- Port p enters FAULT: its grant is released, the code recorded, event 0 raised, its frames lost; covers follow, and a
survey is requested (R57, R70, R87). -/
def State.portFault (s : State) (p code : Nat) : State :=
  let s := (s.loseFrames p).countWait p
  let q := s.biasQuanta p
  let s := (s.releasePort p).updPort p fun x => { x.goes .fault s.now with
    bias0 := q, emergency := false, comps := [], aLim := 0, measured := false, frames := [], clampTo := unclamped, clampFrom := unclamped
    cutAtEnd := none, faultNext := none, waitT0 := none, hold := false, downFrom := none, lower := false, surveyRamp := false
    faultT0 := s.now, rechecks := 0, recheckT0 := s.now, passes := 0, series := none }
  let s := ((s.setN (portKey p 2 2) code).bump (portKey p 3 1)).raisePort 0 p
  s.coverAll.requestSurvey

/-- A fault that leads through a ramp-down: the 2 µs ramp, then FAULT (Table 3-6). A port that does not drive enters FAULT at
once. -/
def State.portFaultRamp (s : State) (p code : Nat) : State :=
  let st := (s.port p).state
  if st.on || st = .rampUp || st = .rampDown then
    (s.portEmergency p).updPort p fun x => { x with faultNext := some code }
  else s.portFault p code

end Sys2Proof.Machine
end

