-- ==== Sys2Proof/Machine/Halyard.lean ====
section
/-!
DEFINITION. Halyard (R215 to R219, R221): the ceiling, the burst credit, reductions, and the claims served in each 10 µs
tick.
-/

namespace Sys2Proof.Machine

open Sys2Proof

/-! ### The ceiling (R215, R216) -/

/-- E of the store in 10^-8 mJ, at least 0 (R210). -/
def State.storeFine (s : State) : Nat := s.supply.energy.toNat

/-- What a port's grant will be after a reduction that waits for its frame's end (R56). -/
def State.heldAfter (s : State) (p : Nat) : Nat := min (s.held (.port p)) ((s.port p).cutAtEnd.getD (s.held (.port p)))

/-- The sum of the field-port grants. -/
def State.fieldHeld (s : State) : Nat := (List.range 8).foldl (fun m p => m + s.held (.port p)) 0

/-- The held grants, core reserve included (OD 2010/04). -/
def State.granted (s : State) : Nat := s.hal.held.foldl (fun m x => m + x.2) s.hal.core

/-- What the reductions that wait for a frame's end will still take: no reduction is made twice. -/
def State.cutWaiting (s : State) : Nat := (List.range 8).foldl (fun m p => m + (s.held (.port p) - s.heldAfter p)) 0

/-- The burst ticks left in the window (OD 2010/06). -/
def State.burstCredit (s : State) : Nat := 4000 - s.hal.bursts.length

/-- A burst is allowed in this tick (R216). -/
def State.burstAllowed (s : State) : Bool :=
  s.flag 0x2010_02 && s.supply.state = .normal && decide (7500 ≤ s.nat 0x2010_07) && decide (0 < s.burstCredit)

/-- C, the least of the terms of Table 10-4 but the field sub-cap, which bounds class 2 only. -/
def State.ceiling (s : State) : Nat :=
  min (if s.burstAllowed then 14000 else 7500) (min (38 * s.storeFine / 100_000_000) (if s.nat 0x2010_07 < 7500 then s.nat 0x2010_07 else 14000))

/-! ### Reductions (R219) -/

/-- The ports that hold a grant, in the order of reduction: lowest lane priority first, highest port number first. -/
def State.cutOrder (s : State) : List Nat :=
  ((List.range 8).filter fun p => s.held (.port p) ≠ 0) |> sortBy fun a b =>
    decide (s.portPrio b < s.portPrio a) || (decide (s.portPrio a = s.portPrio b) && decide (b ≤ a))

/-- Reduce the field grants by the excess, port by port: each by the excess that remains, rounded up to 10 mW and at most
to zero. Each reduction is counted and raises event 95. An immediate one takes a port at once whatever waits for its frame's end:
the frame is lost, and what waited acts with it (R47, R219). -/
def State.cutFields (s : State) (immediate : Bool) : List Nat → Nat → State
  | [], _ => s
  | p :: ps, excess =>
    if excess = 0 then s
    else
      let g := if immediate then s.held (.port p) else s.heldAfter p
      let by_ := min g ((excess + 9) / 10 * 10)
      if by_ = 0 then s.cutFields immediate ps excess
      else
        let left := min (g - by_) (s.heldAfter p)
        let s := if immediate then (s.cutEmergency p left).bump 0x2014_02 else (s.cutPort p left).bump 0x2014_01
        (s.raise 95).cutFields immediate ps (excess - (g - left))

/-- A transmit grant is taken at once: an immediate reduction, with event 95 (R219). -/
def State.cutGrant (s : State) (c : Claimant) : State :=
  if s.held c = 0 then s else ((s.setGrant c 0).bump 0x2014_02).raise 95

/-- An immediate reduction also abandons a radio or powerline frame in progress: its grant is gone (R219). -/
def State.cutTransmit (s : State) : State :=
  ([.powerline, .radio, .ackPl, .ackRadio] : List Claimant).foldl (fun (t : State) c => t.cutGrant c) s

/-- Trim the held grants to a limit. -/
def State.trimTo (s : State) (limit : Nat) (immediate : Bool) : State :=
  let waits (t : State) : Nat := if immediate then 0 else t.cutWaiting
  if s.granted - waits s ≤ limit then s
  else
    let s := if immediate then s.cutTransmit else s
    s.cutFields immediate s.cutOrder (s.granted - waits s - limit)

/-- The reductions of one tick: to 7,500 mW, immediately, once no burst credit remains; to the ceiling, immediately at 125 °C;
toward 7,500 mW as the credit runs out; the field grants to FIELD_TOTAL_CAP (R216, R219). -/
def State.reduce (s : State) : State :=
  let hot := decide (1250 ≤ s.int 0x2010_09)
  let s := if s.burstCredit = 0 then s.trimTo 7500 true else s
  let s := s.trimTo s.ceiling hot
  let s := if s.burstCredit ≤ 1000 then s.trimTo 7500 false else s
  let cap := s.nat 0x2010_01
  let after := s.fieldHeld - s.cutWaiting
  if cap < after then s.cutFields false s.cutOrder (after - cap) else s

/-! ### Serving claims (R217) -/

/-- A claim is granted whole (R217): the grant grows, the wait is counted, and a grant that takes the total above 7,500 mW
is counted as a burst grant. A port takes its grant at once. -/
def State.grantClaim (s : State) (c : Claim) : State :=
  let s := if 7500 < s.granted + c.mw then s.bump 0x2014_03 else s
  let s := (((s.dropClaim c.who).setGrant c.who (s.held c.who + c.mw)).add (0x2013_01 + c.who.cls) (s.sinceUs c.t0)).answer c.who .granted
  match c.who with
  | .port p => ({ s with hal := { s.hal with rrPort := (p + 1) % 8 } }).portGranted p
  | .ackRadio => { s with hal := { s.hal with rrAck := 1 } }
  | .ackPl => { s with hal := { s.hal with rrAck := 0 } }
  | _ => s

/-- The place of a claim within its class: priority, then round-robin from the class's pointer (R13, Table 10-6). The lane
priorities of class 2 share the class's one pointer, so a grant at a higher priority moves the turn among the lower ones: the
rules give the class a pointer and do not say that each priority has its own (DESIGN CHOICE, log 245). -/
def State.claimRank (s : State) (c : Claim) : Nat :=
  match c.who with
  | .port p => 1000 * c.prio + (p + 8 - s.hal.rrPort) % 8
  | .ackRadio => (2 - s.hal.rrAck) % 2
  | .ackPl => (3 - s.hal.rrAck) % 2
  | _ => 0

/-- The waiting claims in the order in which this tick serves them. -/
def State.claimOrder (s : State) : List Claim :=
  s.hal.claims |> sortBy fun a b =>
    decide (a.who.cls < b.who.cls) || (decide (a.who.cls = b.who.cls) && decide (s.claimRank a ≤ s.claimRank b))

/-- The claim may be granted now under C: it fits, and a total above 7,500 mW is permitted (R216). -/
def State.claimFits (s : State) (c : Claim) : Bool :=
  let t := s.granted + c.mw
  decide (t ≤ s.ceiling) && (decide (t ≤ 7500) || (s.burstAllowed && decide (400 * 100_000_000 ≤ s.storeFine) && decide (1000 < s.burstCredit)))

/-- The supply state refuses or holds a claim: no mains, no powerline transmit; RIDE_SHED grants nothing new of classes 2 to
5 (R211). -/
def State.shed (s : State) (c : Claim) : Bool :=
  s.supply.state = .shutdown || (s.supply.state = .rideThrough && s.flag 0x2000_0A && decide (2 ≤ c.who.cls))

/-- Serve the claims in order. Once a claim fails under C no later claim is granted in this tick; a field claim that fails
only against the field sub-cap blocks later field claims only. While grants are over C, or the credit is out, radio and
powerline claims wait (R217, R219). -/
def State.serve (s : State) (blocked : Bool) : List Claim → Bool → State
  | [], _ => s
  | c :: cs, all =>
    let field := c.who.cls = 2
    if (match c.deadline with | some d => decide (d < s.now) | none => false) then (s.refuseClaim c .deadline).serve blocked cs all
    else if c.who.isPl && s.noLine then (s.refuseClaim c .noLine).serve blocked cs all
    else if all || s.shed c then s.serve blocked cs all
    else if field && blocked then s.serve blocked cs all
    else if !s.claimFits c then s.serve blocked cs true
    else if field && decide (s.nat 0x2010_01 < s.fieldHeld + c.mw) then s.serve true cs all
    else (s.grantClaim c).serve blocked cs all

/-! ### The store's charger (R209, R210) -/

/-- 10^8 times E in mJ, for a store voltage in mV. -/
def storeE (mv : Nat) : Int := 55 * ((mv * mv : Nat) - 232560000)

/-- The integer square root of a number below 2^32. -/
def root32 (x : Nat) : Nat :=
  (List.range 16).foldl (fun r i => if (r + 2 ^ (15 - i)) * (r + 2 ^ (15 - i)) ≤ x then r + 2 ^ (15 - i) else r) 0

/-- The charge target in mV: 36 V in ACTIVE, which holds from the start of the core domain and in ROM recovery; 20 V in the standby
states and SLEEP (Table 10-2, R451). -/
def State.chargeTarget (s : State) : Nat := if s.power = .active then 36000 else 20000

/-- The charger runs: a source carries the bus, the store bridges no gap, and E is below the target's (R209, R210). -/
def State.charging (s : State) : Bool :=
  decide (s.supply.source ≠ .store) && decide (s.supply.state ≠ .switchover) && decide (s.supply.energy < storeE s.chargeTarget)

/-- What the charger draws from the bus, in mW: up to 2,000, as far as the grants leave room under the source's 9,500 (R209). -/
def State.chargeDraw (s : State) : Nat := if s.charging then min 2000 (9500 - s.granted) else 0

/-- OD 2000/08 and 2000/09 with PWR_GOOD's measure: the store's voltage and E (R210). -/
def State.storeShown (s : State) : State :=
  (s.setN 0x2000_08 (root32 (s.supply.energy / 55 + 232560000).toNat)).setI 0x2000_09 (clampI (-32768) 32767 (s.supply.energy / 100000000))

/-- PWR_GOOD as E and readiness set it; each change raises event 94 (R212). -/
def State.pwrGood (s : State) (e : Int) : State :=
  let good := s.phase = .service && s.supply.state ≠ .shutdown &&
    (decide (6000000000 ≤ e) || (s.supply.pwrGood && decide (4000000000 ≤ e)))
  if good = s.supply.pwrGood then s
  else
    let s : State := { s with supply := { s.supply with pwrGood := good } }
    if s.coreRuns then s.raise 94 else s

/-- E takes a new figure. -/
def State.storeAt (s : State) (e : Int) : State :=
  (({ s with supply := { s.supply with energy := e } } : State).storeShown).pwrGood e

/-- The charger's 10 µs: 95 % of what it draws goes into the store, up to the target (R209, R210). -/
def State.charge (s : State) : State :=
  if s.chargeDraw = 0 then s else s.storeAt (min (storeE s.chargeTarget) (s.supply.energy + 950 * (s.chargeDraw : Nat)))

/-- A 10 µs tick is due. -/
def State.tickDue (s : State) : Bool := decide (347136 ≤ s.now - s.hal.tickT0)

/-- One tick of Halyard: the store's charge, the core reserve, the burst window, the ceiling, the reductions, the claims (R215
to R219). -/
def State.halyardTick (s : State) : State :=
  let n := s.hal.tick + 1
  let s := s.charge
  let s := { s with hal := { s.hal with tick := n, tickT0 := s.now - (s.now - s.hal.tickT0) % 347136, core := s.coreReserve } }
  let burst := decide (7500 < s.granted)
  let window := s.hal.bursts.filter fun t => n < t + 20000
  let s := { s with hal := { s.hal with bursts := if burst then n :: window else window } }
  let beyond := decide (s.ceiling < s.granted)
  let s := s.reduce
  let s := ((s.setN 0x2010_05 s.hal.core).setN 0x2010_06 s.burstCredit).setN 0x2010_03 s.ceiling
  let s := (s.serve false s.claimOrder beyond).surveyCharge
  { s with rx := s.rx.map fun r => { r with ticked := r.cancel ≠ .off } }

/-! ### Releases -/

/-- Release what a claimant holds beyond `keep` (R218). -/
def State.release (s : State) (c : Claimant) (keep : Nat) : State :=
  if keep < s.held c then s.setGrant c keep else s

/-! ### Thermal ceiling (R220, R221) -/

/-- The temperature term of THERM_CEILING, T_hot in 0.1 °C. -/
def thermalTerm (t : Int) : Nat :=
  if t ≤ 1000 then 7500 else if 1250 ≤ t then 0 else (7500 * (1250 - t) / 250).toNat

/-- D_avg with this estimate of D: the mean of the last 1,000, one each millisecond, or of those made since the start while they
are fewer; whole mW, rounded down (R220; DESIGN CHOICE, log 229). -/
def Halyard.average (h : Halyard) (d : Nat) : Nat :=
  let l := (d :: h.diss).take 1000
  l.foldl (· + ·) 0 / l.length

/-- The estimate D of this millisecond joins those of the last second. -/
def State.dissipates (s : State) (d : Nat) : State := { s with hal := { s.hal with diss := (d :: s.hal.diss).take 1000 } }

/-- T_hot: the hottest reading among the die sensors, OD 3501/01 to 06, in 0.1 °C. A sensor that R387 has excluded is no
reading of the die, unless all are excluded (R220; DEDUCED, log 258). -/
def State.hottest (s : State) : Int :=
  let well := (List.range 6).filter fun i => s.flag (0x3502_01 + i)
  match (if well = [] then List.range 6 else well).map fun i => s.int (0x3501_01 + i) with
  | [] => 0
  | x :: l => l.foldl max x

/-- D: the input power less the field power delivered into the coils, the VOUT_3V3 load, the radiated RF and the powerline
output, in mW; none where the outputs reach the input (R220). -/
def lossOf (input : BitVec 16) (m : Outputs) : Nat := input.toNat - (m.field.toNat + m.vout.toNat + m.rf.toNat + m.line.toNat)

/-- THERM_CEILING for a hottest sensor and the dissipation D of this millisecond; every 100 ms the dissipation term is worked and
the ceiling rises by at most 500 mW. -/
def State.thermal (s : State) (tHot : Int) (d : Nat) : State :=
  let dAvg := s.hal.average d
  let s := s.dissipates d
  let s := (s.setI 0x2010_09 tHot).setN 0x2010_08 (min 65535 dAvg)
  let was := s.nat 0x2010_07
  let due := s.passedMs s.hal.thermT0 100
  let s := if due then { s with hal := { s.hal with thermT0 := s.now } } else s
  let diss := if dAvg ≤ 3200 then 7500 else if due then s.granted - 2 * (dAvg - 3200) else was
  let want := min (thermalTerm tHot) diss
  let new := if want ≤ was then want else if due then min want (was + 500) else was
  let s := s.setN 0x2010_07 new
  let s := if new < was ∧ new < s.granted then s.raise 95 else s
  if 1250 ≤ tHot then s.trimTo s.ceiling true else s

end Sys2Proof.Machine
end

