-- ==== Sys2Proof/Machine/Lanes.lean ====
section
/-!
DEFINITION. Lanes (R76 to R86): isolation figures, combiner weights, admission, measured replies, live nulling, closing.
-/

namespace Sys2Proof.Machine

open Sys2Proof

def laneKey (l sub : Nat) : Nat := 0x2360_00 + 0x100 * l + sub

def LaneState.code : LaneState → Nat
  | .idle => 0
  | .opening => 1
  | .concurrent => 2
  | .interleaved => 3
  | .closing => 4

/-- A lane is open in every state except IDLE (R76). -/
def Lane.isOpen (x : Lane) : Bool := x.state ≠ .idle

/-- The lanes that run a session: open and not closing. -/
def Lane.running (x : Lane) : Bool := x.state ≠ .idle && x.state ≠ .closing

/-- The open lanes. -/
def State.openLanes (s : State) : List Nat := (List.range 4).filter fun l => (s.lane l).isOpen

/-! ### What a lane drives, and what it hears -/

/-- The eight pairs of lane l's components as planned (OD 2360+l/08). -/
def State.laneDrive (s : State) (l : Nat) : List (Nat × Nat) :=
  (List.range 8).map fun p => match (s.port p).comps.find? fun c => c.lane = l && c.planned with
    | some c => c.target
    | none => (0, 0)

/-- The replies of a lane in which port p took part (R103). -/
def Lane.repliesAt (x : Lane) (p : Nat) : List (Int × Int) :=
  x.replies.zipIdx.filterMap fun v => if (x.took.getD v.2 (List.range 8)).contains p then some (v.1.getD p (0, 0)) else none

/-- The mean of the lane's last 16 reply vectors, in 0.1 µV; before its first reply, the taught vector at REF_LEVEL (R79,
R84). The element of a port that does not combine is left out, as are the replies in which a port took no part (R103). -/
def State.replyMean (s : State) (l : Nat) : List Cx :=
  let x := s.lane l
  match x.replies with
  | [] => (s.zoneVec x.zone).map (Cx.scale (s.nat (zoneKey x.zone 3)))
  | _ => (List.range 8).map fun p =>
      let vs := x.repliesAt p
      if s.combining p && vs ≠ [] then (vs.foldl (fun acc v => acc.add (Cx.ofInts v)) Cx.zero).scale (1 / (vs.length : Rat)) else Cx.zero

/-- g_l: the taught vector before the lane's first reply, then the direction of its replies (R79). -/
def State.laneVec (s : State) (l : Nat) : List Cx :=
  if (s.lane l).replies = [] then s.zoneVec (s.lane l).zone else unitVec (s.replyMean l)

/-- Downlink isolation at vector g of one drive against another, in 0.1 dB (R79). Where the other field there is 0 the spec gives no
figure, and the model takes the greatest it uses, 200.0 dB (DESIGN CHOICE, log 213). -/
def State.isoDown (s : State) (g : List Cx) (own other : List (Nat × Nat)) : Int :=
  let d := s.fieldSq g other
  if d = 0 then 2000 else deciBel (s.fieldSq g own / d)

/-- The noise power of each port for lane l, in (0.1 µV)²: NOISE_ACTIVE squared times the mode's bandwidth (R84). -/
def State.noisePower (s : State) (l p : Nat) : Rat :=
  let n := s.nat (0x2400_06 + 0x100 * p)
  ((n * n * (s.lane l).bw : Nat) : Rat) / 10_000_000_000

/-- u = (N + Σ r_m r_mᴴ)⁻¹ r_l over the ports that combine, 0 at the others (R84, R103); the plain r_l where the noise figures leave
the matrix singular (log 43). -/
def State.combiner (s : State) (l : Nat) (r : List Cx) (others : List (List Cx)) : List Cx :=
  let ps := s.combiningPorts
  let a : CMat := ps.map fun i => ps.map fun j =>
    others.foldl (fun acc v => acc.add ((v.getD i Cx.zero).mul (v.getD j Cx.zero).conj))
      (if i = j then ⟨s.noisePower l i, 0⟩ else Cx.zero)
  let own := ps.map fun p => r.getD p Cx.zero
  spread ps ((solveVec a own).getD own)

/-- Uplink isolation |uᴴ r_l| over |uᴴ r_m|, in 0.1 dB (R79); 200.0 dB where the other reply combines to 0 (log 213). -/
def isoUp (u rl rm : List Cx) : Int :=
  let uc := u.map Cx.conj
  let d := (Cx.dot uc rm).normSq
  if d = 0 then 2000 else deciBel ((Cx.dot uc rl).normSq / d)

/-- The technologies enabled for a zone (OD 2580+z/01). -/
def State.zoneTech (s : State) (z : Nat) : Nat := if s.nat (0x2580_01 + 0x100 * z) = 0xFF then s.nat 0x2500_01 else s.nat (0x2580_01 + 0x100 * z)

/-- Some technology of the zone sends commands with 100 % ASK: Type A, or 15693 with V_MODE[1] (R79, Table 3-3). -/
def State.zoneAsk100 (s : State) (z : Nat) : Bool :=
  (s.zoneTech z).testBit 0 || ((s.zoneTech z).testBit 2 && s.bit 0x2500_10 1)

/-- The downlink minimum of Table 4-4. -/
def State.downMin (s : State) (ask100 : Bool) : Int := if ask100 then s.nat 0x2370_03 else s.nat 0x2370_02

/-- The four figures of a pair, each at or above Table 4-4. -/
structure PairView where
  g : List Cx
  drive : List (Nat × Nat)
  reply : List Cx
  ask100 : Bool
deriving DecidableEq, Repr, Inhabited

/-- A lane as its pairs see it. -/
def State.viewOf (s : State) (l : Nat) : PairView :=
  { g := s.laneVec l, drive := s.laneDrive l, reply := s.replyMean l, ask100 := (s.lane l).nextAsk.getD (s.zoneAsk100 (s.lane l).zone) }

/-- A zone with a drive, as predicted from its taught vector (R78). -/
def State.viewOfZone (s : State) (z : Nat) (drive : List (Nat × Nat)) : PairView :=
  { g := s.zoneVec z, drive := drive, reply := (s.zoneVec z).map (Cx.scale (s.nat (zoneKey z 3))), ask100 := s.zoneAsk100 z }

/-- Downlink and uplink isolation of a against b, a's combiner rejecting the vectors given (R79). -/
def State.figures (s : State) (l : Nat) (a b : PairView) (others : List (List Cx)) : Int × Int :=
  (s.isoDown a.g a.drive b.drive, isoUp (s.combiner l a.reply others) a.reply b.reply)

/-- The pair's figures meet Table 4-4 on a's side. -/
def State.sideMeets (s : State) (l : Nat) (a b : PairView) (others : List (List Cx)) : Bool :=
  let f := s.figures l a b others
  decide (s.downMin a.ask100 ≤ f.1) && decide ((s.nat 0x2370_02 : Int) ≤ f.2)

/-- What lane l's combiner rejects: the replies of every other open lane (R84). -/
def State.rejected (s : State) (l : Nat) : List (List Cx) := (s.openLanes.filter (· ≠ l)).map s.replyMean

/-- Both sides of a pair of open lanes meet Table 4-4, with the combiner weights of R84 (R79). -/
def State.pairMeets (s : State) (l m : Nat) : Bool :=
  s.sideMeets l (s.viewOf l) (s.viewOf m) (s.rejected l) && s.sideMeets m (s.viewOf m) (s.viewOf l) (s.rejected m)

/-! ### Conflicts (R79, R81, R82) -/

/-- The predicted depth of the coil 0 null of a drive in 0.1 dB: Σ |Z[0][j]| |i_j| over |Σ Z[0][j] i_j|, without an error budget,
at most 200.0 dB. R89 asks for the figure and gives no formula (DESIGN CHOICE, log 214). A lane whose pennant cannot reach 20 dB
conflicts with the emulated tag. -/
def State.coil0Null (s : State) (drive : List (Nat × Nat)) : Int :=
  let i := s.currents drive
  let z0 := s.zMat.getD 0 []
  let own := (Cx.dot z0 i).normSq
  let sum := (z0.zip i).foldl (fun acc x => acc + sqrtRat x.1.normSq * sqrtRat x.2.normSq) (0 : Rat)
  if own = 0 then 2000 else deciBel (sum * sum / own)

/-- Two lanes conflict (R79). -/
def State.conflict (s : State) (l m : Nat) : Bool :=
  let a := s.lane l
  let b := s.lane m
  l ≠ m && a.isOpen && b.isOpen &&
    (a.state = .opening || b.state = .opening || a.marks.any (fun x => x.1 = m) || b.marks.any (fun x => x.1 = l) || a.short.contains m)

/-! ### Measured replies (R80, R84) -/

/-- WEIGHTS: the combiner weights scaled to unit length, Q1.15 (OD 2360+l/07). -/
def weightBytes (u : List Cx) : List Byte :=
  vecBytes ((unitVec u).map fun x => (clampI (-32768) 32767 (x.re * 32768).floor, clampI (-32768) 32767 (x.im * 32768).floor))

/-- The weights of every open lane are worked again (R84). -/
def State.combineAll (s : State) : State :=
  s.openLanes.foldl (fun t l =>
    t.setO (laneKey l 7) (weightBytes (t.combiner l (t.replyMean l) (t.rejected l)))) s

/-- The worst figures of lane l over its pairs: (downlink, uplink), 0x7FFF with no other lane (OD 2360+l/04 and 05). -/
def State.worstIso (s : State) (l : Nat) : Int × Int :=
  (s.openLanes.filter (· ≠ l)).foldl (fun w m =>
    let f := s.figures l (s.viewOf l) (s.viewOf m) (s.rejected l)
    (min w.1 f.1, min w.2 f.2)) (0x7FFF, 0x7FFF)

def State.writeIso (s : State) (l : Nat) : State := (s.setI (laneKey l 4) (s.worstIso l).1).setI (laneKey l 5) (s.worstIso l).2

/-- A CONCURRENT lane of a short pair is demoted: event 14 and the counter (R80). -/
def State.demote (s : State) (l : Nat) : State :=
  if (s.lane l).state = .concurrent then
    ((s.updLane l fun x => { x with state := .interleaved, t0 := s.now, demotedT0 := s.now, goodRun := 0 }).bump 0x2371_05).raise 14
  else s

/-- Once both lanes of a pair are CONCURRENT the pair's shortfall is forgotten (R79). -/
def State.forgetShort (s : State) (l : Nat) : State :=
  let free := (List.range 4).filter fun m => (s.lane m).state = .concurrent
  if (s.lane l).state = .concurrent then
    { s with lanes := s.lanes.zipIdx.map fun (x : Lane × Nat) =>
        if x.2 = l then { x.1 with short := x.1.short.filter fun m => !free.contains m }
        else if free.contains x.2 then { x.1 with short := x.1.short.filter (· ≠ l) } else x.1 }
  else s

/-- A correct reply of lane l is measured (R80): its vector joins the last 16, clean replies clear marks, every pair that
includes it is evaluated, no command of l being queued yet (R79); it leaves OPENING, is demoted with the lanes it falls short
with, or is promoted (Table 4-3). -/
def State.measureReply (s : State) (l : Nat) (v : List (Int × Int)) : State :=
  let s := s.updLane l fun x => { x with
    nextAsk := none
    replies := (v :: x.replies).take 16
    took := ((s.seqs.getD l {}).ports :: x.took).take 16
    marks := (x.marks.map fun m => (m.1, m.2 - 1)).filter fun m => m.2 ≠ 0 }
  let s := (s.setO (laneKey l 6) (vecBytes v)).combineAll
  let others := s.openLanes.filter (· ≠ l)
  let bad := others.filter fun m => !s.pairMeets l m
  let s : State := { s with lanes := s.lanes.zipIdx.map fun (x : Lane × Nat) =>
    if (x.2 = l) then { x.1 with short := bad ++ x.1.short.filter fun m => !bad.contains m }
    else if (bad.contains x.2) then { x.1 with short := l :: x.1.short.filter (· ≠ l) } else x.1 }
  let s := s.openLanes.foldl (fun t m => t.writeIso m) s
  match (s.lane l).state with
  | .opening =>
    let st : LaneState := if bad = [] then .concurrent else .interleaved
    let s := bad.foldl (fun t m => t.demote m) s
    ((s.updLane l fun x => { x with state := st, t0 := s.now, demotedT0 := s.now, goodRun := 0, liveT0 := s.now }).raise 14).forgetShort l
  | .concurrent => if bad = [] then s else bad.foldl (fun t m => t.demote m) (s.demote l)
  | .interleaved =>
    let s := bad.foldl (fun t m => t.demote m) s
    let run := if bad = [] then (s.lane l).goodRun + 1 else 0
    let s := s.updLane l fun x => { x with goodRun := run }
    if 2 ≤ run ∧ s.passedMs (s.lane l).demotedT0 (s.nat 0x2370_06) then
      ((((s.updLane l fun x => { x with state := .concurrent, t0 := s.now, liveT0 := s.now }).bump 0x2371_06).raise 14)).forgetShort l
    else s
  | _ => s

/-- R82: the two lanes conflict until two clean replies have been measured on each. -/
def State.markConflict (s : State) (l m : Nat) : State :=
  { s with lanes := s.lanes.zipIdx.map fun (x : Lane × Nat) =>
    if (x.2 = l) then { x.1 with marks := (m, 2) :: x.1.marks.filter fun y => y.1 ≠ m }
    else if (x.2 = m) then { x.1 with marks := (l, 2) :: x.1.marks.filter fun y => y.1 ≠ l } else x.1 }

/-! ### Admission (R77, R78) -/

/-- The zone's pennants that may be selected, highest FIELD_DB first, on a tie the lowest index. -/
def State.zonePennants (s : State) (z : Nat) : List Nat :=
  let ns := (List.range 64).filter fun n => s.nat (penKey n 2) = z && ((s.pennant n).state = .valid || (s.pennant n).state = .degraded)
  ns |> sortBy fun a b => decide (s.int (penKey b 10) < s.int (penKey a 10)) || (decide (s.int (penKey a 10) = s.int (penKey b 10)) && decide (a ≤ b))

/-- The pairs of pennant n in use. -/
def State.penDrive (s : State) (n : Nat) : List (Nat × Nat) := pairsOf (s.oct (penKey n 8))

/-- Lane l on pennant n for zone z is predicted to meet Table 4-4 against the lanes given, lane m driving as `drives` says: by the
taught vectors, each lane's combiner rejecting all the others (R78, R84). -/
def State.penMeets (s : State) (l z n : Nat) (lanes : List Nat) (drives : Nat → List (Nat × Nat)) : Bool :=
  let view (m : Nat) : PairView := if m = l then s.viewOfZone z (s.penDrive n) else s.viewOfZone (s.lane m).zone (drives m)
  let others (m : Nat) : List (List Cx) := ((l :: lanes).filter (· ≠ m)).map fun k => (view k).reply
  lanes.all fun m => s.sideMeets l (view l) (view m) (others l) && s.sideMeets m (view m) (view l) (others m)

/-- Lane m runs on a pennant that is STALE: it keeps it until it closes (R75). -/
def State.onStale (s : State) (m : Nat) : Bool := (s.pennant (s.lane m).pennant).state = .stale

/-- The pennant for a new lane l, and a change of pennant that an open lane makes first (R78). -/
def State.choose (s : State) (l z : Nat) : Option (Nat × Option (Nat × Nat)) :=
  let ns := s.zonePennants z
  match ns.find? fun n => s.penMeets l z n s.openLanes s.laneDrive with
  | some n => some (n, none)
  | none =>
    let movable := s.openLanes.filter fun m => (s.lane m).running && !s.onStale m
    let combos := movable.flatMap fun m => (s.zonePennants (s.lane m).zone).flatMap fun q => ns.map fun n => (m, q, n)
    match combos.find? fun c => s.penMeets l z c.2.2 s.openLanes fun m => if m = c.1 then s.penDrive c.2.1 else s.laneDrive m with
    | some c => some (c.2.2, some (c.1, c.2.1))
    | none =>
      let nom := s.nat (zoneKey z 2)
      if ns.contains nom then some (nom, none) else none

/-- Every port stays within A_lim at the survey load with the new drive added, and the added grants within the field cap left
(R77); a lane that changes its pennant for the new one counts with its new drive (R78). -/
def State.powerFits (s : State) (drive : List (Nat × Nat)) (swap : Option (Nat × List (Nat × Nat))) : Bool :=
  let own (d : List (Nat × Nat)) (p : Nat) : Cx := codePhasor (d.getD p (0, 0)).1 (d.getD p (0, 0)).2
  let moved : List (Nat × Nat) := (swap.map (·.2)).getD zeroDrive
  let stays (p : Nat) : Cx := phasorSum (((s.port p).comps.filter fun c => c.planned && decide (some c.lane ≠ swap.map (·.1))).map Component.target)
  let total : List Cx := (List.range 8).map fun p => ((stays p).add (own drive p)).add (own moved p)
  let used := (List.range 8).filter fun p => (drive.getD p (0, 0)).1 ≠ 0 || (moved.getD p (0, 0)).1 ≠ 0
  let need := used.foldl (fun m p => m + grantFor (min ((s.portCap p : Nat) : Rat) (powerMw (total.getD p Cx.zero).normSq (s.surveyLoad total p)))) 0
  ((List.range 8).all fun p => total.getD p Cx.zero = Cx.zero || decide (ampCode (total.getD p Cx.zero) ≤ limitCode (s.portCap p) (s.surveyLoad total p))) &&
    decide (need ≤ s.fieldCapLeft used)

/-- The lane number a request takes: the one a host poll names, or the lowest free (R76). -/
def State.freeLane (s : State) (want : Option Nat) : Option Nat :=
  match want with
  | some l => if (s.lane l).state = .idle then some l else none
  | none => (List.range 4).find? fun l => (s.lane l).state = .idle

/-- A refusal: event 15 and its counter (R77). -/
def State.refuseLane (s : State) (counter : Nat) : State := (s.bump counter).raise 15

/-- A survey that drives the ports is abandoned: the ports of the new lane pass to its drive by R42, the others ramp down,
and the survey is requested again (R67). Its own ramps end with it (R65). Of a request that opens no lane the drive is empty. -/
def State.abandonSurvey (s : State) (l : Nat) (drive : List (Nat × Nat)) : State :=
  if s.survey.phase ≠ .driving then s
  else
    let s := (List.range 8).foldl (fun t p => t.ownRamps p) s
    let s := (List.range 8).foldl (fun t p =>
      let d := drive.getD p (0, 0)
      if d.1 = 0 then t.dropComponent p 4
      else
        let from_ (c : Component) : Component :=
          let z := t.componentAt p t.lastWord c
          { c with lane := l, amp := ampCode z, phase := phaseCode z }
        let t := t.updPort p fun (x : Port) => { x with comps := x.comps.map fun (c : Component) => if c.lane = 4 then from_ c else c }
        (t.putComponent p l d.1 d.2).grantMet p) s
    { (s.setN 0x2340_06 4) with survey := { s.survey with phase := .requested, t0 := s.now, fell := none, again := false } }

/-- The state without a survey's components and grants, by which a request is judged that abandons it (R67, R77). -/
def State.withoutSurvey (s : State) : State :=
  if s.survey.phase ≠ .driving then s
  else
    { s with
      ports := s.ports.map fun (x : Port) => { x with comps := x.comps.filter fun c => c.lane ≠ 4 }
      hal := { s.hal with held := s.hal.held.filter fun g => match g.1 with
        | .port _ => false
        | _ => true } }

/-- A request is refused, and a survey that drives the ports is abandoned all the same (R67, R77). -/
def State.refuseRequest (s : State) (counter : Nat) : State × Option Nat := ((s.refuseLane counter).abandonSurvey 0 [], none)

/-- A lane request is decided (R77): the lane it opened, or none with the refusal counted. -/
def State.admitLane (s : State) (r : LaneRequest) : State × Option Nat :=
  match s.freeLane r.lane with
  | none => s.refuseRequest 0x2371_02
  | some l =>
    if s.nat 0x2370_01 ≤ s.openLanes.length then s.refuseRequest 0x2371_02
    else if s.nat (zoneKey r.zone 7) = 2 then s.refuseRequest 0x2371_03
    else match s.withoutSurvey.choose l r.zone with
      | none => s.refuseRequest 0x2371_03
      | some (n, swap) =>
        let drive := s.penDrive n
        if !s.withoutSurvey.powerFits drive (swap.map fun c => (c.1, s.penDrive c.2)) then s.refuseRequest 0x2371_04
        else
          let s := match swap with
            | some (m, q) => s.changeLane m q (s.penDrive q)
            | none => s
          let s := s.updLane l fun _ => { state := .opening, t0 := s.now, zone := r.zone, pennant := n, swaps := swap.map (·.1) }
          let s := (s.abandonSurvey l drive).applyDrive l drive
          ((s.bump 0x2371_01).combineAll, some l)

/-- The requests decided together, in order: zone PRIORITY, then round-robin by zone number (R77). -/
def State.requestOrder (s : State) (rs : List LaneRequest) : List LaneRequest :=
  let rank (r : LaneRequest) : Nat := 16 * s.nat (zoneKey r.zone 10) + (r.zone + 16 - s.rrZone) % 16
  rs |> sortBy fun a b => rank a ≤ rank b

/-- A request for a lane joins those of its tick. One request stands for a zone: a wake merges into one that waits, and a host
poll gives its lane to a waiting wake; two host polls for a zone name different lanes and stay two (log 44). -/
def State.requestLane (s : State) (zone : Nat) (lane wake : Option Nat) : State :=
  let new : LaneRequest := { zone := zone, lane := lane, t0 := s.now * 10 / 347136, wake := wake }
  let open_ (r : LaneRequest) : Bool := decide (r.zone = zone) && (r.lane.isNone || lane.isNone)
  match s.requests.find? open_ with
  | none => { s with requests := s.requests ++ [new] }
  | some old => { s with requests := s.requests.map fun (r : LaneRequest) =>
      if r = old then { r with lane := old.lane.or lane, wake := old.wake.or wake } else r }

/-! ### Closing (R76, R85) -/

/-- A wait of lane l for a conflicting lane ends: its time is added to WAIT_US (R81). -/
def State.endWait (s : State) (l : Nat) : State :=
  match (s.lane l).waitT0 with
  | some t => (s.add (laneKey l 10) (s.sinceUs t)).updLane l fun y => { y with waitT0 := none }
  | none => s

/-- A lane enters CLOSING: its components ramp out (R41, R85). -/
def State.closeLane (s : State) (l : Nat) : State :=
  if (s.lane l).running then
    let s := (List.range 8).foldl (fun t p => t.dropComponent p l) (s.endWait l)
    let s : State := { s with fronds := s.fronds.map fun f => { f with laneFirst := f.laneFirst.filter fun x => x.1 ≠ l } }
    s.updLane l fun x => { x with state := .closing, t0 := s.now, change := none }
  else s

/-- The lane's components have ramped out. -/
def State.laneGone (s : State) (l : Nat) : Bool :=
  (s.lane l).state = .closing &&
    (List.range 8).all fun p => (s.port p).comps.all (fun c => c.lane ≠ l) || !(s.port p).state.live

/-- A remaining lane whose pennant nulls the closed lane's zone takes the best of its own zone's pennants against the lanes
still open, if its FIELD_DB is higher (R85). -/
def State.reselect (s : State) (l closed : Nat) : State :=
  let x := s.lane l
  if x.running && !s.onStale l && decide (x.pennant < 64) && (s.pennantNulls x.pennant).contains closed then
    match (s.zonePennants x.zone).find? fun n => s.penMeets l x.zone n (s.openLanes.filter (· ≠ l)) s.laneDrive with
    | some n => if s.int (penKey x.pennant 10) < s.int (penKey n 10) then s.changeLane l n (s.penDrive n) else s
    | none => s
  else s

/-- A CLOSING lane becomes IDLE: what was written to its pennant or zone takes effect, and the remaining lanes may change
pennant; a lane that is left alone shows no isolation (R76, R85, R92, Table 4-11). -/
def State.laneIdle (s : State) (l : Nat) : State :=
  let z := (s.lane l).zone
  let s : State := { s with turned := s.turned.filter (· ≠ l), lanes := (s.lanes.set l {}).map fun (x : Lane) => { x with short := x.short.filter (· ≠ l), marks := x.marks.filter fun m => m.1 ≠ l } }
  let s := (((((s.setI (laneKey l 4) 0x7FFF).setI (laneKey l 5) 0x7FFF).setO (laneKey l 6) (zeroBytes 32)).setO (laneKey l 7) (zeroBytes 32)))
  let now := s.dirty.filter fun n => !s.pennantInUse n
  let s : State := now.foldl (fun t n => t.recompute n) { s with dirty := s.dirty.filter fun n => !now.contains n }
  let order : List Nat := sortBy (α := Nat) (fun a b => decide (s.nat (zoneKey (s.lane a).zone 10) ≤ s.nat (zoneKey (s.lane b).zone 10))) s.openLanes
  let s := (order.foldl (fun t m => t.reselect m z) s).combineAll
  match s.openLanes with
  | [m] => s.writeIso m
  | _ => s

/-! ### Live nulling (R83) -/

/-- The components of lane l solved with the measured vectors of the other open lanes as nulls, scaled to its zone's target
field by its own measured vector; on the ports of its cover where its pennant is DEGRADED. None where R72 fails or a port would
exceed A_lim. -/
def State.liveDrive (s : State) (l : Nat) : Option (List (Nat × Nat)) :=
  let x := s.lane l
  let ms := if (s.pennant x.pennant).state = .degraded then s.coverPorts x.pennant
    else (s.pennantPorts x.pennant).filter fun p => !s.unavailable p
  let others := (s.openLanes.filter (· ≠ l)).map s.laneVec
  match s.leastLoss ms (s.laneVec l) others s.assigned (s.targetField x.zone) with
  | none => none
  | some v => let ps := pairsOfVolts ms v; if s.withinLimits ps then some ps else none

/-- Every pair's predicted isolation improves or stays equal with the new drives: its downlink figures, as ratios; the uplink rests
on the replies alone. -/
def State.liveBetter (s : State) (drives : List (Nat × List (Nat × Nat))) : Bool :=
  let old (m : Nat) := s.laneDrive m
  let new (m : Nat) := ((drives.find? fun d => d.1 = m).map (·.2)).getD (s.laneDrive m)
  s.openLanes.all fun l => s.openLanes.all fun m => l = m ||
    let f (d : List (Nat × Nat)) : Rat := s.fieldSq (s.laneVec l) d
    decide (f (old l) * f (new m) ≤ f (new l) * f (old m))

/-- No port exceeds A_lim at the survey load with the new drives (R83). -/
def State.liveFits (s : State) (drives : List (Nat × List (Nat × Nat))) : Bool :=
  let new (m : Nat) := ((drives.find? fun d => d.1 = m).map (·.2)).getD (s.laneDrive m)
  let total : List Cx := (List.range 8).map fun p => phasorSum (s.openLanes.map fun m => (new m).getD p (0, 0))
  (List.range 8).all fun p => total.getD p Cx.zero = Cx.zero ||
    decide (ampCode (total.getD p Cx.zero) ≤ limitCode (s.portCap p) (s.surveyLoad total p))

/-- The live recomputation falls due for some CONCURRENT lane (R83). -/
def State.liveDue (s : State) : Bool :=
  s.flag 0x2370_04 && s.lanes.any fun x => x.state = .concurrent && s.passedMs x.liveT0 20

/-- The live recomputation of every CONCURRENT lane: lanes between exchanges change at once, the others in their next gap (R83). -/
def State.liveNull (s : State) : State :=
  let ls := (List.range 4).filter fun l => (s.lane l).state = .concurrent
  let drives := ls.filterMap fun l => (s.liveDrive l).map fun d => (l, d)
  let s : State := { s with lanes := s.lanes.map fun (x : Lane) => if x.state = .concurrent then { x with liveT0 := s.now } else x }
  if s.liveBetter drives ∧ s.liveFits drives then
    drives.foldl (fun t d => if t.laneDrive d.1 = d.2 then t else t.changeLane d.1 ((t.lane d.1).pennant + 256) d.2) s
  else s

end Sys2Proof.Machine
end

