-- ==== Sys2Proof/Machine/Rx.lean ====
section
/-!
DEFINITION. The HF receive chain (chapter 5): the carrier canceller of each port, gain and overload, path health and noise
floors, and the meanings of their commands.
-/

namespace Sys2Proof.Machine

open Sys2Proof

def CancelState.code : CancelState → Nat
  | .off => 0
  | .acquire => 1
  | .track => 2
  | .hold => 3
  | .measure => 4

def State.seq (s : State) (l : Nat) : Seq := s.seqs.getD l {}

def State.updSeq (s : State) (l : Nat) (f : Seq → Seq) : State := { s with seqs := s.seqs.modify l f }

/-- The lane's receive window is open: its sequencer listens or takes in a reply. -/
def Seq.listens (x : Seq) : Bool := x.stage = .listening || x.stage = .reply

/-- Some lane's receive window is open. -/
def State.windowOpen (s : State) : Bool := s.seqs.any Seq.listens

/-- The canceller is forced OFF: port 0 is the tag's, or the path is faulty (Table 5-2). -/
def State.rxBarred (s : State) (p : Nat) : Bool := (s.rxp p).faulty || (decide (p = 0) && s.assigned)

/-- RX_HEALTH: 0 healthy and combining, 1 faulty, 2 healthy but excluded. -/
def State.rxHealth (s : State) (p : Nat) : Nat := if (s.rxp p).faulty then 1 else if s.combining p then 0 else 2

/-! ### Gain (R96 to R98) -/

/-- The gain step that R96 takes for a predicted carrier in mV: automatic by Table 5-3, or fixed. -/
def Rx.stepFor (x : Rx) (mv : Nat) : Nat :=
  match x.cfg.getD 0 0 with
  | 0 => if mv ≤ 1780 then 0 else if mv ≤ 3550 then 1 else if mv ≤ 7090 then 2 else 3
  | m => m - 1

/-- The noise bound of Table 5-3 in 0.001 nV/√Hz. -/
def noiseLimit (step mv : Nat) : Nat :=
  match step with
  | 0 => if mv ≤ 10 then 210 else 900
  | 1 => 1500
  | _ => 2700

/-- The settings of OD 2410/01 to 2410/06 (R117). -/
def State.rxSettings (s : State) : List Nat := (List.range 6).map fun i => s.nat (0x2410_01 + i)

/-- What receive paths sense now: CARRIER_MV, SUPPRESSION, which reads 0 in OFF, and the predicted carrier (R94 to R96; DEDUCED,
log 216). -/
def State.sense (s : State) (xs : List Sensed) : State :=
  xs.foldl (fun t x =>
    let p := x.port.val
    ((t.setN (rxKey p 3) x.measured.toNat).setN (rxKey p 4) (if (t.rxp p).cancel = .off then 0 else x.suppression.toNat)).updRx p
      fun r => { r with predicted := x.predicted.toNat }) s

/-- The gain that R96 gives for the predicted carrier. A step down that an overload made stays until R98 restores it, so that a
canceller that acquires again does not undo it (DESIGN CHOICE, log 273). -/
def Rx.choose (x : Rx) (mv : Nat) : Rx :=
  { x with predicted := mv, gain := if x.allowed < x.gain then max x.gain (x.stepFor mv) else x.stepFor mv, allowed := x.stepFor mv }

/-- The canceller enters ACQUIRE and chooses the gain by the predicted carrier (R94, R96). -/
def State.acquire (s : State) (p mv : Nat) : State := (s.enterCancel p .acquire).updRx p fun x => x.choose mv

/-- A re-acquisition or a restart is counted (OD 2400+p/0B). -/
def State.countReacquire (s : State) (p : Nat) : State := s.bump (rxKey p 11)

/-- HOLD ends on a port: the settings written meanwhile are in force, a new GAIN_MODE chooses its step, and a step down that
waited is made, or a step up (R96 to R98, R117). -/
def State.leaveHold (s : State) (p : Nat) : State :=
  let new := s.rxSettings
  s.updRx p fun x =>
    let y : Rx := { x with cfg := new, stepDown := false, stepUp := false }
    let y : Rx := if x.cfg.getD 0 0 = new.getD 0 0 then y else { y with gain := y.stepFor x.predicted, allowed := y.stepFor x.predicted }
    { y with gain := if x.stepDown then min 4 (y.gain + 1) else if x.stepUp && decide (y.allowed < y.gain) then y.gain - 1 else y.gain }

/-- The exit from HOLD: the canceller tracks again, or re-acquires where the residual is below 45 dB as HOLD ends (Table 5-2,
R97, R98, R117). -/
def State.exitHold (s : State) (p : Nat) : State :=
  if (s.rxp p).cancel ≠ .hold then s
  else
    let s := s.leaveHold p
    if s.nat (rxKey p 4) < 450 then ((s.acquire p (s.rxp p).predicted).countReacquire p).raisePort 25 p
    else s.enterCancel p .track

/-- Receive windows closed: with none open every held canceller leaves HOLD. -/
def State.windowsClosed (s : State) : State :=
  if s.windowOpen then s else (List.range 8).foldl (fun t p => t.exitHold p) s

/-- What the held paths sense as a window closes by an event whose command does not bring it (log 217). -/
def State.heldDrawn (s : State) : State := (List.range 8).foldl (fun t p => if (t.rxp p).cancel = .hold then t.senseDrawn p else t) s

/-- A receive window opened: every tracking canceller holds (Table 5-2). -/
def State.windowsOpened (s : State) : State :=
  (List.range 8).foldl (fun t p => if (t.rxp p).cancel = .track then t.enterCancel p .hold else t) s

/-- A reply starts: a canceller still acquiring holds (Table 5-2). -/
def State.replyHolds (s : State) : State :=
  (List.range 8).foldl (fun t p => if (t.rxp p).cancel = .acquire then t.enterCancel p .hold else t) s.windowsOpened

/-- The path is lent to a measurement: MEASURE (Table 5-2). -/
def State.rxMeasure (s : State) (p : Nat) : State :=
  if (s.rxp p).cancel = .track then s.enterCancel p .measure else s

/-- The canceller is put to OFF; where that ends HOLD, what waited for its end takes effect. -/
def State.rxOff (s : State) (p : Nat) : State :=
  match (s.rxp p).cancel with
  | .off => s
  | .hold => (s.leaveHold p).enterCancel p .off
  | _ => s.enterCancel p .off

/-- The receive path of port p becomes faulty (R112). -/
def State.rxFault (s : State) (p : Nat) : State :=
  if (s.rxp p).faulty then s.updRx p fun x => { x with passes := 0 }
  else (((s.updRx p fun x => { x with faulty := true, passes := 0, failed := 0 }).rxOff p).raisePort 27 p).narrow

/-- A self-test slice on the receive path passed: two in a row heal it (R112). -/
def State.rxPassed (s : State) (p : Nat) : State :=
  if (s.rxp p).faulty then
    s.updRx p fun x => if 2 ≤ x.passes + 1 then { x with faulty := false, passes := 0 } else { x with passes := x.passes + 1 }
  else s

/-- New feedforward coefficients: every tracking canceller re-acquires (Table 5-2). -/
def State.rxNewMatrix (s : State) : State :=
  (List.range 8).foldl (fun t p =>
    if (t.rxp p).cancel = .track then (t.acquire p (t.rxp p).predicted).countReacquire p else t) s

/-! ### Commands -/

/-- The predicted or the measured carrier, in mV RMS, reaches 10 mV: OFF to ACQUIRE (R94, R96). -/
def State.cancellerAcquire (s : State) (p predicted measured : Nat) : State :=
  ((s.setN (rxKey p 3) measured).updRx p fun x => { x with gain := 0, allowed := 0 }).acquire p predicted

def execCancellerAcquire (p : Fin 8) (predicted measured : BitVec 16) (s : State) : Out :=
  nextWhen ((s.rxp p).cancel = .off && !s.rxBarred p && (decide (10 ≤ predicted.toNat) || decide (10 ≤ measured.toNat))) s
    (s.cancellerAcquire p predicted.toNat measured.toNat)

/-- Acquisition succeeded: TRACK, HOLD while a receive window is open, or MEASURE where a survey's step needs the path
(Table 5-2, R65). -/
def State.acquired (s : State) (p : Nat) : State :=
  (s.updRx p fun x => { x with failed := 0 }).enterCancel p
    (if s.windowOpen then .hold else if s.survey.phase = .driving then .measure else .track)

/-- Acquisition failed: it restarts and chooses the gain again, counted with event 25; the third failure in a row makes the path
faulty (R94, R96, R112). -/
def State.acquireFailed (s : State) (p predicted : Nat) : State :=
  let s := ((s.countReacquire p).raisePort 25 p).updRx p fun x => { x with failed := x.failed + 1 }
  if 3 ≤ (s.rxp p).failed then s.rxFault p else s.acquire p predicted

/-- The end of an acquisition: 60 dB reached, or 12 µs gone (Table 5-2). -/
def execAcquisitionEnd (p : Fin 8) (found : BitVec 16 × BitVec 16) (s : State) : Out :=
  let suppression := found.1
  let t := s.setN (rxKey p 4) suppression.toNat
  nextWhen ((s.rxp p).cancel = .acquire && (decide (600 ≤ suppression.toNat) || s.passedUs (s.rxp p).t0 12)) s
    (if 600 ≤ suppression.toNat then t.acquired p else t.acquireFailed p found.2.toNat)

/-- Suppression below 45 dB for 10 µs in TRACK: re-acquisition with event 25 (R94, R116). -/
def execSuppressionLoss (p : Fin 8) (suppression predicted : BitVec 16) (s : State) : Out :=
  let t := s.setN (rxKey p 4) suppression.toNat
  nextWhen ((s.rxp p).cancel = .track && decide (suppression.toNat < 450)) s
    (((t.acquire p predicted.toNat).countReacquire p).raisePort 25 p)

/-- Both carriers below 5 mV for 20 µs: OFF (Table 5-2). -/
def execCancellerIdle (p : Fin 8) (predicted measured : BitVec 16) (s : State) : Out :=
  nextWhen (((s.rxp p).cancel = .acquire || (s.rxp p).cancel = .track) && decide (predicted.toNat < 5) && decide (measured.toNat < 5)) s
    ((s.setN (rxKey p 3) measured.toNat).enterCancel p .off)

/-- An overload (R97): in HOLD the reply is finished with status OVERLOAD and the step down waits; elsewhere the gain steps
down and the canceller acquires, with the gain that R96 chooses by the predicted carrier of that moment where it is lower still
(log 216). -/
def State.overload (s : State) (p : Nat) : State :=
  let s := (s.updRx p fun x => { x with overT0 := s.now, stepUp := false }).raisePort 24 p
  if (s.rxp p).cancel = .hold then
    { (s.updRx p fun x => { x with stepDown := true }) with
      seqs := s.seqs.map fun x => if x.stage = .reply && x.ports.contains p then { x with overloaded := true } else x }
  else
    let was := (s.rxp p).cancel
    let s := (s.bump (rxKey p 10)).updRx p fun x => { x with gain := min 4 (x.gain + 1) }
    if s.rxBarred p then s
    else
      let s := if was = .track then s.countReacquire p else s
      let (f, s) := s.draw
      s.acquire p (f % 65536)

def execRxOverload (p : Fin 8) (s : State) : Out := done s (s.overload p)

/-- GAIN_RESTORE_MS without an overload: the gain rises by one step, in HOLD at its exit, never above what R96 allows
(R98). -/
def State.gainRestore (s : State) (p : Nat) : State :=
  s.updRx p fun x => if x.cancel = .hold then { x with stepUp := true, overT0 := s.now } else { x with gain := x.gain - 1, overT0 := s.now }

def execGainRestore (p : Fin 8) (s : State) : Out :=
  let x := s.rxp p
  nextWhen (decide (x.allowed < x.gain) && !x.stepUp && s.passedMs x.overT0 (x.cfg.getD 2 100)) s (s.gainRestore p)

/-! ### Noise (R113 to R115) -/

/-- A smoothed figure: n-th parts of the new in the old, rounded to the nearest (log 50). -/
def smooth (n old new : Nat) : Nat := ((n - 1) * old + new + n / 2) / n

/-- The middle of 16 figures: the mean of the eighth and ninth in order (log 50). -/
def median16 (xs : List Nat) : Nat :=
  let ys := xs |> sortBy fun a b => decide (a ≤ b)
  (ys.getD 7 0 + ys.getD 8 0) / 2

/-- NOISE_PROFILE of port p as sixteen figures. -/
def State.noiseProfile (s : State) (p : Nat) : List Nat := (List.range 16).map fun i => uAt (s.oct (rxKey p 7)) (2 * i) 2

/-- The alert of R115: raised at the tenth measurement in a row above the level, armed again at the tenth in a row below. -/
def State.noiseAlert (s : State) (p : Nat) : State :=
  let x := s.rxp p
  let level := s.nat 0x2410_08
  let hi := if level < s.nat (rxKey p 5) then x.high + 1 else 0
  let lo := if s.nat (rxKey p 5) < level then x.low + 1 else 0
  let s := s.updRx p fun x => { x with high := min 10 hi, low := min 10 lo, alerted := (x.alerted || decide (10 ≤ hi)) && decide (lo < 10) }
  if 10 ≤ hi ∧ ¬ x.alerted then s.raisePort 26 p else s

/-- One idle measurement of port p in the sector of MA[15:12] (R113). -/
def State.noisePort (s : State) (p dens : Nat) : State :=
  let sector := s.angle / 4096
  let prof := s.noiseProfile p
  let prof := prof.set sector (smooth 8 (prof.getD sector 0) dens)
  let s := (s.setO (rxKey p 7) (prof.flatMap fun v => leBytes 2 v)).setN (rxKey p 5) (median16 prof)
  s.noiseAlert p

/-- No port carries a carrier (R113). -/
def State.noCarrier (s : State) : Bool := s.ports.all fun x => !x.state.live || x.state = .charging

/-- NOISE_ACTIVE of port p at its gain step (R114). -/
def State.noiseActive (s : State) (p dens : Nat) : State :=
  let v := smooth 16 (s.nat (rxKey p 6)) dens
  (s.setN (rxKey p 6) v).updRx p fun x => { x with noiseAt := x.noiseAt.set x.gain (some v) }

/-- The density that a port measures where an event ends an exchange whose command does not bring it (log 217). -/
def State.noiseDrawn (s : State) (p : Nat) : State :=
  let (f, s) := s.draw
  s.noiseActive p (f % 65536)

/-- On entry to CARRIER: the last value measured at the same gain step, or the bound of Table 5-3 (R114) for the carrier that the
port now drives (DEDUCED, log 216). -/
def State.noiseStart (s : State) (p : Nat) : State :=
  let x := s.rxp p
  let mv := max (s.nat (rxKey p 3)) (s.ampNow p * 8739 / 1000)
  s.setN (rxKey p 6) ((x.noiseAt.getD x.gain none).getD (noiseLimit x.gain mv))

/-- What follows a write of RX_ENABLE: a port that stops combining leaves the replies in progress (R103). -/
def State.rxWritten (s : State) (k : Nat) : State := if 0x2400_00 ≤ k ∧ k < 0x2408_00 ∧ k % 256 = 9 then s.narrow else s

end Sys2Proof.Machine
end

