-- ==== Sys2Proof/Machine/Match.lean ====
section
/-!
DEFINITION. The credential table (R192 to R198) and its lookups: hashing, verdicts, inserting and deleting.
-/

namespace Sys2Proof.Machine

open Sys2Proof

/-! ### Entries (Table 9-1) -/

/-- The dictionary key of slot e (R198). -/
def slotKey (e : Nat) : Nat := (0x6000 + e / 2) * 256 + 1 + e % 2

/-- The 128 bits of slot e. -/
def State.slotBits (s : State) (e : Nat) : Nat := leNat (s.oct (slotKey e))

/-- A lookup or a change that touches slots ends a self-test slice on an array that holds one (Table 18-1, group 3); the 16
arrays take the slots in order, 1,024 each (PRESUMED, log 228). -/
def State.tableTouch (s : State) (es : List Nat) : State := s.sliceYield 3 fun u => es.any fun e => decide (e / 1024 = u)

def State.setSlot (s : State) (e bits : Nat) : State := (s.tableTouch [e]).setO (slotKey e) (leBytes 16 bits)

def entryKeytype (x : Nat) : Nat := x / 2 ^ 44 % 16
def entryClass (x : Nat) : Nat := x / 2 ^ 40 % 16
def entryKey (x : Nat) : Nat := x / 2 ^ 48

/-- The KEY field of up to ten identifier bytes, the first placed at KEY[79:72] (R192). -/
def keyOf (b : List Byte) : Nat := (slice b 0 10).foldl (fun acc x => acc * 256 + x.toNat) 0

/-- The ten key bytes of a KEY field. -/
def keyBytesOf (k : Nat) : List Byte := (leBytes 10 k).reverse

/-- KEYTYPE of an identifier record (Table 9-1, Table 6-6). -/
def recordKeytype (r : List Byte) : Nat :=
  match (r.getD 0 0).toNat with
  | 0 => match (r.getD 1 0).toNat with
    | 4 => 1
    | 7 => 2
    | _ => 3
  | 1 => 4
  | 2 => 5
  | _ => 6

/-! ### Hashing (R193) -/

/-- One bit of CRC-32 (ISO/IEC 13239, least significant bit first). -/
def crc32Bit (c : BitVec 32) : BitVec 32 := if c.getLsbD 0 then (c >>> 1) ^^^ 0xEDB88320 else c >>> 1

/-- CRC-32, preset and final inversion 0xFFFFFFFF. -/
def crc32 (b : List Byte) : BitVec 32 :=
  ~~~ (b.foldl (fun c x => (List.range 8).foldl (fun c _ => crc32Bit c) (c ^^^ x.setWidth 32)) 0xFFFFFFFF)

/-- The candidate buckets of a key (R193). -/
def buckets (keytype key : Nat) : Nat × Nat :=
  let h := (crc32 (BitVec.ofNat 8 keytype :: keyBytesOf key)).toNat
  let h1 := h % 4096
  let h2 := h / 4096 % 4096
  (h1, if h2 = h1 then h2 ^^^ 1 else h2)

/-- The four slots of a bucket. -/
def bucketSlots (b : Nat) : List Nat := [4 * b, 4 * b + 1, 4 * b + 2, 4 * b + 3]

/-- The eight candidate slots of a key. -/
def candidates (keytype key : Nat) : List Nat := bucketSlots (buckets keytype key).1 ++ bucketSlots (buckets keytype key).2

/-- The slot that holds a key. -/
def State.findKey (s : State) (keytype key : Nat) : Option Nat :=
  (candidates keytype key).find? fun e => let x := s.slotBits e; entryKeytype x = keytype && entryKey x = key

/-! ### Lookups (R194) -/

/-- The verdict of a key for a zone, or with the zone test skipped (Table 9-2). -/
def State.verdictOf (s : State) (keytype key : Nat) (zone : Option Nat) : Verdict :=
  match s.findKey keytype key with
  | none => {}
  | some e =>
    let x := s.slotBits e
    let inZone := match zone with
      | none => true
      | some z => (x / 2 ^ 24).testBit z
    { code := if x.testBit 7 then 2 else if inZone then 1 else 3, slot := e, bits := BitVec.ofNat 48 x }

/-- A lookup is served: counted, and counted as a hit on MATCH. -/
def State.countLookup (s : State) (v : Verdict) : State :=
  let s := s.bump 0x2800_02
  if v.code = 1 then s.bump 0x2800_03 else s

/-- The next waiting lookup: those of the HF engine before those of the rules class, the engine's lanes in turn (R13, Table 1-6). -/
def State.nextLookup (s : State) : Option Lookup :=
  match (List.range 4).findSome? fun i => s.lookups.find? fun x => x.lane = some ((s.lookTurn + i) % 4) with
  | some x => some x
  | none => s.lookups.head?

/-- The triggers of a verdict (Table 9-3): TAG_SEEN for a new presentation, TAG_FOUND for every identifier handed, TAG_LEFT
for one that left. -/
def State.tagTriggers (s : State) (x : Lookup) (v : Verdict) : State :=
  let t (kind : Nat) : Trigger := { kind := kind, arg := 0, order := (x.record.getD 12 0).toNat, level := 0, stamp := s.tb64
                                    zone := some (x.record.getD 13 0).toNat, ident := x.record, verdict := v }
  match x.lane with
  | none => s.trigger (t 3)
  | some _ => (if x.fresh then s.trigger (t 1) else s).trigger (t 2)

/-- A lookup completes with its verdict (R194): the lane that waited goes on, events 44 or 45 mark it, and its triggers go to
the rule sequencer. -/
def State.verdictReady (s : State) (x : Lookup) : State :=
  let v := s.verdictOf (recordKeytype x.record) (keyOf ((x.record.drop 2).take 10)) (some (x.record.getD 13 0).toNat)
  let s := ({ s with lookups := s.lookups.erase x } : State).countLookup v
  let s := s.tableTouch (candidates (recordKeytype x.record) (keyOf ((x.record.drop 2).take 10)))
  let s := match x.lane with
    | some l => (({ s with lookTurn := (l + 1) % 4 } : State).updSeq l fun q => { q with waits := q.waits.erase x.stamp }).raise (if v.code = 1 then 44 else 45)
    | none => s
  s.tagTriggers x v

/-- The waiting lookups are served, before a change of the table and before a lookup of the dictionary (R196, Table 1-6; log
227). -/
def State.lookupsFirst (s : State) : State :=
  s.asHardware fun s => s.lookups.foldl (fun (t : State) _ => match t.nextLookup with
    | some x => t.verdictReady x
    | none => t) s

def execVerdictReady (s : State) : Out :=
  match s.nextLookup with
  | some x => done s (s.verdictReady x)
  | none => done s s

/-! ### Inserting and deleting (R195) -/

/-- The slot is empty: its KEYTYPE is 0 (R192). -/
def State.slotFree (s : State) (e : Nat) : Bool := entryKeytype (s.slotBits e) = 0

/-- The other candidate bucket of the entry in slot e. -/
def State.otherBucket (s : State) (e : Nat) : Nat :=
  let x := s.slotBits e
  let b := buckets (entryKeytype x) (entryKey x)
  if e / 4 = b.1 then b.2 else b.1

/-- Search breadth-first for a chain of entries that can each move on, within n moves: the free slot at its end, then the
chain, deepest entry first. -/
def State.findChain (s : State) : Nat → List (List Nat) → Option (List Nat)
  | 0, _ => none
  | n + 1, paths =>
    match paths.findSome? fun path => ((bucketSlots (s.otherBucket (path.headD 0))).find? s.slotFree).map fun f => f :: path with
    | some chain => some chain
    | none => s.findChain n (paths.flatMap fun path =>
        ((bucketSlots (s.otherBucket (path.headD 0))).filter fun e => !path.contains e).map fun e => e :: path)

/-- Make the moves of a chain, deepest first: each writes the entry to its new slot and then clears the old one. Returns the
slot set free. -/
def State.moveChain (s : State) : List Nat → State × Nat
  | f :: e :: rest => (((s.setSlot f (s.slotBits e)).setSlot e 0).bump 0x2811_02).moveChain (e :: rest)
  | [f] => (s, f)
  | [] => (s, 0x3FFF)

/-- Place an entry that is not in the table: the slot it took, or none where the table is full for it. -/
def State.placeEntry (s : State) (x : Nat) : State × Option Nat :=
  let b := buckets (entryKeytype x) (entryKey x)
  match (bucketSlots b.1 ++ bucketSlots b.2).find? s.slotFree with
  | some e => (s.setSlot e x, some e)
  | none =>
    match s.findChain 4 ((bucketSlots b.1 ++ bucketSlots b.2).map fun e => [e]) with
    | some chain => let (s, e) := s.moveChain chain; (s.setSlot e x, some e)
    | none => (s, none)

/-- The operator may touch only entries of CLASS 0 to 7 (R197). -/
def classAllowed (r : Role) (x : Nat) : Bool := r ≠ .operator || decide (entryClass x < 8)

/-- A command of OD 2810 ends: STATUS, SLOT, and CMD reads 2. -/
def State.tableEnd (s : State) (status slot : Nat) : State :=
  ((s.setN 0x2810_05 status).setN 0x2810_06 slot).setN 0x2810_01 2

/-- KEYTYPE and KEY of OD 2810. -/
def State.tableKey (s : State) : Nat × Nat := (s.nat 0x2810_02, keyOf (s.oct 0x2810_03))

/-- CMD 1: insert or rewrite (R195, R197). The flag says whether the table changed. -/
def State.tableInsert (s : State) (r : Role) : State × Bool :=
  let (kt, key) := s.tableKey
  let x := key * 2 ^ 48 + kt * 2 ^ 44 + s.nat 0x2810_04 % 2 ^ 44
  match s.findKey kt key with
  | some e =>
    if classAllowed r (s.slotBits e) && classAllowed r x then ((s.setSlot e x).tableEnd 0 e |>.raise 46, true)
    else (s.tableEnd 3 0x3FFF, false)
  | none =>
    if !classAllowed r x then (s.tableEnd 3 0x3FFF, false)
    else match s.placeEntry x with
      | (t, some e) => ((t.tableEnd 0 e).raise 46, true)
      | (t, none) => (((t.tableEnd 4 0x3FFF).bump 0x2811_01).raise 47, false)

/-- CMD 2: delete (R195, R197). -/
def State.tableDelete (s : State) (r : Role) : State × Bool :=
  let (kt, key) := s.tableKey
  match s.findKey kt key with
  | some e =>
    if classAllowed r (s.slotBits e) then (((s.setSlot e 0).tableEnd 0 e).raise 46, true)
    else (s.tableEnd 3 0x3FFF, false)
  | none => (s.tableEnd 5 0x3FFF, false)

/-- CMD 3: look up without a zone (R194). -/
def State.tableLookup (s : State) : State :=
  let (kt, key) := s.tableKey
  let v := s.verdictOf kt key none
  (((s.countLookup v).tableTouch (candidates kt key)).tableEnd (if v.code = 0 then 2 else 0) v.slot).setN 0x2810_07 v.code

/-- The slots in use. -/
def State.usedSlots (s : State) : List Nat :=
  (s.od.filter fun kv => decide (0x6000_00 ≤ kv.1) && decide (kv.1 < 0x8000_00)).filterMap fun kv =>
    if entryKeytype (leNat kv.2.octets) = 0 then none else some (2 * (kv.1 / 256 - 0x6000) + (kv.1 % 256 - 1))

/-- CMD 4: clear all, installer and maker only (Table 9-9). -/
def State.tableClear (s : State) (r : Role) : State × Bool :=
  if r = .operator then (s.tableEnd 3 0x3FFF, false)
  else ((((s.usedSlots.foldl (fun t e => t.setSlot e 0) s).tableEnd 0 0x3FFF).raise 46), true)

/-- A window write of slot e is accepted: it sets KEYTYPE 0, or e is a candidate slot of the key and no other slot holds it
(R198). KEYTYPE 8 to 15 is refused (Table 9-1). -/
def State.windowFits (s : State) (e x : Nat) : Bool :=
  let kt := entryKeytype x
  kt = 0 || (decide (kt < 8) && (candidates kt (entryKey x)).contains e &&
    (match s.findKey kt (entryKey x) with
      | some o => o = e
      | none => true))

end Sys2Proof.Machine
end

