-- ==== Sys2Proof/Machine/Tag0.lean ====
section
/-!
DEFINITION. What other chapters ask of the commissioning tag: whether the tag is at a yield
point, and the assignment of port 0 (R187 to R189).
-/

namespace Sys2Proof.Machine

open Sys2Proof

/-- The end of the last group. -/
def Tag.groupTo (t : Tag) : Nat := t.groups.foldl (fun m g => max m g.to_) 0

/-- The end of the last group of the field. -/
def Tag.fieldTo (t : Tag) : Nat := t.groups.foldl (fun m g => if g.field then max m g.to_ else m) 0

/-- The last group of the field. -/
def Tag.lastField (t : Tag) : Group := ((t.groups.filter fun g => g.field).getLast?).getD default

/-- The last group written. -/
def Tag.lastGroup (t : Tag) : Group := t.groups.getLast?.getD default

/-- A group is in progress, or waits for one that is (R178). -/
def State.groupRuns (s : State) : Bool := decide (s.now < s.tag.groupTo)

/-- The tag is in a transaction: not at a yield point (R189). The table's commands are whole requests, at their end: a frame that is
still being received is not seen (log 80). -/
def State.tagBusy (s : State) : Bool := decide (s.now < s.tag.busyTo) || s.groupRuns

def State.updTag (s : State) (f : Tag → Tag) : State := { s with tag := f s.tag }

end Sys2Proof.Machine
end

