-- ==== Sys2Proof/Machine/Hf.lean ====
section
/-!
DEFINITION. The HF protocol engine's frames and times: check bytes (Table 6-5), the command of each step of a flow
(R129, R130, R139, R141, R142), frame and reply times (Tables 6-2 and 6-4) and the room between blanking windows (R125).
The contents of the standards' frames are the standards' (log 60).
-/

namespace Sys2Proof.Machine

open Sys2Proof

def hfKey (l sub : Nat) : Nat := 0x2550_00 + 0x100 * l + sub

def ExStatus.code : ExStatus → Nat
  | .ok => 0
  | .timeout => 1
  | .crc => 2
  | .parity => 3
  | .coding => 4
  | .timing => 5
  | .collision => 6
  | .suspected => 7
  | .scRange => 8
  | .overload => 9
  | .txAbort => 10
  | .noCard => 11
  | .busy => 12
  | .tooLong => 13
  | .protocol => 14
  | .refused => 15

/-! ### Check bytes (Table 6-5) -/

/-- CRC-16, polynomial 0x1021 reflected. -/
def crc16 (init : BitVec 16) (b : List Byte) : BitVec 16 :=
  b.foldl (fun c x => (List.range 8).foldl (fun c _ => if c.getLsbD 0 then (c >>> 1) ^^^ 0x8408 else c >>> 1) (c ^^^ x.setWidth 16)) init

/-- CRC-16, polynomial 0x1021, most significant bit first, preset 0. -/
def crc16F (b : List Byte) : BitVec 16 :=
  b.foldl (fun c x => (List.range 8).foldl (fun c _ => if c.getLsbD 15 then (c <<< 1) ^^^ 0x1021 else c <<< 1) (c ^^^ ((x.setWidth 16 : BitVec 16) <<< (8 : Nat)))) 0

/-- The two check bytes of a frame of a technology, in the order sent. -/
def checkBytes (tech : Nat) (b : List Byte) : List Byte :=
  match tech with
  | 0 => leBytes 2 (crc16 0x6363 b).toNat
  | 3 => (leBytes 2 (crc16F b).toNat).reverse
  | _ => leBytes 2 (~~~ crc16 0xFFFF b).toNat

/-- The reply's check bytes hold. -/
def crcHolds (tech : Nat) (b : List Byte) : Bool :=
  decide (2 < b.length) && decide (b.drop (b.length - 2) = checkBytes tech (b.take (b.length - 2)))

/-! ### Settings of the poll cycle (R145) -/

/-- OD 2500/01 to 2500/18 as in force on lane l. -/
def State.hfSet (s : State) (l sub : Nat) : Nat := (s.seq l).cfg.getD (sub - 1) (s.nat (0x2500_00 + sub))

/-- V_MODE bits: 1 out of 256, 100 % ASK, dual sub-carrier, low rate. -/
def State.vMode (s : State) (l i : Nat) : Bool := (s.hfSet l 16).testBit i

/-- The rate flags of a 15693 request. -/
def State.vFlags (s : State) (l : Nat) : Nat := boolNat (s.vMode l 2) + (if s.vMode l 3 then 0 else 2)

/-! ### Identifiers -/

/-- Bytes 0 to 11 of the record (Table 6-6). -/
def identOf (tech : Nat) (id : List Byte) : List Byte := BitVec.ofNat 8 tech :: BitVec.ofNat 8 id.length :: slice id 0 10

def Card.tech (c : Card) : Nat := (c.ident.getD 0 0).toNat

/-- The identifier's own bytes. -/
def Card.id (c : Card) : List Byte := (c.ident.drop 2).take (c.ident.getD 1 0).toNat

/-- The four bytes and the BCC of a Type A UID at a cascade level. -/
def levelBytes (uid : List Byte) (level : Nat) : List Byte :=
  let four := if uid.length = 3 * (level - 1) + 4 then uid.drop (3 * (level - 1)) else 0x88 :: (uid.drop (3 * (level - 1))).take 3
  four ++ [four.foldl (fun a b => a ^^^ b) 0]

/-- The last cascade level of a UID. -/
def lastLevel (uid : List Byte) : Nat := if uid.length ≤ 4 then 1 else if uid.length ≤ 7 then 2 else 3

/-- SEL of a cascade level. -/
def selByte (level : Nat) : Byte := BitVec.ofNat 8 (0x91 + 2 * level)

/-- Bits, first bit first, as bytes, least significant bit first. -/
def bitsToBytes (b : List Bool) : List Byte :=
  (List.range ((b.length + 7) / 8)).map fun i =>
    BitVec.ofNat 8 ((List.range 8).foldl (fun acc j => acc + if b.getD (8 * i + j) false then 2 ^ j else 0) 0)

/-- Bytes as bits, least significant bit first. -/
def bytesToBits (b : List Byte) : List Bool := b.flatMap fun x => (List.range 8).map fun j => x.getLsbD j

/-- The card that a lane holds: the selected or active one, else the first (Table 6-13). -/
def Seq.heldCard (x : Seq) : Card := (x.cards.find? fun c => c.state = 1 || c.state = 2).getD (x.cards.headD {})

/-! ### The command of each step -/

/-- FWT and its margin for FWI or WT n, times a waiting-time multiplier (Table 6-2). -/
def fwt (n mult : Nat) : ReplyTime := .upTo (4096 * 2 ^ n * mult) (16 * 2 ^ n)

/-- A frame of an active NFC-DEP target: framing A at 106 kbit/s, F above. -/
def depExch (c : Card) (wait : Nat) (pdu : List Byte) : Exch :=
  let body := BitVec.ofNat 8 (pdu.length + 1) :: pdu
  if c.dr = 0 then { tech := 0, tx := 0xF0 :: body, time := fwt c.fwi wait, longest := 8 * 258 }
  else { tech := 3, dr := c.dr - 1, ds := c.ds - 1, tx := body, time := fwt c.fwi wait, longest := 8 * 258 }

/-- A block of an ISO/IEC 14443-4 card. -/
def blockExch (c : Card) (wait : Nat) (b : List Byte) : Exch :=
  { tech := c.tech, dr := c.dr, ds := c.ds, tx := b, time := fwt c.fwi wait, longest := 8 * 258 }

/-- The greatest part of the payload that one block carries: FSC less PCB and CRC, or a DEP PDU's data. -/
def Card.chunk (c : Card) : Nat := if c.dep then 240 else c.fsc - 3

/-- The raw host frame is a 15693 write or lock with option flag 0 (Table 6-2). -/
def writeLike (b : List Byte) : Bool :=
  !(b.getD 0 0).getLsbD 6 &&
    [0x21, 0x22, 0x24, 0x27, 0x28, 0x29, 0x2A, 0x31, 0x32, 0x34].contains (b.getD 1 0).toNat

/-- A 14443 or 18092 host frame waits FWT; a 15693 one by its command. For a write-like command with option flag 1 Table 6-2 has no
row; the model takes the one of the other commands (DESIGN CHOICE, log 250). -/
def rawTime (c : Card) (b : List Byte) : ReplyTime := if c.tech = 2 then (if writeLike b then .writeV else .fixedV) else fwt c.fwi 1

/-- Type A anticollision with the known bits (R129). -/
def anticExch (level : Nat) (known : List Bool) : Exch :=
  let k := known.length
  { tech := 0, crc := false, antic := true, longest := 40 - k
    bits := 16 + k
    tx := [selByte level, BitVec.ofNat 8 (16 * (2 + k / 8) + k % 8)] ++ bitsToBytes known }

/-- 15693 Inventory with a mask (R129). -/
def State.inventoryExch (s : State) (l : Nat) (mask : List Bool) : Exch :=
  let afi := s.hfSet l 15
  let flags := s.vFlags l + 4 + (if afi ≠ 0 then 16 else 0) + (if s.hfSet l 17 = 0 then 32 else 0)
  { tech := 2, time := .fixedV, antic := true, longest := 96
    tx := [BitVec.ofNat 8 flags, 0x01] ++ (if afi ≠ 0 then [BitVec.ofNat 8 afi] else []) ++ [BitVec.ofNat 8 mask.length] ++ bitsToBytes mask }

/-- An addressed 15693 request to the card in work. -/
def State.addressedV (s : State) (l : Nat) (cmd : Byte) (long : Nat) : Exch :=
  { tech := 2, time := .fixedV, longest := long
    tx := [BitVec.ofNat 8 (s.vFlags l + 32), cmd] ++ (s.seq l).cur.id }

/-- Polling for ISO/IEC 18092 at 212 and 424 kbit/s (R129). -/
def State.pollingExch (s : State) (l sys tsn : Nat) : Exch :=
  { tech := 3, dr := s.hfSet l 18, ds := s.hfSet l 18, time := .slotsF tsn, antic := true, longest := 8 * 22
    tx := [0x06, 0x00, BitVec.ofNat 8 (sys / 256), BitVec.ofNat 8 sys, 0x01, BitVec.ofNat 8 tsn] }

/-- The rate of an activation: the highest that the card's mask of rates and the module's limit allow. -/
def bestRate (mask limit : Nat) : Nat :=
  if mask.testBit 2 && decide (3 ≤ limit) then 3 else if mask.testBit 1 && decide (2 ≤ limit) then 2
  else if mask.testBit 0 && decide (1 ≤ limit) then 1 else 0

/-- The WT by which ATR_REQ itself is timed: Table 6-2 takes WT from ATR_RES and says nothing of the wait for it; the model takes 8
(DESIGN CHOICE, log 219). -/
def atrWt : Nat := 8

/-- A raw host frame: framed for the card's rate, by Type A at 106 kbit/s and by F above where the card runs NFC-DEP, and as its
technology does otherwise (R124, R142). -/
def rawExch (c : Card) (crc : Bool) (tx : List Byte) : Exch :=
  let f := decide (c.tech = 3) || (c.dep && decide (c.dr ≠ 0))
  { tech := if f then 3 else c.tech, dr := if f then c.dr - 1 else c.dr, ds := if f then c.ds - 1 else c.ds, crc := crc, tx := tx
    time := rawTime c tx, longest := 8 * 258 }

/-- The exchange that lane l's step calls for. -/
def State.exchOf (s : State) (l : Nat) : Exch :=
  let x := s.seq l
  let c := x.cur
  let hlta : Exch := { tech := 0, time := .hltA, longest := 4, tx := [0x50, 0x00] }
  let hltb : Exch := { tech := 1, time := fwt c.fwi 1, longest := 24, tx := 0x50 :: c.id }
  let select (level : Nat) (b : List Byte) (antic : Bool) : Exch := { tech := 0, antic := antic, longest := 24, tx := [selByte level, 0x70] ++ b }
  match x.step with
  | .free => {}
  | .aPoll => { tech := 0, tx := [0x26], bits := 7, crc := false, antic := true, longest := 16 }
  | .wake => { tech := 0, tx := [0x52], bits := 7, crc := false, antic := true, longest := 16 }
  | .aAntic => anticExch x.level x.known
  | .aSelect => select x.level (bitsToBytes x.known) true
  | .wakeSelect => select x.level (levelBytes c.id x.level) false
  | .aHalt | .wakeHalt => hlta
  | .aRats => { tech := 0, time := .rats, longest := 8 * 22, tx := [0xE0, BitVec.ofNat 8 (16 * s.hfSet l 22)] }
  | .aPps => { tech := 0, time := fwt c.fwi 1, longest := 24, tx := [0xD0, 0x11, BitVec.ofNat 8 (4 * c.ds + c.dr)] }
  | .dAtr =>
    let pdu := [0xD4, 0x00] ++ slice c.id 0 10 ++ [0x00, 0x00, 0x00, 0x30]
    let body := BitVec.ofNat 8 (pdu.length + 1) :: pdu
    if c.tech = 3 then { tech := 3, dr := c.dr - 1, ds := c.ds - 1, tx := body, time := fwt atrWt 1, longest := 8 * 66 }
    else { tech := 0, tx := 0xF0 :: body, time := fwt atrWt 1, longest := 8 * 66 }
  | .dPsl =>
    let r := if c.tech = 3 then 1 + s.hfSet l 18 else 0
    depExch { c with dr := r, ds := r } 1 [0xD4, 0x04, 0x00, BitVec.ofNat 8 (8 * c.ds + c.dr), 0x03]
  | .bPoll => { tech := 1, time := .slotB, antic := true, longest := 8 * 14, tx := [0x05, BitVec.ofNat 8 (s.hfSet l 15), BitVec.ofNat 8 (Nat.log2 x.n)] }
  | .wakeB => { tech := 1, time := .slotB, antic := true, longest := 8 * 14, tx := [0x05, BitVec.ofNat 8 (s.hfSet l 15), 0x08] }
  | .bMark => { tech := 1, time := .slotB, antic := true, longest := 8 * 14, tx := [BitVec.ofNat 8 (16 * (x.slot - 1) + 5)] }
  | .bHalt | .wakeHaltB => hltb
  | .bAttrib =>
    { tech := 1, time := fwt c.fwi 1, longest := 24
      tx := [0x1D] ++ c.id ++ [0x00, BitVec.ofNat 8 (64 * c.ds + 16 * c.dr + s.hfSet l 22), 0x01, 0x00] }
  | .vInv => s.inventoryExch l (x.masks.headD [])
  | .vEof => { tech := 2, time := .fixedV, antic := true, longest := 96, crc := false }
  | .vQuiet | .quietV => { s.addressedV l 0x02 24 with antic := true }
  | .resetV => s.addressedV l 0x26 24
  | .fPoll => s.pollingExch l (s.hfSet l 19) x.tsn
  | .pollF => s.pollingExch l c.info 0
  | .nak | .resend =>
    if c.dep then depExch c x.hostWait [0xD4, 0x06, BitVec.ofNat 8 (0x50 + c.bn)] else blockExch c x.hostWait [BitVec.ofNat 8 (0xB2 + c.bn)]
  | .atn => depExch c 1 [0xD4, 0x06, 0x80]
  | .raw => rawExch c (decide ((x.hostJob.getD (0, 0)).1 = 0)) x.hostTx
  | .block =>
    let part := x.hostTx.take c.chunk
    let chain := if part.length < x.hostTx.length then 0x10 else 0
    if c.dep then depExch c x.hostWait ([0xD4, 0x06, BitVec.ofNat 8 (chain + c.bn)] ++ part)
    else blockExch c x.hostWait (BitVec.ofNat 8 (0x02 + chain + c.bn) :: part)
  | .more =>
    if c.dep then depExch c x.hostWait [0xD4, 0x06, BitVec.ofNat 8 (0x40 + c.bn)] else blockExch c x.hostWait [BitVec.ofNat 8 (0xA2 + c.bn)]
  | .wtx =>
    if c.dep then depExch c x.hostWait [0xD4, 0x06, 0x90, BitVec.ofNat 8 x.hostWait] else blockExch c x.hostWait [0xF2, BitVec.ofNat 8 x.hostWait]
  | .release =>
    if c.dep then depExch c 1 [0xD4, 0x0A]
    else if c.state = 2 then blockExch c 1 [0xC2]
    else match c.tech with
      | 0 => hlta
      | 1 => hltb
      | _ => s.addressedV l 0x02 24

/-! ### Durations in carrier cycles (Table 6-4, log 61) -/

/-- The frame as sent, check bytes included. -/
def Exch.frame (e : Exch) : List Byte := if e.crc then e.tx ++ checkBytes e.tech e.tx else e.tx

/-- The duration of the command frame. -/
def Exch.cycles (e : Exch) (v256 : Bool) : Nat :=
  let n := e.frame.length
  match e.tech with
  | 0 => (if e.bits ≠ 0 then e.bits + e.bits / 8 + 2 else 9 * n + 2) * 128 / 2 ^ e.dr
  | 1 => (10 * n + 23) * 128 / 2 ^ e.dr
  | 2 => if n = 0 then 512 else n * (if v256 then 65536 else 4096) + 1536
  | _ => (n + 8) * 8 * 64 / 2 ^ e.dr

/-- The duration of a reply of so many data bits. -/
def Exch.replyCycles (e : Exch) (vLow : Bool) (bits : Nat) : Nat :=
  match e.tech with
  | 0 => (bits + (bits + 7) / 8 + 2) * 128 / 2 ^ e.ds
  | 1 => (10 * ((bits + 7) / 8) + 34) * 128 / 2 ^ e.ds
  | 2 => if vLow then bits * 2048 + 6144 else bits * 512 + 1536
  | _ => (bits + 64) * 64 / 2 ^ e.ds

/-- The last bit sent, parity included (Table 6-2). -/
def Exch.lastBit (e : Exch) : Bool :=
  let b := e.frame.getLastD 0
  let odd (x : Byte) : Bool := ((List.range 8).filter fun i => x.getLsbD i).length % 2 = 0
  if e.bits % 8 ≠ 0 then b.getLsbD (e.bits % 8 - 1) else odd b

/-- Earliest and latest accepted start and the no-reply decision, in cycles from the command's end (Table 6-2). -/
def Exch.window (e : Exch) (vLow : Bool) : Nat × Nat × Nat :=
  match e.time with
  | .fixedA => let f := if e.lastBit then 1236 else 1172; (f - 32, f + 64, f + 64)
  | .hltA => (0, 13560, 13560)
  | .rats => (1172, 65536, 65792)
  | .upTo w x => (1172, w, w + x)
  | .slotB => (1024, 7680, 7712)
  | .fixedV => (4256, 4416, 4416 + if vLow then 3072 else 768)
  | .writeV => (4256, 271200, 271200)
  | .slotsF n => (32768, 32768 + 16384 * (n + 1), 32768 + 16384 * (n + 1))

/-- The reply comes at a fixed time, so its span runs to the end of the longest reply; else it is a reply of EXPECT_BYTES. -/
def ReplyTime.fixed : ReplyTime → Bool
  | .fixedA | .slotB | .fixedV | .slotsF _ => true
  | _ => false

/-- The receive span of a command: its opening after the command's end and its length, in cycles. A command that expects no
reply has none (log 62). The longest reply of a 15693 host frame, whose time is fixed, is taken as 256 bytes and the check bytes: no
rule bounds it (DESIGN CHOICE, log 251). -/
def State.rxSpan (s : State) (l : Nat) (e : Exch) : Nat × Nat :=
  let low := s.vMode l 3
  let w := e.window low
  match e.time with
  | .hltA => (0, 0)
  | t => (w.1, if t.fixed then w.2.1 - w.1 + e.replyCycles low e.longest else e.replyCycles low (8 * s.hfSet l 10))

/-- Carrier cycles of one bit of the reply (Table 5-5). -/
def Exch.bitCycles (e : Exch) (vLow : Bool) : Nat :=
  match e.tech with
  | 2 => if vLow then 2048 else 512
  | 3 => 64 / 2 ^ e.ds
  | _ => 128 / 2 ^ e.ds

/-- Quanta of carrier cycles: one cycle is two crystal cycles (Table 1-3). -/
def quantaCarrier : Nat := 2560

/-- The longest command frame of a mode (Table 6-4). -/
def Exch.tooLong (e : Exch) : Bool := if e.tech = 2 then decide (64 < e.frame.length) else decide (256 < e.frame.length)

/-- The mode of OD 22p4 that shapes the frame: its subindex. -/
def State.firMode (s : State) (l : Nat) (e : Exch) : Nat :=
  match e.tech with
  | 0 => 1 + e.dr
  | 1 => 5 + e.dr
  | 2 => if s.vMode l 1 then 9 else 10
  | _ => 11 + e.dr

/-- The frame uses 100 % ASK (Table 3-3). -/
def State.ask100 (s : State) (l : Nat) (e : Exch) : Bool := decide (e.tech = 0) || (decide (e.tech = 2) && s.vMode l 1)

/-- The bit rate of the reply, the noise bandwidth of the mode (R84, R114; log 63). -/
def State.bandwidth (s : State) (l : Nat) (e : Exch) : Nat :=
  match e.tech with
  | 2 => if s.vMode l 3 then 6620 else 26480
  | 3 => 211880 * 2 ^ e.ds
  | _ => 105940 * 2 ^ e.ds

/-! ### Blanking ahead (R125, R27) -/

/-- Blanking windows of the present cycle and the n that follow, as (from, to) in accumulator units times 1280 from the present
0x0000: those in force, then what the slots hold. -/
def State.blankOver (s : State) (n : Nat) : List (Nat × Nat) :=
  let span (k : Nat) (w : Span) : List (Nat × Nat) :=
    if w.len = 0 then [] else
      [((k * 65536 + w.start) * maCycle * 1280 / 65536, (k * 65536 + w.start + w.len) * maCycle * 1280 / 65536)]
  let carried := s.ma.carry.flatMap fun c => span 0 { start := 0, len := c }
  carried ++ (s.ma.blank.flatMap fun w => span 0 w) ++
    (List.range n).flatMap fun k => ((List.range 8).map s.blankSlot).flatMap fun w => span (k + 1) w

/-- The windows of the present cycle and the four that follow. -/
def State.blankAhead (s : State) : List (Nat × Nat) := s.blankOver 4

/-- The angle, in the same units, dt quanta from now at the present rate. -/
def State.angleAt (s : State) (dt : Nat) : Nat := s.ma.acc * 1280 + s.ma.rate * dt

/-- Quanta from now until the angle reaches x. -/
def State.untilAngle (s : State) (x : Nat) : Nat := (x - s.ma.acc * 1280 + s.ma.rate - 1) / s.ma.rate

/-- The span from dt for len quanta meets this window. -/
def State.spanMeets (s : State) (dt len : Nat) (w : Nat × Nat) : Bool :=
  decide (s.angleAt dt < w.2) && decide (w.1 < s.angleAt (dt + len))

/-- The windows that a span which ends dt quanta from now can meet. -/
def State.blankUntil (s : State) (dt : Nat) : List (Nat × Nat) := s.blankOver (s.angleAt dt / (maCycle * 1280) + 1)

/-- The least delay, in whole carrier cycles, that puts the opening of a span at or after the end of every window it meets. -/
def State.clearDelay (s : State) (dt len : Nat) : Nat → Nat → Nat
  | 0, d => d
  | n + 1, d =>
    match (s.blankUntil (dt + d + len)).find? (s.spanMeets (dt + d) len) with
    | none => d
    | some w => s.clearDelay dt len n (d + ((s.untilAngle w.2 - (dt + d)) + quantaCarrier - 1) / quantaCarrier * quantaCarrier)

end Sys2Proof.Machine
end

