-- ==== Sys2Proof/Machine/Moss.lean ====
section
/-!
DEFINITION. The Moss pool (chapter 11): cells, buntings and queues; the hardware's pushes and pops; the host's port.
-/

namespace Sys2Proof.Machine

open Sys2Proof

def qKey (q sub : Nat) : Nat := 0x2910_00 + 0x100 * q + sub

def State.queue (s : State) (q : Nat) : Queue := s.pool.queues.getD q {}

def State.updQueue (s : State) (q : Nat) (f : Queue → Queue) : State :=
  { s with pool := { s.pool with queues := s.pool.queues.modify q f } }

def State.updPool (s : State) (f : Pool → Pool) : State := { s with pool := f s.pool }

/-! ### Cells (R225, R226, R234) -/

/-- Cells of n bytes. -/
def cellsFor (n : Nat) : Nat := (n + 127) / 128

/-- Cells of the current bunting still held: each is freed as the reader passes its last byte, with the first word behind it
(R226). -/
def Queue.currentCells (q : Queue) : Nat :=
  match q.current with
  | some b => cellsFor b.data.length - (4 * (q.words - 2) - 1) / 128
  | none => 0

/-- CELLS_q. -/
def Queue.cells (q : Queue) : Nat :=
  q.opens.foldl (fun n x => n + cellsFor x.2.length) 0 + q.items.foldl (fun n b => n + cellsFor b.data.length) 0 + q.currentCells

/-- The (number, cells) of what a queue holds committed. -/
def Queue.keyed (q : Queue) : List (Nat × Nat) :=
  q.items.map (fun b => (b.key, cellsFor b.data.length)) ++ (match q.current with
    | some b => [(b.key, q.currentCells)]
    | none => [])

/-- Cells that queues 5 and 6 share by a twin push (R227). -/
def State.twinCells (s : State) : Nat :=
  let six := (s.queue 6).keyed
  (s.queue 5).keyed.foldl (fun n x => n + min x.2 ((six.find? fun y => y.1 = x.1).map (·.2) |>.getD 0)) 0

/-- FREE. -/
def State.poolFree (s : State) : Nat :=
  8192 + s.twinCells - s.pool.queues.foldl (fun n q => n + q.cells) 0 - s.pool.leaked

/-- U, the unused reservation. -/
def State.unusedReserve (s : State) : Nat := (List.range 32).foldl (fun n q => n + (s.nat (qKey q 6) - (s.queue q).cells)) 0

/-- One more cell may go to queue q (R234). -/
def State.mayAllocate (s : State) (q : Nat) : Bool :=
  let c := (s.queue q).cells
  decide (c < s.nat (qKey q 6)) || (decide (c < s.nat (qKey q 7)) && decide (s.unusedReserve < s.poolFree))

/-- FREE has changed: the lowest values, and event 57 with its hysteresis (R234). -/
def State.poolLevel (s : State) : State :=
  let f := s.poolFree
  let low := s.nat 0x2900_03
  let s := (s.updPool fun p => { p with freeMin := min p.freeMin f }).setN 0x2900_02 (min f (s.nat 0x2900_02))
  if f < low && !s.pool.lowGiven then (s.updPool fun p => { p with lowGiven := true }).raise 57
  else if low + 64 < f then s.updPool fun p => { p with lowGiven := false }
  else s

/-- A cell was allocated or released: a slice of the pool audit yields (Table 18-1, group 10), and FREE has changed. -/
def State.poolMoved (s : State) : State := (s.sliceYield 10 fun _ => true).poolLevel

/-- The bytes of a producer's open bunting on queue q. -/
def State.openBytes (s : State) (q who : Nat) : Option (List Byte) := ((s.queue q).opens.find? fun x => x.1 = who).map (·.2)

/-- Release a producer's open bunting. -/
def State.releaseOpen (s : State) (q who : Nat) : State :=
  (s.updQueue q fun x => { x with opens := x.opens.filter fun y => y.1 ≠ who }).poolMoved

/-- Statuses of a push (Table 11-3). -/
inductive PushStatus where
  | ok | full | noCell | tooLong | denied | noPacket
deriving DecidableEq, Repr

def PushStatus.code : PushStatus → Nat
  | .ok => 0
  | .full => 1
  | .noCell => 2
  | .tooLong => 3
  | .denied => 4
  | .noPacket => 5

/-- An allocation for queue q was refused (R234). -/
def State.cellRefused (s : State) (q : Nat) : State := ((s.bump 0x2900_04).bump (qKey q 17)).raise 58

/-- Append bytes, a cell at a time, to a producer's open bunting, opening one if there is none. -/
def State.openWrite (s : State) (q who : Nat) : List (List Byte) → State × PushStatus
  | [] => (s, .ok)
  | chunk :: rest =>
    let old := (s.openBytes q who).getD []
    let n := cellsFor (old.length + chunk.length)
    if n ≤ cellsFor old.length || s.mayAllocate q then
      if s.nat (qKey q 8) < n then (s.releaseOpen q who, .tooLong)
      else
        let s := s.updQueue q fun x => { x with opens := (who, old ++ chunk) :: x.opens.filter fun y => y.1 ≠ who }
        let s := if n ≤ cellsFor old.length then s else s.poolMoved
        s.openWrite q who rest
    else if s.nat (qKey q 8) < n then (s.releaseOpen q who, .tooLong)
    else ((s.releaseOpen q who).cellRefused q, .noCell)

/-- A packet cut at cell boundaries. -/
def cellChunks (b : List Byte) : List (List Byte) := (List.range (cellsFor b.length)).map fun i => (b.drop (128 * i)).take 128

/-! ### Depth, watermarks and events (R231 to R233) -/

/-- An event of queue q, where its EVENT_MASK lets it (R238). -/
def State.queueEvent (s : State) (q bit e : Nat) : State := if s.bit (qKey q 10) bit then s.raise e else s

/-- The depth as the clock's operations leave it, from `before`: ABOVE, the crossings, event 52, the peak (R232). -/
def State.queueSettle (s : State) (q before : Nat) : State :=
  let d := (s.queue q).items.length
  let up := decide (s.nat (qKey q 4) ≤ d)
  let down := decide (d ≤ s.nat (qKey q 5))
  let was := (s.queue q).above
  let s := if s.nat (qKey q 16) < d then s.setN (qKey q 16) d else s
  let s := if before = 0 && decide (0 < d) then s.queueEvent q 0 52 else s
  if !was && up then (s.updQueue q fun x => { x with above := true, high := true }).queueEvent q 1 53
  else if was && !up && down then (s.updQueue q fun x => { x with above := false, low := true }).queueEvent q 2 54
  else s

/-- A refused push: FULL (R233). -/
def State.pushFull (s : State) (q : Nat) : State :=
  ((s.updQueue q fun x => { x with overflow := true }).bump (qKey q 13)).queueEvent q 3 55

/-- A bunting joins the tail. -/
def State.append (s : State) (q : Nat) (b : Bunting) : State :=
  (s.updQueue q fun x => { x with items := x.items ++ [b] }).bump (qKey q 11)

/-- A free number for a bunting. -/
def State.nextKey (s : State) : State := s.updPool fun p => { p with key := p.key + 1 }

/-- Commit a producer's open bunting (R226, R233), without the watermarks. -/
def State.commitOpen (s : State) (q who : Nat) : State × PushStatus :=
  match s.openBytes q who with
  | none => (s, .noPacket)
  | some b =>
    let s := s.updQueue q fun x => { x with opens := x.opens.filter fun y => y.1 ≠ who }
    if s.nat (qKey q 3) ≤ (s.queue q).items.length then ((s.pushFull q).poolMoved, .full)
    else ((s.append q { data := b, producer := who, stamp := s.tb64, key := s.pool.key }).nextKey, .ok)

/-- Mark the bunting of this number on queue q as one of a twin push. -/
def State.markTwin (s : State) (q key : Nat) : State :=
  s.updQueue q fun x => { x with items := x.items.map fun b => if b.key = key then { b with twin := true } else b }

/-- Take the head bunting; its cells go at once (the hardware reads it whole; log 110). -/
def State.takeHead (s : State) (q : Nat) : State × Option Bunting :=
  match (s.queue q).items with
  | [] => (s, none)
  | b :: rest => (((s.updQueue q fun x => { x with items := rest }).bump (qKey q 12)).poolMoved, some b)

/-- A bunting delivered CORRUPT is counted (R235). -/
def State.corruptPop (s : State) (b : Bunting) : State := if b.corrupt then (s.bump 0x2900_06).raise 59 else s

/-- An underflow (R231). -/
def State.underflow (s : State) (q : Nat) : State :=
  ((s.updQueue q fun x => { x with underflow := true }).bump (qKey q 14)).queueEvent q 4 56

/-! ### Parties (R228) -/

/-- The UART bridge is in force. -/
def State.bridged (s : State) : Bool := s.nat 0x1001_01 = 1

/-- Table 11-1: who may push. -/
def State.mayPush (s : State) (q who : Nat) : Bool :=
  if q = 0 then who = 0 || (who = 1 && s.bridged)
  else if 16 ≤ q then who = 0
  else (([5, 6, 5, 1, 5, 5, 3, 4, 2, 7, 1] : List Nat)[q - 1]?) = some who

/-- Table 11-1: who may pop. -/
def State.mayPop (s : State) (q who : Nat) : Bool :=
  if q = 1 then (if s.bridged then who = 1 else who = 0)
  else if 16 ≤ q then who = 0
  else (([5, 0, 5, 1, 5, 3, 4, 5, 5, 0, 1, 7] : List Nat)[q]?) = some who

/-- A refused party is counted. -/
def State.poolDenied (s : State) : State := s.bump 0x2900_08

/-! ### Pushes and pops of the hardware -/

def State.popStatus (s : State) (n : Nat) : State := s.updPool fun p => { p with popStat := n }

/-- HDR0 of a bunting (Table 11-4). -/
def hdr0 (b : Bunting) : Nat := cellsFor b.data.length * 2 ^ 24 + b.producer * 2 ^ 16 + b.data.length % 8192

/-- What a hardware consumer takes from a bunting: one that is CORRUPT it discards (R235). -/
def Bunting.heard (b : Bunting) : Val := .oct (if b.corrupt then [] else b.data)

/-- The host pops a queue of its own with no current bunting there: the head becomes current, POP_STATUS and HDR0 tell of it (R226,
R235, R237). On an empty queue the pop answers EMPTY. -/
def State.hostTake (s : State) (q : Nat) : State × Val :=
  match (s.queue q).items with
  | [] => (s.popStatus 1, .num 0)
  | b :: rest =>
    let s := (s.updQueue q fun x => { x with items := rest, current := some b, words := 0 }).bump (qKey q 12)
    ((s.corruptPop b).popStatus (if b.corrupt then 3 else 0), .num (hdr0 b))

/-- The pop that falls in the clock of a push, served first, on the depth at the clock's start: the host's own, or the hardware
consumer's. It counts no underflow (R230). While the host reads a current bunting it pops nothing. -/
def State.popFirst (s : State) (q : Nat) : State × Val :=
  if s.mayPop q 0 then (if (s.queue q).current.isSome then (s, s.out) else s.hostTake q)
  else match s.takeHead q with
    | (s, some b) => (s.corruptPop b, b.heard)
    | (s, none) => (s, .oct [])

/-- Push a packet as one operation, without the watermarks. -/
def State.pushPlain (s : State) (q who : Nat) (data : List Byte) : State × PushStatus :=
  match s.openWrite q who (cellChunks data) with
  | (s, .ok) => s.commitOpen q who
  | r => r

/-- Push a packet. -/
def State.push (s : State) (q who : Nat) (data : List Byte) : State × PushStatus :=
  let before := (s.queue q).items.length
  let r := s.pushPlain q who data
  (r.1.queueSettle q before, r.2)

/-- Pop the head of a queue. -/
def State.pop (s : State) (q : Nat) : State × Option Bunting :=
  let before := (s.queue q).items.length
  match s.takeHead q with
  | (s, some b) => ((s.queueSettle q before).corruptPop b, some b)
  | (s, none) => (s.underflow q, none)

/-- Queue 6's part of a twin push: its cells count once in the pool, and it takes the bunting with its cells allocated: only
its depth and its MAX_CELLS refuse it (R225, R233; log 230). -/
def State.twinSecond (s : State) (data : List Byte) (key : Nat) (twin : Bool) : State × PushStatus :=
  let d6 := (s.queue 6).items.length
  if s.nat (qKey 6 8) < cellsFor data.length then (s, .tooLong)
  else if s.nat (qKey 6 3) ≤ d6 then (s.pushFull 6, .full)
  else (((s.append 6 { data := data, producer := 5, stamp := s.tb64, key := key, twin := twin }).poolMoved).queueSettle 6 d6, .ok)

/-- A twin push to queues 5 and 6 (R227): the bunting is built once, by the limits of queue 5, and each queue then takes or
refuses its reference; the status of each. Where queue 5 has no cells for it, the push to queue 6 goes by that queue's own
limits. -/
def State.twinPush (s : State) (data : List Byte) : State × PushStatus × PushStatus :=
  let d5 := (s.queue 5).items.length
  let key := s.pool.key
  let (s, st5) := s.pushPlain 5 5 data
  let s := s.queueSettle 5 d5
  match st5 with
  | .ok =>
    let r := (s.markTwin 5 key).twinSecond data key true
    (r.1, st5, r.2)
  | .full =>
    let r := s.nextKey.twinSecond data key false
    (r.1, st5, r.2)
  | _ =>
    let r := s.push 6 5 data
    (r.1, st5, r.2)

/-- A pop of a queue by its consumer alone: the host's read of FW_Q_POP, or the hardware's pop (R226, R231). -/
def State.popAlone (s : State) (q : Nat) : State :=
  if s.mayPop q 0 then
    if (s.queue q).current.isSome then s
    else
      let before := (s.queue q).items.length
      let r := s.hostTake q
      if before = 0 then { r.1.underflow q with out := r.2 } else { r.1.queueSettle q before with out := r.2 }
  else match s.pop q with
    | (s, some b) => { s with out := b.heard }
    | (s, none) => { s with out := .oct [] }

/-- HARDWARE_PUSH (R226): a party pushes a packet; with `pop`, the queue's consumer pops it in the same clock, first (R230).
Where the push is DENIED the pop stands alone. -/
def execHardwarePush (q : Fin 32) (who : Fin 8) (data : List Byte) (pop : Bool) (s : State) : Out :=
  done s (if !s.mayPush q who then (if pop then s.poolDenied.popAlone q else s.poolDenied)
    else
      let before := (s.queue q).items.length
      let r := if pop then s.popFirst q else (s, s.out)
      { (r.1.pushPlain q who data).1.queueSettle q before with out := r.2 })

/-- HARDWARE_POP (R226): the packet goes to the reader's side. -/
def execHardwarePop (q : Fin 32) (who : Fin 8) (s : State) : Out :=
  done s (if !s.mayPop q who then s.poolDenied
    else s.popAlone q)

/-! ### The host's port (R237) -/

def State.pushQ (s : State) : Nat := s.pool.sel.toNat % 32
def State.popQ (s : State) : Nat := s.pool.sel.toNat / 256 % 32

def State.pushStatus (s : State) (x : PushStatus) : State := s.updPool fun p => { p with pushStat := x.code }

/-- A write of FW_Q_PUSH. -/
def State.hostPush (s : State) (w : BitVec 32) : State :=
  let q := s.pushQ
  if !s.mayPush q 0 then s.poolDenied.pushStatus .denied
  else
    let r := s.openWrite q 0 [leBytes 4 w.toNat]
    r.1.pushStatus r.2

/-- QUEUE_PUSH_WORD (R237). -/
def execQueuePushWord (w : BitVec 32) (s : State) : Out := done s (s.hostPush w)

/-- COMMIT: TAIL sets the length (0 means 4), and the bunting is pushed; `pop` says that the queue's hardware consumer pops in
the same clock, first (R230). Where no push is made the pop stands alone. -/
def State.hostCommit (s : State) (tail : Nat) (pop : Bool) : State :=
  let q := s.pushQ
  let alone (t : State) : State := if pop && !s.mayPop q 0 then t.popAlone q else t
  if !s.mayPush q 0 then alone (s.poolDenied.pushStatus .denied)
  else match s.openBytes q 0 with
    | none => alone (s.pushStatus .noPacket)
    | some b =>
      let n := b.length - (if tail = 0 then 0 else 4 - tail)
      let before := (s.queue q).items.length
      let t := if pop && !s.mayPop q 0 then s.popFirst q else (s, s.out)
      let s := t.1.updQueue q fun x => { x with opens := x.opens.map fun y => if y.1 = 0 then (0, b.take n) else y }
      let r := s.commitOpen q 0
      { (r.1.queueSettle q before).pushStatus r.2 with out := t.2 }

/-- COMMIT (R237): TAIL, and whether the queue's consumer pops in the same clock (R230). -/
def execCommitBunting (tail : Fin 4 × Bool) (s : State) : Out := done s (s.hostCommit tail.1 tail.2)

/-- ABORT releases the open bunting. -/
def State.hostAbort (s : State) : State :=
  let q := s.pushQ
  if !s.mayPush q 0 then s.poolDenied.pushStatus .denied else (s.releaseOpen q 0).pushStatus .ok

/-- ABORT (R237). -/
def execAbortBunting (s : State) : Out := done s s.hostAbort

/-- FW_Q_PCTL as written: ABORT takes precedence over COMMIT. -/
def State.hostPctl (s : State) (w : BitVec 32) : State :=
  if w.getLsbD 1 then s.hostAbort else if w.getLsbD 0 then s.hostCommit (w.toNat / 16 % 4) false else s

/-- Word i after HDR0: HDR1, HDR2, then the data. -/
def bodyWord (b : Bunting) (i : Nat) : Nat :=
  if i = 0 then b.stamp % 2 ^ 32 else if i = 1 then b.stamp / 2 ^ 32 % 2 ^ 16 else uAt b.data (4 * (i - 2)) 4

/-- The pool, where a read has freed a cell. -/
def State.cellsFreed (s old : State) : State := if s.poolFree = old.poolFree then s else s.poolMoved

/-- A read of FW_Q_POP: the state, and the word. -/
def State.hostPop (s : State) : State × Nat :=
  let q := s.popQ
  if !s.mayPop q 0 then (s.poolDenied.popStatus 2, 0)
  else match (s.queue q).current with
    | some b =>
      let i := (s.queue q).words
      let last := decide ((b.data.length + 3) / 4 + 1 ≤ i)
      (((s.updQueue q fun x => if last then { x with current := none, words := 0 } else { x with words := i + 1 }).cellsFreed s).popStatus
        (if b.corrupt then 3 else 0), bodyWord b i)
    | none =>
      match (s.queue q).items with
      | [] => ((s.underflow q).popStatus 1, 0)
      | b :: _ => ((s.hostTake q).1.queueSettle q (s.queue q).items.length, hdr0 b)

/-- QUEUE_POP_READ (R237). -/
def execQueuePopRead (s : State) : Out :=
  let r := s.hostPop
  done s { r.1 with out := .num r.2 }

/-- QUE_DROP: the current bunting of the pop queue ends. -/
def State.queDrop (s : State) : State :=
  let q := s.popQ
  if (s.queue q).current.isNone then s
  else ((s.updQueue q fun x => { x with current := none, words := 0 }).bump (qKey q 15)).poolMoved

/-- QUE_DROP (R237). -/
def execQueDrop (s : State) : Out := done s s.queDrop

/-- FW_Q_PSTAT. -/
def State.qPstat (s : State) : Nat :=
  match s.openBytes s.pushQ 0 with
  | some b => b.length % 8192 * 2 ^ 16 + 8 + s.pool.pushStat
  | none => s.pool.pushStat

/-- FW_Q_STAT. -/
def State.qStat (s : State) : Nat :=
  let x := s.queue s.popQ
  boolNat x.current.isSome * 2 ^ 27 + s.pool.popStat * 2 ^ 24 + boolNat x.underflow * 2 ^ 19 + boolNat x.overflow * 2 ^ 18 +
    boolNat x.low * 2 ^ 17 + boolNat x.high * 2 ^ 16 + boolNat x.above * 2 ^ 14 + x.items.length % 2 ^ 14

/-- Clear sticky flags of queue q. -/
def State.clearFlags (s : State) (q : Nat) (high low overflow underflow : Bool) : State :=
  s.updQueue q fun x => { x with high := x.high && !high, low := x.low && !low, overflow := x.overflow && !overflow, underflow := x.underflow && !underflow }

/-- A write of FW_Q_STAT (W1C). -/
def State.qStatWrite (s : State) (w : BitVec 32) : State :=
  s.clearFlags s.popQ (w.getLsbD 16) (w.getLsbD 17) (w.getLsbD 18) (w.getLsbD 19)

/-- A write of FW_Q_CROSSED (W1C): a 1 clears both crossings of its queue. -/
def State.qCrossedWrite (s : State) (w : BitVec 32) : State :=
  (List.range 32).foldl (fun t q => if w.getLsbD q then t.clearFlags q true true false false else t) s

/-- A bit for each queue. -/
def State.qBits (s : State) (f : Queue → Bool) : Nat := (List.range 32).foldl (fun n q => n + boolNat (f (s.queue q)) * 2 ^ q) 0

/-- A read of FW_POOL: FREE_MIN is reloaded with FREE. -/
def State.poolRead (s : State) : State × Nat :=
  (s.updPool fun p => { p with freeMin := s.poolFree }, s.pool.freeMin * 2 ^ 16 + s.poolFree)

/-- POOL_FREE_MIN_READ (R237). -/
def execPoolFreeMinRead (s : State) : Out :=
  let r := s.poolRead
  done s { r.1 with out := .num r.2 }

/-! ### Dictionary entries (R239) -/

/-- The queue of a key of indices 2910 to 292F. -/
def queueOf (k : Nat) : Option Nat := if 0x2910_00 ≤ k && decide (k < 0x2930_00) then some (k / 256 - 0x2910) else none

/-- Σ RESERVE with queue q's replaced. -/
def State.reserveSum (s : State) (q v : Nat) : Nat := (List.range 32).foldl (fun n i => n + (if i = q then v else s.nat (qKey i 6))) 0

/-- The chapter's checks: LOW < HIGH ≤ DEPTH_MAX, the reservations, and nothing for queues 12 to 15 (R234, R239; log 111). -/
def State.poolCheck (s : State) (k : Nat) (v : Val) : Status :=
  match queueOf k with
  | none => .ok
  | some q =>
    let n := v.int.toNat
    let sub := k % 256
    if 12 ≤ q && decide (q ≤ 15) then .range
    else if sub = 3 then if s.nat (qKey q 4) ≤ n then .ok else .range
    else if sub = 4 then if s.nat (qKey q 5) < n && decide (n ≤ s.nat (qKey q 3)) then .ok else .range
    else if sub = 5 then if n < s.nat (qKey q 4) then .ok else .range
    else if sub = 6 then
      if s.nat (qKey q 7) < n || decide (6144 < s.reserveSum q n) then .range
      else if s.poolFree < ((s.setN k n).unusedReserve) then .state else .ok
    else if sub = 7 then if n < s.nat (qKey q 6) then .range else .ok
    else .ok

/-- FLAGS is live, and a write clears. -/
def State.poolMerge (s : State) (k : Nat) (v : Val) : Val :=
  match queueOf k with
  | some _ => if k % 256 = 9 then s.val k else v
  | none => v

/-- What follows a taken write: a change of HIGH, LOW or DEPTH_MAX is evaluated like a change of depth (R232); FLAGS clears. -/
def State.poolWritten (s : State) (k : Nat) (v : Val) : State :=
  match queueOf k with
  | some q =>
    let sub := k % 256
    if sub = 9 then
      let w := BitVec.ofNat 8 v.int.toNat
      s.clearFlags q (w.getLsbD 1) (w.getLsbD 2) (w.getLsbD 3) (w.getLsbD 4)
    else if 3 ≤ sub && decide (sub ≤ 5) then s.queueSettle q (s.queue q).items.length
    else s
  | none => if k = 0x2900_03 then s.poolLevel else s

/-- Entries that show the pool's state. -/
def State.poolView (s : State) (k : Nat) : Option Nat :=
  if k = 0x2900_01 then some s.poolFree
  else if k = 0x2900_09 then some (s.reserveSum 32 0)
  else match queueOf k with
    | some q =>
      let x := s.queue q
      if k % 256 = 1 then some x.items.length
      else if k % 256 = 2 then some x.cells
      else if k % 256 = 9 then some (boolNat x.above + 2 * boolNat x.high + 4 * boolNat x.low + 8 * boolNat x.overflow + 16 * boolNat x.underflow)
      else none
    | none => none

/-- The identifier mirror (R228): a refused push counts only in queue 9's counters. -/
def State.mirror (s : State) (record : List Byte) : State :=
  if s.flag 0x2900_07 then
    let r := s.push 9 2 record
    if r.2 = .noCell then r.1.setN 0x2900_04 (s.nat 0x2900_04) else r.1
  else s

end Sys2Proof.Machine
end

