-- ==== Sys2Proof/Machine/HfHold.lean ====
section
/-!
DEFINITION. Identifiers of the HF protocol engine: zones (R131), handing to the match engine (R132, R133), the handled-hold
table (R135 to R137) and teaching (R71).
-/

namespace Sys2Proof.Machine

open Sys2Proof

/-! ### Handled-hold (R135 to R137) -/

/-- The entry in use that matches an identifier, by zone too while HOLD_ZONE_BOUND is 1 (R135). -/
def State.holdOf (s : State) (ident : List Byte) (zone : Nat) : Option Nat :=
  (List.range 64).find? fun h =>
    let x := s.holds.getD h {}
    x.state ≠ 0 && decide (x.ident = ident) && (!s.flag 0x2501_04 || decide (x.zone = zone))

def State.updHold (s : State) (h : Nat) (f : Hold → Hold) : State := { s with holds := s.holds.modify h f }

/-- The entry of these with the oldest last-seen time. -/
def State.oldestHold (s : State) (hs : List Nat) : Option Nat :=
  hs.foldl (fun best h => match best with
    | none => some h
    | some b => if (s.holds.getD h {}).last < (s.holds.getD b {}).last then some h else best) none

/-- The entry a new identifier takes: a free one, else the oldest absent, else the oldest present; the flag says that an
entry is replaced (R136). -/
def State.holdSlot (s : State) : Nat × Bool :=
  match (List.range 64).find? fun h => (s.holds.getD h {}).state = 0 with
  | some h => (h, false)
  | none => match s.oldestHold ((List.range 64).filter fun h => (s.holds.getD h {}).state = 2) with
    | some h => (h, true)
    | none => ((s.oldestHold (List.range 64)).getD 0, true)

/-- The hold check of an identifier: the state, and whether the presentation is held (R135, R136). -/
def State.holdCheck (s : State) (ident : List Byte) (zone : Nat) : State × Bool :=
  match s.holdOf ident zone with
  | some h => ((s.updHold h fun x => { x with state := 1, last := s.tb64 }).bump 0x2560_0D, true)
  | none =>
    let (h, replaced) := s.holdSlot
    let s := if replaced then (s.bump 0x2560_0B).raise 20 else s
    (s.updHold h fun _ => { ident := ident, zone := zone, state := 1, first := s.tb64, last := s.tb64 }, false)

/-- A card answered its check: its entry is present and was seen now (R136). -/
def State.holdSeen (s : State) (ident : List Byte) (zone : Nat) : State :=
  match s.holdOf ident zone with
  | some h => s.updHold h fun x => { x with state := 1, last := s.tb64 }
  | none => s

/-- Bytes 0 to 23 of an identifier record (Table 6-6). -/
def recordBytes (ident : List Byte) (lane zone corr flags info tb : Nat) : List Byte :=
  slice ident 0 12 ++ [BitVec.ofNat 8 lane, BitVec.ofNat 8 zone, BitVec.ofNat 8 corr, BitVec.ofNat 8 flags] ++ leBytes 2 info ++ leBytes 6 tb

/-- A card has left: its entry becomes absent, event 17 is raised, and its identifier is looked up again in the rules class
(R136, Table 9-3). -/
def State.cardLeft (s : State) (l : Nat) (c : Card) : State :=
  match s.holdOf c.ident c.zone with
  | some h =>
    if (s.holds.getD h {}).state = 1 then
      let s := (s.updHold h fun x => { x with state := 2 }).raise 17
      { s with lookups := s.lookups ++ [{ lane := none, stamp := s.tb64, fresh := true
                                          record := recordBytes c.ident l c.zone (c.corr * 255 / 1000000000) 0 c.info s.tb64 }] }
    else s
  | none => s

/-! ### Zones (R131) -/

/-- c_z of a reply vector at zone z, in 10⁻⁹. -/
def State.correlation (s : State) (r : List Cx) (z : Nat) : Nat :=
  let n := Cx.lenSq r
  if n = 0 then 0 else (sqrtRat ((Cx.dot ((s.zoneVec z).map Cx.conj) r).normSq / n) * 1000000000).floor.toNat

/-- The zone assigned to a reply vector, its correlation, and whether it is unsure (R131). Of zones with the same correlation the
lowest number is taken (DESIGN CHOICE, log 254). -/
def State.assignZone (s : State) (l : Nat) (vector : List (Int × Int)) : Nat × Nat × Bool :=
  let r := vector.map Cx.ofInts
  let best := (List.range 16).foldl (fun (b : Option (Nat × Nat)) z =>
    if s.nat (zoneKey z 1) = 0xFF then b
    else
      let c := s.correlation r z
      match b with
      | none => some (z, c)
      | some (_, d) => if d < c then some (z, c) else b) none
  match best with
  | some (z, c) => if s.hfSet l 24 * 1000000 ≤ c then (z, c, false) else ((s.lane l).zone, s.correlation r (s.lane l).zone, true)
  | none => ((s.lane l).zone, 0, true)

/-! ### Handing (R132, R133) -/

/-- Lane m stops serving a card; one that holds no other closes, at once or when its poll cycle ends (R132). -/
def State.dropCard (s : State) (m : Nat) (ident : List Byte) : State :=
  let s := s.updSeq m fun x => { x with
    cards := x.cards.filter (fun c => c.ident ≠ ident), ownCur := x.ownCur && decide (x.cur.ident ≠ ident)
    parked := x.parked.map fun p => { p with ownCur := p.ownCur && decide (p.cur.ident ≠ ident) } }
  let x := s.seq m
  if !x.cards.isEmpty then s
  else if x.job = .poll || x.ownCur || x.parked.any (fun p => p.job = .poll || p.ownCur) then s.updSeq m fun x => { x with hostLane := true }
  else s.updSeq m fun x => { x with leave := true }

/-- The cards that a lane holds: those it serves, and those it has completed and is dealing with, in its job or in one that stands
aside (R132). -/
def Seq.holdings (x : Seq) : List Card :=
  (if x.ownCur then [x.cur] else []) ++ x.cards ++ (x.parked.filter fun p => p.ownCur).map fun p => p.cur

/-- Some lane holds the identifier. -/
def State.heldSomewhere (s : State) (ident : List Byte) : Bool := s.seqs.any fun x => x.holdings.any fun c => c.ident = ident

/-- The card in work is let go: one that was handed and never kept stays present in the hold table until it has not answered for
the presence timeout (R136, R141). -/
def Seq.letGo (x : Seq) : Seq :=
  if x.ownCur then { x with ownCur := false, dropped := x.cur :: x.dropped.filter fun c => c.ident ≠ x.cur.ident } else x

/-- Another lane that holds the identifier, with its correlation there. -/
def State.otherHolder (s : State) (l : Nat) (ident : List Byte) : Option (Nat × Nat) :=
  (List.range 4).findSome? fun m =>
    if m = l then none else ((s.seq m).holdings.find? fun c => c.ident = ident).map fun c => (m, c.corr)

/-- The identifier goes to the match engine: the hold check, the record, LAST_ID, event 16, and a lookup that the lane waits
for (R133, R135, R137); the mirror takes a copy (R228). -/
def State.handOver (s : State) (l : Nat) (c : Card) (unsure : Bool) (tb : Nat) : State :=
  let startup := s.firstPoll.getLsbD l
  let (s, held) := s.holdCheck c.ident c.zone
  let asHeld := startup && decide (s.nat 0x2501_05 = 1) && !held
  let s := if asHeld then s.bump 0x2560_0D else s
  let random := decide (c.tech = 0) && decide (c.id.getD 0 0 = 0x08)
  let flags := boolNat random + 2 * boolNat unsure + 4 * boolNat startup + 8 * boolNat (held || asHeld)
  let rec_ := recordBytes c.ident l c.zone ((c.corr * 255 + 500000000) / 1000000000) flags c.info tb
  let s := (((s.setO (hfKey l 21) rec_).bump 0x2560_01).raise 16).mirror rec_
  let s := s.updSeq l fun x => { x with waits := x.waits ++ [s.tb64] }
  { s with lookups := s.lookups ++ [{ lane := some l, record := rec_, fresh := !(held || asHeld), stamp := s.tb64 }] }

/-- The reply that completes an identifier has just ended: its vector and the TB (R131, R133). -/
def State.justNow (s : State) (l : Nat) : Recorded := { data := [], vector := (s.lane l).replies.headD [], tb := s.tb64 }

/-- An identifier is complete on lane l by a reply: a poll cycle counts it (R128, R129), it becomes the card in work, and it
is handed, unless another lane keeps it (R131 to R133). -/
def State.complete (s : State) (l tech : Nat) (id : List Byte) (info : Nat) (by_ : Recorded) : State :=
  let (z, corr, unsure) := s.assignZone l by_.vector
  let rate := if tech = 3 then 1 + s.hfSet l 18 else 0
  let c : Card := { ident := identOf tech id, zone := z, corr := corr, info := info, ds := rate, dr := rate, okT0 := s.now, checkT0 := s.now }
  let s := s.updSeq l fun x => { x with cur := c, ownCur := true, found := if x.job = .poll then x.found + 1 else x.found }
  match s.otherHolder l c.ident with
  | none => s.handOver l c unsure by_.tb
  | some (m, d) =>
    let s := (s.bump 0x2560_0C).raise 23
    if d < corr ∨ (d = corr ∧ l < m) then (s.dropCard m c.ident).handOver l c unsure by_.tb
    else s.updSeq l fun x => { x with hostLane := true, ownCur := false }

/-- VERDICT_WAIT_US passes without the verdict: the lane goes on, VERDICT_LATE is set, event 22 (R134). -/
def State.verdictLate (s : State) (l stamp : Nat) : State :=
  let mark (r : List Byte) : List Byte := r.modify 15 fun b => b ||| 0x10
  let s := { s with lookups := s.lookups.map fun (x : Lookup) => if (x.lane = some l) ∧ (x.stamp = stamp) then { x with record := mark x.record } else x }
  let s := s.setO (hfKey l 21) (mark (s.oct (hfKey l 21)))
  ((s.updSeq l fun x => { x with waits := x.waits.erase stamp }).bump 0x2560_0A).raise 22

def execVerdictLate (l : Fin 4) (s : State) : Out :=
  match (s.seq l).waits with
  | stamp :: _ => nextWhen (decide (s.hfSet l 23 * 2712 ≤ (s.tb64 - stamp) * 100)) s (s.verdictLate l stamp)
  | [] => done s s

/-- An absent entry is freed HOLD_RELEASE_MS after its last-seen time, measured on TB (R136). -/
def execHoldRelease (h : Fin 64) (s : State) : Out :=
  let x := s.holds.getD h {}
  nextWhen (decide (x.state = 2) && decide (s.nat 0x2501_03 * 27120 ≤ s.tb64 - x.last)) s (s.updHold h fun _ => {})

/-! ### Teaching (R71) -/

/-- Teaching of zone z ends: TEACH reads 2 or 3. -/
def State.teachEnd (s : State) (z code : Nat) : State :=
  ({ s with teach := s.teach.set z {} }).setN (zoneKey z 6) code

/-- Sixteen replies are in: the average's direction and length are stored, and the pennants that rest on the zone are
computed again (R71). -/
def State.teachDone (s : State) (z : Nat) (sum : List Cx) : State :=
  let mean := sum.map (Cx.scale (1 / 16))
  let len := sqrtRat (Cx.lenSq mean)
  let q := (unitVec mean).map fun x => (clampI (-32768) 32767 (x.re * 32767).floor, clampI (-32768) 32767 (x.im * 32767).floor)
  let s := (s.setO (zoneKey z 5) (vecBytes q)).setN (zoneKey z 3) (max 1 (min 65535 (len + 1 / 2).floor.toNat))
  (s.teachEnd z 2).recomputeZone z

/-- A correct reply of a known card on the zone's nominal pennant counts toward teaching (R71). -/
def State.teachReply (s : State) (l : Nat) (v : List (Int × Int)) : State :=
  let x := s.lane l
  let z := x.zone
  let ident := (s.seq l).cur.ident
  if s.nat (zoneKey z 6) ≠ 1 ∨ x.pennant ≠ s.nat (zoneKey z 2) ∨ x.live ∨ ident = [] then s
  else
    let t := s.teach.getD z {}
    if t.count ≠ 0 ∧ t.uid ≠ ident then s.teachEnd z 3
    else
      let sum := (List.range 8).map fun p => (((t.sum.getD p (0, 0)).1 + (v.getD p (0, 0)).1, (t.sum.getD p (0, 0)).2 + (v.getD p (0, 0)).2) : Int × Int)
      if t.count + 1 = 16 then s.teachDone z (sum.map Cx.ofInts)
      else { s with teach := s.teach.set z { t with sum := sum, count := t.count + 1, uid := ident } }

/-- TEACH written 1: the zone's averaging starts (R71). -/
def State.teachStart (s : State) (z : Nat) : State := { s with teach := s.teach.set z { t0 := s.now } }

def execTeachTimeout (z : Fin 16) (s : State) : Out :=
  nextWhen (decide (s.nat (zoneKey z 6) = 1) && s.passedS (s.teach.getD z {}).t0 60) s (s.teachEnd z 3)

end Sys2Proof.Machine
end

