-- ==== Sys2Proof/Machine/HfFlow.lean ====
section
/-!
DEFINITION. The flows of the HF sequencers: poll cycles and anticollision (R127 to R130), activation, presence checks (R139),
host exchanges (R142), errors and retries (R140, R141).
-/

namespace Sys2Proof.Machine

open Sys2Proof

/-! ### Moving a sequencer -/

/-- The exchange of the sequencer's step waits to be sent: its frame, its noise bandwidth and its modulation depth are known
to the lane (R79, R84). -/
def State.queueStep (s : State) (l : Nat) : State :=
  let e := s.exchOf l
  (s.updSeq l fun x => { x with stage := .ready, exch := e, planT0 := none, deferT := none, late := false, met := [], overloaded := false
                                clear := false, blanked := false, noised := false }).updLane l fun y => { y with bw := s.bandwidth l e, nextAsk := some (s.ask100 l e), txAbort := false }

/-- The sequencer goes to a step: a new exchange, with no repetition made of it yet. -/
def State.go (s : State) (l : Nat) (st : HfStep) : State :=
  (s.updSeq l fun x => { x with step := st, retries := 0, againBlank := false, againMet := false, againOver := false, againAbort := false
                                special := false, hostWait := if st = .wtx then x.hostWait else 1 }).queueStep l

/-- `Seq.now` where no flow of R129 runs. -/
def noFlow : Nat := 9

/-- The sequencer is at rest between jobs. -/
def State.rest (s : State) (l : Nat) : State :=
  (s.updSeq l fun x => { x.letGo with job := .none, step := .free, stage := .idle, planT0 := none, deferT := none, now := noFlow, seek := [], seekOk := false }).updLane l fun y => { y with nextAsk := none }

/-- The lane stops: it closes at once, or at the end of the exchange in flight (Table 4-3). -/
def State.stopLane (s : State) (l : Nat) : State :=
  let x := s.seq l
  if x.stage = .sending || x.stage = .listening || x.stage = .reply then s.updSeq l fun x => { x with leave := true }
  else (s.rest l).closeLane l

/-- An identifier is complete (R131 to R133); a lane that it leaves without a card closes where it is between exchanges. -/
def State.completed (s : State) (l tech : Nat) (id : List Byte) (info : Nat) (by_ : Recorded) : State :=
  (List.range 4).foldl (fun t m => if m ≠ l && (t.seq m).leave && !t.inExchange m then (t.rest m).closeLane m else t) (s.complete l tech id info by_)

/-! ### Poll cycles -/

/-- A host poll request ends: EXCH_CMD and EXCH_STATUS (R128). -/
def State.hostPollEnd (s : State) (l : Nat) (ok : Bool) (st : ExStatus) : State :=
  (((s.setN (hfKey l 1) (if ok then 2 else 3)).setN (hfKey l 5) st.code).updSeq l fun x => { x with byHost := false }).raise 18

/-- A poll cycle ends (R128, R130): CARDS, the host's answer, and a lane that a host opened and that holds no card closes. -/
def State.pollEnd (s : State) (l : Nat) : State :=
  let x := s.seq l
  let s := (s.setN (hfKey l 22) x.found).rest l
  let s : State := { s with firstPoll := s.firstPoll &&& ~~~ BitVec.ofNat 4 (2 ^ l) }
  let s := if x.byHost then s.hostPollEnd l true .ok else s
  let s := match x.wakePort with
    | some p => if x.found = 0 then s.frondNonCard p else s
    | none => s
  let s := s.updSeq l fun y => { y with hostLane := false, wakePort := none, cards := y.cards.map fun c => { c with checkT0 := s.now } }
  if x.hostLane && (s.seq l).cards.isEmpty then s.stopLane l else s

/-- The next technology of the order, or the end of the cycle (R127, R130). -/
def State.nextTech (s : State) (l : Nat) : State :=
  let x := s.seq l
  match x.order with
  | [] => s.pollEnd l
  | t :: rest =>
    let s := s.updSeq l fun x => { x with order := rest, now := t }
    match t with
    | 0 => s.go l .aPoll
    | 1 => (s.updSeq l fun x => { x with n := 2 ^ s.hfSet l 14, slot := 1, pending := false, rounds := 0 }).go l .bPoll
    | 2 => (s.updSeq l fun x => { x with masks := [[]], got := [], slot := 0 }).go l .vInv
    | _ => (s.updSeq l fun x => { x with tsn := s.hfSet l 20, got := [], slot := 0, pending := false }).go l .fPoll

/-- A poll cycle starts: the settings in force, and the technologies of the zone in POLL_ORDER (R127, R145). -/
def State.startPoll (s : State) (l : Nat) : State :=
  let cfg := (List.range 24).map fun i => s.nat (0x2500_01 + i)
  let tech := s.zoneTech (s.lane l).zone
  let order := ((List.range 4).map fun i => cfg.getD 1 0 / 16 ^ i % 16).filter fun t => decide (t < 4) && tech.testBit t
  (s.updSeq l fun x => { x with job := .poll, cfg := cfg, tech := tech, found := 0, repoll := false, toActivate := []
                                order := order }).nextTech l

/-- The identifier is served: it joins the lane's cards, or its entry among them is brought up to date. -/
def State.keepCard (s : State) (l : Nat) (st : Nat) : State :=
  let c := { (s.seq l).cur with state := st, okT0 := s.now, checkT0 := s.now }
  s.updSeq l fun x => { x with
    cur := c, okT0 := s.now, ownCur := false, dropped := x.dropped.filter fun d => d.ident ≠ c.ident
    cards := if x.cards.any (fun d => d.ident = c.ident) then x.cards.map fun d => if d.ident = c.ident then c else d else x.cards ++ [c] }

/-- The host exchange ends (R142): EXCH_CMD, EXCH_STATUS, EXCH_RX and event 18. -/
def State.hostEnd (s : State) (l : Nat) (st : ExStatus) (rx : List Byte) : State :=
  let s := ((s.setN (hfKey l 1) (if st = .ok then 2 else 3)).setN (hfKey l 5) st.code).setO (hfKey l 4) rx
  (s.updSeq l fun x => { x with hostJob := none, hostTx := [], hostRx := [] }).raise 18

/-- The check failed: a poll cycle looks for the card (R127). -/
def State.presenceBad (s : State) (l : Nat) : State := (s.rest l).updSeq l fun x => { x with repoll := true }

/-- A flow of R129 has ended: a poll cycle goes to the next technology, and a check or an activation that looked for its card by
the flow has failed (Table 6-7). -/
def State.flowOver (s : State) (l : Nat) : State :=
  match (s.seq l).job with
  | .poll => s.nextTech l
  | .host => (s.hostEnd l .timeout []).rest l
  | _ => s.presenceBad l

/-- The next slot of a Type B round, a new round, or the end of the flow (R129). -/
def State.nextSlotB (s : State) (l : Nat) : State :=
  let x := s.seq l
  if x.slot < x.n then (s.updSeq l fun x => { x with slot := x.slot + 1 }).go l .bMark
  else if x.pending ∧ ¬ (x.n = 16 ∧ 1 ≤ x.rounds) then
    (s.updSeq l fun x => { x with rounds := if x.n = 16 then x.rounds + 1 else x.rounds, n := min (2 * x.n) 16, slot := 1, pending := false }).go l .bPoll
  else s.flowOver l

/-- The next 15693 mask, or the end of the flow. -/
def State.nextMask (s : State) (l : Nat) : State :=
  let x := s.seq l
  if x.masks.isEmpty ∨ s.hfSet l 11 ≤ x.found then (if s.hfSet l 11 ≤ x.found then s.pollEnd l else s.nextTech l)
  else (s.updSeq l fun x => { x with slot := 0 }).go l .vInv

/-- The next recorded 15693 UID is handed and put to Stay Quiet, the first card as ACTIVATE sets; then the next mask (R129,
R130). 15693 has no activation, so ACTIVATE 1 and 2 leave the card as it is. -/
def State.handV (s : State) (l : Nat) : Nat → State
  | 0 => s.nextMask l
  | n + 1 =>
    let x := s.seq l
    match x.got with
    | [] => s.nextMask l
    | r :: rest =>
      let s := s.updSeq l fun x => { x with got := rest }
      if s.hfSet l 11 ≤ x.found then s.pollEnd l
      else
        let s := s.completed l 2 ((r.data.drop 2).take 8) (r.data.getD 1 0).toNat r
        if (s.seq l).ownCur && decide (x.found = 0) && decide (s.hfSet l 21 ≠ 0) then (s.keepCard l 1).handV l n
        else s.go l .vQuiet

/-- The next slot of an Inventory, or its end: the present mask is done. -/
def State.nextSlotV (s : State) (l : Nat) : State :=
  let x := s.seq l
  let slots := if s.hfSet l 17 = 0 then 1 else 16
  if x.slot + 1 < slots then (s.updSeq l fun x => { x with slot := x.slot + 1 }).go l .vEof
  else (s.updSeq l fun x => { x with masks := x.masks.drop 1 }).handV l 17

/-- A polling round for 212 and 424 kbit/s ends: a check that found its card is over, the first card of a cycle is activated where
R130 asks for it, another round with more slots follows a collision, or the flow ends (R129). -/
def State.endRoundF (s : State) (l : Nat) : State :=
  let x := s.seq l
  if x.job ≠ .poll ∧ x.seekOk then s.rest l
  else match x.cards.find? fun c => c.ident = x.toActivate with
    | some c => (s.updSeq l fun x => { x with cur := { c with dep := true }, toActivate := [] }).go l .dAtr
    | none =>
      if x.job = .poll ∧ s.hfSet l 11 ≤ x.found then s.pollEnd l
      else if x.pending ∧ x.tsn ≠ 15 then (s.updSeq l fun x => { x with tsn := 2 * x.tsn + 1, pending := false }).go l .fPoll
      else s.flowOver l

/-- The flow goes on after one card: MAX_IDS, the next REQA, the next slot or recorded UID (R129, R130). -/
def State.nextCard (s : State) (l : Nat) : State :=
  let s := s.updSeq l Seq.letGo
  let x := s.seq l
  if x.job ≠ .poll then (if x.now = 1 then s.nextSlotB l else if x.now = 3 then s.endRoundF l else s.rest l)
  else if s.hfSet l 11 ≤ x.found then s.pollEnd l
  else match x.now with
    | 0 => s.go l .aPoll
    | 1 => s.nextSlotB l
    | 2 => s.handV l 17
    | _ => s.endRoundF l

/-- The card offers NFC-DEP and TECH_ENABLE[4] allows it (R130). -/
def State.depOffered (s : State) (l : Nat) : Bool :=
  let x := s.seq l
  (s.hfSet l 1).testBit 4 && (if x.cur.tech = 0 then x.sak.testBit 6 else decide (x.cur.id.take 2 = [0x01, 0xFE]))

/-- Activation of the card in work starts: NFC-DEP, RATS or ATTRIB; a card that takes none stays selected (R130). -/
def State.activate (s : State) (l : Nat) : State :=
  let x := s.seq l
  let takesNone : State := if x.job = .host then (s.hostEnd l .protocol []).rest l else (s.keepCard l 1).nextCard l
  match x.cur.tech with
  | 0 => if s.depOffered l then (s.updSeq l fun x => { x with cur := { x.cur with dep := true } }).go l .dAtr
    else if x.sak.testBit 5 then s.go l .aRats else takesNone
  | 1 => s.go l .bAttrib
  | 3 => if s.depOffered l then (s.updSeq l fun x => { x with cur := { x.cur with dep := true } }).go l .dAtr else takesNone
  | _ => takesNone

/-- Another card of the lane is active: only one ever is (R130). -/
def State.otherActive (s : State) (l : Nat) : Bool := (s.seq l).cards.any fun c => decide (c.state = 2) && decide (c.ident ≠ (s.seq l).cur.ident)

/-- What happens to an identifier handed: the first card of the cycle as ACTIVATE sets, every other is halted (R130). -/
def State.policy (s : State) (l : Nat) (halt : HfStep) : State :=
  let x := s.seq l
  if x.job = .poll && x.ownCur && decide (x.found = 1) then
    match s.hfSet l 21 with
    | 1 => (s.keepCard l 1).nextCard l
    | 2 => if s.otherActive l then s.go l halt else s.activate l
    | _ => s.go l halt
  else s.go l halt

/-- The card is halted: it joins the lane's cards unless another lane keeps it. -/
def State.halted_ (s : State) (l : Nat) : State := (if (s.seq l).ownCur then s.keepCard l 3 else s).nextCard l

/-! ### Host exchanges (R142) -/

/-- A successful check or exchange of the card in work (R139, R143). -/
def State.cardOk (s : State) (l : Nat) : State :=
  let c := (s.seq l).cur
  (s.updSeq l fun x => { x with okT0 := s.now, cur := { x.cur with okT0 := s.now }
                                cards := x.cards.map fun d => if d.ident = c.ident then { d with okT0 := s.now } else d }).holdSeen c.ident c.zone

/-- Store the card in work among the lane's cards. -/
def State.saveCur (s : State) (l : Nat) : State :=
  let c := (s.seq l).cur
  s.updSeq l fun x => { x with cards := x.cards.map fun d => if d.ident = c.ident then c else d }

/-- The host exchange ends and the sequencer rests; a good one counts as a successful check (R143). -/
def State.hostDone (s : State) (l : Nat) (st : ExStatus) (rx : List Byte) : State :=
  let s := if st = .ok then s.cardOk l else s
  ((s.saveCur l).hostEnd l st rx).rest l

/-- The card for a host exchange: the selected or active one, or in mode 2 any (R142). -/
def State.hostCard (s : State) (l mode : Nat) : Option Card :=
  let x := s.seq l
  match x.cards.find? fun c => c.state = 1 || c.state = 2 with
  | some c => some c
  | none => if mode = 2 then x.cards.head? else none

/-- A host exchange starts (R142, R123): the raw frame, or in mode 2 the activation that is still wanted and then the first
block. -/
def State.startHost (s : State) (l : Nat) : State :=
  let x := s.seq l
  match x.hostJob with
  | none => s.rest l
  | some (mode, _) =>
    match s.hostCard l mode with
    | none => s.hostDone l .noCard []
    | some c =>
      let s := s.updSeq l fun x => { x with job := .host, cur := c, hostTx := s.oct (hfKey l 3), hostRx := [], level := 1, now := noFlow, seek := c.ident, seekOk := false }
      if mode ≠ 2 then
        let s := s.go l .raw
        if (s.seq l).exch.tooLong then s.hostDone l .tooLong [] else s
      else if c.state = 2 then s.go l .block
      else match c.tech, c.state with
        | 0, 3 => s.go l .wake
        | 0, _ => s.updSeq l (fun x => { x with sak := c.info % 256 }) |>.activate l
        | 1, 3 => s.go l .wakeB
        | 1, _ => s.go l .bAttrib
        | 3, _ => if s.depOffered l then (s.updSeq l fun x => { x with cur := { x.cur with dep := true } }).go l .dAtr else s.hostDone l .protocol []
        | _, _ => s.hostDone l .protocol []

/-- A card is active: a host exchange sends its first block, a poll cycle goes on (R130, R142). -/
def State.activated (s : State) (l : Nat) : State :=
  let s := s.updSeq l fun x => { x with cur := { x.cur with state := 2, bn := 0 } }
  if (s.seq l).job = .host then (s.saveCur l).go l .block
  else if (s.seq l).cur.tech = 3 then (s.saveCur l).nextCard l
  else (if (s.seq l).ownCur then s.keepCard l 2 else s).nextCard l

/-- The job in progress steps aside between two of its exchanges (R143). -/
def State.park (s : State) (l : Nat) : State :=
  s.updSeq l fun x => { x with
    parked := { job := x.job, step := x.step, cur := x.cur, level := x.level, sak := x.sak, now := x.now, seek := x.seek, seekOk := x.seekOk
                ownCur := x.ownCur, cfg := x.cfg, tech := x.tech, order := x.order, found := x.found, known := x.known, uid := x.uid
                atqa := x.atqa, n := x.n, slot := x.slot, pending := x.pending, rounds := x.rounds, masks := x.masks, got := x.got
                tsn := x.tsn, toActivate := x.toActivate, byHost := x.byHost, hostLane := x.hostLane, wakePort := x.wakePort } :: x.parked
    job := .none, step := .free, stage := .idle, ownCur := false, byHost := false, hostLane := false, wakePort := none }

/-- The job that stepped aside last goes on with the exchange it had come to. -/
def State.unpark (s : State) (l : Nat) : State :=
  match (s.seq l).parked with
  | [] => s
  | p :: rest =>
    (s.updSeq l fun x => { x with
      parked := rest, job := p.job, cur := p.cur, level := p.level, sak := p.sak, now := p.now, seek := p.seek, seekOk := p.seekOk
      ownCur := p.ownCur, cfg := p.cfg, tech := p.tech, order := p.order, found := p.found, known := p.known, uid := p.uid
      atqa := p.atqa, n := p.n, slot := p.slot, pending := p.pending, rounds := p.rounds, masks := p.masks, got := p.got
      tsn := p.tsn, toActivate := p.toActivate, byHost := p.byHost, hostLane := x.hostLane || p.hostLane, wakePort := p.wakePort }).go l p.step

/-- A job that ended at once gives its turn back to the one that stepped aside. -/
def State.turnBack (s : State) (l : Nat) : State := if (s.seq l).job = .none && (s.lane l).running then s.unpark l else s

/-- The lane's next turn is a host exchange's (R143); where it ends at once, the job that stepped aside goes on. -/
def State.hostTurn (s : State) (l : Nat) : State := (s.startHost l).turnBack l

/-- A queued exchange that is no repetition: a host exchange may come before it (R143). -/
def Seq.fresh (x : Seq) : Bool :=
  x.stage = .ready && decide (x.retries = 0) && !x.special && !x.againBlank && !x.againMet && !x.againOver && !x.againAbort

/-- A poll cycle that a host asked for starts (R128). -/
def State.hostPoll (s : State) (l : Nat) : State :=
  ((s.updSeq l fun x => { x with pollJob := false, byHost := x.byHost || x.pollJob }).startPoll l).turnBack l

/-- The lane's next turn, once its reset guard is over and no exchange is in flight: a waiting host exchange goes first, in a poll
cycle or a check too, between two exchanges of it; a poll cycle that a host asked for ranks the same; then what stepped aside, and
a poll cycle after a failed check (R127, R128, R143; log 45). -/
def State.nextJob (s : State) (l : Nat) : State :=
  let x := s.seq l
  if !x.guardDone || s.inExchange l then s
  else if x.job = .none then
    if x.leave then s.closeLane l
    else if x.hostJob.isSome then s.hostTurn l
    else if x.pollJob then s.hostPoll l
    else if x.parked ≠ [] then s.unpark l
    else if x.repoll then s.hostPoll l
    else s
  else if x.job = .host || !x.fresh then s
  else if x.hostJob.isSome then (s.park l).hostTurn l
  else if x.pollJob then (s.park l).hostPoll l
  else s

/-! ### Presence (R139) -/

/-- The check of the card in work succeeded; a card that was woken is put back to rest (Table 6-7). -/
def State.presenceGood (s : State) (l : Nat) : State :=
  let s := s.cardOk l
  match (s.seq l).step, (s.seq l).cur.state with
  | .wakeSelect, 3 => s.go l .wakeHalt
  | .wakeB, 3 | .bPoll, 3 | .bMark, 3 => (s.updSeq l fun x => { x with now := noFlow }).go l .wakeHaltB
  | .resetV, _ => s.go l .quietV
  | _, _ => s.rest l

/-- The first command of a presence check (Table 6-7). The table has no row for a Type B card that ACTIVATE 1 left selected,
nor for a 15693 card left so: the first is checked by WUPB without HLTB, the second by Reset to Ready and then put to Stay
Quiet (DESIGN CHOICE, log 255). -/
def State.presenceStart (s : State) (l : Nat) (c : Card) : State :=
  let s := s.updSeq l fun x => { x with
    job := .presence, cur := c, level := if c.state = 1 then lastLevel c.id else 1, now := noFlow, seek := c.ident, seekOk := false
    cards := x.cards.map fun d => if d.ident = c.ident then { d with checkT0 := s.now } else d }
  if c.dep then s.go l .atn
  else if c.state = 2 then s.go l .nak
  else match c.tech with
    | 0 => s.go l (if c.state = 1 then .wakeSelect else .wake)
    | 1 => s.go l .wakeB
    | 2 => s.go l .resetV
    | _ => s.go l .pollF

/-- The rate at which a card out of session is reached. -/
def State.restRate (s : State) (l : Nat) (c : Card) : Nat := if c.tech = 3 then 1 + s.hfSet l 18 else 0

/-- The release frame is over: the card is out of session, and after a check a poll cycle looks for it (R127, R141). -/
def State.released (s : State) (l : Nat) : State :=
  let check := (s.seq l).job = .presence
  let out (d : Card) : Card := { d with state := 3, dep := false, ds := s.restRate l d, dr := s.restRate l d }
  let s := s.updSeq l fun x => { x with cards := x.cards.map fun d => if d.ident = x.cur.ident then out d else d }
  if check then s.presenceBad l else s.rest l

/-- The card in work is put out of session by its release frame; an F card without NFC-DEP has none (R141). -/
def State.leaveSession (s : State) (l : Nat) : State :=
  let c := (s.seq l).cur
  if c.tech = 3 ∧ ¬ c.dep then s.released l else s.go l .release

/-! ### Outcomes of one exchange -/

/-- The steps that put a card back to rest after its check has succeeded (Table 6-7). -/
def HfStep.backToRest : HfStep → Bool
  | .wakeHalt | .wakeHaltB | .quietV => true
  | _ => false

/-- The job of a presence check or host exchange fails with a status; a poll cycle drops the card and goes on (R141). -/
def State.giveUp (s : State) (l : Nat) (st : ExStatus) : State :=
  let x := s.seq l
  match x.step with
  | .bMark | .bPoll => s.nextSlotB l
  | .vInv | .vEof => s.nextSlotV l
  | .fPoll => s.endRoundF l
  | .bHalt => s.nextCard l
  | _ =>
    match x.job with
    | .presence => if x.step.backToRest then s.rest l else s.presenceBad l
    | .host =>
      let s := ((s.saveCur l).hostEnd l st x.hostRx).updSeq l fun x => { x with job := .host }
      if x.cur.state = 3 then s.rest l else s.leaveSession l
    | _ => s.nextCard l

/-- The step is one of a flow of R129: anticollision, whatever job runs it. -/
def Seq.inFlow (x : Seq) : Bool := decide (x.now ≠ noFlow)

/-- The retry limit is reached (R141): in the session of a card, a host exchange or the check of a selected or active card, the
session ends with event 19; else the job or the card is given up. A halted card that a host exchange wakes is in no session yet. -/
def State.limitReached (s : State) (l : Nat) (st : ExStatus) : State :=
  let x := s.seq l
  let inSession := !x.inFlow && (decide (x.cur.state = 1) || decide (x.cur.state = 2))
  if x.job = .host && inSession then ((s.bump 0x2560_07).raise 19).giveUp l st
  else if x.job = .presence && inSession && !x.step.backToRest then ((s.bump 0x2560_07).raise 19).leaveSession l
  else s.giveUp l st

/-- The exchange is sent again: by the standard's recovery in ISO/IEC 14443-4 and NFC-DEP, else the same command (R141). -/
def State.repeatExch (s : State) (l : Nat) : State :=
  let x := s.seq l
  let st : HfStep := match x.step with
    | .block | .more | .wtx => .resend
    | t => t
  (s.updSeq l fun x => { x with step := st }).queueStep l

/-- The counter of a card error (Table 6-14). -/
def State.countError (s : State) (st : ExStatus) : State :=
  match st with
  | .timeout => s.bump 0x2560_02
  | .crc => s.bump 0x2560_03
  | .parity => s.bump 0x2560_04
  | _ => s.bump 0x2560_05

/-- A repetition of the exchange by step `st`, while RETRY_MAX allows it (R141). -/
def State.retryBy (s : State) (l : Nat) (err : ExStatus) (again : State → State) : State :=
  if (s.seq l).retries < s.hfSet l 8 then again ((s.updSeq l fun x => { x with retries := x.retries + 1 }).bump 0x2560_06)
  else s.limitReached l err

/-- A single repetition of R126 or R82 that failed counts toward RETRY_MAX. -/
def State.countSpecial (s : State) (l : Nat) : State :=
  if (s.seq l).special then s.updSeq l fun x => { x with special := false, retries := x.retries + 1 } else s

/-- A card error (R141): counted, and repeated up to RETRY_MAX times. -/
def State.cardError (s : State) (l : Nat) (st : ExStatus) : State :=
  let s := (s.countError st).countSpecial l
  if (s.seq l).step = .release then s.released l else s.retryBy l st fun t => t.repeatExch l

/-- The parameters of an ATS: the card's rates both ways, FWI and FSC (ISO/IEC 14443-4). -/
def State.readAts (s : State) (l : Nat) (b : List Byte) (c : Card) : Card :=
  let t0 := (b.getD 1 0x72).toNat
  let ta := if t0.testBit 4 then (b.getD 2 0).toNat else 0
  let i := 2 + boolNat (t0.testBit 4)
  let tb := if t0.testBit 5 then (b.getD i 0x40).toNat else 0x40
  let r := s.hfSet l 12
  let dr := bestRate (ta % 8) r
  let ds := bestRate (ta / 16 % 8) r
  let same := ta.testBit 7
  let fsc := ([16, 24, 32, 40, 48, 64, 96, 128, 256] : List Nat).getD (t0 % 16) 256
  { c with dr := if same then min dr ds else dr, ds := if same then min dr ds else ds, fwi := if tb / 16 = 15 then 4 else tb / 16, fsc := fsc }

/-- The parameters of an ATQB (ISO/IEC 14443-3): protocol bytes at 9 to 11. -/
def State.readAtqb (s : State) (l : Nat) (b : List Byte) (c : Card) : Card :=
  let p1 := (b.getD 9 0).toNat
  let p3 := (b.getD 11 0x40).toNat
  let r := s.hfSet l 13
  let dr := bestRate (p1 % 8) r
  let ds := bestRate (p1 / 16 % 8) r
  let fsc := ([16, 24, 32, 40, 48, 64, 96, 128, 256] : List Nat).getD ((b.getD 10 0).toNat / 16) 256
  { c with dr := if p1.testBit 7 then min dr ds else dr, ds := if p1.testBit 7 then min dr ds else ds
           fwi := if p3 / 16 = 15 then 4 else p3 / 16, fsc := fsc }

/-- An answer to a block of an active card in a host exchange: I-block or data PDU, acknowledgement, waiting-time request
(R142, log 60). `pcb` in the ISO/IEC 14443-4 or DEP coding, `inf` what follows it. -/
def State.blockGood (s : State) (l pcb : Nat) (inf : List Byte) : State :=
  let x := s.seq l
  let c := x.cur
  let mask := if c.dep then 3 else 1
  let sameBn := pcb % (mask + 1) = c.bn
  let isI := if c.dep then pcb / 32 = 0 else pcb / 64 = 0 ∧ pcb % 4 / 2 = 1
  let isAck := if c.dep then pcb / 16 = 4 else pcb / 16 = 10
  let isWtx := if c.dep then pcb / 16 = 9 else pcb / 16 = 15
  let toggle (s : State) : State := s.updSeq l fun x => { x with cur := { x.cur with bn := (x.cur.bn + 1) % (mask + 1) } }
  if isWtx then
    let m := (inf.getD 0 0).toNat % 64
    if m = 0 ∨ 59 < m then s.cardError l .protocol else (s.updSeq l fun x => { x with hostWait := m }).go l .wtx
  else if isAck then
    if sameBn then ((toggle s).updSeq l fun x => { x with hostTx := x.hostTx.drop c.chunk }).go l .block
    else s.retryBy l .protocol fun t => (t.updSeq l fun x => { x with step := .block }).queueStep l
  else if isI ∧ sameBn then
    let s := (toggle s).updSeq l fun x => { x with hostRx := x.hostRx ++ inf }
    if pcb.testBit 4 then s.go l .more else s.hostDone l .ok (s.seq l).hostRx
  else s.cardError l .protocol

/-- The PDU of an NFC-DEP reply: start byte and length removed. -/
def depPdu (c : Card) (b : List Byte) : List Byte := if c.dr = 0 then b.drop 2 else b.drop 1

/-- A Type B flow after a collided WUPB has met the PUPI it looked for (Table 6-7, R142). -/
def State.sought (s : State) (l : Nat) (d : List Byte) : State :=
  let x := s.seq l
  let c := (x.cards.find? fun c => c.ident = x.seek).getD x.cur
  let s := s.updSeq l fun x => { x with cur := c }
  if x.job = .host then (s.updSeq l fun x => { x with cur := { s.readAtqb l d c with state := 1 }, now := noFlow }).go l .bAttrib else s.presenceGood l

/-- An ATQB (ISO/IEC 14443-3). -/
def isAtqb (d : List Byte) : Bool := decide (d.getD 0 0 = 0x50) && decide (d.length = 12)

/-- A reply to Polling (ISO/IEC 18092): length, code and at least the identifier and its parameters. -/
def isPollingRes (d : List Byte) : Bool := decide (d.getD 1 0 = 0x01) && decide (18 ≤ d.length)

/-- A good reply at the sequencer's step, its check bytes removed. -/
def State.hfGood (s : State) (l : Nat) (d : List Byte) : State :=
  let x := s.seq l
  let c := x.cur
  match x.step with
  | .aPoll => (s.updSeq l fun x => { x with level := 1, known := [], uid := [], atqa := leNat d }).go l .aAntic
  | .wake => (s.updSeq l fun x => { x with level := 1 }).go l .wakeSelect
  | .aAntic =>
    let k := x.known.length
    let part := (8 - k % 8) % 8
    let all := x.known ++ (bytesToBits (d.take 1)).take part ++ bytesToBits (if part = 0 then d else d.drop 1)
    let five := bitsToBytes (all.take 40)
    if five.foldl (fun a b => a ^^^ b) 0 ≠ 0 ∨ all.length < 40 then (s.bump 0x2560_05).go l .aPoll
    else (s.updSeq l fun x => { x with known := all.take 40 }).go l .aSelect
  | .aSelect =>
    let sak := (d.getD 0 0).toNat
    let four := (bitsToBytes x.known).take 4
    let uid := x.uid ++ (if sak.testBit 2 then four.drop 1 else four)
    if sak.testBit 2 then
      if x.level = 3 then s.cardError l .protocol
      else (s.updSeq l fun x => { x with level := x.level + 1, known := [], uid := uid }).go l .aAntic
    else
      ((s.updSeq l fun x => { x with sak := sak }).completed l 0 uid (sak + 256 * (x.atqa % 256)) (s.justNow l)).policy l .aHalt
  | .wakeSelect =>
    if (d.getD 0 0).toNat.testBit 2 ≠ decide (x.level < lastLevel c.id) then s.cardError l .protocol
    else if x.level < lastLevel c.id then (s.updSeq l fun x => { x with level := x.level + 1 }).go l .wakeSelect
    else if x.job = .host then (s.updSeq l fun x => { x with sak := (d.getD 0 0).toNat, cur := { x.cur with state := 1 } }).activate l
    else s.presenceGood l
  | .aHalt | .wakeHalt => s.cardError l .protocol
  | .aRats =>
    if (d.getD 0 0).toNat ≠ d.length then s.cardError l .protocol else
    let c := s.readAts l d c
    let s := s.updSeq l fun x => { x with cur := c }
    if c.dr = 0 ∧ c.ds = 0 then s.activated l else s.go l .aPps
  | .aPps => if d.getD 0 0 = 0xD0 then s.activated l else s.cardError l .protocol
  | .dAtr =>
    let p := depPdu { c with dr := if c.tech = 3 then 1 else 0 } d
    let wt := (p.getD 15 0).toNat % 16
    let base := if c.tech = 3 then 1 + s.hfSet l 18 else 0
    let top := max base (min 2 (s.hfSet l 12))
    if p.take 2 ≠ [0xD5, 0x01] then s.cardError l .protocol
    else
      let s := s.updSeq l fun x => { x with cur := { x.cur with fwi := wt, dr := top, ds := top } }
      if top = base then s.activated l else s.go l .dPsl
  | .dPsl =>
    if (depPdu { c with dr := if c.tech = 3 then 1 else 0 } d).take 2 = [0xD5, 0x05] then s.activated l else s.cardError l .protocol
  | .bPoll | .bMark =>
    if isAtqb d then
      if x.job ≠ .poll ∧ identOf 1 ((d.drop 1).take 4) = x.seek then s.sought l d
      else
        let s := s.completed l 1 ((d.drop 1).take 4) (d.getD 9 0).toNat (s.justNow l)
        (s.updSeq l fun x => { x with cur := s.readAtqb l d x.cur }).policy l .bHalt
    else s.cardError l .protocol
  | .wakeB =>
    if !isAtqb d then s.cardError l .protocol
    else if (d.drop 1).take 4 = c.id then
      if x.job = .host then (s.updSeq l fun x => { x with cur := { s.readAtqb l d x.cur with state := 1 } }).go l .bAttrib else s.presenceGood l
    else s.giveUp l .timeout
  | .bHalt => if d = [0] then s.halted_ l else s.cardError l .protocol
  | .wakeHaltB => if d = [0] then s.rest l else s.cardError l .protocol
  | .bAttrib => if d ≠ [] ∧ (d.getD 0 0).toNat % 16 = 0 then s.activated l else s.cardError l .protocol
  | .vInv | .vEof =>
    let new : Recorded := { s.justNow l with data := d }
    (s.updSeq l fun x => { x with got := if x.got.any (fun g => g.data = d) then x.got else x.got ++ [new] }).nextSlotV l
  | .vQuiet | .quietV => s.cardError l .protocol
  | .resetV => if (d.getD 0 1).getLsbD 0 then s.presenceBad l else s.presenceGood l
  | .fPoll =>
    let id := (d.drop 2).take 8
    let sys := if 20 ≤ d.length then 256 * (d.getD 18 0).toNat + (d.getD 19 0).toNat else s.hfSet l 19
    if x.job ≠ .poll ∧ identOf 3 id = x.seek then
      let c := (x.cards.find? fun c => c.ident = x.seek).getD x.cur
      (s.updSeq l fun x => { x with cur := c, seekOk := true }).cardOk l
    else if x.got.any (fun g => g.data = id) ∨ (x.job = .poll ∧ s.hfSet l 11 ≤ x.found) then s
    else
      let s := (s.updSeq l fun x => { x with got := { s.justNow l with data := id } :: x.got }).completed l 3 id sys (s.justNow l)
      let first := x.job = .poll && decide ((s.seq l).found = 1)
      let wanted := first && decide (s.hfSet l 21 = 2) && s.depOffered l && !s.otherActive l
      if (s.seq l).ownCur then
        (s.updSeq l fun x => { x with toActivate := if wanted then x.cur.ident else x.toActivate }).keepCard l
          (if first && decide (s.hfSet l 21 ≠ 0) then 1 else 3)
      else s
  | .pollF =>
    if !isPollingRes d then s.cardError l .protocol
    else if (d.drop 2).take 8 = c.id then s.presenceGood l else s.presenceBad l
  | .nak => if d.length = 1 ∧ (d.getD 0 0).toNat / 16 = 10 ∨ (d.getD 0 0).toNat / 64 = 0 then s.presenceGood l else s.cardError l .protocol
  | .atn => if (depPdu c d).take 3 = [0xD5, 0x07, 0x80] then s.presenceGood l else s.cardError l .protocol
  | .raw => s.hostDone l .ok d
  | .block | .more | .resend | .wtx =>
    if c.dep then
      let p := depPdu c d
      if p.take 2 = [0xD5, 0x07] then s.blockGood l (p.getD 2 0).toNat (p.drop 3) else s.cardError l .protocol
    else s.blockGood l (d.getD 0 0).toNat (d.drop 1)
  | .release => s.released l
  | .free => s

/-- No reply came (Table 6-2). -/
def State.hfSilent (s : State) (l : Nat) : State :=
  let x := s.seq l
  match x.step with
  | .aPoll => s.nextTech l
  | .aHalt => s.halted_ l
  | .wakeHalt | .wakeHaltB | .quietV => s.rest l
  | .release => s.released l
  | .bPoll | .bMark => s.nextSlotB l
  | .vInv | .vEof => s.nextSlotV l
  | .vQuiet => s.halted_ l
  | .fPoll => s.endRoundF l
  | _ => s.giveUp l .timeout

/-- A collided reply in anticollision (R129): bits marked, or a slot with more than one card. -/
def State.hfCollided (s : State) (l : Nat) (d : List Byte) (marks : List Nat) : State :=
  let x := s.seq l
  match x.step with
  | .aPoll => (s.updSeq l fun x => { x with level := 1, known := [], uid := [], atqa := leNat d }).go l .aAntic
  | .aAntic =>
    let k := x.known.length
    let part := (8 - k % 8) % 8
    let got := (bytesToBits (d.take 1)).take part ++ bytesToBits (if part = 0 then d else d.drop 1)
    (s.updSeq l fun x => { x with known := (x.known ++ got.take (marks.foldl min 40) ++ [true]).take 40 }).go l .aAntic
  | .bPoll | .bMark => (s.updSeq l fun x => { x with pending := true }).nextSlotB l
  | .vInv | .vEof =>
    let m := x.masks.headD []
    let next := m ++ (List.range 4).map fun i => x.slot.testBit i
    (s.updSeq l fun x => { x with masks := if next.length ≤ 64 then x.masks ++ [next] else x.masks }).nextSlotV l
  | .fPoll => s.updSeq l fun x => { x with pending := true }
  | .wake => (s.updSeq l fun x => { x with level := 1 }).go l .wakeSelect
  | .wakeB => (s.updSeq l fun x => { x with now := 1, n := 2 ^ s.hfSet l 14, slot := 1, pending := false, rounds := 0 }).go l .bPoll
  | .pollF => (s.updSeq l fun x => { x with now := 3, tsn := s.hfSet l 20, got := [], pending := false }).go l .fPoll
  | _ => s.giveUp l .collision

/-- The silence of the step means that no card answered, or that none was expected to (R140, R121): HLTA and Stay Quiet have
no answer, as a release too; S(DESELECT), RLS_REQ and HLTB have one. -/
def Seq.quietMeansNone (x : Seq) : Bool :=
  match x.step with
  | .aPoll | .wake | .bPoll | .bMark | .wakeB | .vInv | .vEof | .fPoll | .pollF | .aHalt | .wakeHalt | .vQuiet | .quietV => true
  | .release => !x.cur.dep && decide (x.cur.state ≠ 2) && (decide (x.cur.tech = 0) || decide (x.cur.tech = 2))
  | _ => false

/-- The end of an exchange: counted, the gap between exchanges taken, and the next job chosen (R42, R85, R143). -/
def State.exchEnd (s : State) (l : Nat) : State :=
  let s := (s.bump (laneKey l 9)).laneGap l
  if (s.seq l).leave then (s.rest l).closeLane l else s.nextJob l

end Sys2Proof.Machine
end

