-- ==== Sys2Proof/Machine/HfCmd.lean ====
section
/-!
DEFINITION. The meanings of the HF protocol engine's commands: commands on the air (R120 to R126), replies (R105 to R111, R124),
presence, host requests, and the life of a lane (R76, R77).
-/

namespace Sys2Proof.Machine

open Sys2Proof

/-! ### Before a command -/

/-- Lanes whose components stand on carriers for the first time take their carrier-on stamp (R122). -/
def State.stampCarriers (s : State) : State :=
  (List.range 4).foldl (fun t l =>
    if (t.lane l).running && (t.seq l).carrierT0.isNone && t.laneReady l then t.updSeq l fun x => { x with carrierT0 := some t.now } else t) s

/-- RESET_GUARD_US has passed since carrier-on: the lane's first poll cycle starts (R122, R127). -/
def State.resetGuardEnd (s : State) (l : Nat) : State := (s.updSeq l fun x => { x with guardDone := true }).startPoll l

def execResetGuardEnd (l : Fin 4) (s : State) : Out :=
  let x := s.seq l
  nextWhen ((s.lane l).running && !x.guardDone && x.job = .none &&
    (match x.carrierT0 with | some t => s.passedUs t (s.nat 0x2500_03) | none => false)) s (s.resetGuardEnd l)

/-- The guard before the queued command (Table 6-3), µs. -/
def State.guardUs (s : State) (l : Nat) : Nat :=
  match (s.seq l).exch.tech with
  | 0 => s.hfSet l 4
  | 1 => s.hfSet l 5
  | 2 => s.hfSet l 6
  | _ => s.hfSet l 7

/-- Lane l has a command whose guard is over, verdicts in hand and components steady on their carriers (R41, R42, R122,
R133). -/
def State.cmdReady (s : State) (l : Nat) : Bool :=
  let x := s.seq l
  x.stage = .ready && (s.lane l).running && x.guardDone && x.waits.isEmpty && s.passedUs x.lastEnd (s.guardUs l) && s.laneReady l

/-- PRIORITY of lane l's zone. -/
def State.lanePrio (s : State) (l : Nat) : Nat := s.nat (zoneKey (s.lane l).zone 10)

/-- The rank of a lane among conflicting lanes that are ready: PRIORITY, then a lane that has had no turn while another waited, then
round-robin from the pointer of that PRIORITY (R13, R81; DESIGN CHOICE, log 247). -/
def State.turnRank (s : State) (l : Nat) : Nat :=
  let k := s.lanePrio l
  8 * k + (if s.turned.contains l then 4 else 0) + (l + 4 - s.rrLane.getD k 0) % 4

/-- Another lane of its PRIORITY waits for a turn against lane l. -/
def State.contested (s : State) (l : Nat) : Bool :=
  (List.range 4).any fun m => s.conflict l m && s.cmdReady m && decide (s.lanePrio m = s.lanePrio l)

/-- Lane l takes its turn (R13, R81): against another that waits, the pointer of their PRIORITY goes to the lane that follows, and l
comes after every lane that waits until each has had its turn. A lane that meets none moves nothing. -/
def State.takeTurn (s : State) (l : Nat) : State :=
  if s.contested l then
    let k := s.lanePrio l
    let had := l :: s.turned.filter (· ≠ l)
    let waits := (List.range 4).any fun m => !had.contains m && s.cmdReady m && decide (s.lanePrio m = k)
    { s with rrLane := s.rrLane.set k ((l + 1) % 4), turned := if waits then had else had.filter fun m => s.lanePrio m ≠ k }
  else { s with turned := s.turned.filter (· ≠ l) }

/-- The open lane that changes its pennant for lane l has not done so yet (R78). -/
def State.swapPending (s : State) (l : Nat) : Bool :=
  match (s.lane l).swaps with
  | some m => (s.lane l).state = .opening && (s.lane m).isOpen && ((s.lane m).change.isSome || !s.laneReady m)
  | none => false

/-- A conflicting lane is in an exchange, or is ready and has the turn, or changes its pennant first, or the emulated tag is in a
transaction that this lane would disturb (R78, R81, R89). -/
def State.mustWait (s : State) (l : Nat) : Bool :=
  s.swapPending l ||
  (List.range 4).any (fun m => s.conflict l m && (s.inExchange m || (s.cmdReady m && decide (s.turnRank m < s.turnRank l)))) ||
    (s.assigned && s.tagBusy && decide (s.coil0Null (s.laneDrive l) < 200))

/-- The delay that puts the receive span of the queued command clear of blanking, in quanta from now (R125). -/
def State.deferral (s : State) (l : Nat) : Nat :=
  let e := (s.seq l).exch
  let span := s.rxSpan l e
  if span.2 = 0 then 0
  else s.clearDelay ((e.cycles (s.vMode l 0) + span.1) * quantaCarrier) (span.2 * quantaCarrier) 40 0

/-- The command goes on the air, its first edge at the drive pads now (R120; DEDUCED, log 218): its frame, the ports'
modulation, and the other lanes' replies that it may meet (R81, R82). -/
def State.transmit (s : State) (l : Nat) : State :=
  let x := s.seq l
  let e := x.exch
  let endT := s.now + e.cycles (s.vMode l 0) * quantaCarrier
  let s := s.takeTurn l
  let s := s.updSeq l fun x => { x with stage := .sending, t0 := s.now, endT := endT, planT0 := none, deferT := none }
  let s : State := { s with
    seqs := s.seqs.zipIdx.map fun (y : Seq × Nat) => if y.2 ≠ l ∧ y.1.stage = .reply then { y.1 with met := l :: y.1.met.filter fun m => m ≠ l } else y.1 }
  s.portsModulate l endT (s.firMode l e) e.tx

/-- The command of lane l may start: it waits for conflicting lanes, is deferred once or more while the total stays within
DEFER_MAX_US (without bound where R126 repeats an exchange), or starts (R81, R125, R126). WAIT_US counts all that it waits
for: conflicting lanes, which are all that Table 4-11 names, and also the emulated tag (R89) and another lane's change of
pennant (R78) (DESIGN CHOICE, log 248). -/
def State.commandStart (s : State) (l : Nat) : State :=
  let x := s.seq l
  if s.mustWait l then s.updLane l fun y => { y with waitT0 := some (y.waitT0.getD s.now) }
  else
    let s := s.endWait l
    let plan := x.planT0.getD s.now
    let d := s.deferral l
    if d ≠ 0 ∧ (x.clear ∨ (s.now - plan + d) * 10 ≤ s.hfSet l 9 * 347136) then
      let s := if x.deferT.isNone then s.bump 0x2560_08 else s
      s.updSeq l fun x => { x with planT0 := some plan, deferT := some (s.now + d) }
    else s.transmit l

def execCommandStart (l : Fin 4) (s : State) : Out :=
  nextWhen (s.cmdReady l && (match (s.seq l).deferT with | some t => decide (t ≤ s.now) | none => true)) s (s.commandStart l)

/-! ### Receive windows and replies -/

/-- The receive window opens at the earliest accepted start: the cancellers hold (R94, R121). -/
def State.windowOpens (s : State) (l : Nat) : State := (s.updSeq l fun x => { x with stage := .listening }).windowsOpened

def execReceiveWindowOpen (l : Fin 4) (s : State) : Out :=
  let x := s.seq l
  nextWhen (x.stage = .sending && decide (x.endT + (x.exch.window (s.vMode l 3)).1 * quantaCarrier ≤ s.now)) s (s.windowOpens l)

/-- The settings of lane l's combined stream: RX_THRESH, COLL_THRESH and SPATIAL_COLL belong to a lane, but a change of them takes
effect port by port (R117); the model takes those of the lane's first combining port (DESIGN CHOICE, log 220). -/
def State.rxCfg (s : State) (l i : Nat) : Nat := (s.rxp (((s.seq l).ports ++ s.combiningPorts).headD 0)).cfg.getD i 0

/-- Each combining port's noise is measured, once in an exchange, where the part of the receive window before a reply is at least
16 µs long (R114). -/
def State.noiseOver (s : State) (l : Nat) (measure : State → Nat → State) : State :=
  let x := s.seq l
  if x.stage = .listening && !x.noised && s.passedUs (x.endT + (x.exch.window (s.vMode l 3)).1 * quantaCarrier) 16 then
    (s.combiningPorts.foldl measure s).updSeq l fun y => { y with noised := true }
  else s

/-- A reply starts: in its window, or outside it and then discarded with TIMING (R121). The noise before it is measured where
that part is at least 16 µs long (R114). -/
def State.replyStarts (s : State) (l : Nat) (dens : List (BitVec 16)) : State :=
  let x := s.seq l
  let w := x.exch.window (s.vMode l 3)
  let s := (s.updSeq l fun x => { x with blanked := false }).capEdge 22 true (s.capStamp 0)
  let late := decide (x.stage = .sending) || decide (x.endT + w.2.1 * quantaCarrier < s.now)
  let others := (List.range 4).filter fun m => m ≠ l && ((s.seq m).stage = .reply || ((s.seq m).stage = .sending && decide (s.now < (s.seq m).endT)))
  let s := s.noiseOver l fun t p => t.noiseActive p (dens.getD p 0).toNat
  let s : State := { s with seqs := s.seqs.zipIdx.map fun (y : Seq × Nat) => if y.2 ≠ l ∧ y.1.stage = .reply then { y.1 with met := l :: y.1.met.filter fun m => m ≠ l } else y.1 }
  (s.updSeq l fun x => { x with stage := .reply, replyT := s.now, late := late, met := others, overloaded := false, ports := s.combiningPorts }).replyHolds

/-- The combined energy at the mode's sub-carrier stands above the lane's combined noise by so many 0.1 dB over one bit period: a
reply starts where that exceeds RX_THRESH (R107). The command's instant is that of the reply's first edge at the port terminals
(R120; DEDUCED, log 218). -/
def execReplyStart (l : Fin 4) (heard : BitVec 16 × List (BitVec 16)) (s : State) : Out :=
  let x := s.seq l
  nextWhen ((x.stage = .listening || (x.stage = .sending && decide (x.endT ≤ s.now))) && decide (s.rxCfg l 3 < heard.1.toNat)) s
    (s.replyStarts l heard.2)

/-- No valid start bit, SOF or preamble within two bit periods of a start: the start is discarded (R107). -/
def execFalseStart (l : Fin 4) (s : State) : Out :=
  let x := s.seq l
  nextWhen (x.stage = .reply && decide (x.replyT + 2 * x.exch.bitCycles (s.vMode l 3) * quantaCarrier ≤ s.now)) s
    ((s.bump 0x2411_03).updSeq l fun x => { x with stage := .listening, ports := [] })

/-- The positions of bits that stand in runs of two or more among those within a threshold (R110). -/
def runsOf (xs : List Nat) (thr : Nat) : List Nat :=
  (List.range xs.length).filter fun i =>
    let ok (j : Nat) : Bool := decide (xs.getD j (thr + 1) ≤ thr)
    ok i && ((decide (0 < i) && ok (i - 1)) || ok (i + 1))

/-- The collision tests of a reply (R109, R110): the bits marked by the coding, those marked by the direction, and whether the
mode marks bits. -/
def State.collisions (s : State) (l : Nat) (r : Reply) : List Nat × List Nat × Bool :=
  let e := (s.seq l).exch
  let manchester := decide (e.tech = 2) || (decide (e.tech = 0) && decide (e.ds = 0))
  let thr := s.rxCfg l 4
  let dual := decide (e.tech = 2) && s.vMode l 2
  let coding := if dual then (List.range r.subs.length).filter fun i => decide ((r.subs.getD i (thr + 1, thr + 1)).1 ≤ thr) || decide ((r.subs.getD i (thr + 1, thr + 1)).2 ≤ thr)
    else if manchester then (List.range r.halves.length).filter fun i => decide (r.halves.getD i (thr + 1) ≤ thr) else []
  let spatial := if s.rxCfg l 5 ≠ 0 ∧ 2 ≤ (s.seq l).ports.length then runsOf r.across (s.rxCfg l 5) else []
  (coding, spatial, manchester)

/-- The reply vector, 0 at every port that no longer combines (R103, R105). -/
def State.heldVector (s : State) (l : Nat) (r : Reply) : List (Int × Int) :=
  (List.range 8).map fun p => if (s.seq l).ports.contains p then r.vector.getD p (0, 0) else (0, 0)

/-- The reply ran wholly or partly through a blanking window (R126). -/
def State.throughBlank (s : State) (l : Nat) : Bool := s.inBlank || (s.seq l).blanked || s.blankedSince (s.seq l).replyT

/-- The status of a reply (Table 6-5, Table 6-8), the marked bits, and the counters of the receive chain, which count replies that
are decoded. Between 7.0 and 7.4 % of deviation either outcome occurs (R106). A decoded reply to HLTA is a NAK, whatever it holds
(Table 6-2). Where several statuses hold the spec gives no order but R111's; the model takes TIMING, SC_RANGE, OVERLOAD,
COLLISION, COLLISION_SUSPECTED, PARITY, CODING, CRC (DESIGN CHOICE, log 221). OD 2411/04 counts a reply once, however many runs
of its bits are flagged (DESIGN CHOICE, log 249). -/
def State.judge (s : State) (l : Nat) (r : Reply) : State × ExStatus × List Nat :=
  let x := s.seq l
  let dev := r.deviation.natAbs
  let (f, s) := if 70 < dev ∧ dev ≤ 74 then s.draw else (0, s)
  let out := decide (74 < dev) || (decide (70 < dev) && decide (f % 2 = 1))
  let decoded := !x.late && !out
  let (coding, spatial, marksBits) := if decoded then s.collisions l r else ([], [], false)
  let s := s.add 0x2411_05 coding.length
  let s := if spatial = [] then s else s.bump 0x2411_04
  let marks := if marksBits then coding ++ spatial else []
  let crcBad := (x.exch.crc || x.step = .vEof) && !crcHolds x.exch.tech r.data
  if x.late then (s, .timing, marks)
  else if out then (s.bump 0x2411_02, .scRange, marks)
  else if x.overloaded then (s.bump 0x2411_01, .overload, marks)
  else if x.exch.time = .hltA then (s, .ok, marks)
  else if marks ≠ [] then (s, .collision, marks)
  else if spatial ≠ [] then (s, .suspected, marks)
  else if !r.parity then (s, .parity, marks)
  else if !r.coding then (s, .coding, marks)
  else if crcBad then (s, .crc, marks)
  else (s, .ok, marks)

/-- The reply without its check bytes, where the mode has them. -/
def replyBody (x : Seq) (r : Reply) : List Byte :=
  if (x.exch.crc && decide (x.exch.time ≠ .hltA)) || x.step = .vEof then r.data.take (r.data.length - 2) else r.data

/-- A failed reply reaches the sequencer: the single repetitions of R82, R126 and R97 come first, then the rules for card errors
(R140, R141). One that both met another lane and ran through blanking is repeated for the lane first, and that repetition is not
placed clear of blanking (DESIGN CHOICE, log 252). -/
def State.failedReply (s : State) (l : Nat) (st : ExStatus) (blank : Bool) : State :=
  let x := s.seq l
  let corrupted := decide (st = .crc) || decide (st = .parity)
  let failsCheck := corrupted || decide (st = .coding) || decide (st = .timing) || decide (st = .scRange)
  if x.met ≠ [] && corrupted && !x.againMet then
    let s := (x.met.foldl (fun t m => t.markConflict l m) s).bump 0x2371_07
    ((s.countSpecial l).updSeq l fun x => { x with againMet := true, special := true }).repeatExch l
  else if blank && failsCheck && !x.againBlank then
    (((s.countSpecial l).updSeq l fun x => { x with againBlank := true, special := true }).repeatExch l).updSeq l fun x => { x with clear := true }
  else if st = .overload then
    if x.againOver then s.giveUp l st else (s.updSeq l fun x => { x with againOver := true }).repeatExch l
  else s.cardError l st

/-- The BCC of an anticollision reply does not hold (Table 6-5). -/
def badBcc (known : List Bool) (d : List Byte) : Bool :=
  let part := (8 - known.length % 8) % 8
  let all := known ++ (bytesToBits (d.take 1)).take part ++ bytesToBits (if part = 0 then d else d.drop 1)
  decide ((bitsToBytes (all.take 40)).foldl (fun a b => a ^^^ b) 0 ≠ 0)

/-- The frame that a host exchange in raw mode without CRC gets though it failed a check (R124). -/
def State.keepFailed (s : State) (l : Nat) (st : ExStatus) (r : Reply) : State :=
  let x := s.seq l
  let raw := decide (x.job = .host) && decide (x.step = .raw) && decide ((x.hostJob.getD (0, 0)).1 = 1)
  if raw && (st = .parity || st = .coding) then s.updSeq l fun x => { x with hostRx := r.data } else s

/-- A reply is complete (R124): judged, measured when correct (R80, R105), and delivered with its status. -/
def State.replyComplete (s : State) (l : Nat) (r : Reply) : State :=
  let x := s.seq l
  let blank := s.throughBlank l
  let v := s.heldVector l r
  let (s, st, marks) := (s.sense r.sensed).judge l r
  let st : ExStatus := if st = .ok ∧ x.step = .fPoll ∧ ¬ isPollingRes (replyBody x r) then .protocol else st
  let st : ExStatus := if st = .ok ∧ x.step = .aAntic ∧ blank ∧ ¬ x.againBlank ∧ badBcc x.known r.data then .coding else st
  let s := if blank then (s.bump 0x2560_09).raise 21 else s
  let more := x.step = .fPoll && decide (s.now < x.endT + (x.exch.window false).2.2 * quantaCarrier)
  let s := (s.updSeq l fun y => { y with stage := if more then .listening else .idle, lastEnd := s.now }).windowsClosed
  let s := if st = .ok then (s.measureReply l v).updSeq l fun y => { y with okT0 := s.now } else s
  let s :=
    if st = .ok then
      let t := (s.hfGood l (replyBody x r)).teachReply l v
      if x.step = .fPoll ∧ ¬ more then t.endRoundF l else t
    else if (st = .collision ∨ st = .suspected) ∧ x.exch.antic then
      let t := s.hfCollided l (replyBody x r) marks
      if x.step = .fPoll ∧ ¬ more then t.endRoundF l else t
    else (s.keepFailed l st r).failedReply l st blank
  if more ∧ (s.seq l).stage = .listening then s else s.exchEnd l

def execReplyComplete (l : Fin 4) (r : Reply) (s : State) : Out := nextWhen ((s.seq l).stage = .reply) s (s.replyComplete l r)

/-- The no-reply time passes (R121): an expected silence, or a TIMEOUT. The noise was measured over the window (R114). -/
def State.noReply (s : State) (l : Nat) (dens : List (BitVec 16)) (sensed : List Sensed) : State :=
  let x := s.seq l
  let s := s.noiseOver l fun t p => t.noiseActive p (dens.getD p 0).toNat
  let s := (s.sense sensed).updSeq l fun y => { y with hostRx := if y.step = .raw then [] else y.hostRx }
  let s := (s.updSeq l fun y => { y with stage := .idle, lastEnd := s.now }).windowsClosed
  (if x.quietMeansNone then s.hfSilent l else s.cardError l .timeout).exchEnd l

def execNoReplyDecision (q : Silence) (s : State) : Out :=
  let l : Nat := q.lane
  let x := s.seq l
  nextWhen (x.stage = .listening && decide (x.endT + (x.exch.window (s.vMode l 3)).2.2 * quantaCarrier ≤ s.now)) s (s.noReply l q.dens q.sensed)

/-- Frames lost with a port's emergency or fault end their exchanges with TX_ABORT: each is repeated once, when the lane's
ports are back in CARRIER (R47, R57, Table 6-8). -/
def State.absorbAborts (s : State) : State :=
  (List.range 4).foldl (fun t l =>
    if (t.lane l).txAbort then
      let x := t.seq l
      let t := t.updLane l fun y => { y with txAbort := false }
      if t.inExchange l then
        let t := (t.noiseOver l State.noiseDrawn).heldDrawn
        let t := (t.updSeq l fun y => { y with stage := .idle, lastEnd := t.now }).windowsClosed
        (if x.againAbort then (t.giveUp l .txAbort) else (t.updSeq l fun y => { y with againAbort := true }).repeatExch l).exchEnd l
      else t
    else t) s

/-! ### Presence (R139) -/

/-- The card whose check is due: the one longest unchecked. -/
def State.dueCard (s : State) (l : Nat) : Option Card :=
  (s.seq l).cards.foldl (fun (best : Option Card) c =>
    if s.passedMs c.checkT0 (s.nat 0x2501_01) then
      match best with
      | none => some c
      | some b => if c.checkT0 < b.checkT0 then some c else best
    else best) none

/-- A presence check falls due: made when the sequencer is free, not made during a host exchange (R139, R143). -/
def State.presenceCheck (s : State) (l : Nat) (c : Card) : State :=
  if (s.seq l).job = .host then
    s.updSeq l fun x => { x with cards := x.cards.map fun d => if d.ident = c.ident then { d with checkT0 := s.now } else d }
  else s.presenceStart l c

def execPresenceCheck (l : Fin 4) (s : State) : Out :=
  match s.dueCard l with
  | some c => nextWhen ((s.lane l).running && ((s.seq l).job = .none || (s.seq l).job = .host)) s (s.presenceCheck l c)
  | none => done s s

/-- PRESENCE_TIMEOUT_MS without a successful check: the cards that did not answer leave, and a lane that serves none closes
(R136, R139, Table 4-3). -/
def State.presenceTimeout (s : State) (l : Nat) : State :=
  let old (c : Card) : Bool := s.passedMs c.okT0 (s.nat 0x2501_02)
  let gone := ((s.seq l).cards.filter old) ++ (s.seq l).dropped.filter fun c => old c && !s.heldSomewhere c.ident
  let s := gone.foldl (fun t c => t.cardLeft l c) s
  let s := s.updSeq l fun x => { x with cards := x.cards.filter (fun c => !gone.contains c), dropped := x.dropped.filter fun c => !old c }
  if (s.seq l).cards.isEmpty then s.stopLane l else s

def execPresenceTimeout (l : Fin 4) (s : State) : Out :=
  let x := s.seq l
  let ms := s.nat 0x2501_02
  let quiet := x.guardDone && s.passedMs x.okT0 ms
  nextWhen ((s.lane l).running && ((x.cards ++ x.dropped).any (fun c => s.passedMs c.okT0 ms) || (x.cards.isEmpty && quiet && x.job ≠ .poll))) s
    (s.presenceTimeout l)

/-! ### Host requests (R128, R142) -/

/-- EXCH_CMD written 1 (R142). -/
def State.hostExchange (s : State) (l : Nat) : State :=
  let mode := s.nat (hfKey l 2)
  let s := s.setN (hfKey l 1) 1
  if ¬ (s.lane l).running ∨ (s.hostCard l mode).isNone then s.hostEnd l .noCard []
  else (s.updSeq l fun x => { x with hostJob := some (mode, s.now) }).nextJob l

/-- EXCH_CMD written 2 (R128): on an open lane a poll cycle at its next turn; on an IDLE lane a lane request for POLL_ZONE. A lane
that is CLOSING, open by R76 but with no turn to come, ends the request at once with REFUSED (DESIGN CHOICE, log 253). -/
def State.pollRequest (s : State) (l : Nat) : State :=
  let s := s.setN (hfKey l 1) 1
  if (s.lane l).running then (s.updSeq l fun x => { x with pollJob := true }).nextJob l
  else
    let z := s.nat (hfKey l 7)
    if (s.lane l).state = .idle ∧ z < 16 ∧ s.nat (zoneKey z 1) ≠ 0xFF then s.requestLane z (some l) none
    else (s.setN (hfKey l 1) 3).setN (hfKey l 5) 15

/-- A waiting or running host exchange exceeds EXCH_TIMEOUT_MS (R142). -/
def State.exchTimeout (s : State) (l : Nat) : State :=
  let x := s.seq l
  if x.job = .host then
    let s := s.noiseOver l State.noiseDrawn
    let s := (s.updSeq l fun y => { y with stage := .idle, lastEnd := s.now }).windowsClosed
    (s.hostDone l .timeout []).exchEnd l
  else s.hostEnd l .timeout []

def execExchTimeout (x : Fin 4 × List Sensed) (s : State) : Out :=
  let l : Nat := x.1
  match (s.seq l).hostJob with
  | some (_, t) => nextWhen (s.passedMs t (s.nat (hfKey l 6))) s ((s.sense x.2).exchTimeout l)
  | none => done s s

/-! ### The life of a lane (R76, R77, R83) -/

/-- A survey that was abandoned gives the receive paths it had taken back (R67, Table 5-2); the command does not bring what they
sense then. -/
def State.pathsBack (s was : State) : State :=
  if was.survey.phase = .driving ∧ s.survey.phase ≠ .driving then
    (List.range 8).foldl (fun t p => if (t.rxp p).cancel = .measure then (t.senseDrawn p).rxMeasured p else t) s
  else s

/-- A lane admitted for a request starts with a fresh sequencer; a host's request is answered where it is refused (R128). -/
def State.decideRequest (s : State) (r : LaneRequest) : State :=
  match s.admitLane r with
  | (t, some l) =>
    { ((t.pathsBack s).updSeq l fun _ => { byHost := r.lane.isSome, hostLane := r.lane.isSome, wakePort := r.wake, okT0 := s.now }) with rrZone := (r.zone + 1) % 16 }
  | (t, none) => match r.lane with
    | some l => ((t.pathsBack s).setN (hfKey l 1) 3).setN (hfKey l 5) 15
    | none => t.pathsBack s

/-- The requests of the ticks of 1 µs that have ended are decided together, a tick at a time (R77). -/
def State.laneAdmission (s : State) : State :=
  let due := s.requests.filter fun r => decide (r.t0 < s.now * 10 / 347136)
  let s : State := { s with requests := s.requests.filter fun r => !decide (r.t0 < s.now * 10 / 347136) }
  let ticks := (due.map fun r => r.t0).eraseDups
  ticks.foldl (fun t k => (t.requestOrder (due.filter fun r => r.t0 = k)).foldl (fun t r => t.decideRequest r) t) s

/-- The lane's number is free again: its sequencer is cleared, and host requests that waited on it end (R76, R142). -/
def State.laneFreed (s : State) (l : Nat) : State :=
  let x := s.seq l
  let s := if x.hostJob.isSome then s.hostEnd l .noCard [] else s
  let s := if x.byHost || x.pollJob || x.parked.any (fun p => p.byHost) then s.hostPollEnd l false .noCard else s
  let s := (x.dropped.filter fun c => !s.heldSomewhere c.ident).foldl (fun t c => t.cardLeft l c) s
  (s.laneIdle l).updSeq l fun _ => {}

/-- ADMIT_WAIT_MS passes without the grant: the lane goes to IDLE and the request is refused (Table 4-3, R77). -/
def State.admitExpired (s : State) (l : Nat) : State :=
  let byHost := (s.seq l).byHost
  let s := (List.range 8).foldl (fun t p => t.dropComponent p l) s
  let s := s.updSeq l fun x => { x with byHost := false }
  let s := if byHost then (s.setN (hfKey l 1) 3).setN (hfKey l 5) 15 else s
  (s.refuseLane 0x2371_04).laneFreed l

def execLiveNullRecompute (s : State) : Out := nextWhen s.liveDue s s.liveNull

end Sys2Proof.Machine
end

