-- ==== Sys2Proof/Machine/PortsCmd.lean ====
section
/-!
DEFINITION. The meanings of the field ports' commands (chapter 3): ramps, checks, faults and their rechecks, FIR sets, the
mask, test emissions; and what follows a write of a port's entries.
-/

namespace Sys2Proof.Machine

open Sys2Proof

/-! ### Ramps and transitions -/

/-- The charge is complete: the bridge is checked, and the port enters RAMP_UP or FAULT (Table 3-1). A ramp whose target came to
need more than the grant waits for it (R45). -/
def State.chargingComplete (s : State) (p : Nat) (bridgeOk : Bool) : State :=
  if bridgeOk then
    let waits := decide (s.held (.port p) < s.portNeeds p)
    s.updPort p fun x => { x.goes .rampUp s.nextWord with x0 := 0, hold := waits, waitT0 := if waits then some s.now else none }
  else s.portFault p 1

def execChargingComplete (p : Fin 8) (bridgeOk : Bool) (s : State) : Out :=
  nextWhen (decide ((s.port p).state = .charging) && decide (20 ≤ s.bias p)) s (s.chargingComplete p bridgeOk)

/-- The load and the current show an open: Re(Z) above 150 Ω, or too little current (Table 3-6). The load is in 0.01 Ω. -/
def openLoad (loadR : Nat) (lowCurrent : Bool) : Bool := decide (15000 < loadR) || lowCurrent

/-- The rows of a survey begin once all its ports stand in CARRIER (Table 4-1, step 3). -/
def State.surveyRows (s : State) : State :=
  let ps := (List.range 8).filter fun p => (s.port p).comps.any fun c => c.lane = 4
  if s.survey.phase = .driving && !s.survey.rows && ps ≠ [] && ps.all fun p => (s.port p).state.on then
    { s with survey := { s.survey with rows := true, rowT0 := s.now } }
  else s

/-- The port stands in CARRIER: A_lim and the claim follow the load, the noise figure starts, lanes take their carrier-on
stamps (R54, R55, R114, R122). -/
def State.carrierOn (s : State) (p : Nat) : State :=
  let s := (s.countWait p).updPort p fun x => { x.goes .carrier s.nextWord with
    checkT0 := s.now, downFrom := none, lower := false, emergency := false, hold := false
    comps := x.comps.filter fun c => c.planned || c.out.isSome }
  let s := s.surveyRows
  (((s.relimit p).portClaim p).noiseStart p).stampCarriers

/-- RAMP_UP ends: the load is measured; an open ramps down into FAULT; else CARRIER (Table 3-1, R55). -/
def State.rampUpComplete (s : State) (p loadR : Nat) (loadX : Int) (lowCurrent : Bool) : State :=
  let s := ((s.setN (portKey p 2 5) loadR).setI (portKey p 2 6) loadX).updPort p fun x => { x with measured := true }
  if openLoad loadR lowCurrent then (s.portFaultRamp p 2).absorbAborts else s.carrierOn p

def execRampUpComplete (p : Fin 8) (loadR loadX : BitVec 16) (lowCurrent : Bool) (s : State) : Out :=
  nextWhen (decide ((s.port p).state = .rampUp) && decide (s.rampPos p = 65536) && (!(s.port p).hold || decide (s.portNeeds p ≤ s.held (.port p)))) s
    (s.rampUpComplete p loadR.toNat loadX.toInt lowCurrent)

/-- The ramp has come down to the lower target it was reversed to (R45). -/
def State.reachedLower (s : State) (p : Nat) : Bool :=
  let x := s.port p
  x.lower && x.inUse && decide (s.ampBase p ≤ s.rampTarget p)

/-- RAMP_DOWN ends: into FAULT where a fault led to it, into CARRIER at a lower target, else into OFF (Tables 3-1, 3-6). -/
def State.rampDownComplete (s : State) (p : Nat) : State :=
  match (s.port p).faultNext with
  | some code => s.portFault p code
  | none => if s.reachedLower p then s.carrierOn p else s.portOff p

def execRampDownComplete (p : Fin 8) (s : State) : Out :=
  nextWhen (decide ((s.port p).state = .rampDown) && (decide (s.rampPos p = 0) || ((s.port p).faultNext.isNone && s.reachedLower p))) s
    (s.rampDownComplete p)

/-- A component's ramp or transition ends (R41, R42). -/
def execComponentTransitionEnd (p : Fin 8) (lane : Fin 6) (s : State) : Out :=
  nextWhen (((s.port p).state.on || (s.port p).state = .rampUp) && (s.port p).comps.any fun c => c.lane = lane.val && s.componentDone p c) s
    (s.settleComponent p lane).stampCarriers

/-! ### Frames (R53) -/

/-- The factory set that Table 3-10 gives a mode as its default. -/
def defaultSet (mode : Nat) : Nat := ([0, 1, 1, 2, 3, 3, 4, 4, 5, 5, 6, 6] : List Nat).getD (mode - 1) 0

/-- The mask monitor judges a frame: eight in a row above the mask revert the mode to its factory set (R53). -/
def State.maskMonitor (s : State) (p mode : Nat) (above : Bool) : State :=
  if !s.flag 0x2280_04 then s
  else
    let n := if above then (s.port p).exceeds.getD (mode - 1) 0 + 1 else 0
    let s := s.updPort p fun x => { x with exceeds := x.exceeds.set (mode - 1) (if 8 ≤ n then 0 else n) }
    if n < 8 then s
    else (((s.setN (portKey p 4 mode) (defaultSet mode)).bump (portKey p 3 6)).bump 0x22A1_01).raisePort 4 p

/-- The FIR tail of a frame ends, 64 carrier cycles after its last edge; with no frame left the port returns to CARRIER
(Table 3-1). -/
def State.firTailEnd (s : State) (p lane mode : Nat) (above : Bool) : State :=
  let s := s.maskMonitor p mode above
  let s := s.updPort p fun x => { x with frames := x.frames.filter fun f => f.1 ≠ lane }
  if (s.port p).frames = [] then s.frameEnded p else s

def execFirTailEnd (p : Fin 8) (lane : Fin 4) (above : Bool) (s : State) : Out :=
  match (s.port p).frames.find? fun f => f.1 = lane.val with
  | some f => nextWhen (decide ((s.port p).state = .modulating) && decide (f.2.1 + 64 * quantaCarrier ≤ s.now)) s (s.firTailEnd p lane f.2.2 above)
  | none => done s s

/-! ### Checks and faults (R55 to R59) -/

/-- A port fault of Table 3-6: 1 and 4 at once, 2 and 5 through the 2 µs ramp, 3 through an emergency. -/
def State.faultDetect (s : State) (p code : Nat) : State :=
  if (s.port p).state = .fault ∨ code = 0 then s
  else (if code = 1 ∨ code = 4 then s.portFault p code else s.portFaultRamp p code).absorbAborts

def execPortFaultDetect (p : Fin 8) (code : Fin 6) (s : State) : Out := done s (s.faultDetect p code)

/-- R59: the 100th 1 ms check in a row beyond LOAD_WARN_PCT raises event 6 and asks for a survey. A check that a high output
brought forward is no 1 ms check and neither lengthens nor breaks the run. -/
def State.loadWarn (s : State) (p loadR : Nat) : State :=
  let nom := s.nat (portKey p 0 2) * 10
  let off := decide (nom * s.nat 0x2280_05 < ((loadR : Int) - nom).natAbs * 100)
  let n := if off then min 101 ((s.port p).deviant + 1) else 0
  let s := s.updPort p fun x => { x with deviant := n }
  if n = 100 then (s.raisePort 6 p).requestSurvey else s

/-- A bridge temperature in 0.1 °C is measured (OD 22p2/0B): at 110 °C it raises event 7, once until it has been lower (R59). -/
def State.bridgeTemp (s : State) (p : Nat) (temp : Int) : State :=
  let hot := decide (1100 ≤ temp)
  let was := (s.port p).hot
  let s := (s.setI (portKey p 2 11) temp).updPort p fun x => { x with hot := hot }
  if hot && !was then s.raisePort 7 p else s

/-- The 1 ms check of a driving port, or one that its output brought forward (R55, R57, R59): the load in 0.01 Ω, the output in
mW, the bridge in 0.1 °C. A bridge at 130 °C is a thermal fault, an open load at a 1 ms check an open (Table 3-6). A check that
finds both takes the open, and a second fault that comes during the 2 µs ramp replaces the code that the ramp leads to: the
rule gives no order (DESIGN CHOICE, log 244). -/
def State.loadCheck (s : State) (p loadR : Nat) (loadX : Int) (power : Nat) (temp : Int) (lowCurrent : Bool) : State :=
  let s := (((s.setN (portKey p 2 5) loadR).setI (portKey p 2 6) loadX).setN (portKey p 2 7) power).bridgeTemp p temp
  let due := s.passedMs (s.port p).checkT0 1
  let s := s.updPort p fun x => { x with measured := true, checkT0 := if due then s.now else x.checkT0 }
  let s := if due then s.loadWarn p loadR else s
  if due && openLoad loadR lowCurrent then (s.portFaultRamp p 2).absorbAborts
  else if 1300 ≤ temp then (s.portFaultRamp p 3).absorbAborts
  else (s.relimit p).portClaim p

/-- The 1 ms check falls due, or a measured output above P_lim brings it forward (R55). -/
def execPortLoadCheck (p : Fin 8) (loadR loadX power temp : BitVec 16) (lowCurrent : Bool) (s : State) : Out :=
  nextWhen ((s.port p).state.on && (s.passedMs (s.port p).checkT0 1 || decide (s.pLim p < ((power.toNat : Nat) : Rat)))) s
    (s.loadCheck p loadR.toNat loadX.toInt power.toNat temp.toInt lowCurrent)

/-- The port returns from FAULT to OFF (R58): event 1, covers and Frond follow, a survey is requested (R70). -/
def State.portRecovered (s : State) (p : Nat) : State :=
  let q := s.biasAt p s.nextWord
  let s := s.updPort p fun x => { x.goes .off s.nextWord with bias0 := q, series := none, passes := 0, rechecks := 0 }
  let s := (s.setN (portKey p 2 2) 0).updFrond p fun f => { f with relearn := true }
  ((s.raisePort 1 p).coverAll).requestSurvey

/-- A recheck of the immediate series: each must pass (R58). -/
def State.seriesRecheck (s : State) (p t0 n : Nat) (pass : Bool) : State :=
  let every := s.nat 0x2280_03
  let skipped := s.sinceUs (s.port p).faultT0 / (every * 1000000)
  if !pass then s.updPort p fun x => { x with series := none, passes := 0, rechecks := skipped, recheckT0 := s.now }
  else if n + 1 = 3 then s.portRecovered p
  else s.updPort p fun x => { x with series := some (t0, n + 1) }

/-- A recheck on the RECHECK_S schedule: three passes in a row clear the fault (R58). -/
def State.scheduledRecheck (s : State) (p : Nat) (pass : Bool) : State :=
  let n := if pass then (s.port p).passes + 1 else 0
  if n = 3 then s.portRecovered p else s.updPort p fun x => { x with passes := n, rechecks := x.rechecks + 1, recheckT0 := s.now }

/-- The probe shows neither short nor open, and after a thermal fault the bridge is below 100 °C (R58; log 13). -/
def State.recheckPasses (s : State) (p : Nat) (pass : Bool) (temp : Int) : Bool :=
  pass && (decide (s.nat (portKey p 2 2) ≠ 3) || decide (temp < 1000))

/-- A point of port p's schedule, a whole multiple of RECHECK_S after its entry to FAULT, has come since its last recheck (R58). -/
def State.scheduleDue (s : State) (p : Nat) : Bool :=
  let x := s.port p
  let every := s.nat 0x2280_03 * 1_000_000 * 347136
  decide ((x.recheckT0 - x.faultT0) * 10 / every < (s.now - x.faultT0) * 10 / every)

/-- A new RECHECK_S governs the points of the schedule that are to come (R58). -/
def State.recheckRebased (s : State) : State :=
  { s with ports := s.ports.map fun x => if x.state = .fault then { x with recheckT0 := s.now } else x }

/-- A recheck of port p is due: of the running series, or on the schedule (R58). -/
def State.recheckDue (s : State) (p : Nat) : Bool :=
  let x := s.port p
  x.state = .fault && match x.series with
    | some (t0, n) => s.passedMs t0 (10 * n)
    | none => s.scheduleDue p

def State.faultRecheck (s : State) (p : Nat) (pass : Bool) (temp : Int) : State :=
  let s := s.bridgeTemp p temp
  let ok := s.recheckPasses p pass temp
  match (s.port p).series with
  | some (t0, n) => s.seriesRecheck p t0 n ok
  | none => s.scheduledRecheck p ok

def execFaultRecheck (p : Fin 8) (pass : Bool) (temp : BitVec 16) (s : State) : Out :=
  nextWhen (s.recheckDue p) s (s.faultRecheck p pass temp.toInt)

/-! ### FIR sets and the mask (R51, R52) -/

def firKey (set sub : Nat) : Nat := 0x2290_00 + 0x100 * set + sub

/-- The sum of 32 Q2.14 coefficients (R51). -/
def firSum (b : List Byte) : Int := (List.range 32).foldl (fun m i => m + iAt b (2 * i) 2) 0

/-- The modes of OD 22p4 to which some port maps a set. -/
def State.mappedModes (s : State) (set : Nat) : List Nat :=
  (List.range 12).filterMap fun m => if (List.range 8).any (fun p => s.nat (portKey p 4 (m + 1)) = set) then some (m + 1) else none

/-- The worst margin of coefficients over some modes (R52). -/
def State.worstMargin (s : State) (coef : List Byte) (modes : List Nat) : Int :=
  modes.foldl (fun (w : Int) m => min w (Config.firMargin coef (s.oct 0x22A0_01) m)) 32767

/-- A set or a mapping is refused: event 5 and OD 22A1/02 (R52). -/
def State.firReject (s : State) : State := (s.bump 0x22A1_02).raise 5

/-- The mappings that wait behind the check of a set that is refused name a rejected set: each is refused with it (R52). -/
def State.dropMaps (s : State) (set : Nat) : State :=
  let n := (s.fir.filter fun (d : FirCheck) => decide (d.set = set) && d.map.isSome).length
  let s : State := { s with fir := s.fir.filter fun (d : FirCheck) => !(decide (d.set = set) && d.map.isSome) }
  let s := if s.fir.any fun d => d.set = set then s else s.setN (firKey set 2) 2
  (List.range n).foldl (fun (t : State) _ => t.firReject) s

/-- The check of a set ends (R52): the written coefficients or the mapping are taken up or refused. -/
def State.firChecked (s : State) (c : FirCheck) : State :=
  let s := { s with fir := s.fir.erase c }
  let old := s.oct (firKey c.set 1)
  let coef := c.coef.getD old
  let modes := match c.map with
    | some (_, m) => m :: (s.mappedModes c.set).filter fun n => n ≠ m
    | none => s.mappedModes c.set
  let margin : Int := s.worstMargin coef modes
  let pending := s.fir.any fun d => d.set = c.set
  let ok := decide (0 ≤ margin)
  let status := if pending then 1 else if ok then 0 else if c.coef.isSome then 2 else 0
  let s := s.setN (firKey c.set 2) status
  if !ok then (if c.coef.isSome then s.dropMaps c.set else s).firReject
  else
    let s := if modes = [] then s else s.setI (firKey c.set 4) (clampI (-32768) 32767 margin)
    let others := if c.coef.isSome then s.firOk.filter (fun x => x.1 ≠ c.set) else s.firOk
    let s : State := { (s.setO (firKey c.set 1) coef) with firOk := modes.map (fun m => (c.set, m)) ++ others }
    let s := s.setN (firKey c.set 3) (Config.firDelay coef % 65536)
    match c.map with
    | some (p, m) => s.setN (portKey p 4 m) c.set
    | none => s

/-- The check of set `set` that began first ends, at most 5 ms after it began (R52). -/
def execFirCheckDone (set : Fin 16) (s : State) : Out :=
  match s.fir.find? fun c => c.set = set.val with
  | some c => done s (s.firChecked c)
  | none => done s s

/-- A write of coefficients starts their check; the entry keeps the old ones meanwhile (R52). -/
def State.firSetWritten (s : State) (set : Nat) (coef : List Byte) : State :=
  ({ s with fir := (s.fir.filter fun (c : FirCheck) => !(decide (c.set = set) && c.coef.isSome)) ++ [{ set := set, t0 := s.now, coef := some coef }] } : State).setN
    (firKey set 2) 1

/-- The pair of set and mode needs no check: it has passed one, or is a default of Table 3-10. -/
def State.firKnown (s : State) (set mode : Nat) : Bool :=
  s.firOk.contains (set, mode) || (decide (set = defaultSet mode) && !s.fir.any fun c => c.set = set)

/-- A write of a FIR map entry: taken at once where the pair has passed its check, else when the check that it starts ends
(R52). -/
def State.firMapWritten (s : State) (p mode set : Nat) : State :=
  if s.firKnown set mode then s.setN (portKey p 4 mode) set
  else ({ s with fir := s.fir ++ [{ set := set, t0 := s.now, map := some (p, mode) }] } : State).setN (firKey set 2) 1

/-- A write of the mask re-checks every mapped set; a mapping that fails reverts to its default (R52). -/
def State.maskWritten (s : State) : State :=
  let ok (set m : Nat) (t : State) : Bool := decide (0 ≤ Config.firMargin (t.oct (firKey set 1)) (t.oct 0x22A0_01) m)
  let s := (List.range 8).foldl (fun t p => (List.range 12).foldl (fun t i =>
    if ok (t.nat (portKey p 4 (i + 1))) (i + 1) t then t else t.setN (portKey p 4 (i + 1)) (defaultSet (i + 1))) t) s
  let pairs := (List.range 8).flatMap fun p => (List.range 12).map fun i => (s.nat (portKey p 4 (i + 1)), i + 1)
  let s : State := { s with firOk := pairs.eraseDups }
  (List.range 16).foldl (fun t set =>
    let ms := t.mappedModes set
    if ms = [] then t else t.setI (firKey set 4) (clampI (-32768) 32767 (t.worstMargin (t.oct (firKey set 1)) ms))) s

/-! ### Test emissions and service (R48, R63) -/

/-- Some lane has a component on port p. -/
def State.servesCard (s : State) (p : Nat) : Bool := (s.port p).comps.any fun c => decide (c.lane < 4)

/-- Everything that uses port p is withdrawn. -/
def State.clearPort (s : State) (p : Nat) : State := ((s.port p).comps.map Component.lane).eraseDups.foldl (fun t l => t.dropComponent p l) s

/-- Every lane, and the survey, leaves port p. -/
def State.clearLanes (s : State) (p : Nat) : State :=
  (((s.port p).comps.map Component.lane).eraseDups.filter fun l => l ≠ 5).foldl (fun t l => t.dropComponent p l) s

/-- TEST_MODE of port p has its new value (R63): the test alone drives the port, in mode 2 keyed with its pattern (R50); at its
end the port returns to service. -/
def State.testModeSet (s : State) (p : Nat) : State :=
  if s.nat (portKey p 5 1) = 0 then ((s.dropComponent p 5).updFrond p fun f => { f with relearn := true }).coverAll
  else
    let s := ((s.clearLanes p).updPort p fun x => { x with testT0 := s.now }).coverAll
    s.putComponent p 5 (s.nat (portKey p 5 2)) 0

def execPortTestTimeEnd (p : Fin 8) (s : State) : Out :=
  nextWhen (decide (s.nat (portKey p 5 1) ≠ 0) && s.passedS (s.port p).testT0 (s.nat (portKey p 5 3))) s
    ((s.setN (portKey p 5 1) 0).testModeSet p)

/-- IN_SERVICE of port p has its new value (R48). -/
def State.serviceSet (s : State) (p : Nat) : State :=
  if s.flag (portKey p 0 1) then (s.updFrond p fun f => { f with relearn := true }).coverAll else (s.clearPort p).coverAll

/-! ### Dictionary writes of indices 2200 to 22FF -/

/-- The output of port p now, in mW (R47). -/
def State.outputNow (s : State) (p : Nat) : Rat :=
  powerMw (((s.ampNow p : Nat) : Rat) * ((s.ampNow p : Nat) : Rat)) (s.loadOf s.plannedDrive p)

/-- FIELD_CAP of port p has its new value: below the present output it is an emergency (R47, R54, R55). -/
def State.fieldCapWritten (s : State) (p : Nat) : State :=
  if ((s.portCap p : Nat) : Rat) < s.outputNow p then ((s.portEmergency p).portClaim p).absorbAborts
  else if (s.port p).state.live then (s.relimit p).portClaim p else s

/-- Checks beyond range (R51, R52, R58, R63). -/
def State.portsCheck (s : State) (k : Nat) (v : Val) : Status :=
  let i := k / 256
  let p := (i - 0x2200) / 16
  if 0x2200 ≤ i ∧ i < 0x2280 then
    match i % 16, k % 256 with
    | 2, 2 => if v.int = 0 then .ok else .range
    | 4, _ => let st := s.nat (firKey v.int.toNat 2); if st = 2 ∨ st = 3 then .state else .ok
    | 5, 1 => if s.servesCard p then .state else .ok
    | _, _ => .ok
  else if 0x2298 ≤ i ∧ i < 0x22A0 ∧ k % 256 = 1 then
    if 16368 ≤ firSum v.octets ∧ firSum v.octets ≤ 16400 then .ok else .range
  else .ok

/-- What an accepted write stores: coefficients and mappings wait for their check, FAULT_CODE stays. -/
def State.portsMerge (s : State) (k : Nat) (v : Val) : Val :=
  let i := k / 256
  if 0x2200 ≤ i ∧ i < 0x2280 ∧ (i % 16 = 4 ∨ (i % 16 = 2 ∧ k % 256 = 2)) then s.val k
  else if 0x2298 ≤ i ∧ i < 0x22A0 ∧ k % 256 = 1 then s.val k
  else v

/-- A mapping refused by its set's status raises event 5 and is counted (R52). -/
def State.portsRefused (s : State) (k : Nat) (st : Status) : State :=
  let i := k / 256
  if 0x2200 ≤ i ∧ i < 0x2280 ∧ i % 16 = 4 ∧ st = .state then s.firReject else s

/-- What follows an accepted write of value v at key k. -/
def State.portsWritten (s : State) (k : Nat) (v : Val) : State :=
  let i := k / 256
  let p := (i - 0x2200) / 16
  if 0x2200 ≤ i ∧ i < 0x2280 then
    match i % 16, k % 256 with
    | 0, 1 => s.serviceSet p
    | 1, 1 => s.fieldCapWritten p
    | 2, 2 => if (s.port p).state = .fault then s.updPort p fun x => { x with series := some (s.now, 0) } else s
    | 4, m => s.firMapWritten p m v.int.toNat
    | 5, 1 => s.testModeSet p
    | 5, 2 => if s.nat (portKey p 5 1) = 0 then s else s.putComponent p 5 (s.nat (portKey p 5 2)) 0
    | _, _ => s
  else if 0x2298 ≤ i ∧ i < 0x22A0 ∧ k % 256 = 1 then s.firSetWritten (i - 0x2290) v.octets
  else if k = 0x22A0_01 then s.maskWritten
  else if k = 0x2280_03 then s.recheckRebased
  else s

end Sys2Proof.Machine
end

