-- ==== Sys2Proof/Machine/Survey.lean ====
section
/-!
DEFINITION. The survey (R65 to R70), what follows a write of pennants, zones and the survey's entries (R71, R74, R92), and
the closing of lanes, when deferred writes take effect.
-/

namespace Sys2Proof.Machine

open Sys2Proof

/-! ### Starting a survey (R66) -/

/-- The ports that take part in a survey (R65). -/
def State.surveyed (s : State) : List Nat := (List.range 8).filter fun p => !s.unavailable p

/-- An acting occurrence of slot w falls within `us` microseconds from now, or is open. -/
def State.actsWithin (s : State) (w us : Nat) : Bool :=
  let b := s.burgeeSpec w
  let (start, susp) := s.burgeeStart w
  s.burgeeOpen w || (s.burgeeActs w && !susp && decide ((s.ma.burgee.getD w {}).skip = 0) &&
    [false, true].any fun half => (!half || b.half) &&
      decide (angleAhead ((start + if half then 0x8000 else 0) % 65536) s.angle ≤ s.unitsOfUs us))

/-- An acting Frond occurrence falls within `us` microseconds (R66). -/
def State.frondWithin (s : State) (us : Nat) : Bool :=
  (List.range 8).any fun p => (s.frond p).state ≠ .off && ((s.frond p).ping.isSome || s.actsWithin (s.nat (frondKey p 12)) us)

/-- No blanking window starts or stands within `us` microseconds (R66). -/
def State.clearFor (s : State) (us : Nat) : Bool := !s.blankAhead.any (s.spanMeets 0 (usQuanta us))

/-- The conditions of R66. -/
def State.surveyMayStart (s : State) : Bool :=
  s.survey.phase = .requested && s.openLanes.isEmpty && s.ports.all (fun x => !x.inUse) && s.clearFor 2400 && !s.frondWithin 2400 &&
    !(s.assigned && s.tagBusy)

/-- Steps 1 and 2 begin: every surveyed port asks for SURVEY_AMP; tracking cancellers lend their paths (R65, Table 5-2). -/
def State.surveyStart (s : State) : State :=
  let s := { s with survey := { s.survey with phase := .driving, t0 := s.now, rows := false, fell := none, again := false } }
  let s := s.surveyed.foldl (fun t p => t.putComponent p 4 (t.nat 0x2340_03) 0) s
  (List.range 8).foldl (fun t p => t.rxMeasure p) s

def execSurveyStart (s : State) : Out := nextWhen (s.phase = .service && s.surveyMayStart) s s.surveyStart

/-- SURVEY_PERIOD has passed since the last periodic request (R70). -/
def execSurveyPeriodExpiry (s : State) : Out :=
  nextWhen (decide (s.nat 0x2340_02 ≠ 0) && s.passedS s.survey.periodT0 (s.nat 0x2340_02)) s
    { s.requestSurvey with survey := { s.requestSurvey.survey with periodT0 := s.now } }

/-! ### Solving (R65, R68) -/

/-- The matrix M with response = M cause in each of the eight steps, solved from all eight (R65): entries 8 s + p of `cause` and
`resp` are step s, port p. The columns are those of the ports ps that drove, the others 0; with fewer than eight of them the
squares of the misfit are least. None where the steps do not fix it. -/
def solveSteps (ps : List Nat) (cause resp : List (Int × Int)) : Option CMat :=
  let x (s p : Nat) : Cx := Cx.ofInts (cause.getD (8 * s + p) (0, 0))
  let y (s i : Nat) : Cx := Cx.ofInts (resp.getD (8 * s + i) (0, 0))
  let allSteps (f : Nat → Cx) : Cx := (List.range 8).foldl (fun m s => m.add (f s)) Cx.zero
  let rows : CMat := ps.map fun a => (ps.map fun b => allSteps fun s => (x s a).conj.mul (x s b)) ++
    (List.range 8).map fun i => allSteps fun s => (x s a).conj.mul (y s i)
  (solveRows ps.length rows).map fun w => (List.range 8).map fun i => (List.range 8).map fun j =>
    match ps.idxOf? j with
    | some a => w.at_ a i
    | none => Cx.zero

/-- A matrix row by row in whole units of 1/k, rounded to the nearest. -/
def wholeRows (k : Nat) (m : CMat) : List (Int × Int) :=
  m.flatMap fun row => row.map fun z => ((z.re * (k : Rat) + 1 / 2).floor, (z.im * (k : Rat) + 1 / 2).floor)

/-- What a survey measured in its eight steps at its eight ports, entry 8 s + p: drive voltages and coil voltages in µV, drive
currents and coil currents in nA (R65). -/
structure Measured where
  driveV : List (Int × Int)
  driveI : List (Int × Int)
  coilV : List (Int × Int)
  coilI : List (Int × Int)
deriving DecidableEq, Repr, Inhabited

/-- Y in 0.01 mA/V, Z in µΩ and drive currents over drive voltages in nS, solved from the measurements of the ports ps (R65). -/
def Measured.solve (m : Measured) (ps : List Nat) : Option (List (Int × Int) × List (Int × Int) × List (Int × Int)) :=
  match solveSteps ps m.driveV m.coilI, solveSteps ps m.coilI m.coilV, solveSteps ps m.driveV m.driveI with
  | some y, some z, some d => some (wholeRows 100 y, wholeRows 1_000_000_000 z, wholeRows 1_000_000 d)
  | _, _, _ => none

/-- The ports that the survey drove, once its step 4 has begun. -/
def State.surveyPorts (s : State) : List Nat := s.survey.fell.getD []

/-- The last row is integrated, eight rows of 295 µs having run: step 4 begins, and the survey's components leave the ports
(Table 4-1). -/
def State.surveyFall (s : State) : State :=
  if s.survey.phase = .driving && s.survey.rows && s.survey.fell.isNone && s.passedUs s.survey.rowT0 2360 then
    let ps := (List.range 8).filter fun p => (s.port p).comps.any fun c => c.lane = 4
    (List.range 8).foldl (fun t p => t.dropComponent p 4) ({ s with survey := { s.survey with fell := some ps } } : State)
  else s

/-- The ports of the survey have ramped down to OFF: step 5 begins, which no lane request abandons, and the receive paths go back
(Table 4-1, R67, Table 5-2). -/
def State.surveyDown (s : State) : State :=
  if s.survey.phase = .driving && s.survey.fell.isSome && s.surveyPorts.all fun p => !(s.port p).state.live then
    (List.range 8).foldl (fun t p => if (t.rxp p).cancel = .measure then (t.senseDrawn p).rxMeasured p else t)
      ({ s with survey := { s.survey with phase := .solving } } : State)
  else s

/-- The survey's steps that follow from time and from its ports (Table 4-1). -/
def State.surveyFollow (s : State) : State := s.surveyFall.surveyDown

/-- The entries of a matrix whose row and column are both among the ports ps. -/
def among (ps : List Nat) (z : List (Int × Int)) : List (Int × Int) :=
  (List.range 64).map fun n => if ps.contains (n / 8) && ps.contains (n % 8) then z.getD n (0, 0) else (0, 0)

/-- New entries in the columns of the ports ps, old ones in the others (DESIGN CHOICE, log 215). -/
def withColumns (ps : List Nat) (old new : List (Int × Int)) : List (Int × Int) :=
  (List.range 64).map fun n => if ps.contains (n % 8) then new.getD n (0, 0) else old.getD n (0, 0)

/-- |z|² of an integer pair. -/
def normSqI (z : Int × Int) : Int := z.1 * z.1 + z.2 * z.2

/-- The mismatch of an off-diagonal pair of Z, squared, and the larger of the two magnitudes, squared. -/
def pairError (z : List (Int × Int)) (i j : Nat) : Int × Int :=
  let a := z.getD (8 * i + j) (0, 0)
  let b := z.getD (8 * j + i) (0, 0)
  (normSqI (a.1 - b.1, a.2 - b.2), max (normSqI a) (normSqI b))

/-- The off-diagonal pairs with |Z[i][j]| of at least 0.5 Ω, in µΩ (R68). -/
def bigPairs (z : List (Int × Int)) : List (Nat × Nat) :=
  ((List.range 8).flatMap fun i => (List.range 8).map fun j => (i, j)).filter fun x =>
    x.1 ≠ x.2 && decide (500000 * 500000 ≤ normSqI (z.getD (8 * x.1 + x.2) (0, 0)))

/-- Z is reciprocal within 3 % (R68). -/
def reciprocal (z : List (Int × Int)) : Bool := (bigPairs z).all fun x => decide ((pairError z x.1 x.2).1 * 10000 ≤ 9 * (pairError z x.1 x.2).2)

/-- RECIP_ERR: the worst mismatch in 0.1 %, rounded down. -/
def recipErr (z : List (Int × Int)) : Nat :=
  (bigPairs z).foldl (fun w x => let e := pairError z x.1 x.2; max w (isqrt (e.1 * 1000000 / e.2).toNat)) 0

/-- The ports whose rows are kept: Frond PRESENT, and a self-impedance more than 2 % away from the previous one (R68). -/
def State.keptRows (s : State) (z : List (Int × Int)) : List Nat :=
  (List.range 8).filter fun p => s.survey.accepted && (s.frond p).state = .present &&
    let old := s.survey.z.getD (9 * p) (0, 0)
    let new := z.getD (9 * p) (0, 0)
    decide (4 * normSqI old < normSqI (new.1 - old.1, new.2 - old.2) * 10000)

/-- New entries, with the rows and columns of the kept ports from the old ones. -/
def mixRows (kept : List Nat) (old new : List (Int × Int)) : List (Int × Int) :=
  (List.range 64).map fun n => if kept.contains (n / 8) || kept.contains (n % 8) then old.getD n (0, 0) else new.getD n (0, 0)

/-- K_MATRIX: k[i][j] = Im Z[i][j] / (ω √(L_i L_j)) in Q1.15, rounded down (R69). -/
def State.couplings (s : State) (z : List (Int × Int)) : List Byte :=
  (List.range 64).flatMap fun n =>
    let l := isqrt (s.nat (0x2342_01 + n / 8) * s.nat (0x2342_01 + n % 8) * 10 ^ 12)
    leBytesI 2 (clampI (-32768) 32767 ((z.getD n (0, 0)).2 * 32768 * 10 ^ 10 / (851999927 * (l : Int))))

/-- Y as stored. -/
def State.storedY (s : State) : List (Int × Int) :=
  (List.range 64).map fun n => (iAt (s.oct 0x2341_01) (4 * n) 2, iAt (s.oct 0x2341_01) (4 * n + 2) 2)

/-- A complex number held within I16. -/
def clampPair (v : Int × Int) : Int × Int := (clampI (-32768) 32767 v.1, clampI (-32768) 32767 v.2)

/-- The survey is accepted, wholly or partly (R68): it is stored, pennants are computed again and are STALE no more, cancellers take
the new coefficients, covers follow. -/
def State.surveyAccept (s : State) (y z yd : List (Int × Int)) : State :=
  let kept := s.keptRows z
  let oldY := s.storedY
  let y := y.map clampPair
  let y := mixRows kept oldY y
  let z := mixRows kept s.survey.z z
  let yd := mixRows kept s.survey.yd yd
  let s := { s with survey := { s.survey with accepted := true, z := z, yd := yd } }
  let s := (s.setO 0x2341_01 (y.flatMap fun v => leBytesI 2 v.1 ++ leBytesI 2 v.2)).setO 0x2341_02 (s.couplings z)
  let s := ((s.bump 0x2340_04).setN 0x2340_05 s.tb64).setN 0x2340_06 (if kept = [] then 1 else 5)
  let s := (List.range 64).foldl (fun t n => if t.nat (penKey n 2) = 0xFF then t else t.recompute n) s
  s.rxNewMatrix.coverAll.raise 8

/-- A result is rejected: the matrices stay, event 9 (R68). -/
def State.surveyReject (s : State) : State := ((s.setN 0x2340_06 2).bump 0x2340_07).raise 9

/-- Step 5: Y and Z are solved from the measurements and checked (R65, R68). A result that cannot be solved is rejected, as
one that is not reciprocal is (DESIGN CHOICE, log 215). -/
def State.surveySolve (s : State) (m : Measured) : State :=
  let ps := s.surveyPorts
  let s := match m.solve ps with
    | none => s.surveyReject
    | some (y, z, yd) =>
      let s := s.setN 0x2341_03 (min 65535 (recipErr (among ps z)))
      if reciprocal (among ps z) then
        s.surveyAccept (withColumns ps s.storedY y) (withColumns ps s.survey.z z) (withColumns ps s.survey.yd yd)
      else s.surveyReject
  s.surveyOver

/-- The survey has driven its ports and they are in OFF: step 5 (Table 4-1). -/
def State.surveyDriven (s : State) : Bool := s.survey.phase = .solving

def execSurveySolve (drive coil : List (Int × Int) × List (Int × Int)) (sensed : List Sensed) (s : State) : Out :=
  nextWhen s.surveyDriven s ((s.sense sensed).surveySolve ⟨drive.1, drive.2, coil.1, coil.2⟩)

/-- SURVEY_WAIT: the seconds the pending survey has waited (R67). -/
def State.surveyWait (s : State) : Nat := if s.survey.phase = .requested then min 65535 (s.sinceUs s.survey.t0 / 1000000) else 0

/-- PORT0_NULL: the worst predicted coil-0 null of the lanes' drives while port 0 is the tag's, in 0.1 dB (R89). -/
def State.port0Null (s : State) : Nat :=
  if s.assigned then match s.openLanes with
    | [] => 0
    | ls => (ls.foldl (fun m l => min m (s.coil0Null (s.laneDrive l))) 2000).toNat
  else 0

/-! ### Dictionary writes of indices 2300 to 23FF -/

/-- The length of a reference vector is within 0.99 to 1.01 (R71). -/
def refLengthOk (b : List Byte) : Bool :=
  let n := ((vecOf b).map normSqI).foldl (· + ·) 0
  decide (99 * 99 * 32768 * 32768 ≤ n * 10000) && decide (n * 10000 ≤ 101 * 101 * 32768 * 32768)

/-- Checks beyond range: the length of REF_VECTOR, and NOMINAL naming a pennant of its zone without nulls (R71, Table
4-10). -/
def State.pennantsCheck (s : State) (k : Nat) (v : Val) : Status :=
  if 0x2350_00 ≤ k ∧ k < 0x2360_00 then
    let z := k / 256 - 0x2350
    let n := v.int.toNat
    match k % 256 with
    | 2 => if n = 0xFF ∨ (s.nat (penKey n 2) = z ∧ s.pennantNulls n = []) then .ok else .range
    | 5 => if refLengthOk v.octets then .ok else .range
    | _ => .ok
  else .ok

/-- res. bits of PAIRS read 0 (Table 4-8); commands keep their reading. -/
def State.pennantsMerge (s : State) (k : Nat) (v : Val) : Val :=
  if 0x2300_00 ≤ k ∧ k < 0x2340_00 ∧ k % 256 = 7 then .oct (pairBytes (pairsOf v.octets))
  else if k = 0x2340_01 then s.val k
  else v

/-- A write to this entry waits for the lane that uses the pennant or the zone (R92). -/
def State.defers (s : State) (k : Nat) : Bool :=
  if 0x2300_00 ≤ k ∧ k < 0x2340_00 then s.lanes.any fun x => x.isOpen && decide (x.pennant = k / 256 - 0x2300)
  else if 0x2350_00 ≤ k ∧ k < 0x2360_00 then s.lanes.any fun x => x.isOpen && decide (x.zone = k / 256 - 0x2350)
  else false

/-- What follows a value that pennant n, or zone z, has taken (R71, R72, R74, R87, R88). -/
def State.pennantsTaken (s : State) (k : Nat) : State :=
  if 0x2300_00 ≤ k ∧ k < 0x2340_00 then
    let n := k / 256 - 0x2300
    (if k % 256 = 7 then s.setN (penKey n 3) 2 else s).recomputeLater n
  else if 0x2350_00 ≤ k ∧ k < 0x2360_00 then
    let z := k / 256 - 0x2350
    match k % 256 with
    | 1 | 4 | 5 => s.recomputeZone z
    | 2 | 9 | 11 => ((s.pennantsOf z).foldl (fun t n => t.refreshPennant n) s).coverZone z
    | 6 => s.teachStart z
    | _ => s
  else if k = 0x2340_01 then s.requestSurvey
  else if k = 0x2340_02 then { s with survey := { s.survey with periodT0 := s.now } }
  else s

/-- The writes whose pennant or zone no open lane uses any more take effect, in the order written (R92). -/
def State.takeDeferred (s : State) : State :=
  let ready := s.deferred.filter fun x => !s.defers x.1
  let s : State := { s with deferred := s.deferred.filter fun x => s.defers x.1 }
  ready.foldl (fun t x => (t.put x.1 (t.pennantsMerge x.1 x.2)).pennantsTaken x.1) s

/-! ### Lanes that close -/

def execLaneClosed (l : Fin 4) (s : State) : Out := nextWhen (s.laneGone l) s (s.laneFreed l).takeDeferred

/-- The grant of some port of the lane has not come within ADMIT_WAIT_MS (Table 4-3). -/
def execAdmitWaitExpiry (l : Fin 4) (s : State) : Out :=
  nextWhen ((s.lane l).state = .opening && s.passedMs (s.lane l).t0 (s.nat 0x2370_05) &&
    (List.range 8).any (fun p => ((s.port p).state = .off || decide (s.held (.port p) < s.portNeeds p)) && (s.port p).comps.any fun c => c.lane = l)) s (s.admitExpired l).takeDeferred

end Sys2Proof.Machine
end

