-- ==== Sys2Proof/Machine/Frond.lean ====
section
/-!
DEFINITION. Frond (chapter 7): placing, making and deciding pings, baselines, states, classes and wakes; and the assignment
of port 0 to the emulated tag (R187).
-/

namespace Sys2Proof.Machine

open Sys2Proof

/-! ### Port 0 for the tag (R187) -/

/-- Port 0 is assigned to the tag: out of service for everything else, with event 43. -/
def State.assignTag (s : State) : State :=
  if s.assigned then s
  else
    let s := ({ s with assigned := true }).clearPort 0
    ((((s.rxOff 0).narrow).coverAll).updTag fun t => { t with fieldT0 := s.now }).raise 43

/-- Port 0 returns to service (R188), with event 43. -/
def State.releaseTag (s : State) : State := (({ s with assigned := false }).coverAll).raise 43

/-! ### Booking (R151) -/

/-- PERIOD of a requested rate: ceil(2F / RATE_HZ) − 1, F in 0.01 Hz. -/
def pingPeriod (nominal rate : Nat) : Nat := (2 * nominal + 100 * rate - 1) / (100 * rate) - 1

/-- The window of port p. -/
def State.frondWindow (s : State) (p : Nat) : BurgeeSpec :=
  let float := s.nat 0x2600_06
  { start := (s.nat 0x2600_03 + p * s.nat 0x2600_04) % 65536, len := s.nat 0x2600_05, owner := 1
    flags := 3 + if float ≠ 0 then 4 else 0, period := pingPeriod (s.nat 0x2100_01) (s.nat (frondKey p 1)), ports := 2 ^ p, float := float }

/-- Give up port p's window. -/
def State.frondUnbook (s : State) (p : Nat) : State :=
  let w := s.nat (frondKey p 12)
  if w = 0xFF then s else (s.burgeeFree w).setN (frondKey p 12) 0xFF

/-- Port p's window is booked anew, and its rate reported, to the nearest (Table 7-6 rounds so); a refused booking leaves the port
unpinged. -/
def State.frondBook (s : State) (p : Nat) : State :=
  let s := s.frondUnbook p
  if !s.bit 0x2600_01 p then s.setN (frondKey p 2) 0
  else match s.burgeeBook (s.frondWindow p) with
    | (t, some w) => (t.setN (frondKey p 12) w).setN (frondKey p 2) ((2 * t.nat 0x2100_01 + ((t.frondWindow p).period + 1) / 2) / ((t.frondWindow p).period + 1))
    | (t, none) => t.setN (frondKey p 2) 0

/-- Every window is booked anew: the old ones are given up first, the lowest port takes the lowest slot. -/
def State.frondWindows (s : State) : State :=
  let s := (List.range 8).foldl (fun t p => t.frondUnbook p) s
  (List.range 8).foldl (fun t p => t.frondBook p) s

/-- Every window is booked anew, and the states follow. -/
def State.frondBookAll (s : State) : State := s.frondWindows.frondFollowAll

/-! ### Starting pings (R147 to R154) -/

/-- The burgee slot of port p, and the opening of its present acting occurrence. -/
def State.frondOpening (s : State) (p : Nat) : Option Nat :=
  let w := s.nat (frondKey p 12)
  if s.burgeeOpen w then (s.ma.burgee.getD w {}).openAt else none

/-- A ping that starts now ends its probe inside the window: 3.2 µs are left (R152). -/
def State.pingFits (s : State) (p : Nat) : Bool :=
  decide ((32 * s.ma.rate * 65536 + 9_999_999_999_999) / 10_000_000_000_000 ≤ s.burgeeLeft (s.nat (frondKey p 12)))

/-- Since quanta t0 nothing on any port has modulated or been in transition (R152, R154). -/
def State.quietSince (s : State) (t0 : Nat) : Bool :=
  (List.range 8).all fun p =>
    let x := s.port p
    !x.stirs && !s.clampMoves p && decide (x.stirT0 ≤ t0) &&
      (decide (x.clampFrom = x.clampTo) || decide (x.clampT0 + usQuanta (s.nat 0x2280_01) ≤ t0))

/-- Nothing modulates or is in transition, and nothing has been for the last 2.0 µs (R152). -/
def State.quiet (s : State) : Bool := s.quietSince (s.now - usQuanta 2)

/-- A ping is in progress on some port (R153). -/
def State.pinging (s : State) : Bool := s.fronds.any fun f => f.ping.isSome

/-- No ping is in progress, nor was one in the 2.0 µs for which the front end of the next one wakes and listens (R153). -/
def State.pathsFree (s : State) : Bool := s.fronds.all fun f => f.ping.isNone && s.passedUs f.overT0 2

/-- A free ping of port p is due: an acting occurrence is open that has had none, and the port is OFF or CHARGING (R152, R154). -/
def State.freePingDue (s : State) (p : Nat) : Bool :=
  (s.frond p).state ≠ .off && s.frondRuns p && (s.frondOpening p).isSome &&
    decide ((s.frond p).handled ≠ s.frondOpening p) && ((s.port p).state = .off || (s.port p).state = .charging)

/-- It may start now. -/
def State.freePingReady (s : State) (p : Nat) : Bool :=
  s.freePingDue p && s.pingFits p && !s.inBlank && s.quiet && s.pathsFree && ((s.rxp p).cancel = .off || (s.rxp p).cancel = .track)

/-- Port p is in a lane. -/
def State.inLane (s : State) (p : Nat) : Bool := (s.port p).comps.any fun c => decide (c.lane < 4)

/-- A lane ping of port p is due: since an occurrence opened for the port in a lane, or since the port came into a lane while
an open occurrence had no ping yet, which then waits for CARRIER (R154, Table 7-1). -/
def State.lanePingDue (s : State) (p : Nat) : Bool :=
  (s.frond p).laneDue ||
    ((s.frond p).state ≠ .off && s.frondRuns p && s.inLane p && (s.frondOpening p).isSome && decide ((s.frond p).handled ≠ s.frondOpening p))

/-- A lane ping of port p is due and may be made now: the port is in a lane and in CARRIER, in a gap between the exchanges of its
lanes, outside blanking, with nothing modulating or in transition (R154). -/
def State.lanePingReady (s : State) (p : Nat) : Bool :=
  s.lanePingDue p && s.inLane p && (s.port p).state = .carrier && !s.inBlank && s.quietSince s.now && !s.pinging &&
    (s.port p).comps.all fun c => decide (4 ≤ c.lane) || !s.inExchange c.lane

/-- The pings of two ports that are ready at once: the lower port goes first (R153). -/
def State.lowerPing (s : State) (p : Nat) : Bool := (List.range p).any fun q => s.freePingReady q || s.lanePingReady q

/-- A ping that starts now, with the thresholds that stand now (R165). -/
def State.newPing (s : State) (p : Nat) (lane track ext : Bool) : Ping :=
  { t0 := s.now, inLane := lane, track := track, ext := ext
    on := s.nat (frondKey p 3), off := s.nat (frondKey p 4), delta := s.nat 0x2600_10 }

/-- A self-test slice on port p's driver, probe or receive path yields to a ping (R162, R379). -/
def State.pingYields (s : State) (p : Nat) : State := (s.sliceYield 7 (· = p)).sliceYield 6 (· = p)

/-- A free ping starts (R147, R148): a tracking canceller lends the path; an external field of EXT_MV or more, in mV, met with
the canceller OFF keeps the probe back (R159). -/
def State.freePing (s : State) (p extMv : Nat) : State :=
  let track := (s.rxp p).cancel = .track
  let ping := s.newPing p false track (!track && decide (s.nat 0x2600_0B ≤ extMv))
  (s.updFrond p fun f => { f with ping := some ping, handled := s.frondOpening p, laneDue := false }).rxMeasure p

def execFreePing (p : Fin 8) (extMv : BitVec 8) (s : State) : Out :=
  nextWhen (s.freePingReady p && !s.lowerPing p) s ((s.freePing p extMv.toNat).pingYields p)

/-- An occurrence passes without its ping: counted, and noted at the eighth in a row (R152, R154, R164). -/
def State.frondSkip (s : State) (p : Nat) : State :=
  let n := (s.frond p).skips + 1
  let s := (s.updFrond p fun f => { f with skips := n }).bump (frondKey p 14)
  if n = 8 then s.raisePort 34 p else s

/-- The open occurrence of port p has had its ping or was skipped. -/
def State.frondHandled (s : State) (p : Nat) : State := s.updFrond p fun f => { f with handled := s.frondOpening p }

/-- The open occurrence of port p gets no free ping: no start is left by 3.2 µs before the window closes (R152), or a calibration
outage holds the port, whose occurrences count although the port is unavailable (R162). -/
def State.skipDue (s : State) (p : Nat) : Bool :=
  (s.frondOpening p).isSome && !(s.frond p).laneDue && decide ((s.frond p).handled ≠ s.frondOpening p) &&
    (((s.frond p).state ≠ .off && s.frondRuns p && !s.pingFits p) || (s.port p).outage)

/-- The open occurrence ends without a free ping: it is skipped, or the ping goes on waiting as a lane ping of the lane that the
port has come into (R152, R154, Table 7-1). -/
def State.frondPasses (s : State) (p : Nat) : State :=
  (if s.lanePingDue p then s.updFrond p fun f => { f with laneDue := true } else s.frondSkip p).frondHandled p

def execFrondOccurrenceSkip (p : Fin 8) (s : State) : Out := nextWhen (s.skipDue p) s (s.frondPasses p)

/-- A lane ping starts: the port's own carrier is measured, and a tracking canceller lends the path (R147, Table 5-2). -/
def State.lanePing (s : State) (p : Nat) : State :=
  (s.updFrond p fun f => { f with ping := some (s.newPing p true false false), laneDue := false, handled := s.frondOpening p }).rxMeasure p

def execLanePing (p : Fin 8) (s : State) : Out := nextWhen (s.lanePingReady p && !s.lowerPing p) s ((s.lanePing p).pingYields p)

/-! ### Decisions (R155 to R161) -/

/-- |z|² against a threshold in 0.01 % of |B|, both in pΩ. -/
def atLeast (z b : Int × Int) (thr : Nat) : Bool := decide ((thr * thr : Nat) * normSqI b ≤ normSqI z * 100000000)
def atMost (z b : Int × Int) (thr : Nat) : Bool := decide (normSqI z * 100000000 ≤ (thr * thr : Nat) * normSqI b)

/-- A threshold as a ping uses it: with a tracking canceller at least 0.10 % (R157). -/
def thresholdOf (track : Bool) (thr : Nat) : Nat := if track then max 10 thr else thr

/-- Eight bytes in BASELINE layout, µΩ, of a value in pΩ. -/
def baseBytes (b : Int × Int) : List Byte := leBytesI 4 (b.1 / 1000000) ++ leBytesI 4 (b.2 / 1000000)

/-- Table 7-5: the class of an angle in 0.1°. -/
def State.classOf (s : State) (deg : Int) : Nat :=
  if s.int 0x2600_07 ≤ deg ∧ deg < s.int 0x2600_08 then 1
  else if s.int 0x2600_08 ≤ deg ∧ deg < s.int 0x2600_09 then 2
  else if s.int 0x2600_0A ≤ deg ∧ deg < s.int 0x2600_07 then 3
  else 5

/-- DETUNE_MAG in 0.001 % and DETUNE_ANGLE of Z − B. Where the manual defines none (B of 0, no detuning) a free value stands
(log 72). -/
def State.writeDetune (s : State) (p : Nat) (z b : Int × Int) : State :=
  let (fm, s) := if b = (0, 0) then s.draw else (0, s)
  let (fa, s) := if b = (0, 0) ∨ z = (0, 0) then s.draw else (0, s)
  let mag := if b = (0, 0) then fm % 65536 else min 65535 (isqrt (normSqI z * 10000000000 / normSqI b).toNat)
  let ang : Int := if b = (0, 0) ∨ z = (0, 0) then (fa % 3600 : Nat) - 1799 else deciDegrees (Cx.ofInts z)
  (s.setN (frondKey p 9) mag).setI (frondKey p 10) ang

/-- The zone whose PRIMARY is p is to be read (R160, R161): no request while a lane serves it; merged where a neighbouring
zone asked within WAKE_MERGE_US. -/
def State.frondWake (s : State) (p : Nat) : State :=
  match s.zoneOfPort p with
  | none => s
  | some z =>
    if s.lanes.any (fun x => x.isOpen && decide (x.zone = z)) then s
    else if s.wakes.any fun w => (s.nat (zoneKey w.1 11)).testBit p && decide ((s.now - w.2) * 10 ≤ s.nat 0x2600_0C * 347136) then
      s.bump (frondKey p 16)
    else
      let s : State := { s with wakes := (z, s.now) :: s.wakes.filter fun w => w.1 ≠ z }
      ((s.bump (frondKey p 15)).requestLane z none (some p)).raisePort 30 p

/-- The action that ACTIONS sets for a class. -/
def State.actionOf (s : State) (p cls : Nat) : Nat :=
  let a := s.nat (frondKey p 6)
  match cls with
  | 1 => a % 4
  | 2 => a / 4 % 4
  | 3 => a / 16 % 4
  | _ => a / 64 % 4

/-- Entry to PRESENT with a class (R158, R160). An external field at port 0 hands the port to the tag where TAG_MODE lets a
powered module emulate it. -/
def State.frondPresent (s : State) (p cls : Nat) : State :=
  let s := (s.updFrond p fun f => { f with state := .present, cls := cls, onRun := 0, offRun := 0 }).raisePort 28 p
  if cls = 4 then
    let s := s.raisePort 31 p
    if p = 0 ∧ s.nat 0x2701_01 = 1 then (s.assignTag).raisePort 30 p else s
  else if s.actionOf p cls = 1 then s.frondWake p else s

/-- Entry to ABSENT from PRESENT or DISARMED (event 29). -/
def State.frondAbsent (s : State) (p : Nat) : State :=
  (s.updFrond p fun f => { f with state := .absent, cls := 0, onRun := 0, offRun := 0 }).raisePort 29 p

/-- DRIFT_LIMIT is exceeded for the first time since the last LEARN: event 35 (R156). -/
def State.frondDrift (s : State) (p : Nat) : State :=
  let b := (s.frond p).base
  let r := s.oct (frondKey p 19)
  let ref : Int × Int := (iAt r 0 4 * 1000000, iAt r 4 4 * 1000000)
  let beyond := !atMost (b.1 - ref.1, b.2 - ref.2) ref (s.nat 0x2600_11)
  if beyond && !(s.frond p).drifted then (s.updFrond p fun f => { f with drifted := true }).raisePort 35 p else s

/-- B is stored, at most once in 60 s, when it has moved by more than 0.05 % since the last store (R155). -/
def State.storeBase (s : State) (p : Nat) : State :=
  let f := s.frond p
  let was := (s.storedBase p).getD (0, 0)
  if (f.storeT0.all fun t => s.passedS t 60) && !atMost (f.base.1 - was.1, f.base.2 - was.2) was 5 then
    (s.setO (frondKey p 11) (baseBytes f.base)).updFrond p fun f => { f with storeT0 := some s.now }
  else s

/-- The baseline follows a quiet ping: B ← B + (Z − B) / 2^BASE_SHIFT (R155). -/
def State.updateBase (s : State) (p : Nat) (z : Int × Int) : State :=
  let k : Int := 2 ^ s.nat 0x2600_0D
  let s := s.updFrond p fun f => { f with base := (f.base.1 + (z.1 - f.base.1) / k, f.base.2 + (z.2 - f.base.2) / k) }
  (s.storeBase p).frondDrift p

/-- A ping of LEARN: the mean of LEARN_PINGS becomes B and BASE_REF (R156), and B is stored as R155 lets it. -/
def State.learnPing (s : State) (p : Nat) (z : Int × Int) : State :=
  let f := s.frond p
  let n := f.learned + 1
  let sum := (f.sum.1 + z.1, f.sum.2 + z.2)
  if n < s.nat 0x2600_0E then s.updFrond p fun f => { f with sum := sum, learned := n }
  else
    let b := (sum.1 / n, sum.2 / n)
    let s := s.updFrond p fun f => { f with state := .absent, base := b, sum := (0, 0), learned := 0, drifted := false, onRun := 0, offRun := 0 }
    (s.setO (frondKey p 19) (baseBytes b)).storeBase p

/-- The object in DISARMED joins the baseline: B ← Z of this ping (Table 7-4, events 35 and 29). -/
def State.disarmAbsorb (s : State) (p : Nat) (z : Int × Int) : State :=
  let s := s.updFrond p fun f => { f with base := z, absorb := false }
  (((s.storeBase p).raisePort 35 p).frondDrift p).frondAbsent p

/-- The transitions of a free ping with Z − B = d (Table 7-4). An external field takes a port from ABSENT, DISARMED, or PRESENT
with another class, into PRESENT with class EXTERNAL (R159). Of several causes that a ping in DISARMED meets, a new object goes
before the absorption, and that before ABSENT (DESIGN CHOICE, log 275). -/
def State.frondDecide (s : State) (p : Nat) (ping : Ping) (z d : Int × Int) : State :=
  let f := s.frond p
  let on := thresholdOf ping.track ping.on
  let off := thresholdOf ping.track ping.off
  match f.state with
  | .learn => if ping.track || ping.ext then s else s.learnPing p z
  | .absent =>
    if ping.ext then s.frondPresent p 4
    else if atLeast d f.base on && decide (d ≠ (0, 0)) then
      if s.nat (frondKey p 5) ≤ f.onRun + 1 then s.frondPresent p (s.classOf (deciDegrees (Cx.ofInts d)))
      else s.updFrond p fun f => { f with onRun := f.onRun + 1 }
    else
      let s := s.updFrond p fun f => { f with onRun := 0 }
      if !ping.track && !atLeast d f.base ping.off then s.updateBase p z else s
  | .present =>
    if ping.ext then (if f.cls = 4 then s.updFrond p fun f => { f with offRun := 0 } else s.frondPresent p 4)
    else if atMost d f.base off then
      if 2 ≤ f.offRun + 1 then s.frondAbsent p else s.updFrond p fun f => { f with offRun := f.offRun + 1 }
    else s.updFrond p fun f => { f with offRun := 0 }
  | .disarmed =>
    if ping.ext then s.frondPresent p 4
    else
      let e := (d.1 - f.ref.1, d.2 - f.ref.2)
      if atLeast e f.base on && decide (e ≠ (0, 0)) then s.frondPresent p (if d = (0, 0) then 5 else s.classOf (deciDegrees (Cx.ofInts d)))
      else if f.absorb then s.disarmAbsorb p z
      else if atMost d f.base off then
        if 2 ≤ f.offRun + 1 then s.frondAbsent p else s.updFrond p fun f => { f with offRun := f.offRun + 1 }
      else s.updFrond p fun f => { f with offRun := 0 }
  | .off => s

/-- A lane ping is compared with the first one in each lane that the port is in: event 33 beyond LANE_DELTA of any (Table 7-8);
where the port's lanes have none yet, it is their first. -/
def State.laneDecide (s : State) (p : Nat) (ping : Ping) (d : Int × Int) : State :=
  let ls := (((s.port p).comps.map Component.lane).filter (· < 4)).eraseDups
  let first := (s.frond p).laneFirst
  let moved := first.any fun x => ls.contains x.1 && !atMost (d.1 - x.2.1, d.2 - x.2.2) (s.frond p).base ping.delta
  let s := s.updFrond p fun f => { f with laneFirst := first ++ (ls.filter fun l => !first.any fun x => x.1 = l).map fun l => (l, d) }
  if moved then s.raisePort 33 p else s

/-- A ping is decided (R146, R157); Z in µΩ. -/
def State.pingDecision (s : State) (p : Nat) (ping : Ping) (zu : Int × Int) : State :=
  let z := (zu.1 * 1000000, zu.2 * 1000000)
  let b := (s.frond p).base
  let d := (z.1 - b.1, z.2 - b.2)
  let learning := (s.frond p).state = .learn
  let s := (s.updFrond p fun f => { f with
    ping := none, overT0 := s.now, skips := 0, relearn := false, last := if ping.ext then f.last else d }).bump (frondKey p 13)
  let s := if ping.ext then s else (s.setO (frondKey p 18) (leBytesI 4 zu.1 ++ leBytesI 4 zu.2)).writeDetune p d b
  let s := s.rxMeasured p
  if ping.inLane then (if learning then s else s.laneDecide p ping d) else s.frondDecide p ping z d

/-- A ping that something on a port broke into does not count as made: for a port in a lane a lane ping is due; a free one may be
made again while the occurrence is open, and is skipped where it has closed meanwhile (R152, R154; DESIGN CHOICE, log 222). -/
def State.pingSpoiled (s : State) (p : Nat) (ping : Ping) : State :=
  let s := (s.pingDropped p).updFrond p fun f => { f with handled := none, laneDue := ping.inLane || s.inLane p }
  if (s.frond p).laneDue || (s.frondOpening p).isSome then s else s.frondSkip p

/-- The decision falls 5.2 µs after the ping's start: 3.2 µs of probe or integration, 2.0 µs to decide (Table 7-1). -/
def execFrondPingDecision (p : Fin 8) (z : BitVec 32 × BitVec 32) (sensed : List Sensed) (s : State) : Out :=
  match (s.frond p).ping with
  | some ping => nextWhen (decide (52 * 347136 ≤ (s.now - ping.t0) * 100)) s
      (if s.quietSince ping.t0 then (s.sense sensed).pingDecision p ping (z.1.toInt, z.2.toInt) else (s.sense sensed).pingSpoiled p ping)
  | none => done s s

/-- DISARM_ABSORB_S has passed in DISARMED: the object is absorbed at the decision of the next free ping, whose Z becomes B
(R157, Table 7-4). -/
def execDisarmAbsorb (p : Fin 8) (s : State) : Out :=
  nextWhen ((s.frond p).state = .disarmed && decide (s.nat 0x2600_0F ≠ 0) && s.passedS (s.frond p).disarmT0 (s.nat 0x2600_0F)) s
    (s.updFrond p fun f => { f with absorb := true })

/-! ### Occurrences that act -/

/-- The occurrence of slot w that has just opened acts for its owner: a Frond port in a lane is due a lane ping, and one still
due is skipped (R154); a poll window asks for the zones of its ports that have no open lane (R127). -/
def State.occurrenceActs (s : State) (w : Nat) : State :=
  let b := s.burgeeSpec w
  match b.owner with
  | 1 =>
    (List.range 8).foldl (fun t p =>
      if t.nat (frondKey p 12) = w ∧ (t.frond p).state ≠ .off then
        let t := if (t.frond p).laneDue then t.frondSkip p else t
        t.updFrond p fun f => { f with laneDue := t.inLane p }
      else t) s
  | 2 =>
    (List.range 16).foldl (fun t z =>
      let p := t.nat (zoneKey z 1)
      if p < 8 ∧ b.ports.testBit p ∧ !t.lanes.any (fun x => x.isOpen && decide (x.zone = z)) then t.requestLane z none none else t) s
  | _ => s

def execBurgeeOccurrence (w : Fin 32) (half : Bool) (s : State) : Out :=
  nextWhen (s.occurrenceNow w half) s
    (let t := s.occurrence w half false
     if t.burgeeOpen w && decide ((t.ma.burgee.getD w {}).openAt = some s.ma32) then t.occurrenceActs w else t)

/-! ### Idle noise (R113) -/

def execNoiseMeasurement (dens : List (BitVec 16)) (s : State) : Out :=
  nextWhen (s.passedMs s.noiseT0 (s.nat 0x2410_07) && s.noCarrier && !s.pinging && !(s.assigned && s.tagBusy)) s
    ((List.range 8).foldl (fun t p => t.noisePort p (dens.getD p 0).toNat) ({ s with noiseT0 := s.now }.learnHear (dens.map BitVec.toNat)))

/-! ### Dictionary writes of indices 2600 to 26FF -/

/-- Checks beyond range: the order of the class bounds (R158) and of the two thresholds (Table 7-10). -/
def State.frondCheck (s : State) (k : Nat) (v : Val) : Status :=
  let s' := s.put k v
  if 0x2600_07 ≤ k ∧ k ≤ 0x2600_0A then
    if s'.int 0x2600_0A < s'.int 0x2600_07 ∧ s'.int 0x2600_07 < s'.int 0x2600_08 ∧ s'.int 0x2600_08 < s'.int 0x2600_09 then .ok else .range
  else if 0x2610_00 ≤ k ∧ k < 0x2618_00 ∧ (k % 256 = 3 ∨ k % 256 = 4) then
    let p := k / 256 - 0x2610
    if s'.nat (frondKey p 4) < s'.nat (frondKey p 3) then .ok else .range
  else .ok

/-- BASE_RESET reads 0 (Table 7-10). -/
def State.frondMerge (s : State) (k : Nat) (v : Val) : Val :=
  if 0x2610_00 ≤ k ∧ k < 0x2618_00 ∧ k % 256 = 20 then s.val k else v

/-- What follows an accepted write. -/
def State.frondWritten (s old : State) (k : Nat) (v : Val) : State :=
  if k = 0x2600_01 then
    ((List.range 8).foldl (fun t p => if t.bit k p = old.bit k p then t else t.frondBook p) s).frondFollowAll
  else if 0x2600_03 ≤ k ∧ k ≤ 0x2600_06 then s.frondBookAll
  else if 0x2610_00 ≤ k ∧ k < 0x2618_00 then
    let p := k / 256 - 0x2610
    match k % 256 with
    | 1 => (s.frondBook p).frondFollowAll
    | 20 => if v.int = 1 ∧ (s.frond p).state ≠ .off then
        s.updFrond p fun f => { f with state := .learn, cls := 0, sum := (0, 0), learned := 0 } else s
    | _ => s
  else s

end Sys2Proof.Machine
end

