-- ==== Sys2Proof/Machine/Audit.lean ====
section
/-!
DEFINITION. Roles of accesses (R353), the audit ring (R364 to R367) and event 93 (R375).
-/

namespace Sys2Proof.Machine

open Sys2Proof

/-! ### Roles -/

/-- The code of a role (Table 17-2). -/
def roleCode : Role → Nat
  | .operator => 0
  | .installer => 1
  | .maker => 2

def roleOfCode (n : Nat) : Role := if n = 1 then .installer else if n = 2 then .maker else .operator

def sessIndex : Sess → Nat
  | .spi => 0
  | .uart => 1

def State.session (s : State) (x : Sess) : Session := s.sessions.getD (sessIndex x) {}

def State.updSession (s : State) (x : Sess) (f : Session → Session) : State := { s with sessions := s.sessions.modify (sessIndex x) f }

/-- The session of a local access. -/
def sessOf? : Who → Option Sess
  | .spi => some .spi
  | .uart => some .uart
  | _ => none

/-- The role that an access carries (R353). -/
def State.roleOf (s : State) : Who → Role
  | .spi => (s.session .spi).role
  | .uart => (s.session .uart).role
  | .remote _ r => r
  | .rules => .operator
  | .staged r => r

/-- SOURCE and NODE of an access (Table 17-2); a rule action makes no record. -/
def sourceOf : Who → Nat × Nat
  | .spi => (0, 0)
  | .uart => (1, 0)
  | .remote n _ => (2, n)
  | .staged _ => (3, 0)
  | .rules => (5, 0)

/-- Event 93 with its cause (R375). -/
def State.security (s : State) (reason : Nat) : State := (s.setN 0x1812_04 reason).raise 93

/-! ### The ring -/

/-- The powered-time stamp: POWERED_S and POWER_CYCLES (R243). -/
def State.poweredStamp (s : State) : List Byte := leBytes 4 (s.nat 0x2A01_01) ++ leBytes 4 (s.nat 0x2A01_02)

/-- What one audit record says beside its number, its stamp and its CRC. -/
structure AuditEntry where
  role : Nat
  source : Nat
  node : Nat := 0
  kind : Nat
  ref : List Byte
  value : List Byte
deriving DecidableEq, Repr

/-- The 32 bytes of a record (Table 17-2). -/
def State.auditBytes (s : State) (e : AuditEntry) : List Byte :=
  let b := leBytes 4 (s.nat 0x1900_01) ++ s.poweredStamp ++
    [BitVec.ofNat 8 e.role, BitVec.ofNat 8 e.source, BitVec.ofNat 8 e.node, BitVec.ofNat 8 e.kind] ++ slice e.ref 0 4 ++ slice e.value 0 8
  b ++ leBytes 4 (crc32 b).toNat

/-- AUD_NEXT − AUD_ACK. -/
def State.unacknowledged (s : State) : Nat := s.nat 0x1900_01 - s.nat 0x1900_02

/-- The ring refuses what would make a record: hold, and 512 unacknowledged (R366). -/
def State.auditHeld (s : State) : Bool := decide (s.nat 0x1900_03 = 1) && decide (512 ≤ s.unacknowledged)

/-- One record joins the ring; an unacknowledged one that it replaces is counted (R364, R366). Its TB stamp is held beside the 32
bytes, in which Table 17-2 gives it no place (R16; log 224). -/
def State.auditPut (s : State) (e : AuditEntry) : State :=
  let seq := s.nat 0x1900_01
  let s := if 512 ≤ seq && decide (s.nat 0x1900_02 ≤ seq - 512) then s.bump 0x1900_04 else s
  let s := { s with audit := (s.auditBytes e :: s.audit).take 512, auditTb := (s.tb64 :: s.auditTb).take 512 }
  let s := s.setFit 0x1900_01 32 (seq + 1)
  if s.nat 0x1900_03 = 1 && decide (s.unacknowledged = 448) then s.security 2 else s

/-- INDEX, SUBINDEX and LEN. -/
def auditRef (k len : Nat) : List Byte := leBytes 2 (k / 256) ++ [BitVec.ofNat 8 k, BitVec.ofNat 8 len]

/-- VALUE of a write: the value, the start of its digest, or zeros for a WO entry. -/
def auditValue (k : Nat) (b : List Byte) : List Byte :=
  match odRow? k with
  | some r => if r.acc = .wo then [] else if b.length ≤ 8 then b else Config.sha512 b
  | none => []

/-- A record of an accepted write of kind 0, or 1 for a match-table change (R364). -/
def State.auditWrite (s : State) (who : Who) (kind k : Nat) (b : List Byte) : State :=
  s.auditPut { role := roleCode (s.roleOf who), source := (sourceOf who).1, node := (sourceOf who).2, kind := kind,
               ref := auditRef k (min 255 b.length), value := auditValue k b }

/-- A record with an action code in LEN: kind 2 firmware, or kind 3 a claim (Table 17-4). -/
def State.auditAction (s : State) (who : Who) (role kind k action : Nat) : State :=
  s.auditPut { role := role, source := (sourceOf who).1, node := (sourceOf who).2, kind := kind, ref := auditRef k action,
               value := if kind = 2 then [BitVec.ofNat 8 action] else [] }

/-- A record that the module makes itself, which no hold refuses. -/
def State.auditModule (s : State) (kind k action : Nat) : State :=
  s.auditPut { role := 0xFF, source := 5, kind := kind, ref := auditRef k action, value := [] }

/-- A held ring counts what it refuses (R366). -/
def State.auditRefuse (s : State) : State := s.bump 0x1900_05

/-- The CRC of a record holds. -/
def auditIntact (r : List Byte) : Bool := decide (uAt r 28 4 = (crc32 (r.take 28)).toNat)

/-- The ring holds the record numbered q (R365, R367). -/
def State.auditHas (s : State) (q : Nat) : Bool := decide (q < s.nat 0x1900_01) && decide (s.nat 0x1900_01 ≤ q + 512)

/-- AUD_RECORD for AUD_READ_SEQ; a record whose CRC fails shows 0xFF in bytes 12 to 31 (R367). -/
def State.auditRecord (s : State) : List Byte :=
  let q := s.nat 0x1901_01
  if s.auditHas q then
    let r := s.audit.getD (s.nat 0x1900_01 - 1 - q) []
    if auditIntact r then r else r.take 12 ++ List.replicate 20 0xFF
  else zeroBytes 32

end Sys2Proof.Machine
end

