-- ==== Sys2Proof/Machine/Security.lean ====
section
/-!
DEFINITION. Roles and their proof, keys, firmware, attestation and test access (chapter 17).
-/

namespace Sys2Proof.Machine

open Sys2Proof

/-! ### Claims (R354 to R357) -/

/-- A key that is not set. -/
def noKey (k : List Byte) : Bool := k.all (· = 0)

/-- SERIAL padded to 32 bytes. -/
def State.serial32 (s : State) : List Byte := slice (s.oct 0x1000_03) 0 32

/-- The role key of a claim. -/
def State.roleKey (s : State) (role : Nat) : List Byte := s.oct (0x1810_00 + role)

/-- The first 8 bytes of an AES-CMAC. -/
def mac8 (key msg : List Byte) : List Byte := slice (Config.aesCmac key msg) 0 8

/-- The proof of a claim for a nonce (R354). -/
def State.claimProof (s : State) (role : Nat) (nonce : List Byte) : List Byte :=
  mac8 (s.roleKey role) (0x20 :: BitVec.ofNat 8 role :: nonce ++ s.serial32)

/-- The module is unprovisioned: ROLE_KEY_M is all zeros (R355). -/
def State.unprovisioned (s : State) : Bool := noKey (s.roleKey 2)

/-- What a claim comes to, and whether a refusal counts as a failure. -/
inductive ClaimResult where
  | accepted | state | auth (counts : Bool)
deriving DecidableEq, Repr

/-- The nonce a session may claim with: issued to it within the last 10 s. -/
def State.nonceNow (s : State) (x : Sess) : Option (List Byte) :=
  match (s.session x).nonce with
  | some (n, t0) => if (s.now - t0) * 10 ≤ 10000000 * 347136 then some n else none
  | none => none

/-- The lockout of a session runs (R356). -/
def State.claimLocked (s : State) (x : Sess) : Bool :=
  match (s.session x).lockT0 with
  | some t0 => !s.passedS t0 10
  | none => false

/-- A lockout whose 10 s have passed ends, with the count of failures (R356). -/
def State.lockEnds (s : State) (x : Sess) : State :=
  if (s.session x).lockT0.isSome && !s.claimLocked x then s.updSession x fun y => { y with lockT0 := none, fails := 0 } else s

/-- The judgement of a claim of 9 bytes (R354 to R356, R374). -/
def State.judgeClaim (s : State) (x : Sess) (b : List Byte) : ClaimResult :=
  let role := uAt b 0 1
  if role = 0 then .accepted
  else if s.claimLocked x then .state
  else if s.flag 0x1812_03 then .auth false
  else if role = 2 && s.unprovisioned then .accepted
  else if noKey (s.roleKey role) then .auth false
  else match s.nonceNow x with
    | some n => if slice b 1 8 = s.claimProof role n then .accepted else .auth true
    | none => .auth true

/-- A failed claim: the third locks the session out (R356). -/
def State.claimFailed (s : State) (x : Sess) : State :=
  let n := (s.session x).fails + 1
  let s := s.updSession x fun y => { y with fails := n }
  if 3 ≤ n then (((s.updSession x fun y => { y with lockT0 := some s.now }).auditModule 3 0x1800_03 3).security 1) else s

/-- Every claim written uses up the nonce. -/
def State.spendNonce (s : State) (x : Sess) : State := s.updSession x fun y => { y with nonce := none }

/-- A refused ROLE_CLAIM. -/
def State.claimRefused (s : State) (x : Sess) (b : List Byte) : State :=
  let r := s.judgeClaim x b
  let s := (s.lockEnds x).spendNonce x
  if r = .auth true then s.claimFailed x else s

/-- An accepted ROLE_CLAIM: the role, and the record of an installer or maker claim. -/
def State.claimTaken (s : State) (x : Sess) (who : Who) (b : List Byte) : State :=
  let role := uAt b 0 1
  let s := ((s.lockEnds x).spendNonce x).updSession x fun y => { y with role := roleOfCode role, fails := 0 }
  if role = 0 then s else s.auditAction who role 3 0x1800_03 role

/-- A read of ROLE_NONCE: 16 new bytes, issued to the session that reads (R354). -/
def State.readNonce (s : State) (x : Option Sess) : State :=
  let (b, s) := s.randomBytes 16
  let s := { s with out := .oct b, status := .ok }
  match x with
  | some x => s.updSession x fun y => { y with nonce := some (b, s.now) }
  | none => s

/-- CLAIM_LOCKOUT_END (R356): 10 s have passed. -/
def execClaimLockoutEnd (sess : Sess) (s : State) : Out :=
  nextAny (s.phase ≠ .off && (match (s.session sess).lockT0 with
    | some t0 => s.passedS t0 10
    | none => false)) s (s.updSession sess fun y => { y with lockT0 := none, fails := 0 })

/-- ROLE_IDLE_EXPIRY (R357): ROLE_IDLE_S without a frame on the session's port. -/
def execRoleIdleExpiry (sess : Sess) (s : State) : Out :=
  nextAny (s.phase ≠ .off && s.phase ≠ .recovery && decide (s.nat 0x1800_04 ≠ 0) && s.passedS (s.session sess).frameT0 (s.nat 0x1800_04)) s
    (s.updSession sess fun y => { y with role := .operator })

/-- CLAIM_LOCKOUT_DS of a session. -/
def State.lockoutDs (s : State) (x : Sess) : Nat :=
  match (s.session x).lockT0 with
  | some t0 => 100 - min 100 (s.sinceUs t0 / 100000)
  | none => 0

/-! ### Keys (R358, R363) -/

/-- SEG_KEY of a role. -/
def State.segKey (s : State) (r : Role) : List Byte := s.oct (0x1811_01 + roleCode r)

/-- KEY_STATE (OD 1812/01). -/
def State.keyState (s : State) : Nat :=
  ([0x1810_01, 0x1810_02, 0x1811_01, 0x1811_02, 0x1811_03, 0x2720_01, 0x2720_02, 0x2720_03] : List Nat).zipIdx.foldl
    (fun n (x : Nat × Nat) => if noKey (s.oct x.1) && decide (s.nat x.1 = 0) then n else n + 2 ^ x.2) 0

/-! ### Firmware (R368 to R370) -/

def Image.bytes (i : Image) : List Byte :=
  match i.data with
  | some b => b
  | none => Config.factoryImage

def State.image (s : State) (slot : Nat) : Image := s.firmware.slots.getD slot {}

def State.updImage (s : State) (slot : Nat) (f : Image → Image) : State :=
  { s with firmware := { s.firmware with slots := s.firmware.slots.modify slot f } }

/-- The slot that is not running. -/
def State.otherSlot (s : State) : Nat := 1 - s.firmware.running

def imageVersion (b : List Byte) : Nat := uAt b 4 4
def imageSec (b : List Byte) : Nat := uAt b 8 1

/-- MAGIC, SEC_VERSION and BODY_LEN are as Table 17-3 states and the body is there. -/
def imageFormat (b : List Byte) : Bool :=
  decide (b.take 4 = [0x55, 0x58, 0x38, 0x36]) && decide (imageSec b ≤ 32) && decide (1 ≤ uAt b 12 4) &&
    decide (uAt b 12 4 ≤ 1048448) && decide (128 + uAt b 12 4 ≤ b.length)

/-- The digest that the signature covers (Table 17-3). -/
def imageDigest (b : List Byte) : List Byte := Config.sha512 (b.take 64 ++ slice b 128 (uAt b 12 4))

def imageSigned (b : List Byte) : Bool := Config.firmwareSigned (imageDigest b) (slice b 64 64)

/-- FW_STATUS of a check of an image: format, then signature, then rollback (log 90). -/
def State.imageCheck (s : State) (b : List Byte) : Nat :=
  if ¬ imageFormat b then 3 else if ¬ imageSigned b then 1 else if imageSec b < s.nat 0x1A10_09 then 2 else 0

/-- A firmware command ends (R375). -/
def State.fwEnd (s : State) (status : Nat) : State :=
  let s := { s with firmware := { s.firmware with busy := none } }
  ((s.setN 0x1A10_04 status).setN 0x1A10_01 (if status = 0 then 2 else 3)).security 3

/-- The running image is in trial (R370). -/
def State.inTrial (s : State) : Bool := s.flag 0x1A10_07 && s.firmware.tried && decide (s.nat 0x1A10_06 = s.firmware.running)

/-- ACTIVATE: the valid inactive slot is named for the next start, in trial. -/
def State.fwActivate (s : State) : State :=
  if (s.image s.otherSlot).st ≠ 2 then s.fwEnd 5
  else ((({ s with firmware := { s.firmware with tried := false } }).setN 0x1A10_06 s.otherSlot).setB 0x1A10_07 true).fwEnd 0

/-- CONFIRM: the image in trial becomes permanent and ROLLBACK_FLOOR rises to its SEC_VERSION. -/
def State.fwConfirm (s : State) : State :=
  let sec := imageSec (s.image s.firmware.running).bytes
  ((({ s with firmware := { s.firmware with tried := false } }).setB 0x1A10_07 false).setN 0x1A10_09 (max sec (s.nat 0x1A10_09))).fwEnd 0

/-- REVERT: the other slot, if valid, is named for the next start, confirmed. -/
def State.fwRevert (s : State) : State :=
  if (s.image s.otherSlot).st ≠ 2 then s.fwEnd 5
  else ((({ s with firmware := { s.firmware with tried := false } }).setN 0x1A10_06 s.otherSlot).setB 0x1A10_07 false).fwEnd 0

/-- An accepted FW_CMD (Table 17-4). -/
def State.fwCommand (s : State) (c : Nat) : State :=
  if c = 3 then s.fwActivate
  else if c = 4 then s.fwConfirm
  else if c = 5 then s.fwRevert
  else ({ s with firmware := { s.firmware with busy := some (c, s.now) } }).setN 0x1A10_01 1

/-- An erase or a verify ends; `fault` says that the memory failed to erase. -/
def State.fwComplete (s : State) (fault : Bool) : State :=
  let o := s.otherSlot
  match s.firmware.busy with
  | some (1, _) =>
    if fault then (s.updImage o fun i => { i with st := 3 }).fwEnd 6
    else ((s.updImage o fun _ => { data := some [], st := 1 }).setN 0x1A10_02 0).fwEnd 0
  | some (_, _) =>
    if (s.image o).st = 0 then s.fwEnd 4
    else
      let r := s.imageCheck (s.image o).bytes
      (s.updImage o fun i => { i with st := if r = 0 then 2 else 3 }).fwEnd r
  | none => s

/-- FW_CMD_COMPLETE (Table 17-4). -/
def execFwCmdComplete (fault : Bool) (s : State) : Out := nextAny (s.phase ≠ .off && s.firmware.busy.isSome) s (s.fwComplete fault)

/-- FW_CHUNK lands at FW_OFFSET, which advances (R369). -/
def State.fwChunk (s : State) (b : List Byte) : State :=
  let off := s.nat 0x1A10_02
  (s.updImage s.otherSlot fun i => { i with data := some (splice i.bytes off b) }).setN 0x1A10_02 (off + b.length)

/-- OTHER_VERSION (OD 1A10/0A). -/
def State.otherVersion (s : State) : Nat := if (s.image s.otherSlot).st = 2 then imageVersion (s.image s.otherSlot).bytes else 0

/-! ### Attestation (R371, R372) -/

/-- The length of a number type (Table 16-2). -/
def OdType.bytes : OdType → Nat
  | .bool | .u8 | .i8 => 1
  | .u16 | .i16 => 2
  | .u32 | .i32 => 4
  | .u64 => 8
  | .octets | .vstring => 0

/-- A value in the encoding of its type (Table 16-2). -/
def odEncode (ty : OdType) (v : Val) : List Byte :=
  match ty, v with
  | .octets, .oct b | .vstring, .oct b => b
  | _, _ => leBytesI ty.bytes v.int

/-- The keys that a row covers, in order. -/
def OdRow.keys (r : OdRow) : List Nat :=
  (List.range r.count).flatMap fun i => (List.range (r.hi + 1 - r.lo)).map fun j => (r.base + i * r.stride) * 256 + r.lo + j

/-- Every stored entry of 2000 to 84FF in index and subindex order, in its encoding (Table 17-6). -/
def State.storedEntries (s : State) : List Byte :=
  let rows := odRows.filter fun r => r.stored && decide (0x2000 ≤ r.base) && decide (r.base ≤ 0x84FF)
  let keys := rows.flatMap fun r => r.keys.map fun k => (k, r.ty)
  (keys |> sortBy fun a b => decide (a.1 ≤ b.1)).flatMap fun x => odEncode x.2 (s.val x.1)

/-- A regulatory lock reads restrictive (R387). -/
def State.lockRestrictive (s : State) : Bool := decide (s.nat 0x3010_02 ≠ 0) || decide (s.nat 0x3200_04 ≠ 0)

/-- The attestation body (Table 17-6). -/
def State.attestBody (s : State) : List Byte :=
  let run := (s.image s.firmware.running).bytes
  let other := s.image s.otherSlot
  let flags := boolNat (s.flag 0x1812_02) + 2 * boolNat (s.flag 0x1A10_07) + 4 * boolNat s.testEntered +
    8 * boolNat s.haltSeen + 16 * boolNat s.lockRestrictive
  [1, BitVec.ofNat 8 flags, 224, 0] ++ slice (s.oct 0x1A20_01) 0 32 ++ s.serial32 ++ leBytes 2 (s.nat 0x1000_04) ++
    leBytes 4 (imageVersion run) ++ [BitVec.ofNat 8 s.firmware.running, BitVec.ofNat 8 (imageSec run)] ++
    slice (imageDigest run) 0 32 ++ (if other.st = 2 then slice (imageDigest other.bytes) 0 32 else zeroBytes 32) ++
    leBytes 4 (s.nat 0x1A10_09) ++ s.poweredStamp ++ leBytes 4 (s.nat 0x1900_01) ++
    slice (Config.sha512 s.storedEntries) 0 32 ++ leBytes 2 s.keyState ++ [0, 0] ++ slice (s.oct 0x1A00_01) 0 32

/-- The attestation completes: body, signature, ATTEST_CMD 2. -/
def State.attested (s : State) : State :=
  let body := s.attestBody
  ((({ s with attestT0 := none }).setO 0x1A20_03 body).setO 0x1A20_04 (slice (Config.identitySign (Config.sha512 body)) 0 64)).setN 0x1A20_02 2

/-- ATTESTATION_COMPLETE (R372). -/
def execAttestationComplete (s : State) : Out := nextWhen s.attestT0.isSome s s.attested

/-! ### Test access (R373) -/

/-- Table 17-7. -/
def State.enterTest (s : State) (who : Who) : State :=
  let s := s.auditWrite who 4 0x1A40_01 (leBytes 4 0x5CA47E57)
  let s := (s.spendNonce .spi).spendNonce .uart
  { (s.setB 0x1812_03 true).security 5 with testAccess := true, testEntered := true }

/-! ### Dictionary writes -/

/-- A write that only a local session may make (R354, R373). -/
def securityDenied (who : Who) (k : Nat) : Bool := (k = 0x1800_03 || k = 0x1A40_01) && (sessOf? who).isNone

/-- The chapter's own checks of a value of good type and stated range. -/
def State.securityCheck (s : State) (who : Who) (k : Nat) (v : Val) : Status :=
  if k = 0x1800_03 then
    if 2 < uAt v.octets 0 1 then .range else
    match (sessOf? who).map fun x => s.judgeClaim x v.octets with
    | some .accepted => .ok
    | some .state => .state
    | _ => .auth
  else if k = 0x1810_02 then if noKey v.octets && s.flag 0x1812_02 then .range else .ok
  else if k = 0x1900_02 then if v.int.toNat ≤ s.nat 0x1900_01 && decide (s.nat 0x1900_02 ≤ v.int.toNat) then .ok else .range
  else if k = 0x1901_01 then if s.auditHas v.int.toNat then .ok else .range
  else if k = 0x1902_01 then if s.auditHas (uAt v.octets 0 4) then .ok else .range
  else if k = 0x1A10_01 then
    if s.firmware.busy.isSome then .busy
    else if v.int = 4 && !s.inTrial then .state else .ok
  else if k = 0x1A10_02 then if v.int.toNat = s.nat 0x1A10_02 then .ok else .state
  else if k = 0x1A10_03 then
    if 1048576 < s.nat 0x1A10_02 + v.octets.length then .range
    else if s.firmware.busy.isSome || decide ((s.image s.otherSlot).st ≠ 1) then .state else .ok
  else if k = 0x1A20_02 then if s.attestT0.isSome then .busy else .ok
  else if k = 0x1A40_01 then if v.int = 0x5CA47E57 then .ok else .range
  else .ok

/-- What is stored: a command entry keeps reading its progress, and a WO command holds nothing. -/
def State.securityMerge (s : State) (k : Nat) (v : Val) : Val :=
  if k = 0x1A10_01 || k = 0x1A20_02 then s.val k
  else if k = 0x1800_03 || k = 0x1902_01 || k = 0x1A10_03 then .oct []
  else if (0x1820_00 ≤ k && decide (k < 0x1860_00) && decide (k % 256 = 2)) || k = 0x1A40_01 then .num 0
  else v

/-- A refused claim counts (R354, R356). -/
def State.securityRefused (s : State) (who : Who) (k : Nat) (v : Val) (st : Status) : State :=
  if k = 0x1800_03 && (st = .auth || st = .state) then
    match sessOf? who with
    | some x => s.claimRefused x v.octets
    | none => s
  else s

/-- What follows a taken write. -/
def State.securityWritten (s : State) (who : Who) (k : Nat) (v : Val) : State :=
  if k = 0x1800_03 then
    match sessOf? who with
    | some x => s.claimTaken x who v.octets
    | none => s
  else if k = 0x1810_02 then if noKey v.octets then s else s.setB 0x1812_02 true
  else if 0x1820_00 ≤ k && decide (k < 0x1860_00) && decide (k % 256 = 2) then
    let n := k / 256 - 0x1820
    ({ s with tidSeen := s.tidSeen &&& ~~~ ((1 : BitVec 64) <<< n) }).setN (k - 1) 0
  else if k = 0x1A10_01 then s.fwCommand v.int.toNat
  else if k = 0x1A10_03 then s.fwChunk v.octets
  else if k = 0x1A20_02 then ({ s with attestT0 := some s.now }).setN k 1
  else if k = 0x1A40_01 then s.enterTest who
  else s

/-- The record of an annotation (R365). -/
def State.annotated (s : State) (who : Who) (b : List Byte) : State :=
  s.auditPut { role := roleCode (s.roleOf who), source := (sourceOf who).1, node := (sourceOf who).2, kind := 5,
               ref := slice b 0 4, value := slice b 4 8 }

end Sys2Proof.Machine
end

