-- ==== Sys2Proof/Machine/Store.lean ====
section
/-!
DEFINITION. The commissioning store (R175, R178 to R182, R186): its bytes, its regions, group writes and the host's access.
-/

namespace Sys2Proof.Machine

open Sys2Proof

/-- One byte of the home blocks. -/
def State.storeByte (s : State) (a : Nat) : Byte := s.store.get a

/-- The 32 bytes of a home block. -/
def State.homeBlock (s : State) (b : Nat) : List Byte := (List.range 32).map fun i => s.storeByte (32 * b + i)

def State.storeWrite (s : State) (block : Nat) (b : List Byte) : State := { s with store := s.store.write (32 * block) b }

/-! ### Regions (Table 8-4) -/

/-- The regions of Table 8-4. -/
inductive StoreRegion where
  | identity | status | header | result | reserved | records | outside
deriving DecidableEq, Repr

def regionOf (b : Nat) : StoreRegion :=
  if b < 4 then .identity else if b < 16 then .status else if b = 16 then .header else if b = 17 then .result
  else if b < 32 then .reserved else if b < 992 then .records else .outside

/-- The n blocks from b lie in one region that exists. -/
def oneRegion (b n : Nat) : Bool := (List.range n).all fun i => decide (regionOf (b + i) = regionOf b) && decide (regionOf (b + i) ≠ .outside)

/-- The field may write the region. -/
def StoreRegion.writable (r : StoreRegion) : Bool := r = .header || r = .records

/-- The present level reaches STAGE_WRITE_LEVEL. -/
def State.stageLevel (s : State) : Bool :=
  match s.tag.level with
  | .opened => false
  | .password => decide (s.nat 0x2710_01 = 1)
  | .auth _ => true

/-- The level needed to read a block is there (Table 8-4). -/
def State.mayReadBlock (s : State) (b : Nat) : Bool := !(regionOf b).writable || s.stageLevel

/-! ### Groups (R178 to R182) -/

/-- The group covers block b. -/
def Group.covers (g : Group) (b : Nat) : Bool := decide (g.first ≤ b) && decide (b < g.first + g.n)

/-- S2 of the group has not ended at quanta t: S3 and S4, 12n + 12 µs, are still to come (Table 8-8a). -/
def Group.beforeS2 (g : Group) (t : Nat) : Bool := decide (t + usQuanta (12 * g.n + 12) < g.to_)

/-- Block b as a read finds it: before S2 of a group that covers it ends, what it held before the first such group; new data
after; blocks 18 to 31 read 0 (R182). -/
def State.readBlock (s : State) (b : Nat) : List Byte :=
  if regionOf b = .reserved then zeroBytes 32
  else match s.tag.groups.find? fun g => g.covers b && g.beforeS2 s.now with
    | some g => slice g.prior (32 * (b - g.first)) 32
    | none => s.homeBlock b

def State.readBlocks (s : State) (b n : Nat) : List Byte := (List.range n).flatMap fun i => s.readBlock (b + i)

/-- The header's STATE, SEQ and ROLE (Table 8-9). -/
def State.stageState (s : State) : Nat := (s.storeByte (512 + 3)).toNat
def State.stageSeq (s : State) : Nat := leNat ((List.range 4).map fun i => s.storeByte (512 + 4 + i))
def State.stageRole (s : State) : Nat := (s.storeByte (512 + 16)).toNat

/-- A group includes the header block. -/
def hasHeader (b n : Nat) : Bool := decide (b ≤ 16) && decide (16 < b + n)

/-- The header's STATE has become 2: event 40, and a set to apply while powered under policy 0 (R184, R190). -/
def State.stageReady (s : State) (before : Nat) : State :=
  if s.stageState = 2 && decide (before ≠ 2) && s.coreOn then
    let s := s.raise 40
    if s.nat 0x2710_02 = 0 then s.updTag fun t => { t with stageDue := true, stageStart := false } else s
  else s

/-- The time that a group of n blocks takes: 60 + 24n µs (R178). -/
def groupQuanta (n : Nat) : Nat := usQuanta (60 + 24 * n)

/-- When a group starts. -/
def Group.from_ (g : Group) : Nat := g.to_ - groupQuanta g.n

/-- Groups one after another, the first from quanta t on: only one is in progress (R178). -/
def timeGroups : Nat → List Group → List Group
  | _, [] => []
  | t, g :: gs => { g with to_ := t + groupQuanta g.n } :: timeGroups (t + groupQuanta g.n) gs

/-- The groups that wait for those in progress. -/
def Tag.waiting (t : Tag) (now : Nat) : List Group := t.groups.filter fun g => decide (now < g.from_)

/-- The last group of host or module that has started was the host's. -/
def Tag.hostServed (t : Tag) (now : Nat) : Bool :=
  ((t.groups.filter fun g => !g.field && decide (g.from_ ≤ now)).getLast?.map Group.host).getD t.rrHost

/-- How many waiting groups a new one comes after (R186): one of the field only those of the field, one of the host those and, where
its class was served last, one of the module's, and one of the module's all. -/
def Tag.groupRank (t : Tag) (now : Nat) (field host : Bool) : Nat :=
  let w := t.waiting now
  let f := (w.takeWhile Group.field).length
  if field then f else if host then f + boolNat (t.hostServed now) else w.length

/-- The groups that a new one overtakes. -/
def Tag.overtaken (t : Tag) (now : Nat) (field host : Bool) : List Group := (t.waiting now).drop (t.groupRank now field host)

/-- A group that comes later finds what a block then holds. -/
def patchPrior : List Group → Nat → List Byte → List Group
  | [], _, _ => []
  | g :: gs, b, blk => if g.covers b then { g with prior := splice g.prior (32 * (b - g.first)) blk } :: gs else g :: patchPrior gs b blk

/-- What n blocks from b hold before the groups gs run, of those that hold `held` after them. -/
def priorTo (gs : List Group) (b n : Nat) (held : List Byte) : List Byte :=
  if gs = [] then held
  else (List.range n).flatMap fun i => match gs.find? fun g => g.covers (b + i) with
    | some g => slice g.prior (32 * (b + i - g.first)) 32
    | none => slice held (32 * i) 32

/-- The tag with one more group: after those in progress and those that wait before it by their class (R178, R186). -/
def Tag.groupStarts (t : Tag) (now b n : Nat) (prior data : List Byte) (field host : Bool) : Tag :=
  let run := t.groups.filter fun g => decide (now < g.to_) && decide (g.from_ ≤ now)
  let before := (t.waiting now).take (t.groupRank now field host)
  let later := t.overtaken now field host
  let new : Group := { first := b, n := n, field := field, host := host, prior := priorTo later b n prior, to_ := 0 }
  let later := (List.range n).foldl (fun gs i => patchPrior gs (b + i) (slice data (32 * i) 32)) later
  { t with shadow := data, commit := { first := b, n := n, seq := t.commit.seq + 1 }, rrHost := t.hostServed now
           groups := run ++ timeGroups (run.foldl (fun m g => max m g.to_) now) (before ++ new :: later) }

/-- A store transaction ends a self-test slice on the store (Table 18-1, group 5). -/
def State.storeBusy (s : State) : State := s.sliceYield 5 fun _ => true

/-- The data of n blocks from b, but for the blocks that an overtaken group writes afterwards. -/
def State.lasting (s : State) (later : List Group) (b n : Nat) (data : List Byte) : List Byte :=
  if later = [] then data
  else (List.range n).flatMap fun i => if later.any fun g => g.covers (b + i) then s.homeBlock (b + i) else slice data (32 * i) 32

/-- A group is written: the home blocks take the data, which reads see from the end of its S2 on (R182). -/
def State.groupWrite (s : State) (b n : Nat) (data : List Byte) (field host : Bool) : State :=
  let before := s.stageState
  let prior := (List.range n).flatMap fun i => s.homeBlock (b + i)
  let held := s.lasting (s.tag.overtaken s.now field host) b n data
  let s := s.storeBusy.updTag fun t => t.groupStarts s.now b n prior data field host
  (s.storeWrite b held).stageReady before

/-- A write by the module itself. -/
def State.moduleWrite (s : State) (b : Nat) (data : List Byte) : State := s.groupWrite b 1 data false false

/-- STATE of the header, set as a module write (R184). -/
def State.setStageState (s : State) (v : Nat) : State := s.moduleWrite 16 (splice (s.homeBlock 16) 3 [BitVec.ofNat 8 v])

/-- The write gate (R179). -/
def gateMet (rail cap : Nat) : Bool := decide (2600 ≤ rail) && decide (2350 ≤ cap)

/-- A COMMITTED group is completed from the shadow (R180, R181). A group of the system area, 1000 for AFI and 1001 for
DSFID, sets its byte. -/
def State.rollForward (s : State) : State :=
  let c := s.tag.commit
  let s := if c.first = 1000 then s.setN 0x2700_03 (uAt s.tag.shadow 0 1)
    else if c.first = 1001 then s.setN 0x2700_04 (uAt s.tag.shadow 0 1)
    else s.storeWrite c.first s.tag.shadow
  let s := (s.updTag fun t => { t with commit := { c with committed := false } }).bump 0x2740_03
  if s.coreOn then s.raise 42 else s.updTag fun t => { t with recovered := true }

/-- ROLL_FORWARD (R181): the gate is met with these measurements while the tag domain is supplied. -/
def execRollForward (rail cap : BitVec 16) (s : State) : Out :=
  nextAny (s.tag.commit.committed && (s.coreRuns || s.tag.state ≠ .noField) && gateMet rail.toNat cap.toNat) s s.rollForward

/-! ### The host's access (R186, R191) -/

/-- A host access ends with a status. -/
def State.storeEnd (s : State) (st : Nat) : State := (s.setN 0x2730_05 st).setN 0x2730_04 (if st = 0 then 2 else 3)

/-- STORE_CMD 1. -/
def State.hostRead (s : State) : State :=
  let b := s.nat 0x2730_01
  let n := s.nat 0x2730_02
  if ¬ oneRegion b n then s.storeEnd 3 else (s.storeBusy.setO 0x2730_03 (s.readBlocks b n)).storeEnd 0

/-- A field group is in progress, and a host group is. -/
def State.fieldGroup (s : State) : Bool := s.tag.groups.any fun g => g.field && decide (s.now < g.to_)
def State.hostGroup (s : State) : Bool := s.tag.groups.any fun g => g.host && decide (s.now < g.to_)

/-- Data with the tag's role stamp in byte 16 of the header, whose res. bytes 17 to 31 are 0 (R7, R183). -/
def stampRole (b n role : Nat) (data : List Byte) : List Byte :=
  if hasHeader b n then splice data (32 * (16 - b) + 16) (BitVec.ofNat 8 role :: zeroBytes 15) else data

/-- STORE_CMD 2 by a role; the operator's is refused whatever it asks (R191). -/
def State.hostWrite (s : State) (role : Nat) : State :=
  let b := s.nat 0x2730_01
  let n := s.nat 0x2730_02
  let data := s.oct 0x2730_03
  if role = 0 then s.storeEnd 2
  else if ¬ oneRegion b n || decide (data.length ≠ 32 * n) then s.storeEnd 3
  else if !(regionOf b).writable then s.storeEnd 2
  else if hasHeader b n && decide (2 < uAt data (32 * (16 - b) + 3) 1) then s.storeEnd 2
  else if s.fieldGroup then (s.bump 0x2740_08).storeEnd 1
  else if s.tag.commit.committed then s.storeEnd 4
  else (s.groupWrite b n (stampRole b n role data) false true).storeEnd 0

/-- STORE_CMD as read: busy while the host's group is in progress. -/
def State.storeCmdView (s : State) : Nat := if s.hostGroup then 1 else s.nat 0x2730_04

/-! ### HOLD (R186) -/

/-- HOLD is held. -/
def State.holdHeld (s : State) : Bool :=
  match s.tag.hold with
  | some t0 => decide (t0 ≤ s.now)
  | none => false

/-- HOLD as read: 0 free, 1 pending, 2 held. -/
def State.holdView (s : State) : Nat := if s.tag.hold.isNone then 0 else if s.holdHeld then 2 else 1

/-- The end of the step that a group is in at quanta t: S0 takes 36 µs, every other step 12 µs for a block (Table 8-8a). -/
def Group.stepEnd (g : Group) (t : Nat) : Nat :=
  let s0 := g.from_ + usQuanta 36
  if t ≤ s0 then s0 else s0 + (t - s0 + usQuanta 12 - 1) / usQuanta 12 * usQuanta 12

/-- The next transaction boundary: the end of the step in progress (R186). -/
def State.boundary (s : State) : Nat :=
  match s.tag.groups.find? fun g => decide (g.from_ ≤ s.now) && decide (s.now < g.to_) with
  | some g => g.stepEnd s.now
  | none => s.now

/-- A write of HOLD: taken at the next transaction boundary, or after a field group's S4 (Table 8-11). -/
def State.holdWrite (s : State) (v : Nat) : State :=
  if v = 0 then s.updTag fun t => { t with hold := none }
  else if s.tag.hold.isSome then s
  else s.updTag fun t => { t with hold := some (if s.fieldGroup then t.fieldTo else s.boundary) }

/-- HOLD has been held for HOLD_MAX_MS. -/
def State.holdExpired (s : State) : Bool :=
  match s.tag.hold with
  | some t0 => decide (t0 ≤ s.now) && s.passedMs t0 (s.nat 0x2701_05)
  | none => false

/-- HOLD_MAX_EXPIRY (R186). -/
def execHoldMaxExpiry (s : State) : Out := nextAny (s.phase ≠ .off && s.holdExpired) s ((s.updTag fun t => { t with hold := none }).raise 43)

end Sys2Proof.Machine
end

