-- ==== Sys2Proof/Machine/Tag.lean ====
section
/-!
DEFINITION. The commissioning tag as an external reader meets it (R166 to R177, R183, R187 to R190).
-/

namespace Sys2Proof.Machine

open Sys2Proof

/-! ### Supply, field and states -/

/-- The tag domain is supplied: by the core, or by the field (R166). -/
def State.tagSupplied (s : State) : Bool := s.coreRuns || s.tag.state ≠ .noField

/-- Lockout time counts from now on (R174). -/
def State.lockResume (s : State) : State := s.updTag fun t => { t with lockT0 := s.now }

/-- Lockout time stops: what has passed is taken off. -/
def State.lockPause (s : State) : State :=
  s.updTag fun t => { t with lockLeft := t.lockLeft.map fun x => x - (s.now - t.lockT0), lockT0 := s.now }

/-- A tag event while powered (R190). -/
def State.tagEvent (s : State) (e : Nat) : State := if s.coreOn then s.raise e else s

/-- A volatile tag counter counts while the core runs. -/
def State.tagCount (s : State) (k : Nat) : State := if s.coreOn then s.bump k else s

/-- The Lichen latch as a returning field finds it (R170): in passive operation it holds for 2.0 s, is gone after 3.5 s and is
free between. -/
def State.lichenNow (s : State) : Bool × State :=
  if ¬ s.tag.lichen then (false, s)
  else if s.coreRuns then (!s.passedMs s.tag.lostT0 (s.nat 0x2701_03), s)
  else if ¬ s.passedMs s.tag.lostT0 2000 then (true, s)
  else if s.passedMs s.tag.lostT0 3500 then (false, s)
  else
    let (f, s) := s.draw
    (decide (f % 2 = 1), s)

/-- The field brings the tag out of NO FIELD (Table 8-2). -/
def State.tagFieldOn (s : State) : State :=
  let s := if s.tagSupplied then s else s.lockResume
  let (quiet, s) := s.lichenNow
  let s := s.updTag fun t => { t with state := if quiet then .quiet else .ready, lichen := quiet, field := true }
  (s.tagCount 0x2740_01).tagEvent 36

/-- TAG_FIELD_ON (R169): the supply reaches operating level, or in active emulation an external field arrives. -/
def execTagFieldOn (s : State) : Out := nextAny (s.tag.state = .noField) s s.tagFieldOn

/-- The tag enters NO FIELD: level OPEN, nothing outstanding (R169, R171 to R173). -/
def State.tagFieldLoss (s : State) : State :=
  let s := if s.coreRuns then s else s.lockPause
  let s := s.updTag fun t => { t with state := .noField, level := .opened, nonce := none, begun := none, field := false, fieldT0 := s.now, lostT0 := s.now, reply := none }
  s.tagEvent 36

/-- TAG_FIELD_LOSS (R169). -/
def execTagFieldLoss (s : State) : Out := nextAny (s.tag.state ≠ .noField) s s.tagFieldLoss

/-- LICHEN_LATCH_EXPIRY (R170). -/
def execLichenLatchExpiry (s : State) : Out :=
  nextAny (s.tag.state = .noField && s.tag.lichen && s.passedMs s.tag.lostT0 (if s.coreRuns then s.nat 0x2701_03 else 2000)) s
    (s.updTag fun t => { t with lichen := false })

/-! ### Requests and answers -/

/-- The UID as sent on air, its last byte first (OD 2700/01). -/
def State.uidAir (s : State) : List Byte := (s.oct 0x2700_01).reverse

/-- The tag may answer: passive, or assigned port 0 (R166). -/
def State.tagAnswers (s : State) : Bool := !s.coreRuns || s.assigned

/-- The request reaches the tag in its state (R169). -/
def State.tagHears (s : State) (r : TagReq) : Bool :=
  s.tag.state ≠ .noField && (match r.mode with
    | .all => s.tag.state ≠ .quiet
    | .addressed u => decide (u = s.uidAir)
    | .selected => s.tag.state = .selected)

/-- A lane exchange that conflicts with the tag runs (R89, R189). -/
def State.tagConflict (s : State) : Bool :=
  s.assigned && (List.range 4).any fun l => s.inExchange l && decide (s.coil0Null (s.laneDrive l) < 200)

/-- A conflicting lane exchange has ended within the time that the longest frame takes, 270 bytes in 1-out-of-256 coding (Tables 8-1
and 6-4): a frame that ends now may have begun during it. -/
def State.tagConflictNear (s : State) : Bool :=
  s.assigned && (List.range 4).any fun l =>
    (s.lane l).running && !s.passedMs (s.seq l).lastEnd 1305 && decide ((s.seq l).lastEnd ≠ 0) && decide (s.coil0Null (s.laneDrive l) < 200)

/-- The tag takes no notice of a request in a mode it does not have, or that fails its CRC or coding (R168, R177, R189).
Whether a failed frame that ends shortly after a conflicting exchange began during it the command does not say: either count
may come (log 80). -/
def State.tagUnheard (s : State) (r : TagReq) : State :=
  let s := s.updTag fun t => { t with reply := none }
  if r.good then (if r.dual || !r.high then s.tagCount 0x2740_09 else s)
  else if s.tagConflict then s.tagCount 0x2740_09
  else if s.tagConflictNear then
    let (f, s) := s.draw
    if f % 2 = 1 then s.tagCount 0x2740_09 else s
  else s

/-- The end of a reply of n bytes, CRC added, that starts at `from_` (Table 8-1). -/
def replyEnd (from_ n : Nat) : Nat := from_ + quantaCarrier * (512 * 8 * (n + 2) + 1536)

/-- The start of a reply to the command that ends now, 4320 carrier cycles on (Table 8-1). -/
def State.replyFrom (s : State) : Nat := s.now + quantaCarrier * 4320

/-- The tag answers these bytes (without their CRC); its transaction lasts to the end of the reply (R189). -/
def State.tagReply (s : State) (b : List Byte) : State :=
  s.updTag fun t => { t with reply := some b, busyTo := replyEnd s.replyFrom b.length }

/-- The answer to a write: at the write's end where it waited for a group before it (Table 8-11). -/
def State.tagWritten_ (s : State) : State :=
  s.updTag fun t => { t with reply := some [0x00], busyTo := replyEnd (max s.replyFrom t.fieldTo) 1 }

/-- An error answer (R177). -/
def State.tagError (s : State) (code : Byte) : State := s.tagReply [0x01, code]

/-- A plain answer with data. -/
def State.tagOk (s : State) (b : List Byte) : State := s.tagReply (0x00 :: b)

/-- A request: unheard, not for this tag, or answered by f. -/
def State.onRequest (s : State) (r : TagReq) (f : State → State) : State :=
  if ¬ s.tagAnswers || s.tag.state = .noField then s.updTag fun t => { t with reply := none }
  else if ¬ r.good || r.dual || !r.high then s.tagUnheard r
  else if s.tagHears r then f (s.updTag fun t => { t with reply := none, slot := 0 })
  else s.updTag fun t => { t with reply := none }

/-! ### Inventory and states (R169, Table 8-5) -/

/-- Bit i of the UID, in the order of the air. -/
def State.uidBit (s : State) (i : Nat) : Bool := (s.uidAir.getD (i / 8) 0).getLsbD (i % 8)

/-- The UID matches the mask. -/
def State.maskFits (s : State) (mask : List Bool) : Bool := (List.range mask.length).all fun i => s.uidBit i == mask.getD i false

/-- The AFI of an inventory request is met: 0 asks all, a family or a sub-family asks its own (ISO/IEC 15693-3; log 82). -/
def afiFits (want have_ : Nat) : Bool :=
  decide (want = 0) || ((decide (want / 16 = 0) || decide (want / 16 = have_ / 16)) && (decide (want % 16 = 0) || decide (want % 16 = have_ % 16)))

/-- The transaction of an answer in a later slot lasts until that answer's end, which the reader's EOFs decide: no command
brings them, and the moment is free (log 80). -/
def State.slotWait (s : State) (slot : Nat) : State :=
  if slot = 0 then s
  else
    let (f, s) := s.draw
    s.updTag fun t => { t with busyTo := t.busyTo + f }

/-- Inventory: DSFID and UID, in the slot that the four bits past the mask name. -/
def State.inventory (s : State) (afi : Option (BitVec 8)) (slots16 : Bool) (mask : List Bool) : State :=
  let fits := match afi with
    | some a => afiFits a.toNat (s.nat 0x2700_03)
    | none => true
  if fits && s.maskFits mask && decide (mask.length ≤ (if slots16 then 60 else 64)) then
    let slot := if slots16 then (List.range 4).foldl (fun n i => n + boolNat (s.uidBit (mask.length + i)) * 2 ^ i) 0 else 0
    ((s.tagOk (BitVec.ofNat 8 (s.nat 0x2700_04) :: s.uidAir)).updTag fun t => { t with slot := slot }).slotWait slot
  else s

/-- INVENTORY (R176). -/
def execInventory (r : TagReq) (afi : Option (BitVec 8)) (slots16 : Bool) (mask : List Bool) (s : State) : Out :=
  doneAny s (s.onRequest r fun t => if r.mode = .all then t.inventory afi slots16 mask else t)

/-- The tag's state changes by a command: the latch is set on entry to QUIET and cleared on exit (R170). -/
def State.tagState (s : State) (x : TagState) : State :=
  s.updTag fun t => { t with state := x, lichen := if x = .quiet then true else if t.state = .quiet then false else t.lichen }

/-- STAY_QUIET (R169): only addressed; no answer. -/
def execStayQuiet (r : TagReq) (s : State) : Out :=
  doneAny s (s.onRequest r fun t => match r.mode with
    | .addressed _ => t.tagState .quiet
    | _ => t)

/-- A Select with another UID returns a SELECTED tag to READY, without an answer. -/
def State.selectOther (s : State) (r : TagReq) : State :=
  match r.mode with
  | .addressed u => if u ≠ s.uidAir && s.tag.state = .selected && r.good && !r.dual && r.high && s.tagAnswers then s.tagState .ready else s
  | _ => s

/-- SELECT (R169). -/
def execSelectCard (r : TagReq) (s : State) : Out :=
  doneAny s ((s.onRequest r fun t => match r.mode with
    | .addressed _ => (t.tagState .selected).tagOk []
    | _ => t).selectOther r)

/-- RESET_TO_READY (R169): addressed, or with the Select flag while SELECTED. -/
def execResetToReady (r : TagReq) (s : State) : Out :=
  doneAny s (s.onRequest r fun t => match r.mode with
    | .all => t.tagOk []
    | _ => (t.tagState .ready).tagOk [])

/-! ### Reading (R175, R176, R182) -/

/-- The security status of a block at the present level: 0x00 writable, 0x01 not. -/
def State.blockStatus (s : State) (b : Nat) : Byte := if (regionOf b).writable && s.stageLevel then 0 else 1

/-- A read of n blocks from b, reaching blocks below `top`. -/
def State.tagRead (s : State) (option : Bool) (b n top : Nat) : State :=
  if 8 < n then s.tagError 0xA5
  else if top < b + n then s.tagError 0x10
  else if ¬ (List.range n).all (fun i => s.mayReadBlock (b + i)) then s.tagError 0xA3
  else s.storeBusy.tagOk ((List.range n).flatMap fun i => (if option then [s.blockStatus (b + i)] else []) ++ s.readBlock (b + i))

/-- READ_SINGLE_BLOCK (R176). -/
def execReadSingleBlock (r : TagReq) (block : BitVec 8) (s : State) : Out :=
  doneAny s (s.onRequest r fun t => t.tagRead r.option block.toNat 1 256)

/-- EXTENDED_READ_SINGLE_BLOCK (R176). -/
def execExtendedReadSingleBlock (r : TagReq) (block : BitVec 16) (s : State) : Out :=
  doneAny s (s.onRequest r fun t => t.tagRead r.option block.toNat 1 992)

/-- READ_MULTIPLE_BLOCKS (R176); `more` is the number of blocks less one, as the frame carries it. -/
def execReadMultipleBlocks (r : TagReq) (first more : BitVec 8) (s : State) : Out :=
  doneAny s (s.onRequest r fun t => t.tagRead r.option first.toNat (more.toNat + 1) 256)

/-- EXTENDED_READ_MULTIPLE_BLOCKS (R176). -/
def execExtendedReadMultipleBlocks (r : TagReq) (first more : BitVec 16) (s : State) : Out :=
  doneAny s (s.onRequest r fun t => t.tagRead r.option first.toNat (more.toNat + 1) 992)

/-- The security statuses of n blocks from b. -/
def State.tagSecurity (s : State) (b n top : Nat) : State :=
  if top < b + n then s.tagError 0x10 else s.tagOk ((List.range n).map fun i => s.blockStatus (b + i))

/-- GET_MULTIPLE_BLOCK_SECURITY_STATUS (R176). -/
def execGetMultipleBlockSecurityStatus (r : TagReq) (first more : BitVec 8) (s : State) : Out :=
  doneAny s (s.onRequest r fun t => t.tagSecurity first.toNat (more.toNat + 1) 256)

/-- EXT_GET_MULTI_BLOCK_SECURITY_STATUS (R176). -/
def execExtGetMultiBlockSecurityStatus (r : TagReq) (first more : BitVec 16) (s : State) : Out :=
  doneAny s (s.onRequest r fun t => t.tagSecurity first.toNat (more.toNat + 1) 992)

/-- System information with these block counts: DSFID, AFI and memory size present (log 82). -/
def State.systemInfo (s : State) (size : List Byte) : State :=
  s.tagOk ([0x07] ++ s.uidAir ++ [BitVec.ofNat 8 (s.nat 0x2700_04), BitVec.ofNat 8 (s.nat 0x2700_03)] ++ size)

/-- GET_SYSTEM_INFORMATION (R176). -/
def execGetSystemInformation (r : TagReq) (s : State) : Out := doneAny s (s.onRequest r fun t => t.systemInfo [0xFF, 0x1F])

/-- EXTENDED_GET_SYSTEM_INFORMATION (R176). -/
def execExtendedGetSystemInformation (r : TagReq) (s : State) : Out := doneAny s (s.onRequest r fun t => t.systemInfo [0xDF, 0x03, 0x1F])

/-- TAG_UNSUPPORTED_COMMAND (R176): answered 0x01 when addressed. -/
def execTagUnsupportedCommand (r : TagReq) (_code : BitVec 8) (s : State) : Out :=
  doneAny s (s.onRequest r fun t => match r.mode with
    | .addressed _ => t.tagError 0x01
    | _ => t)

/-! ### Writing (R178, R179, R183, R186) -/

/-- The role that the present level proves (Table 8-3). -/
def State.levelRole (s : State) : Nat :=
  match s.tag.level with
  | .opened => 0
  | .password => 1
  | .auth n => if n = 1 then 2 else 1

/-- S0's last checks, of HOLD, the commit record and the gate: the error, or none. -/
def State.gateError (s : State) (p : TagPower) : Option Byte :=
  if s.holdHeld then some 0xA0
  else if s.tag.commit.committed || !gateMet p.rail.toNat p.cap.toNat then some 0xA4
  else none

/-- A refused write-like command and its counter. -/
def State.writeRefused (s : State) (e : Byte) : State :=
  let s := s.tagError e
  if e = 0xA0 then s.tagCount 0x2740_07 else if e = 0xA4 then s.bump 0x2740_06 else s

/-- A group is on its way and then its supply is lost: what is left (Table 8-8b). `t` is the state with the group written. -/
def State.groupLost (s t : State) (loss : TagLoss) : State :=
  match loss with
  | .none => t
  | .s0 | .s1 | .s2torn => s.tagFieldLoss
  | .s4torn => (t.updTag fun x => { x with groups := [] }).tagFieldLoss
  | .s2 | .s3 | .s4 => (t.updTag fun x => { x with groups := [], commit := { x.commit with committed := true } }).tagFieldLoss

/-- A field group passes S0: it waits for a host group's S4, runs, and is counted at its own S4 (R178, R186). -/
def State.fieldGroupRun (s : State) (p : TagPower) (write : State → State) : State :=
  let t := ((write s).bump 0x2740_02).tagEvent 37
  if s.coreRuns then t.tagWritten_ else s.groupLost t.tagWritten_ p.loss

/-- The length of a write command on the air: flags, code, the UID where it is addressed, block numbers, data and CRC. -/
def writeFrame (r : TagReq) (numbers : Nat) (data : List Byte) : Nat :=
  4 + numbers + data.length + match r.mode with
    | .addressed _ => 8
    | _ => 0

/-- A write of n blocks from b by the field, its block numbers taking so many bytes. A command longer than 270 bytes is not accepted
(Table 8-1), nor one of up to 8 blocks whose data are not theirs: neither is answered (DESIGN CHOICE, log 274). -/
def State.tagWrite (s : State) (r : TagReq) (p : TagPower) (numbers b n top : Nat) (data : List Byte) : State :=
  if 270 < writeFrame r numbers data ∨ (n ≤ 8 ∧ data.length ≠ 32 * n) then s
  else if r.option then s.tagError 0x03
  else if (regionOf b).writable && !s.stageLevel then s.tagError 0xA3
  else if top < b + n then s.tagError 0x10
  else if ¬ (regionOf b).writable then s.tagError 0x12
  else if 8 < n || !oneRegion b n then s.tagError 0xA5
  else if hasHeader b n && decide (1 < uAt data (32 * (16 - b) + 3) 1) then s.tagError 0x12
  else match s.gateError p with
    | some e => s.writeRefused e
    | none => s.fieldGroupRun p fun t => t.groupWrite b n (stampRole b n t.levelRole data) true false

/-- WRITE_SINGLE_BLOCK (R178). -/
def execWriteSingleBlock (r : TagReq) (p : TagPower) (block : BitVec 8) (data : List Byte) (s : State) : Out :=
  doneAny s (s.onRequest r fun t => t.tagWrite r p 1 block.toNat 1 256 data)

/-- EXTENDED_WRITE_SINGLE_BLOCK (R178). -/
def execExtendedWriteSingleBlock (r : TagReq) (p : TagPower) (block : BitVec 16) (data : List Byte) (s : State) : Out :=
  doneAny s (s.onRequest r fun t => t.tagWrite r p 2 block.toNat 1 992 data)

/-- WRITE_MULTIPLE_BLOCKS (R178). -/
def execWriteMultipleBlocks (r : TagReq) (p : TagPower) (first more : BitVec 8) (data : List Byte) (s : State) : Out :=
  doneAny s (s.onRequest r fun t => t.tagWrite r p 2 first.toNat (more.toNat + 1) 256 data)

/-- EXTENDED_WRITE_MULTIPLE_BLOCKS (R178). -/
def execExtendedWriteMultipleBlocks (r : TagReq) (p : TagPower) (first more : BitVec 16) (data : List Byte) (s : State) : Out :=
  doneAny s (s.onRequest r fun t => t.tagWrite r p 4 first.toNat (more.toNat + 1) 992 data)

/-- A group of one in the system area: AFI (1000) or DSFID (1001). While powered its record joins the audit ring as a write
from the field (Table 17-2). -/
def State.systemWrite (s : State) (block k : Nat) (v : BitVec 8) : State :=
  let s := s.storeBusy.updTag fun t => t.groupStarts s.now block 1 [] [v] true false
  let s := s.setN k v.toNat
  if s.coreOn then s.auditPut { role := s.levelRole, source := 4, kind := 0, ref := auditRef k 1, value := [v] } else s

/-- Write AFI or Write DSFID. -/
def State.tagSystemWrite (s : State) (r : TagReq) (p : TagPower) (block k : Nat) (v : BitVec 8) : State :=
  if r.option then s.tagError 0x03
  else if s.tag.level = .opened then s.tagError 0xA3
  else match s.gateError p with
    | some e => s.writeRefused e
    | none => s.fieldGroupRun p fun t => t.systemWrite block k v

/-- WRITE_AFI (Table 8-5). -/
def execWriteAfi (r : TagReq) (p : TagPower) (v : BitVec 8) (s : State) : Out :=
  doneAny s (s.onRequest r fun t => t.tagSystemWrite r p 1000 0x2700_03 v)

/-- WRITE_DSFID (Table 8-5). -/
def execWriteDsfid (r : TagReq) (p : TagPower) (v : BitVec 8) (s : State) : Out :=
  doneAny s (s.onRequest r fun t => t.tagSystemWrite r p 1001 0x2700_04 v)

/-! ### Custom commands (Table 8-6) -/

/-- A custom command with another manufacturer code is not answered (R176). -/
def State.onCustom (s : State) (r : TagReq) (mfg : BitVec 8) (f : State → State) : State :=
  s.onRequest r fun t => if mfg.toNat = t.nat 0x2700_02 then f t else t

/-- An authentication command in lockout is answered 0xA1 (R174). -/
def State.onAuth (s : State) (f : State → State) : State := if s.tag.lockLeft.isSome then s.tagError 0xA1 else f s

/-- A password command: whatever it is answered, a nonce issued before it is void (R172). -/
def State.onPwd (s : State) (f : State → State) : State := if s.tag.lockLeft.isSome then (s.updTag fun t => { t with nonce := none }).tagError 0xA1 else f s

/-- Four random bytes as a number. -/
def State.newNonce (s : State) : State :=
  let (b, s) := s.randomBytes 4
  (s.updTag fun t => { t with nonce := some (BitVec.ofNat 32 (leNat b)) }).tagOk b

/-- GET_PWD_NONCE (R172). -/
def execGetPwdNonce (r : TagReq) (mfg : BitVec 8) (s : State) : Out := doneAny s (s.onCustom r mfg fun t => t.onPwd State.newNonce)

/-- A wrong password or MAC: the level falls to OPEN, the count rises, and the third failure starts a lockout of 10 s of
energised time (R171, R174). -/
def State.authFail (s : State) : State :=
  let n := s.nat 0x2720_04 + 1
  let s := ((s.updTag fun t => { t with level := .opened }).bump 0x2740_04).setN 0x2720_04 (min 2 n)
  let s := if 3 ≤ n then (s.updTag fun t => { t with lockLeft := some (usQuanta 10000000), lockT0 := s.now }).bump 0x2740_05 else s
  (s.tagEvent 39).tagError 0xA2

/-- An authentication succeeds: the level, and event 38 where it rises above OPEN. -/
def State.authPass (s : State) (l : TagLevel) : State :=
  let rise := s.tag.level = .opened
  let s := (s.updTag fun t => { t with level := l }).setN 0x2720_04 0
  if rise then s.tagEvent 38 else s

/-- PRESENT_PWD's check. -/
def State.presentPwd (s : State) (pn : BitVec 32) : State :=
  let pw := s.nat 0x2720_01
  let n := s.tag.nonce
  let s := s.updTag fun t => { t with nonce := none }
  if pw = 0 then s.tagError 0xA3
  else if n.map (fun x => (pn ^^^ x).toNat) = some pw then (s.authPass .password).tagOk []
  else s.authFail

/-- PRESENT_PWD (R172). -/
def execPresentPwd (r : TagReq) (mfg : BitVec 8) (pn : BitVec 32) (s : State) : Out :=
  doneAny s (s.onCustom r mfg fun t => t.onPwd fun t => t.presentPwd pn)

/-- The key of a slot; none where the slot does not exist or is disabled (R173). -/
def State.slotSecret (s : State) (slot : Nat) : Option (List Byte) :=
  if slot ≤ 1 && !noKey (s.oct (0x2720_02 + slot)) then some (s.oct (0x2720_02 + slot)) else none

def State.authBegin (s : State) (slot : Nat) : State :=
  match s.slotSecret slot with
  | none => s.tagError 0xA3
  | some _ =>
    let (b, s) := s.randomBytes 8
    (s.updTag fun t => { t with begun := some (slot, b) }).tagOk b

/-- AUTH_BEGIN (R173). -/
def execAuthBegin (r : TagReq) (mfg slot : BitVec 8) (s : State) : Out :=
  doneAny s (s.onCustom r mfg fun t => t.onAuth fun t => t.authBegin slot.toNat)

/-- Four bytes of the MAC of a pass under the session key. -/
def authMac (key rndT rndR msg : List Byte) : List Byte := slice (Config.aesCmac (Config.aes128 key (rndT ++ rndR)) msg) 0 4

/-- AUTH_FINISH's check. The RndT of the AUTH_BEGIN stands until the field is lost or another takes its place (R173); a slot
disabled meanwhile is a secret disabled (R177). -/
def State.authFinish (s : State) (rndR macR : List Byte) : State :=
  match s.tag.begun with
  | none => s.tagError 0xA3
  | some (slot, rndT) =>
    match s.slotSecret slot with
    | none => s.tagError 0xA3
    | some key =>
      let uid := s.oct 0x2700_01
      if macR = authMac key rndT rndR (0x01 :: uid ++ rndT ++ rndR) then
        (s.authPass (.auth slot)).tagOk (authMac key rndT rndR (0x02 :: uid ++ rndR ++ rndT))
      else s.authFail

/-- AUTH_FINISH (R173). -/
def execAuthFinish (r : TagReq) (mfg : BitVec 8) (rndR macR : List Byte) (s : State) : Out :=
  doneAny s (s.onCustom r mfg fun t => t.onAuth fun t => t.authFinish rndR macR)

/-- LOGOUT (R171). -/
def execLogout (r : TagReq) (mfg : BitVec 8) (s : State) : Out :=
  doneAny s (s.onCustom r mfg fun t => (t.updTag fun x => { x with level := .opened }).tagOk [])

/-- Lockout remaining in 0.1 s. -/
def State.tagLockoutDs (s : State) : Nat :=
  match s.tag.lockLeft with
  | some x => (x - (if s.tagSupplied then s.now - s.tag.lockT0 else 0)) * 10 / 34713600000
  | none => 0

/-- Table 8-7. -/
def State.tagStatus (s : State) : List Byte :=
  let level := match s.tag.level with
    | .opened => 0
    | .password => 1
    | .auth _ => 2
  let b0 := level + 4 * boolNat (decide (s.levelRole = 2)) + 8 * boolNat s.coreRuns + 16 * boolNat s.holdHeld + 32 * boolNat s.tag.commit.committed
  [BitVec.ofNat 8 b0, BitVec.ofNat 8 (s.nat 0x2720_04)] ++ leBytes 2 s.tagLockoutDs ++
    [BitVec.ofNat 8 s.stageState, s.storeByte (17 * 32), 0, 0]

/-- GET_TAG_STATUS (Table 8-7). -/
def execGetTagStatus (r : TagReq) (mfg : BitVec 8) (s : State) : Out := doneAny s (s.onCustom r mfg fun t => t.tagOk t.tagStatus)

/-- STAGE_APPLY's check and write: STATE 2 where SEQ is the header's and STATE is 1 or 2 (R183). -/
def State.stageApply (s : State) (r : TagReq) (p : TagPower) (seq : BitVec 32) : State :=
  if r.option then s.tagError 0x03
  else if ¬ s.stageLevel then s.tagError 0xA3
  else if seq.toNat ≠ s.stageSeq || (s.stageState ≠ 1 && decide (s.stageState ≠ 2)) then s.tagError 0x12
  else match s.gateError p with
    | some e => s.writeRefused e
    | none => s.fieldGroupRun p fun t =>
      t.groupWrite 16 1 (splice (splice (t.homeBlock 16) 3 [2]) 16 [BitVec.ofNat 8 t.levelRole]) true false

/-- STAGE_APPLY (R183). -/
def execStageApply (r : TagReq) (p : TagPower) (mfg : BitVec 8) (seq : BitVec 32) (s : State) : Out :=
  doneAny s (s.onCustom r mfg fun t => t.stageApply r p seq)

/-- TAG_LOCKOUT_END (R174): 10 s of energised time have passed. -/
def execTagLockoutEnd (s : State) : Out :=
  nextAny (match s.tag.lockLeft with
    | some x => s.tagSupplied && decide (x ≤ s.now - s.tag.lockT0)
    | none => false) s ((s.updTag fun t => { t with lockLeft := none }).setN 0x2720_04 0)

/-! ### Port 0 (R187, R188) -/

/-- PORT0_RELEASE (R188). -/
def execPort0Release (s : State) : Out :=
  nextAny (s.assigned && s.coreOn && decide (s.nat 0x2701_01 ≠ 2) && !s.tag.field && s.passedMs s.tag.fieldT0 (s.nat 0x2701_02) && !s.tagBusy) s
    s.releaseTag

/-- The chapter's checks. -/
def State.tagCheck (s : State) (k : Nat) (v : Val) : Status := if k = 0x2730_04 && v.int = 2 && s.hostGroup then .busy else .ok

/-- What is stored. -/
def State.tagMerge (s : State) (k : Nat) (v : Val) : Val := if k = 0x2730_04 || k = 0x2701_04 then s.val k else v

/-- What follows a taken write. -/
def State.tagWritten (s : State) (who : Who) (k : Nat) (v : Val) : State :=
  if k = 0x2730_04 then (if v.int = 1 then s.hostRead else s.hostWrite (roleCode (s.roleOf who)))
  else if k = 0x2701_04 then s.holdWrite v.int.toNat
  else if k = 0x2701_01 then (if v.int = 2 && decide (s.phase = .service) then s.assignTag else s)
  else s

/-- Entries that show the tag's state. -/
def State.tagView (s : State) (k : Nat) : Option Nat :=
  if k = 0x2701_04 then some s.holdView
  else if k = 0x2701_06 then some (boolNat s.assigned)
  else if k = 0x2701_07 then some (match s.tag.state with
    | .noField => 0
    | .ready => 1
    | .selected => 2
    | .quiet => 3)
  else if k = 0x2701_08 then some (match s.tag.level with
    | .opened => 0
    | .password => 1
    | .auth _ => 2)
  else if k = 0x2701_09 then some s.tagLockoutDs
  else if k = 0x2710_03 then some s.stageState
  else if k = 0x2730_04 then some s.storeCmdView
  else none

end Sys2Proof.Machine
end

