-- ==== Sys2Proof/Machine/Supply.lean ====
section
/-!
DEFINITION. The sources and the store (R208 to R212), VOUT_3V3 (R214), claims and releases as commands (R217, R218), the
thermal update (R221), and the status blocks of the commissioning store (R185, R350).
-/

namespace Sys2Proof.Machine

open Sys2Proof

/-! ### Faults present and status blocks -/

/-- A Dravlink path to some peer is DOWN (R344). -/
def State.pathDown (s : State) : Bool := (List.range 64).any fun n => decide (s.nat (0x1100_01 + 256 * n) ≠ 0) || decide (s.nat (0x1100_02 + 256 * n) ≠ 0)

/-- A self-test group shows a finding or has no spare left (Table 18-8). -/
def State.findingPresent (s : State) : Bool := (List.range 11).any fun g => s.nat (0x3410_02 + 256 * g) = 1 || s.nat (0x3410_02 + 256 * g) = 3

/-- The event numbers of the single faults present (Table 0-3), ascending: a port in FAULT, a faulty receive path, a lock
record, a Dravlink path, a self-test finding (log 100). -/
def State.faultsPresent (s : State) : List Nat :=
  (if s.ports.any (fun (x : Port) => x.state = .fault) then [0] else []) ++
  (if s.rx.any (fun (x : Rx) => x.faulty) then [27] else []) ++
  (if s.nat 0x3010_02 ≠ 0 then [77] else []) ++
  (if s.nat 0x3200_04 ≠ 0 then [85] else []) ++
  (if s.pathDown then [87] else []) ++
  (if s.findingPresent then [90] else [])

/-- Blocks 4 and 5 (Table 16-13). -/
def State.statusBlocks (s : State) : List Byte :=
  let b4 := s.poweredStamp ++ [BitVec.ofNat 8 s.firmware.running, BitVec.ofNat 8 (s.nat 0x1010_01), BitVec.ofNat 8 (s.nat 0x1010_02),
    BitVec.ofNat 8 (boolNat (s.flag 0x1010_04) + 2 * boolNat (decide (s.supply.state = .rideThrough)))] ++ leBytes 4 (s.nat 0x2710_06)
  let faults := s.faultsPresent.map (BitVec.ofNat 8)
  let b5 := faults ++ List.replicate (16 - faults.length) 0xFF ++ (List.range 16).map fun z => BitVec.ofNat 8 (s.nat (0x2350_07 + 256 * z))
  slice b4 0 32 ++ slice b5 0 32

/-- The status blocks differ from what the store holds. -/
def State.statusChanged (s : State) : Bool := decide (s.statusBlocks ≠ s.homeBlock 4 ++ s.homeBlock 5)

/-- Write the status blocks as one group; not over a group that is still to be rolled forward (log 83). -/
def State.writeStatus (s : State) : State :=
  if s.tag.commit.committed then s else
  (s.groupWrite 4 2 s.statusBlocks false false).updTag fun t => { t with statusT0 := s.now }

/-- STATUS_BLOCK_WRITE (R185): after a change, at most once a second. -/
def execStatusBlockWrite (s : State) : Out :=
  nextWhen (s.statusChanged && s.passedS s.tag.statusT0 1 && !s.groupRuns && !s.tag.commit.committed) s s.writeStatus

/-! ### Sources (R208, R211) -/

def State.updSupply (s : State) (f : Supply → Supply) : State := { s with supply := f s.supply }

/-- An event of the core domain: raised only while it runs, ROM recovery included. -/
def State.raiseOn (s : State) (e : Nat) : State := if s.coreRuns then s.raise e else s

def State.sourcePresent (s : State) : Source → Bool
  | .mains => s.supply.mains
  | .aux => s.supply.aux
  | .store => false

def otherSource : Source → Source
  | .mains => .aux
  | _ => .mains

/-- The source named by SOURCE_PRIORITY. -/
def State.preferred (s : State) : Source := if s.nat 0x2000_03 = 0 then .mains else .aux

/-- The bus passes to a source through SWITCHOVER: counted, event 94 (R208). -/
def State.switchTo (s : State) (x : Source) : State :=
  ((s.updSupply fun y => { y with source := x, state := .switchover, swT0 := s.now }).bump 0x2000_0E).raiseOn 94

/-- Waiting powerline claims are refused with NO_LINE (R211). -/
def State.refusePl (s : State) : State :=
  (s.hal.claims.filter fun c => c.who.isPl).foldl (fun (t : State) c => t.refuseClaim c .noLine) s

/-- RIDE_THROUGH begins: the store carries the bus. The status blocks are written in every power state and in ROM recovery:
the module is powered (R185, R211). -/
def State.rideStart (s : State) : State :=
  let s := s.updSupply fun y => { y with source := .store, state := .rideThrough, rideT0 := s.now, lost := y.source }
  (((s.bump 0x2000_0B).raiseOn 94).refusePl).writeStatus

/-- Ride-through ends as a source carries the bus again; where it is not the one that was lost, the carrying source has changed
(R208, R211). -/
def State.rideEnd (s : State) (x : Source) : State :=
  let ms := min 65535 (s.sinceUs s.supply.rideT0 / 1000)
  let s := if x = s.supply.lost then s else s.bump 0x2000_0E
  ((s.updSupply fun y => { y with source := x, state := .normal }).setN 0x2000_0C ms).raiseOn 94

/-- A source is lost (Table 10-1). -/
def State.sourceLoss (s : State) (x : Source) : State :=
  let s := s.updSupply fun y => match x with
    | .mains => { y with mains := false }
    | _ => { y with aux := false }
  if s.supply.source ≠ x then s
  else if s.phase = .off then s.updSupply fun y => { y with source := if s.sourcePresent (otherSource x) then otherSource x else .store }
  else if s.sourcePresent (otherSource x) then s.switchTo (otherSource x)
  else s.rideStart

/-- SOURCE_LOSS (R208). -/
def execSourceLoss (aux : Bool) (s : State) : Out :=
  nextAny (s.sourcePresent (if aux then .aux else .mains)) s (s.sourceLoss (if aux then .aux else .mains))

/-- A source is present (Table 10-1). During the shutdown it is noted for the next start (R213, Table 19-2). -/
def State.sourcePresence (s : State) (x : Source) : State :=
  let s := s.updSupply fun y => match x with
    | .mains => { y with mains := true, mainsT0 := s.now }
    | _ => { y with aux := true, auxT0 := s.now }
  match s.supply.state with
  | .rideThrough => s.rideEnd x
  | .shutdown =>
    if s.supply.source = .store then
      s.updSupply fun y => { y with source := x, returned := y.returned || !s.passedMs y.swT0 5 }
    else s
  | _ => if s.supply.source = .store then s.updSupply fun y => { y with source := x } else s

/-- SOURCE_PRESENCE (R208). -/
def execSourcePresence (aux : Bool) (s : State) : Out :=
  nextAny (!s.sourcePresent (if aux then .aux else .mains)) s (s.sourcePresence (if aux then .aux else .mains))

/-- When a source became present. -/
def State.presentT0 (s : State) : Source → Nat
  | .mains => s.supply.mainsT0
  | _ => s.supply.auxT0

/-- PREFERRED_SOURCE_RETURN (R208): present for 1 s without a break while the other carries the bus. -/
def execPreferredSourceReturn (s : State) : Out :=
  nextAny (s.phase ≠ .off && s.supply.state = .normal && s.supply.source = otherSource s.preferred && s.sourcePresent s.preferred &&
    s.passedS (s.presentT0 s.preferred) 1) s (s.switchTo s.preferred)

/-- SWITCHOVER_COMPLETE (R208). -/
def execSwitchoverComplete (s : State) : Out :=
  nextAny (s.supply.state = .switchover) s (s.updSupply fun y => { y with state := .normal })

/-! ### The store (R210, R212) -/

/-- The store is measured: V, E, and PWR_GOOD. -/
def State.storeLevel (s : State) (mv : Nat) : State := s.storeAt (storeE mv)

/-- The store may have come to this voltage: it falls by what the bus draws and by its leakage, and rises only by the charger, no
further than the target (R210). -/
def State.storeMay (s : State) (mv : Nat) : Bool :=
  decide (storeE mv ≤ s.supply.energy) || (s.charging && decide (mv ≤ s.chargeTarget))

/-- STORE_LEVEL_CROSSING (R212): the store's voltage in mV. -/
def execStoreLevelCrossing (mv : BitVec 16) (s : State) : Out := nextAny (s.storeMay mv.toNat) s (s.storeLevel mv.toNat)

/-! ### VOUT_3V3 (R214) -/

/-- The rail is to be on, with a grant. -/
def State.voutWanted (s : State) : Bool :=
  decide (s.nat 0x2001_01 ≠ 0) && s.phase = .service && s.power ≠ .sleep && s.supply.vout ≠ .fault

/-- The rail follows its mode, the power state and its grant. -/
def State.voutFollow (s : State) : State :=
  if s.voutWanted then
    let need := s.nat 0x2001_02
    let has_ := s.held .vout
    if need < has_ then ((s.dropClaim .vout).setGrant .vout need).updSupply fun y => { y with vout := if y.vout = .off then .on else y.vout }
    else if has_ < need then
      if ((s.claimOf .vout).map Claim.mw) = some (need - has_) then s
      else s.claim { who := .vout, mw := need - has_, prio := 0, t0 := s.now, deadline := none }
    else (s.dropClaim .vout).updSupply fun y => { y with vout := if y.vout = .off then .on else y.vout }
  else
    let inSleep := s.power = .sleep && decide (s.nat 0x2001_01 = 2) && s.phase = .service && s.supply.vout ≠ .fault
    ((s.dropClaim .vout).setGrant .vout 0).updSupply fun y =>
      { y with vout := if inSleep then (if y.vout = .off then .on else y.vout) else if y.vout = .fault then .fault else .off }

def VoutState.code : VoutState → Nat
  | .off => 0
  | .on => 1
  | .limiting => 2
  | .fault => 3

/-- The rail is on, at its limit or not. -/
def State.voutOn (s : State) : Bool := s.supply.vout = .on || s.supply.vout = .limiting

/-- VOUT_CURRENT_LIMIT (R214): the load reaches (over) or leaves the limit. -/
def execVoutCurrentLimit (beyond : Bool) (s : State) : Out :=
  nextAny (s.voutOn && decide ((s.supply.vout = .limiting) ≠ (beyond = true))) s
    (s.updSupply fun y => { y with vout := if beyond then .limiting else .on, voutT0 := s.now })

/-- VOUT_FAULT (R214): the limit for 100 ms, or an output below 2.8 V for 1 ms. -/
def execVoutFault (low : Bool) (s : State) : Out :=
  nextAny (s.voutOn && (low || (s.supply.vout = .limiting && s.passedMs s.supply.voutT0 100))) s
    ((((s.updSupply fun y => { y with vout := .fault, voutT0 := s.now }).bump 0x2001_05).voutFollow).raiseOn 94)

/-- VOUT_RETRY (R214): 1 s after a fault. -/
def execVoutRetry (s : State) : Out :=
  nextAny (s.supply.vout = .fault && s.passedS s.supply.voutT0 1) s (s.updSupply fun y => { y with vout := .off }).voutFollow

/-! ### Claims, releases and the thermal update -/

/-- The claimants by number: the acknowledgements of radio and powerline, ports 0 to 7, the radio, the powerline transmitter
and the accessory rail. -/
def claimantOf (n : Nat) : Claimant :=
  if n = 0 then .ackRadio else if n = 1 then .ackPl else if n < 10 then .port (n - 2) else if n = 10 then .radio
  else if n = 11 then .powerline else .vout

/-- HALYARD_CLAIM (R217): power beyond what is held, counted in 10 mW, with a port's lane priority and, for a timed claim, the
microseconds to its deadline. -/
def execHalyardClaim (who : Fin 13) (mw : BitVec 16) (prio : Fin 8) (deadline : Option (BitVec 32)) (s : State) : Out :=
  let by_ := deadline.map fun us => s.now + usQuanta us.toNat
  done s (s.claim { who := claimantOf who, mw := (mw.toNat + 9) / 10 * 10, prio := prio, t0 := s.now, deadline := by_ })

/-- HALYARD_RELEASE (R218): a claimant keeps no more than this. -/
def execHalyardRelease (who : Fin 13) (keep : BitVec 16) (s : State) : Out :=
  done s (s.release (claimantOf who) keep.toNat)

/-- What follows a taken write of a supply or Halyard entry: the rail's mode and grant act at once; the field sub-cap acts at
the next tick (R214, R219). -/
def State.supplyWritten (s : State) (k : Nat) : State := if k = 0x2001_01 || k = 0x2001_02 then s.voutFollow else s

/-- Entries that show the supply's and Halyard's state. -/
def State.supplyView (s : State) (k : Nat) : Option Nat :=
  if k = 0x2000_01 then some (match s.supply.source with
    | .store => 0
    | .mains => 1
    | .aux => 2)
  else if k = 0x2000_02 then some s.supply.state.code
  else if k = 0x2001_04 then some s.supply.vout.code
  else if k = 0x2010_04 then some (min 65535 s.granted)
  else if 0x2011_01 ≤ k && decide (k ≤ 0x2011_06) then
    some (if k = 0x2011_01 then s.hal.core else (s.hal.held.filter fun x => x.1.cls = k - 0x2011_01).foldl (fun n x => n + x.2) 0)
  else if k = 0x2020_01 then some s.power.code
  else none

end Sys2Proof.Machine
end

