-- ==== Sys2Proof/Machine/Phy.lean ====
section
/-!
DEFINITION. The sub-GHz frame (chapter 14): its length on air, the header and its check, whitening, the convolutional and
LDPC codes, and the bits on air.
-/

namespace Sys2Proof.Machine

open Sys2Proof

def radioKey (n sub : Nat) : Nat := 0x3110_00 + 0x100 * (n - 1) + sub

/-! ### Lengths (Tables 14-1 and 14-5, R292) -/

/-- The time of one bit at a rate code, in thirds of a nanosecond (Table 14-1). -/
def bitThirds (rate : Nat) : Nat := ([60000, 30000, 15000, 7500, 5000] : List Nat).getD rate 5000

/-- The time of one bit in quanta. -/
def bitQuanta (rate : Nat) : Nat := ([694272, 347136, 173568, 86784, 57856] : List Nat).getD rate 57856

/-- N of Table 14-5 for a PSDU of len bytes: coding 0 uncoded, 1 convolutional, 2 LDPC. -/
def payloadBits (coding len : Nat) : Nat :=
  let m := 8 * len + 32
  if coding = 0 then m else if coding = 1 then 2 * (m + 6) else m + 576 * ((m + 575) / 576)

/-- The mode of a frame: payload rate code and coding. -/
structure RfMode where
  rate : Nat
  coding : Nat
deriving DecidableEq, Repr, Inhabited

/-- T of R292, in thirds of a nanosecond. -/
def State.airThirds (s : State) (m : RfMode) (len : Nat) : Nat :=
  (s.nat 0x3100_02 + 92) * bitThirds (s.nat 0x3100_01) + payloadBits m.coding len * bitThirds m.rate

/-- T of R292, in quanta. -/
def State.airQuanta (s : State) (m : RfMode) (len : Nat) : Nat :=
  (s.nat 0x3100_02 + 92) * bitQuanta (s.nat 0x3100_01) + payloadBits m.coding len * bitQuanta m.rate

/-- From the end of the sync word to the end of the frame, in quanta: the header at the base rate, then the payload (R288,
R341; log 130). -/
def State.afterSync (s : State) (m : RfMode) (len : Nat) : Nat :=
  60 * bitQuanta (s.nat 0x3100_01) + payloadBits m.coding len * bitQuanta m.rate

/-- The mode of a frame to a node; broadcasts go at the base rate, convolutionally coded (R296). -/
def State.modeTo (s : State) (node : Nat) : RfMode :=
  if node = 0 || decide (64 < node) then ⟨s.nat 0x3100_01, 1⟩
  else ⟨if s.nat (radioKey node 1) = 0xFF then s.nat 0x3100_01 else s.nat (radioKey node 1), s.nat (radioKey node 3)⟩

/-- The occupied bandwidth of a frame in kHz (R286). -/
def State.occupied (s : State) (m : RfMode) : Nat :=
  let f (r : Nat) : Nat := ([60, 120, 230, 240, 360] : List Nat).getD r 360
  max (f (s.nat 0x3100_01)) (f m.rate)

/-! ### Bits (R285, R287) -/

/-- n bits of a number, the most significant first. -/
def bitsMsb (n v : Nat) : List Bool := (List.range n).map fun i => v.testBit (n - 1 - i)

/-- The bits of bytes, each byte least significant first. -/
def bitsLsb (b : List Byte) : List Bool := b.flatMap fun x => (List.range 8).map fun i => x.getLsbD i

/-- CRC-8 with polynomial 0x07 and preset 0xFF over bits in order (Table 14-4, Table 15-3). -/
def crc8 (bs : List Bool) : Nat :=
  bs.foldl (fun c b => let x := c * 2 + boolNat b * 256
                       if (x / 256) % 2 = 1 then (x % 256) ^^^ 7 else x % 256) 0xFF

/-- The 24-bit PHY header (Table 14-4). -/
def phyHeader (m : RfMode) (len : Nat) : Nat :=
  let top := m.coding * 2 ^ 14 + m.rate * 2 ^ 11 + len % 256
  top * 256 + crc8 (bitsMsb 16 top)

/-- One step of the PN9 register, x⁹ + x⁵ + 1; its output is its lowest bit (R289; log 131). -/
def pn9Step (r : Nat) : Nat := r / 2 + (if r.testBit 0 != r.testBit 5 then 256 else 0)

/-- Whiten bits from a register. -/
def whitenBits (r : Nat) : List Bool → List Bool
  | [] => []
  | b :: bs => (b != r.testBit 0) :: whitenBits (pn9Step r) bs

/-- Whitening from 0x1FF (R289). -/
def whiten (bs : List Bool) : List Bool := whitenBits 0x1FF bs

/-- The PSDU and its CRC-32, least significant byte first (R287). -/
def withCrc (psdu : List Byte) : List Byte := psdu ++ leBytes 4 (crc32 psdu).toNat

/-! ### The convolutional code (R290) -/

/-- The parity of the bits of x under a mask of 7 bits. -/
def parity7 (x mask : Nat) : Bool := (List.range 7).foldl (fun p i => p != (x.testBit i && mask.testBit i)) false

/-- Encode from a register of the last six inputs, the newest in bit 5: the 171 output first (log 131). -/
def convBits (r : Nat) : List Bool → List Bool
  | [] => []
  | b :: bs =>
    let x := boolNat b * 64 + r
    parity7 x 0o171 :: parity7 x 0o133 :: convBits (x / 2) bs

/-- A coded section: from the all-zero state, ended by six zeros. -/
def convSection (bs : List Bool) : List Bool := convBits 0 (bs ++ List.replicate 6 false)

/-! ### The LDPC code (R291) -/

/-- 48 bits of a block as a word: bit r is row r. -/
def word48 (bs : List Bool) : BitVec 48 := (List.range 48).foldl (fun w r => if bs.getD r false then w ||| BitVec.ofNat 48 (2 ^ r) else w) 0

/-- The identity shifted by b, applied to x: row r takes bit (r + b) mod 48. -/
def shift48 (b : Nat) (x : BitVec 48) : BitVec 48 := x.rotateRight (b % 48)

/-- b(i, j) of the information columns, none for −1. -/
def ldpcEntry (i j : Nat) : Option Nat :=
  let d := (j + 12 - i) % 12
  if d = 0 || d = 3 || d = 7 then some ((7 * i * j + 5 * j + 3 * i) % 48) else none

/-- The information part of row i. -/
def ldpcRow (info : List (BitVec 48)) (i : Nat) : BitVec 48 :=
  (List.range 12).foldl (fun acc j => match ldpcEntry i j with
    | some b => acc ^^^ shift48 b (info.getD j 0)
    | none => acc) 0

/-- The parity columns 13 to 23, row by row, from row i with the column before it. -/
def ldpcChain (s : List (BitVec 48)) (p0 : BitVec 48) (prev : BitVec 48) : List Nat → List (BitVec 48)
  | [] => []
  | i :: is =>
    let p := s.getD i 0 ^^^ prev ^^^ (if i = 0 then shift48 1 p0 else if i = 5 then p0 else 0)
    p :: ldpcChain s p0 p is

/-- The twelve parity words of a block: column 12 is the sum of all rows, the others follow row by row. -/
def ldpcParity (info : List (BitVec 48)) : List (BitVec 48) :=
  let s := (List.range 12).map (ldpcRow info)
  let p0 := s.foldl (fun a b => a ^^^ b) 0
  p0 :: ldpcChain s p0 0 (List.range 11)

/-- The 576 information bits of a block as twelve words, short of the end completed with zeros. -/
def ldpcWords (bs : List Bool) : List (BitVec 48) := (List.range 12).map fun j => word48 ((bs.drop (48 * j)).take 48)

/-- One block on air: its information bits, then its parity. -/
def ldpcBlock (bs : List Bool) : List Bool := bs ++ (ldpcParity (ldpcWords bs)).flatMap fun w => (List.range 48).map w.getLsbD

/-- All blocks in order. -/
def ldpcEncode (bs : List Bool) : List Bool := (List.range ((bs.length + 575) / 576)).flatMap fun i => ldpcBlock ((bs.drop (576 * i)).take 576)

/-! ### Decoding (R290, R291)

The demodulator's soft decisions are four bits each, 0 a sure 0 and 15 a sure 1. -/

/-- What a coded bit costs against a soft decision. -/
def softCost (o : Bool) (v : BitVec 4) : Nat := if o then 15 - v.toNat else v.toNat

/-- A survivor: its metric, and its inputs, the newest first. -/
abbrev Survivor := Nat × List Bool

/-- The better of two survivors, the first on a tie (log 264). -/
def Survivor.best (a b : Survivor) : Survivor := if b.1 < a.1 then b else a

/-- A branch from register r with input b on two soft decisions. -/
def Survivor.branch (x : Survivor) (r : Nat) (b : Bool) (v w : BitVec 4) : Survivor :=
  let i := boolNat b * 64 + r
  (x.1 + softCost (parity7 i 0o171) v + softCost (parity7 i 0o133) w, b :: x.2)

/-- One step over the registers r, r + 1, ...: pairs of them lead to one register each for input 0 and for input 1. -/
def viterbiPairs (v w : BitVec 4) (r : Nat) : List Survivor → List Survivor × List Survivor
  | a :: c :: rest =>
    let t := viterbiPairs v w (r + 2) rest
    ((a.branch r false v w).best (c.branch (r + 1) false v w) :: t.1, (a.branch r true v w).best (c.branch (r + 1) true v w) :: t.2)
  | _ => ([], [])

/-- The 64 survivors after one input bit's two soft decisions: register b * 32 + r / 2 follows register r. -/
def viterbiStep (xs : List Survivor) (v w : BitVec 4) : List Survivor := let t := viterbiPairs v w 0 xs; t.1 ++ t.2

/-- The survivor with the least metric, of the lowest register on a tie. -/
def bestOf : List Survivor → Survivor
  | [] => (0, [])
  | x :: xs => xs.foldl (fun a b => a.best b) x

/-- The traceback depth (R290). -/
def traceback : Nat := 96

/-- Decode a coded section: an input bit is decided 96 steps later on the best survivor, and the last ones on the survivor of the
all-zero register, where the tail ends. `done` holds what is decided, the newest first. -/
def viterbi (xs : List Survivor) (steps : Nat) (done : List Bool) : List (BitVec 4) → List Bool
  | v :: w :: rest =>
    let ys := viterbiStep xs v w
    if traceback ≤ steps + 1 then viterbi ys (steps + 1) ((bestOf ys).2.getD (traceback - 1) false :: done) rest
    else viterbi ys (steps + 1) done rest
  | _ =>
    let tail := (xs.headD (0, [])).2.take (steps - done.length)
    (tail ++ done).reverse

/-- The information bits of a section of n of them, from its soft decisions (R290). -/
def convDecode (n : Nat) (soft : List (BitVec 4)) : List Bool :=
  let start : List Survivor := (0, []) :: List.replicate 63 (1_000_000, [])
  (viterbi start 0 [] (soft.take (2 * (n + 6)))).take n

/-- The entries (column, shift) of row i of the base matrix (R291). -/
def ldpcEntries (i : Nat) : List (Nat × Nat) :=
  (List.range 12).filterMap (fun j => (ldpcEntry i j).map fun b => (j, b)) ++
    (if i = 0 || i = 11 then [(12, 1)] else if i = 5 then [(12, 0)] else []) ++
    (if i < 11 then [(13 + i, 0)] else []) ++ (if 1 ≤ i then [(12 + i, 0)] else [])

/-- The product of signs and the least magnitude, of two values. -/
def minSum (a b : Int) : Int := if decide (a < 0) != decide (b < 0) then -(min a.natAbs b.natAbs : Nat) else (min a.natAbs b.natAbs : Nat)

/-- What the other entries of a row tell each of its entries. -/
def minSums (qs : List (List Int)) : List (List Int) :=
  (List.range qs.length).map fun k => match qs.eraseIdx k with
    | [] => []
    | x :: xs => xs.foldl (fun a b => List.zipWith minSum a b) x

/-- A column seen through the identity shifted by b, and back. -/
def rotated (b : Nat) (x : List Int) : List Int := x.drop (b % 48) ++ x.take (b % 48)
def unrotated (b : Nat) (x : List Int) : List Int := rotated (48 - b % 48) x

/-- One layer, row i of the base matrix: the columns' values, and the messages of the layer. -/
def ldpcLayer (cols : List (List Int)) (old : List (List Int)) (i : Nat) : List (List Int) × List (List Int) :=
  let es := ldpcEntries i
  let qs := (es.zip old).map fun x => List.zipWith (fun a b => a - b) (rotated x.1.2 (cols.getD x.1.1 [])) x.2
  let new := minSums qs
  let cols := (es.zip (qs.zip new)).foldl (fun (m : List (List Int)) x =>
    m.set x.1.1 (unrotated x.1.2 (List.zipWith (fun a b => a + b) x.2.1 x.2.2))) cols
  (cols, new)

/-- One iteration: the twelve layers in order. -/
def ldpcIterate (cols : List (List Int)) (msgs : List (List (List Int))) : List (List Int) × List (List (List Int)) :=
  (List.range 12).foldl (fun (x : List (List Int) × List (List (List Int))) i =>
    let r := ldpcLayer x.1 (x.2.getD i []) i
    (r.1, x.2.set i r.2)) (cols, msgs)

/-- The hard decisions of the columns: a negative value is a 1. -/
def hardWords (cols : List (List Int)) : List (BitVec 48) := cols.map fun c => word48 (c.map fun x => decide (x < 0))

/-- Every row of H holds. -/
def syndromeZero (w : List (BitVec 48)) : Bool :=
  (List.range 12).all fun i => (ldpcEntries i).foldl (fun a e => a ^^^ shift48 e.2 (w.getD e.1 0)) 0 = 0

/-- Iterate until the syndrome is zero or the iterations are used up: the words, the iterations made, and whether the block
converged. -/
def ldpcRun (cols : List (List Int)) (msgs : List (List (List Int))) (made : Nat) : Nat → List (BitVec 48) × Nat × Bool
  | 0 => (hardWords cols, made, syndromeZero (hardWords cols))
  | n + 1 =>
    let r := ldpcIterate cols msgs
    if syndromeZero (hardWords r.1) then (hardWords r.1, made + 1, true) else ldpcRun r.1 r.2 (made + 1) n

/-- Decode one block of k information bits by layered min-sum: the bits, the iterations, and whether it converged. The zeros
that were never sent are known (R291; log 264). -/
def ldpcDecode (iterMax k : Nat) (soft : List (BitVec 4)) : List Bool × Nat × Bool :=
  let llr (v : BitVec 4) : Int := 15 - 2 * (v.toNat : Int)
  let info := (soft.take k).map llr ++ List.replicate (576 - k) 1_000_000
  let all := info ++ ((soft.drop k).take 576).map llr
  let cols := (List.range 24).map fun j => (List.range 48).map fun r => all.getD (48 * j + r) 0
  let msgs := (List.range 12).map fun i => (ldpcEntries i).map fun _ => List.replicate 48 0
  let r := ldpcRun cols msgs 0 iterMax
  (((r.1.take 12).flatMap fun w => (List.range 48).map w.getLsbD).take k, r.2)

/-- What a receiver's payload decoder gives: the bits, the LDPC iterations of the worst block, and the blocks that did not
converge. -/
structure Decoded where
  bits : List Bool
  iter : Nat := 0
  bad : Nat := 0
deriving DecidableEq, Repr, Inhabited

/-- The blocks of an LDPC payload of m bits, in order. -/
def ldpcBlocks (iterMax : Nat) (soft : List (BitVec 4)) (acc : Decoded) : List Nat → Decoded
  | [] => acc
  | k :: ks =>
    let r := ldpcDecode iterMax k soft
    ldpcBlocks iterMax (soft.drop (k + 576))
      { bits := acc.bits ++ r.1, iter := max acc.iter r.2.1, bad := acc.bad + boolNat (!r.2.2) } ks

/-- The bits of each of its blocks. -/
def blockSizes (m : Nat) : List Nat := (List.range ((m + 575) / 576)).map fun i => min 576 (m - 576 * i)

/-- The payload of a frame of len bytes, decoded from its soft decisions. -/
def payloadDecode (m : RfMode) (len iterMax : Nat) (soft : List (BitVec 4)) : Decoded :=
  let n := 8 * len + 32
  if m.coding = 0 then { bits := (soft.take n).map fun v => decide (8 ≤ v.toNat) }
  else if m.coding = 1 then { bits := convDecode n soft }
  else ldpcBlocks iterMax soft { bits := [] } (blockSizes n)

/-- The header from its 60 symbols alone (R290). -/
def headerDecode (soft : List (BitVec 4)) : Nat := (convDecode 24 (soft.take 60)).foldl (fun n b => 2 * n + boolNat b) 0

/-! ### Symbols (R284, R285) -/

/-- The deviation of a rate code in Hz: of 2-GFSK, or the inner one of 4-GFSK, whose outer one is three times that (Table 14-1). -/
def deviationHz (rate : Nat) : Int := ([12500, 25000, 50000, 25000, 37500] : List Int).getD rate 37500

/-- The symbols of bits at a rate code, as deviations in Hz: one bit each, or two in Gray order, the earlier bit first (R285). -/
def symbolsHz (rate : Nat) : List Bool → List Int
  | [] => []
  | [b] => [if b then deviationHz rate else -deviationHz rate]
  | a :: b :: rest =>
    let d := deviationHz rate
    if rate < 3 then (if a then d else -d) :: symbolsHz rate (b :: rest)
    else (match a, b with
      | false, true => -3 * d
      | false, false => -d
      | true, false => d
      | true, true => 3 * d) :: symbolsHz rate rest

/-! ### The frame on air (Table 14-3) -/

/-- The payload bits of a frame. -/
def payloadOnAir (m : RfMode) (psdu : List Byte) : List Bool :=
  let w := whiten (bitsLsb (withCrc psdu))
  if m.coding = 0 then w else if m.coding = 1 then convSection w else ldpcEncode w

/-- The part of a frame at the base rate: preamble, sync word and coded header. -/
def State.headOnAir (s : State) (m : RfMode) (len : Nat) : List Bool :=
  (List.range (s.nat 0x3100_02)).map (fun i => decide (i % 2 = 0)) ++ bitsMsb 32 (s.nat 0x3100_03) ++
    convSection (bitsMsb 24 (phyHeader m len))

/-- The whole frame: preamble, sync word, header, payload, as bits in order. -/
def State.frameOnAir (s : State) (m : RfMode) (psdu : List Byte) : List Bool := s.headOnAir m psdu.length ++ payloadOnAir m psdu

/-- The whole frame as symbols: the payload's rate follows on the boundary after the last header bit (R285, R287). -/
def State.symbolsOnAir (s : State) (m : RfMode) (psdu : List Byte) : List Int :=
  symbolsHz (s.nat 0x3100_01) (s.headOnAir m psdu.length) ++ symbolsHz m.rate (payloadOnAir m psdu)

/-- The 32 bits that stand where the sync word is sought are it, but for at most tol of them (R288). -/
def syncFound (word tol : Nat) (bits : BitVec 32) : Bool :=
  decide (((List.range 32).filter fun i => bits.getLsbD i != word.testBit i).length ≤ tol)

/-- What a receiver makes of a decoded header (R293). -/
inductive HeaderCheck where
  | bad | unsupported
  | good (m : RfMode) (len : Nat)
deriving DecidableEq, Repr

/-- The check of a decoded header: its HCRC, then the reserved codes. -/
def checkHeader (h : Nat) : HeaderCheck :=
  let top := h / 256
  if crc8 (bitsMsb 16 top) ≠ h % 256 then .bad
  else if top / 2 ^ 14 = 3 || decide (5 ≤ top / 2 ^ 11 % 8) then .unsupported
  else .good ⟨top / 2 ^ 11 % 8, top / 2 ^ 14⟩ (top % 256)

/-- Bytes from bits, least significant first. -/
def bytesOfBits (bs : List Bool) : List Byte :=
  (List.range (bs.length / 8)).map fun i => BitVec.ofNat 8 ((List.range 8).foldl (fun n j => n + boolNat (bs.getD (8 * i + j) false) * 2 ^ j) 0)

/-- The PSDU of decoded payload bits, if its CRC-32 holds (R289, R293). -/
def checkPayload (len : Nat) (bits : List Bool) : Option (List Byte) :=
  let b := bytesOfBits (whiten (bits.take (8 * len + 32)))
  let psdu := b.take len
  if b = withCrc psdu && decide (b.length = len + 4) then some psdu else none

/-! ### The settings' checks (R287, R300) -/

/-- The longest run of equal bits. -/
def longestRun : List Bool → Nat → Nat → Option Bool → Nat
  | [], _, best, _ => best
  | b :: bs, run, best, last =>
    let run := if last = some b then run + 1 else 1
    longestRun bs run (max best run) (some b)

end Sys2Proof.Machine
end

