-- ==== Sys2Proof/Machine/PlPhy.lean ====
section
/-!
DEFINITION. The powerline frame (chapter 15): band plans, the header, regions, loading, and the payload slots that a frame
takes from a start.
-/

namespace Sys2Proof.Machine

open Sys2Proof

def plPeerKey (n sub : Nat) : Nat := 0x3240_00 + 0x100 * (n - 1) + sub

/-- One band plan (Table 15-1): the transform size, the cyclic prefix, crystal cycles per sample, the first sub-carrier, how
many, the data sub-carriers and the header symbols. -/
structure Band where
  n : Nat
  cp : Nat
  tick : Nat
  first : Nat
  count : Nat
  data : Nat
  hdr : Nat
deriving DecidableEq, Repr

/-- The plan of BAND; CENELEC-A where there is none. -/
def bandOf (b : Nat) : Band := if b = 2 then ⟨256, 128, 24, 36, 72, 54, 3⟩ else ⟨192, 96, 96, 25, 36, 27, 6⟩

/-- Crystal cycles of one slot. -/
def Band.slot (b : Band) : Nat := (b.n + b.cp) * b.tick

/-- Crystal cycles of preamble and header (Table 15-2). -/
def Band.head (b : Band) : Nat := 5 * b.n * b.tick + b.hdr * b.slot

/-- Angle units of a number of crystal cycles at the measured mains frequency, FREQ, rounded (Table 15-3, R449); at the loop's rate
where no interval has been measured yet (log 266). -/
def State.unitsOfTicks (s : State) (t : Nat) : Nat :=
  let freq := s.nat 0x2101_02
  let uHz := if freq = 0 then s.ma.rate else freq * 1000
  (t * uHz * 65536 + 13_560_000_000_000) / 27_120_000_000_000

/-- The data sub-carriers: every sub-carrier but each fourth from the first (Table 15-1). -/
def Band.carriers (b : Band) : List Nat := ((List.range b.count).filter fun i => i % 4 ≠ 0).map fun i => b.first + i

/-! ### Map sets (R305, R310) -/

/-- Bytes of one region. -/
def Band.regionBytes (b : Band) : Nat := (b.data + 1) / 2

/-- The loading of data sub-carrier i in region r of a set. -/
def mapNibble (b : Band) (set : List Byte) (r i : Nat) : Nat :=
  let x := (set.getD (r * b.regionBytes + i / 2) 0).toNat
  if i % 2 = 0 then x % 16 else x / 16

/-- The region of an angle (R305). -/
def plRegion (a : Nat) : Nat := 6 * (a % 32768) / 32768

/-- Loadings of a slot whose span begins at receiver angle a: one region's, or the lesser of two. -/
def slotLoad (b : Band) (set : List Byte) (a len : Nat) : List Nat :=
  let r := plRegion a
  let q := plRegion (a + len - 1)
  (List.range b.data).map fun i => min (mapNibble b set r i) (mapNibble b set q i)

def sumN (l : List Nat) : Nat := l.foldl (· + ·) 0

/-! ### The slots of a frame (R305, R306) -/

/-- How a frame is loaded: MAP, and for a set its loadings and OFFSET. -/
structure PlMap where
  id : Nat := 0
  set : List Byte := []
  offset : Nat := 0
deriving DecidableEq, Repr, Inhabited

/-- The slots of a frame: for each, its loadings, and none for a null slot. -/
abbrev PlSlots := List (Option (List Nat))

/-- Slots from angle a until `bits` coded bits are placed; none where 16 in a row would be null (R306). -/
def State.plFill (s : State) (b : Band) (m : PlMap) (len : Nat) : Nat → Nat → Nat → Nat → Option PlSlots
  | 0, _, _, _ => none
  | fuel + 1, a, bits, run =>
    if bits = 0 then some []
    else if s.meetsBlank { start := a % 65536, len := len } then
      if 15 ≤ run then none else (s.plFill b m len fuel (a + len) bits (run + 1)).map (none :: ·)
    else
      let load := if m.id = 0 then List.replicate b.data 1 else slotLoad b m.set ((a + m.offset) % 65536) len
      (s.plFill b m len fuel (a + len) (bits - sumN load) 0).map (some load :: ·)

/-- A_SYM. -/
def State.aSym (s : State) (b : Band) : Nat := s.unitsOfTicks b.slot

/-- Coded bits of a PSDU. -/
def plBits (len : Nat) : Nat := 2 * (8 * len + 32 + 6)

/-- The slots of a PSDU of len bytes whose preamble starts at angle a. The slots' angles repeat after at most 65,536 slots, so a set
that carries a bit in any of them ends the frame within the slots tried; one that never does has no frame (log 140). -/
def State.plSlots (s : State) (b : Band) (m : PlMap) (len a : Nat) : Option PlSlots :=
  s.plFill b m (s.aSym b) (65536 * plBits len) (a + s.unitsOfTicks b.head) (plBits len) 0

/-- The band that the modem works in: BAND, or with the transmitter off the band last valid (R301). -/
def State.band (s : State) : Band := bandOf (if s.nat 0x3200_01 = 0 || decide (s.nat 0x3200_04 ≠ 0) then s.pl.lastBand else s.nat 0x3200_01)

/-- The number of the band plan in work, as BAND counts them. -/
def State.bandNo (s : State) : Nat := if s.band = bandOf 2 then 2 else 1

/-- A set loads something (one that loads nothing could carry no frame; log 140). -/
def loadsSomething (b : Band) (set : List Byte) : Bool := (List.range 6).any fun r => (List.range b.data).any fun i => decide (mapNibble b set r i ≠ 0)

/-- Powered seconds since the set of a node came (TX_MAP_AGE_S). -/
def State.txAge (s : State) (stamp : Option Nat) : Nat :=
  match stamp with
  | some t => min 0xFFFF (s.nat 0x2A01_01 - t)
  | none => 0xFFFF

/-- The map set of a frame to a node (R311): MAP 0 for broadcasts, on request, with no set or an old one, and while the mains
angle is neither LOCKED nor HOLDOVER. -/
def State.plMapFor (s : State) (node : Nat) (robust : Bool) : PlMap :=
  let k := plPeerKey node
  if robust || node = 0 || s.nat (k 2) = 0 || decide (s.nat 0x3200_07 < s.txAge (s.pl.peers.getD (node - 1) {}).takenS) ||
      (s.ma.state ≠ .locked && s.ma.state ≠ .holdover) || !loadsSomething s.band (s.oct (k 1)) then {}
  else { id := s.nat (k 2), set := s.oct (k 1), offset := s.nat (k 3) }

/-- Crystal cycles of a frame with these slots. -/
def Band.frame (b : Band) (slots : PlSlots) : Nat := b.head + slots.length * b.slot

/-! ### The header (Table 15-3) -/

/-- The 64 header bits, as a number. -/
def plHeader (len type map src angle asym dst : Nat) : Nat :=
  let top := (((((len * 2 + type) * 8 + map) * 64 + src) * 65536 + angle) * 8192 + asym) * 64 + dst
  let top := top * 8
  top * 256 + crc8 (bitsMsb 56 top)

/-- The coded header bits over its cells: 140 coded bits, then the first again (Table 15-2). -/
def plHeaderCells (h : Nat) : List Bool :=
  let c := convSection (bitsMsb 64 h)
  c ++ c.take 22

/-- A received header: its fields, or none where the HCRC fails or a reserved field is not 0 (R316). -/
structure PlHead where
  len : Nat
  type : Nat
  map : Nat
  src : Nat
  angle : Nat
  asym : Nat
  dst : Nat
deriving DecidableEq, Repr, Inhabited

def plCheck (h : Nat) : Option PlHead :=
  if crc8 (bitsMsb 56 (h / 256)) ≠ h % 256 || decide (h / 256 % 8 ≠ 0) || h / 2 ^ 56 % 256 = 0 then none
  else some { len := h / 2 ^ 56 % 256, type := h / 2 ^ 55 % 2, map := h / 2 ^ 52 % 8, src := h / 2 ^ 46 % 64 + 1, angle := h / 2 ^ 30 % 65536,
              asym := h / 2 ^ 17 % 8192, dst := h / 2 ^ 11 % 64 + 1 }

/-- The payload's coded bits (R303). -/
def plPayload (psdu : List Byte) : List Bool := convSection (whiten (bitsLsb (withCrc psdu)))

/-! ### Symbols (R303, R304) -/

/-- The phase of SYNCP on sub-carrier i, in units of π / C: i² (Table 15-2); SYNCM is its negative, C units further. -/
def Band.syncPhase (b : Band) (minus : Bool) (i : Nat) : Nat := (i * i + (if minus then b.count else 0)) % (2 * b.count)

/-- The cells of one symbol over sub-carriers i, with the PN9 register of the pilots, the loadings and the coded bits that are left:
the cells, the register and the bits after it. Bits left over in the last slot are zeros. A notched sub-carrier carries its bits
nowhere (R312; DEDUCED, log 233). -/
def plCells (notch : Nat → Bool) : List Nat → Nat → List Nat → List Bool → List PlCell × Nat × List Bool
  | [], r, _, bits => ([], r, bits)
  | i :: is, r, loads, bits =>
    if i % 4 = 0 then
      let x := plCells notch is (pn9Step r) loads bits
      ((if notch i then .off else .pilot (r.testBit 0)) :: x.1, x.2)
    else
      let n := loads.headD 0
      let x := plCells notch is r loads.tail (bits.drop n)
      ((if notch i || n = 0 then .off else .data ((List.range n).map fun j => bits.getD j false)) :: x.1, x.2)

/-- The symbols of slots, in order: a null slot is idle and takes no bit and no pilot. -/
def plSymbolsFrom (notch : Nat → Bool) (count : Nat) : PlSlots → Nat → List Bool → List PlSymbol
  | [], _, _ => []
  | none :: rest, r, bits => .idle :: plSymbolsFrom notch count rest r bits
  | some loads :: rest, r, bits =>
    let x := plCells notch (List.range count) r loads bits
    .cells x.1 :: plSymbolsFrom notch count rest x.2.1 x.2.2

/-! ### Notches and loading (R308, R312) -/

/-- The main lobe of sub-carrier c meets the span of a notch in 0.1 kHz. -/
def Band.lobeMeets (b : Band) (c low high : Nat) : Bool :=
  decide (low < high) && decide (low * 100 * b.n * b.tick ≤ (c + 1) * 27_120_000) && decide ((c - 1) * 27_120_000 ≤ high * 100 * b.n * b.tick)

/-- A sub-carrier is notched. -/
def State.notched (s : State) (c : Nat) : Bool :=
  (List.range 8).any fun x => s.band.lobeMeets c (s.nat (0x3208_01 + 0x100 * x)) (s.nat (0x3208_02 + 0x100 * x))

/-- A preamble symbol: the phase of each sub-carrier, none on one that a notch removes (Table 15-2, R312). -/
def State.plSync (s : State) (minus : Bool) : PlSymbol :=
  let b := s.band
  .sync ((List.range b.count).map fun i => if s.notched (b.first + i) then none else some (b.syncPhase minus i))

/-- A frame's symbols: the preamble, the header in BPSK, the payload slots; the pilots' PN9 register starts at 0x1FF with the first
header symbol and stands still in a null slot (R303, R304; log 233). -/
def State.plSymbols (s : State) (h : Nat) (psdu : List Byte) (sl : PlSlots) : List PlSymbol :=
  let b := s.band
  List.replicate 4 (s.plSync false) ++ s.plSync true ::
    plSymbolsFrom (fun i => s.notched (b.first + i)) b.count (List.replicate b.hdr (some (List.replicate b.data 1)) ++ sl) 0x1FF
      (plHeaderCells h ++ plPayload psdu)

/-- The largest b of Table 15-4 for an SNR and a margin in 0.1 dB. -/
def loadFor (snr : Int) (margin : Nat) : Nat :=
  let x := snr - margin
  if 145 ≤ x then 4 else if 120 ≤ x then 3 else if 70 ≤ x then 2 else if 40 ≤ x then 1 else 0

/-- How long a frame to a node would be on the line from now, in quanta; in robust mode without null slots where blanking
would not let it start now. -/
def State.plAir (s : State) (node len : Nat) (robust : Bool) : Nat :=
  1280 * match s.plSlots s.band (s.plMapFor node robust) len s.angle with
    | some sl => s.band.frame sl
    | none => s.band.head + (plBits len + s.band.data - 1) / s.band.data * s.band.slot

end Sys2Proof.Machine
end

