-- ==== Sys2Proof/Machine/Link.lean ====
section
/-!
DEFINITION. The Dravlink link layer (R335 to R349, R358): messages and their copies, acknowledgements, retries, paths, wake
trains, transactions and what is received.
-/

namespace Sys2Proof.Machine

open Sys2Proof

def peerKey (n sub : Nat) : Nat := 0x1100_00 + 0x100 * (n - 1) + sub

/-- The code of an access status (Table 16-3). -/
def Status.code : Status → Nat
  | .ok => 0
  | .busy => 1
  | .noEntry => 2
  | .noSubindex => 3
  | .readDenied => 4
  | .writeDenied => 5
  | .type => 6
  | .range => 7
  | .state => 8
  | .tooLong => 9
  | .auth => 10
  | .timeout => 11
  | .noPath => 12
  | .noNode => 13
  | .aborted => 14

def State.updLink (s : State) (f : Link → Link) : State := { s with link := f s.link }

def State.ownNode (s : State) : Nat := s.nat 0x1010_01

/-- The module takes part in Dravlink (R335). -/
def State.linkOn (s : State) : Bool :=
  s.link.running && decide (1 ≤ s.ownNode) && decide (s.ownNode ≤ s.nat 0x1010_03) && decide (s.nat 0x1010_02 ≠ 0)

def State.peer (s : State) (n : Nat) : Peer := s.link.peers.getD (n - 1) {}

def State.updPeer (s : State) (n : Nat) (f : Peer → Peer) : State :=
  s.updLink fun l => { l with peers := l.peers.modify (n - 1) f }

/-- A number of a node of a segment. -/
def isNode (n : Nat) : Bool := decide (1 ≤ n) && decide (n ≤ 64)

/-! ### AUTH (R358, R374) -/

/-- The settings of OD 1010 now: a message keeps those of its hand-over (R352). -/
def State.linkSet (s : State) : LinkSet :=
  { node := s.nat 0x1010_01, segment := s.nat 0x1010_02, head := s.flag 0x1010_04, retries := s.nat 0x1010_07, jitter := s.nat 0x1010_08,
    pathFails := s.nat 0x1010_09, rfTurn := s.nat 0x1010_0A, plWait := s.nat 0x1010_0C, repeats := s.nat 0x1010_0D }

/-- What AUTH covers: SEGMENT, SRC, DST, SEQ and a part of the payload. -/
def authText (segment src dst seq : Nat) (part : List Byte) : List Byte :=
  [BitVec.ofNat 8 segment, BitVec.ofNat 8 src, BitVec.ofNat 8 dst] ++ leBytes 2 seq ++ part

/-- AUTH of an outgoing message: 0 under a key of zeros, and while the unwrap engine is locked. -/
def State.authSend (s : State) (l : LinkSet) (r : Role) (dst seq : Nat) (part : List Byte) : List Byte :=
  if noKey (s.segKey r) || s.flag 0x1812_03 then zeroBytes 8 else mac8 (s.segKey r) (authText l.segment l.node dst seq part)

/-- AUTH of an incoming message holds. -/
def State.authGood (s : State) (r : Role) (src seq : Nat) (part auth : List Byte) : Bool :=
  if noKey (s.segKey r) then r = .operator
  else !s.flag 0x1812_03 && decide (auth = mac8 (s.segKey r) (authText (s.nat 0x1010_02) src s.ownNode seq part))

/-- The authenticated part of an OD_REQ or OD_RSP: payload bytes 0 to 9 and from byte 18. -/
def odPart (p : List Byte) : List Byte := slice p 0 10 ++ p.drop 18

/-! ### Frames (Table 16-6) -/

/-- RESYNC goes into a frame to a node (R339). -/
def State.resyncFor (s : State) (dst : Nat) : Bool := s.link.resyncAll || (isNode dst && !(s.peer dst).synced)

/-- The header of a frame under these settings. -/
def State.dlHeader (s : State) (l : LinkSet) (cls : Nat) (ackreq : Bool) (dst seq : Nat) : List Byte :=
  [BitVec.ofNat 8 (cls + boolNat ackreq * 8 + boolNat (s.resyncFor dst) * 16 + boolNat (s.power = .networked) * 32 +
    boolNat l.head * 64), BitVec.ofNat 8 l.segment, BitVec.ofNat 8 dst, BitVec.ofNat 8 l.node] ++ leBytes 2 seq

/-- A transmit descriptor: Table 13-3 with CHANNEL, AERIAL and RETURN 0, which is Table 15-6 too. -/
def txDescriptor (flags start late node : Nat) : List Byte :=
  [BitVec.ofNat 8 flags, 0, 0, 0] ++ leBytes 6 start ++ leBytes 2 late ++ [BitVec.ofNat 8 node, 0, 0, 0]

/-- The payload of a message with its AUTH (Tables 16-7 and 16-10). -/
def State.msgPayload (s : State) (m : Msg) : List Byte :=
  if m.cls = 1 || m.cls = 2 then splice m.payload 10 (s.authSend m.set m.role m.dst m.seq (odPart m.payload))
  else if m.cls = 4 then splice m.payload 4 (s.authSend m.set m.role m.dst m.seq (slice m.payload 0 4))
  else m.payload

/-- The PSDU of a message. -/
def State.msgPsdu (s : State) (m : Msg) : List Byte := s.dlHeader m.set m.cls (decide (m.dst ≠ 0)) m.dst m.seq ++ s.msgPayload m

/-- A queue-5 or queue-6 bunting of a message; FLAGS[2] carries ROBUST to the powerline. -/
def State.msgBunting (s : State) (m : Msg) (robust : Bool) : List Byte := txDescriptor (boolNat robust * 4) 0 0 m.dst ++ s.msgPsdu m

/-! ### What the host hears (R349, Table 16-12) -/

/-- A bunting for queue 1; while the bridge is on, the control core relays it to queue 11 (R334). -/
def State.toHost (s : State) (b : List Byte) (event : Bool) : State :=
  let (s, st) := s.push 1 5 b
  let s := if event && st = .ok then s.raise 86 else s
  if s.bridged && st = .ok && !s.halted then
    match s.pop 1 with
    | (s, some x) => if x.corrupt then s else (s.push 11 1 x.data).1
    | (s, none) => s
  else s

/-- A KIND 1 bunting for a message of queue 0. -/
def State.sendStatus (s : State) (m : Msg) (paths : Nat) (st : Status) : State :=
  match m.source with
  | .host tag => s.toHost ([1, BitVec.ofNat 8 m.cls, BitVec.ofNat 8 m.dst, BitVec.ofNat 8 paths] ++ leBytes 2 tag ++ [BitVec.ofNat 8 st.code, 0]) true
  | _ => s

/-- The result of a dictionary access in the registers of a session: STATE, CODE, LENGTH and the value, the pointer at word 0
(R331). -/
def State.odDone (s : State) (x : Sess) (code : Nat) (value : List Byte) : State :=
  s.updSession x fun y => { y with stat := if code = 0 then 2 else 3, code := code, len := value.length, buf := if value = [] then y.buf else value, ptr := 0 }

/-- A transaction ends: a KIND 2 bunting with the path its reply came on, or the session's registers and event 86. -/
def State.txnEnd (s : State) (t : Txn) (paths code : Nat) (value : List Byte) : State :=
  match t.source with
  | .host tag => s.toHost ([2, 1, BitVec.ofNat 8 t.dst, BitVec.ofNat 8 paths] ++ leBytes 2 tag ++ [BitVec.ofNat 8 code, 0] ++ value) true
  | .access x => (s.odDone x code value).raise 86
  | _ => s

/-! ### Paths (R344) and coding (R297) -/

/-- PATH_RF or PATH_PL of a peer. -/
def pathKey (n : Nat) (pl : Bool) : Nat := peerKey n (if pl then 2 else 1)

def State.pathUp (s : State) (n : Nat) (pl : Bool) : Bool := s.nat (pathKey n pl) = 0

/-- A copy to a peer ended unacknowledged; `limit` is the message's PATH_FAILS. -/
def State.pathFail (s : State) (limit n : Nat) (pl : Bool) : State :=
  if !isNode n then s
  else
    let f := (s.peer n).fails
    let f := if pl then (f.1, f.2 + 1) else (f.1 + 1, f.2)
    let s := s.updPeer n fun p => { p with fails := f }
    if s.pathUp n pl && decide (limit ≤ (if pl then f.2 else f.1)) then (s.setN (pathKey n pl) 1).raise 87 else s

/-- A correct frame came from a peer on a path. -/
def State.pathGood (s : State) (n : Nat) (pl : Bool) : State :=
  let s := s.updPeer n fun p => { p with fails := if pl then (p.fails.1, 0) else (0, p.fails.2) }
  if s.pathUp n pl then s else (s.setN (pathKey n pl) 0).raise 87

/-- CODING_NOW of a node becomes LDPC (R297). -/
def State.toLdpc (s : State) (n : Nat) : State :=
  let s := (((s.setN (radioKey n 3) 2).setN (radioKey n 4) 0).bump (radioKey n 5))
  { s with radio := { s.radio with ldpcT0 := s.radio.ldpcT0.set (n - 1) (some (s.nat 0x2A01_01)), trial := s.radio.trial &&& ~~~ BitVec.ofNat 64 (2 ^ (n - 1)) } }

/-- A unicast radio frame to a node ended without its acknowledgement; `conv`: it was coded convolutionally. -/
def State.rfFailed (s : State) (n : Nat) (conv : Bool) : State :=
  if !isNode n || !conv || decide (s.nat (radioKey n 2) ≠ 0) || decide (s.nat (radioKey n 3) ≠ 1) then s
  else if s.radio.trial.getLsbD (n - 1) then s.toLdpc n
  else
    let c := s.nat (radioKey n 4) + 1
    if s.nat 0x3100_07 ≤ c then s.toLdpc n else s.setN (radioKey n 4) c

/-- A radio frame to a node was acknowledged: one sent convolutionally ends the run of failures, and succeeds where it was the trial
(R297). -/
def State.rfGood (s : State) (n : Nat) (conv : Bool) : State :=
  if !conv then s
  else
  let s := s.setN (radioKey n 4) 0
  { s with radio := { s.radio with trial := s.radio.trial &&& ~~~ BitVec.ofNat 64 (2 ^ (n - 1)) } }

/-! ### Copies (R340 to R343, R348) -/

def State.msg? (s : State) (i : Nat) : Option Msg := s.link.msgs[i]?

def State.updMsg (s : State) (i : Nat) (f : Msg → Msg) : State := s.updLink fun l => { l with msgs := l.msgs.modify i f }

def State.dropMsg (s : State) (i : Nat) : State := s.updLink fun l => { l with msgs := l.msgs.eraseIdx i }

def Msg.copy? (m : Msg) (pl : Bool) : Option Copy := m.copies.find? fun c => c.pl = pl

def State.updCopy (s : State) (i : Nat) (pl : Bool) (f : Copy → Copy) : State :=
  s.updMsg i fun m => { m with copies := m.copies.map fun c => if c.pl = pl then f c else c }

/-- How long the acknowledgement of a copy is awaited, in quanta (R341). -/
def State.ackWait (s : State) (l : LinkSet) (dst : Nat) (pl : Bool) : Nat :=
  if pl then usQuanta (1000 * l.plWait) else usQuanta (l.rfTurn + 400) + s.airQuanta (s.modeTo dst) 6

/-- On-air time of a message on a path, in quanta. -/
def State.msgAir (s : State) (m : Msg) (pl : Bool) : Nat :=
  let n := 6 + m.payload.length
  if pl then s.plAir m.dst n m.robust else s.airQuanta (s.modeTo m.dst) n

/-- A peer is recorded as SLEEPY. -/
def State.sleepy (s : State) (n : Nat) : Bool := isNode n && s.flag (peerKey n 3)

/-- The frame of a copy goes to its transmit queue; false where the queue refuses it. -/
def State.pushCopy (s : State) (i : Nat) (pl : Bool) : State × Bool :=
  match s.msg? i with
  | none => (s, false)
  | some m =>
    let key := s.pool.key
    let (s, st) := s.push (if pl then 6 else 5) 5 (s.msgBunting m (pl && m.robust))
    if st = .ok then (s.updCopy i pl fun c => { c with stage := .queued, tries := c.tries + 1, key := key, t0 := s.now }, true)
    else (s, false)

/-- The time of one WAKE frame to a node and the gap after it (R266). -/
def State.wakeTime (s : State) (dst : Nat) : Nat := s.airQuanta (s.modeTo dst) 6 + usQuanta 8

/-- The WAKE frames of a train: SNIFF_INTERVAL_MS and one frame more (R348). -/
def State.wakeCount (s : State) (dst : Nat) : Nat :=
  let w := s.wakeTime dst
  (usQuanta (1000 * s.nat 0x3000_0A) + s.airQuanta (s.modeTo dst) 6 + w - 1) / w

/-- The next WAKE frame of a train, with `left` more behind it: SEQ carries the rest of the train in 100 µs (log 151). -/
def State.pushWake (s : State) (i : Nat) (left : Nat) : State × Bool :=
  match s.msg? i with
  | none => (s, false)
  | some m =>
    let key := s.pool.key
    let rest := min 65535 ((left * s.wakeTime m.dst + 3471359) / 3471360)
    let (s, st) := s.push 5 5 (txDescriptor 0 0 0 m.dst ++ s.dlHeader m.set 6 false m.dst rest)
    if st = .ok then (s.updCopy i false fun c => { c with stage := .train left, key := key, t0 := s.now }, true) else (s, false)

/-- A copy begins: on the powerline only with the line present; to a SLEEPY peer on the radio behind a wake train. -/
def State.launch (s : State) (i : Nat) (pl : Bool) : State × Bool :=
  match s.msg? i with
  | none => (s, false)
  | some m =>
    if pl && s.noLine then (s, false)
    else if !pl && s.sleepy m.dst then s.pushWake i (s.wakeCount m.dst - 1)
    else s.pushCopy i pl

/-- Every copy has ended: a broadcast is over; a message that never went on air has no path; a reply has failed; anything else
stays in flight until its timeout, where it fails (R340, R346, R349; DEDUCED, log 150). -/
def State.msgSettle (s : State) (i : Nat) : State :=
  match s.msg? i with
  | none => s
  | some m =>
    if m.copies.any fun c => c.stage ≠ .ended then s
    else
      let sent := m.copies.any (·.sent)
      if m.dst = 0 && sent then (s.dropMsg i).sendStatus m 0 .ok
      else if !sent then
        let s := ((s.dropMsg i).bump 0x1020_03).sendStatus m 0 .noPath
        if m.cls = 1 then
          match s.link.txns.find? fun t => t.tid = uAt m.payload 0 2 && t.dst = m.dst with
          | some t => (s.updLink fun l => { l with txns := l.txns.filter fun x => x ≠ t }).txnEnd t 0 Status.noPath.code []
          | none => s
        else s
      else if m.cls = 2 then (s.dropMsg i).bump 0x1020_03
      else s

/-- One copy ends unacknowledged; a standby starts in its place, or a broadcast's standby is not needed (R340). -/
def State.copyEnd (s : State) (i : Nat) (pl : Bool) : State :=
  match s.msg? i with
  | none => s
  | some m =>
    let sent := match m.copy? pl with
      | some c => c.sent
      | none => false
    let s := (s.updCopy i pl fun c => { c with stage := .ended }).pathFail m.set.pathFails m.dst pl
    match m.copy? (!pl) with
    | some c =>
      if c.stage = .standby then
        if m.dst = 0 && sent then (s.updCopy i (!pl) fun c => { c with stage := .ended }).msgSettle i
        else match s.launch i (!pl) with
          | (s, true) => s
          | (s, false) => ((s.updCopy i (!pl) fun c => { c with stage := .ended }).pathFail m.set.pathFails m.dst (!pl)).msgSettle i
      else s.msgSettle i
    | none => s.msgSettle i

/-- Start a copy that has not started, which ends at once where its path is unavailable (R343). -/
def State.startCopy (s : State) (i : Nat) (pl : Bool) : State :=
  if ((s.msg? i).bind (·.copy? pl)).any fun c => c.stage = .standby then
    match s.launch i pl with
    | (s, true) => s
    | (s, false) => s.copyEnd i pl
  else s

/-- The mode of a class, the radio alone without the line (R340, R343). -/
def State.sendMode (s : State) (cls : Nat) : Nat := if s.noLine then 3 else s.nat (0x1011_00 + cls)

/-- A twin push of a message (R227, R340). -/
def State.twinCopies (s : State) (i : Nat) : State :=
  match s.msg? i with
  | none => s
  | some m =>
    let key := s.pool.key
    let (s, st5, st6) := s.twinPush (s.msgBunting m m.robust)
    let f (c : Copy) : Copy := { c with stage := .queued, tries := 1, key := key, t0 := s.now }
    let s := (s.updCopy i false f).updCopy i true f
    let s := if st5 = .ok then s else s.copyEnd i false
    if st6 = .ok then s else s.copyEnd i true

/-- The first hand-over of a message: its SEQ, and its copies by its mode (R338, R340, R348). -/
def State.startMsg (s : State) (m : Msg) : State :=
  let seq := s.txSeq
  let s := ({ s with txSeq := (seq + 1) % 65536 } : State).bump 0x1020_01
  let mode := s.sendMode m.cls
  let uni := m.dst ≠ 0
  let down (pl : Bool) : Bool := uni && !s.pathUp m.dst pl
  let asleep := s.sleepy m.dst
  let copies : List Copy :=
    if mode = 3 then [{ pl := false, stage := .standby }]
    else if mode = 4 then [{ pl := true, stage := .standby }]
    else [{ pl := false, stage := .standby }, { pl := true, stage := .standby }]
  let m := { m with seq := seq, t0 := s.now, bound := if m.source = .reply then m.bound else s.now, resync := s.resyncFor m.dst, set := s.linkSet,
                    hangBack := mode = 0, copies := copies }
  let i := s.link.msgs.length
  let s := s.updLink fun l => { l with msgs := l.msgs ++ [m] }
  if mode = 0 then
    if asleep then (if down true then (s.startCopy i true).startCopy i false else s.startCopy i true)
    else s.twinCopies i
  else if mode = 1 then
    let s := if down false then s.startCopy i true else s
    s.startCopy i false
  else if mode = 2 then
    let s := if down true then s.startCopy i false else s
    s.startCopy i true
  else s.startCopy i (mode = 4)

/-! ### What the transmitters report (R343) -/

/-- How a frame ended for the link layer: sent; ended in a way that R343 lists; ended otherwise. -/
inductive FrameEnd where
  | sent | gone | lost
deriving DecidableEq, Repr

/-- The random gap before a repetition, in quanta (R342). -/
def State.gapTime (s : State) (jitter : Nat) : Nat × State :=
  let (r, s) := s.random (1000 * jitter + 1)
  (usQuanta r, s)

/-- A copy waits for its next repetition, or ends (R342). -/
def State.copyAgain (s : State) (i : Nat) (pl : Bool) (limit : Nat) : State :=
  match s.msg? i with
  | none => s
  | some m =>
    if (m.copy? pl).any fun c => c.tries < limit then
      let (g, s) := s.gapTime m.set.jitter
      s.updCopy i pl fun c => { c with stage := .gap, t0 := s.now, dur := g }
    else s.copyEnd i pl

/-- A standby copy starts at the end of the first attempt of its primary (R340). -/
def State.startStandby (s : State) (i : Nat) (pl : Bool) : State :=
  match s.msg? i with
  | none => s
  | some m =>
    match m.copy? (!pl) with
    | some c => if c.stage = .standby && !m.hangBack && decide (m.dst ≠ 0) then s.startCopy i (!pl) else s
    | none => s

/-- The frame with this number ended on a path. -/
def State.linkEnded (s : State) (key : Nat) (pl : Bool) (e : FrameEnd) (conv : Bool) : State :=
  match s.link.msgs.findIdx? fun m => m.copies.any fun c => c.pl = pl && c.key = key && (match c.stage with
      | .queued | .train _ => true
      | _ => false) with
  | none => s
  | some i =>
    match s.msg? i with
    | none => s
    | some m =>
      match ((m.copy? pl).map (·.stage) : Option CopyStage) with
      | some (.train left) =>
        if e = .gone then s.copyEnd i pl
        else
          let r := if left = 0 then s.pushCopy i pl else s.pushWake i (left - 1)
          if r.2 then r.1 else r.1.copyEnd i pl
      | some .queued =>
        let s := if e = .sent then s.updCopy i pl fun c => { c with sent := true, conv := conv } else s
        if e = .gone then s.copyEnd i pl
        else if m.dst = 0 then s.copyAgain i pl (1 + m.set.repeats)
        else if e = .sent then s.updCopy i pl fun c => { c with stage := .ackWait, t0 := s.now, dur := s.ackWait m.set m.dst pl }
        else (if (m.copy? pl).any (fun c => c.tries = 1) then s.startStandby i pl else s).copyAgain i pl (1 + m.set.retries)
      | _ => s

/-- A copy's acknowledgement wait is over: a repetition or the end, and the standby's start (R340, R342). -/
def State.ackLate (s : State) (i : Nat) (pl : Bool) : State :=
  match s.msg? i with
  | none => s
  | some m =>
    match m.copy? pl with
    | none => s
    | some c =>
      let s := if pl then s else s.rfFailed m.dst c.conv
      let s := if c.tries = 1 then s.startStandby i pl else s
      s.copyAgain i pl (1 + m.set.retries)

/-- The stage of a copy has run out. -/
def State.stageOver (s : State) (i : Nat) (pl : Bool) (st : CopyStage) : Bool :=
  match (s.msg? i).bind (·.copy? pl) with
  | some c => c.stage = st && decide (c.t0 + c.dur ≤ s.now)
  | none => false

/-- ACK_WAIT_EXPIRY (R342). -/
def execAckWaitExpiry (m : Fin 16) (pl : Bool) (s : State) : Out := nextWhen (s.stageOver m pl .ackWait) s (s.ackLate m pl)

/-- A repetition is handed over if it ends, with its wait, within TMO/2 (R342); otherwise the copy ends. -/
def State.retry (s : State) (i : Nat) (pl : Bool) : State :=
  match s.msg? i with
  | none => s
  | some m =>
    if m.dst = 0 || decide (s.now + s.msgAir m pl + s.ackWait m.set m.dst pl ≤ m.bound + usQuanta (500 * m.tmo)) then
      match (if pl && s.noLine then (s, false) else s.pushCopy i pl) with
      | (s, true) => s.bump (if pl then 0x1020_05 else 0x1020_04)
      | (s, false) => s.copyEnd i pl
    else s.copyEnd i pl

/-- RETRY_HANDOVER (R342). -/
def execRetryHandover (m : Fin 16) (pl : Bool) (s : State) : Out := nextWhen (s.stageOver m pl .gap) s (s.retry m pl)

/-! ### Hand-over (R345, R349) -/

/-- The role of the host behind queue 0: the SPI host's session, or the UART's while it bridges. -/
def State.hostRole (s : State) (producer : Nat) : Role := s.roleOf (if producer = 1 then .uart else .spi)

/-- TMO of a queue-0 message in ms. -/
def State.tmoMs (s : State) (b : Nat) : Nat := if b = 0 then s.nat 0x1010_06 else 10 * max 5 b

/-- The judgement of a queue-0 bunting (R336, R349; log 152). -/
def State.hostCheck (s : State) (b : List Byte) : Status :=
  let cls := uAt b 0 1
  let dst := uAt b 1 1
  let p := b.drop 8
  if b.length < 8 || (cls ≠ 1 && cls ≠ 4 && cls ≠ 5) then .type
  else if !s.flag 0x1010_04 && !(cls = 5 && dst = s.nat 0x1010_05) then .noNode
  else if (dst = 0 && cls = 1) || decide (s.nat 0x1010_03 < dst) || dst = s.ownNode then .noNode
  else if cls = 1 then
    if p.length < 18 then .type
    else if uAt p 2 1 = 1 then (if p.length = 18 then .ok else .type)
    else if uAt p 2 1 = 2 then (if uAt p 9 1 ≤ 222 && decide (p.length = 18 + uAt p 9 1) then .ok else .type)
    else .type
  else if cls = 4 then (if p.length = 12 then .ok else .type)
  else if 1 ≤ p.length && decide (p.length ≤ 240) then .ok else .type

/-- A new TID (R346, R360). -/
def State.nextTid (s : State) : Nat × State := (s.nat 0x1813_01, s.setN 0x1813_01 ((s.nat 0x1813_01 + 1) % 65536))

/-- An OD_REQ payload filled by the module: TID, ROLE, TMO, and AUTH as zeros (R349). -/
def fillReq (p : List Byte) (tid : Nat) (r : Role) (tmo : Nat) : List Byte :=
  leBytes 2 tid ++ [p.getD 2 0, BitVec.ofNat 8 (roleCode r), BitVec.ofNat 8 (tmo / 10)] ++ slice p 5 5 ++ zeroBytes 8 ++ p.drop 18

/-- A request is handed over with its transaction. -/
def State.startRequest (s : State) (m : Msg) : State :=
  let t : Txn := { tid := uAt m.payload 0 2, dst := m.dst, role := m.role, tmo := m.tmo, t0 := s.now, source := m.source }
  (s.updLink fun l => { l with txns := l.txns ++ [t] }).startMsg m

/-- The head of queue 0. -/
def State.takeHost (s : State) : State :=
  match s.pop 0 with
  | (s, none) => s
  | (s, some x) =>
    let b := x.data
    let r := s.hostRole x.producer
    let m : Msg := { cls := uAt b 0 1, dst := uAt b 1 1, payload := b.drop 8, role := r, robust := (b.getD 3 0).getLsbD 0,
                     source := .host (uAt b 4 2), tmo := s.tmoMs (uAt b 2 1) }
    if x.corrupt then s
    else match s.hostCheck b with
      | .ok =>
        if m.cls = 1 then
          let (tid, s) := s.nextTid
          s.startRequest { m with payload := fillReq m.payload tid r m.tmo }
        else if m.cls = 4 then s.startMsg { m with payload := slice m.payload 0 2 ++ [BitVec.ofNat 8 (roleCode r), 0] ++ zeroBytes 8 }
        else s.startMsg m
      | st => s.sendStatus m 0 st

/-- The head of queue 2: a rule notification (R203). -/
def State.takeRule (s : State) : State :=
  match s.pop 2 with
  | (s, none) => s
  | (s, some x) =>
    match s.link.notes.find? fun n => n.1 = x.key with
    | none => s
    | some n =>
      let s := s.updLink fun l => { l with notes := l.notes.filter fun y => y.1 ≠ x.key }
      if x.corrupt then s else s.startMsg { cls := 3, dst := n.2, payload := x.data, source := .rule, tmo := s.nat 0x1010_06 }

/-- The head of queue 4: a reply. -/
def State.takeReply (s : State) : State :=
  match s.pop 4 with
  | (s, none) => s
  | (s, some x) =>
    match s.link.replies.find? fun n => n.key = x.key with
    | none => s
    | some n =>
      let s := s.updLink fun l => { l with replies := l.replies.filter fun y => y.key ≠ x.key }
      if x.corrupt then s
      else s.startMsg { cls := 2, dst := n.dst, payload := x.data, role := n.role, source := .reply, tmo := n.tmo, bound := n.t0 }

/-- The next message in the order of R345; a remote access of a session stands before queue 0 (log 153). -/
def State.handOver1 (s : State) : State :=
  if 16 ≤ s.link.msgs.length then s
  else if (s.queue 4).items ≠ [] then s.takeReply
  else if (s.queue 2).items ≠ [] then s.takeRule
  else match s.link.waiting with
    | m :: rest => (s.updLink fun l => { l with waiting := rest }).startRequest m
    | [] => if (s.queue 0).items ≠ [] then s.takeHost else s

/-- MESSAGE_HANDOVER (R345). -/
def execMessageHandover (s : State) : Out := nextWhen s.linkOn s s.handOver1

/-- A remote access of a session's FW_OD_CMD (R331, R346): p is the payload of Table 16-10 without TID, ROLE, TMO and AUTH. It is
handed over at once where nothing stands before it in the order of R345. -/
def State.remoteAccess (s : State) (x : Sess) (node : Nat) (p : List Byte) : State :=
  let r := (s.session x).role
  let (tid, s) := s.nextTid
  let tmo := s.nat 0x1010_06 / 10 * 10
  let m : Msg := { cls := 1, dst := node, payload := fillReq p tid r tmo, role := r, source := .access x, tmo := tmo }
  let s := s.updSession x fun y => { y with tid := BitVec.ofNat 16 tid, stat := 1 }
  if s.link.msgs.length < 16 && decide (s.link.waiting = []) && decide ((s.queue 4).items = []) && decide ((s.queue 2).items = []) then s.startRequest m
  else s.updLink fun l => { l with waiting := l.waiting ++ [m] }

/-- OP 15: the remote request of a session ends with ABORTED; a later reply is late (R331). -/
def State.remoteAbort (s : State) (x : Sess) : State :=
  let s := s.updLink fun l => { l with msgs := l.msgs.filter fun m => m.source ≠ .access x, waiting := l.waiting.filter fun m => m.source ≠ .access x,
                                       txns := l.txns.filter fun t => t.source ≠ .access x }
  (s.odDone x Status.aborted.code []).raise 86

/-! ### Timeouts (R346, R349) -/

/-- A message fails by its timeout. -/
def State.msgTimeout (s : State) (i : Nat) : State :=
  match s.msg? i with
  | none => s
  | some m =>
    let s := s.dropMsg i
    if m.dst = 0 && m.copies.any (·.sent) then s.sendStatus m 0 .ok
    else (((s.bump 0x1020_03).bump 0x1020_0A).raise 88).sendStatus m 0 .timeout

/-- A transaction ends with TIMEOUT; its request, if still in flight, has failed. -/
def State.txnTimeout (s : State) (t : Txn) : State :=
  let s := s.updLink fun l => { l with txns := l.txns.filter fun x => x ≠ t }
  let s := match s.link.msgs.findIdx? fun m => m.cls = 1 && m.dst = t.dst && uAt m.payload 0 2 = t.tid with
    | some i =>
      match s.msg? i with
      | some m => ((s.dropMsg i).bump 0x1020_03).sendStatus m 0 .timeout
      | none => s
    | none => s
  ((s.bump 0x1020_0A).raise 88).txnEnd t 0 Status.timeout.code []

/-- TRANSACTION_TIMEOUT (R346, R349): of a transaction, or of a message of class 3, 4 or 5. -/
def execTransactionTimeout (txn : Bool) (i : BitVec 8) (s : State) : Out :=
  if txn then
    match s.link.txns[i.toNat]? with
    | some t => nextWhen (s.passedMs t.t0 t.tmo) s (s.txnTimeout t)
    | none => .next s
  else
    match s.msg? i.toNat with
    | some m => nextWhen (decide (3 ≤ m.cls) && s.passedMs m.t0 m.tmo) s (s.msgTimeout i.toNat)
    | none => .next s

/-- REPLY_CACHE_EXPIRY (R347). -/
def execReplyCacheExpiry (i : Fin 64) (s : State) : Out :=
  match s.link.cache[i.val]? with
  | some c => nextWhen (s.passedMs c.t0 c.tmo) s (s.updLink fun l => { l with cache := l.cache.eraseIdx i })
  | none => .next s

/-- RESYNC_END (R339). -/
def execResyncEnd (s : State) : Out :=
  nextWhen (s.link.running && s.link.resyncAll && s.passedS s.link.t0 10) s (s.updLink fun l => { l with resyncAll := false })

/-! ### Receiving (R335, R339, R341) -/

/-- A received frame (Table 16-6). -/
structure DlFrame where
  cls : Nat
  ackreq : Bool
  resync : Bool
  sleepy : Bool
  head : Bool
  seg : Nat
  dst : Nat
  src : Nat
  seq : Nat
  payload : List Byte
deriving DecidableEq, Repr

def dlFrame (b : List Byte) : Option DlFrame :=
  if b.length < 6 then none
  else
    let x := b.getD 0 0
    some { cls := x.toNat % 8, ackreq := x.getLsbD 3, resync := x.getLsbD 4, sleepy := x.getLsbD 5, head := x.getLsbD 6, seg := uAt b 1 1,
           dst := uAt b 2 1, src := uAt b 3 1, seq := uAt b 4 2, payload := b.drop 6 }

/-- The frame at the head of queue 7 or 8, behind its 16-byte receive descriptor. -/
def State.rxHead (s : State) (pl : Bool) : Option DlFrame :=
  match (s.queue (if pl then 8 else 7)).items with
  | b :: _ => dlFrame (b.data.drop 16)
  | [] => none

/-- The end of the frame in a receive bunting, as a TB value: on the radio its sync stamp and what follows the sync word, on
the powerline its commit, which its end makes (R341; logs 130, 154). -/
def State.rxEndTb (s : State) (pl : Bool) (b : Bunting) : Nat :=
  if pl then b.stamp
  else
    let m := (b.data.getD 0 0).toNat
    uAt b.data 4 6 + s.afterSync ⟨m % 8, m / 8 % 4⟩ (b.data.length - 16) / quantaTick

/-- An ACK is queued as a timed frame (R341). -/
def State.sendAck (s : State) (pl : Bool) (f : DlFrame) (endTb : Nat) : State :=
  let turn := s.nat (if pl then 0x1010_0B else 0x1010_0A)
  let start := (endTb + turn * 2712 / 100) % 2 ^ 48
  (s.push (if pl then 6 else 5) 5 (txDescriptor 3 start (if pl then 1000 else 200) f.src ++ s.dlHeader s.linkSet 0 false f.src f.seq)).1

/-- What every frame of a peer of the segment tells: the path, LAST_SEEN_S and SLEEPY (R344, R348). -/
def State.heard (s : State) (pl : Bool) (f : DlFrame) : State :=
  ((s.pathGood f.src pl).setN (peerKey f.src 4) (s.nat 0x2A01_01)).setB (peerKey f.src 3) f.sleepy

/-- A head conflict (R335). -/
def State.headConflict (s : State) (f : DlFrame) : State :=
  if f.head && (decide (f.src ≠ s.nat 0x1010_05) || s.flag 0x1010_04) then (s.bump 0x1020_0E).raise 89 else s

/-- What the filter of R335 makes of a frame: the state, and whether the frame goes on. One for another node counts nothing, but
tells of its sender (log 235). -/
def State.filterFrame (s : State) (pl : Bool) (f : DlFrame) : State × Bool :=
  if f.seg ≠ s.nat 0x1010_02 then (s.bump 0x1020_0D, false)
  else if f.src = s.ownNode then (if f.dst = 0 || f.dst = s.ownNode then (s.bump 0x1020_0E).raise 89 else s, false)
  else if !isNode f.src then (s, false)
  else
    let s := s.heard pl f
    if f.dst = 0 || f.dst = s.ownNode then (s.headConflict f, true) else (s, false)

/-- Where SEQ stands in a peer's window (R339). -/
inductive SeqCheck where
  | fresh | duplicate | stale
deriving DecidableEq, Repr

/-- The window of a peer takes a SEQ. -/
def State.window (s : State) (src seq : Nat) (resync : Bool) : State × SeqCheck :=
  let h := s.nat (peerKey src 5)
  let map := (s.peer src).map
  let d := (seq + 65536 - h) % 65536
  let back := (65536 - d) % 65536
  let marked := decide (back < 64) && map.getLsbD back
  if resync && !marked then ((s.setN (peerKey src 5) seq).updPeer src fun p => { p with map := 1 }, .fresh)
  else if 1 ≤ d && decide (d < 32768) then ((s.setN (peerKey src 5) seq).updPeer src fun p => { p with map := (p.map <<< d) ||| 1 }, .fresh)
  else if d = 0 || decide (65473 ≤ d) then
    if marked then (s.bump 0x1020_06, .duplicate)
    else (s.updPeer src fun p => { p with map := p.map ||| BitVec.ofNat 64 (2 ^ back) }, .fresh)
  else (s.bump 0x1020_07, .stale)

/-- A rule command: AUTH, then a NET_COMMAND trigger (R336, R358). -/
def State.ruleCommand (s : State) (f : DlFrame) : State :=
  let r := roleOfCode (uAt f.payload 2 1)
  if f.payload.length ≠ 12 then s
  else if 2 < uAt f.payload 2 1 || !s.authGood r f.src f.seq (slice f.payload 0 4) (slice f.payload 4 8) then s.bump 0x1020_0C
  else s.trigger { kind := 5, arg := uAt f.payload 0 2 % 4096, order := 0, level := 0, stamp := s.tb64, zone := none, ident := zeroBytes 24, verdict := {} }

/-- A reply: it ends its transaction and its request's message; TMO that has passed has ended it before (R346, R359). -/
def State.takeResponse (s : State) (pl : Bool) (f : DlFrame) : State :=
  match s.link.txns.find? fun t => t.tid = uAt f.payload 0 2 && t.dst = f.src with
  | none => s.bump 0x1020_09
  | some t =>
    if s.passedMs t.t0 t.tmo then (s.txnTimeout t).bump 0x1020_09
    else if decide (f.payload.length < 18) || !s.authGood t.role f.src f.seq (odPart f.payload) (slice f.payload 10 8) then s.bump 0x1020_0C
    else
      let s := s.updLink fun l => { l with txns := l.txns.filter fun x => x ≠ t }
      let s := match s.link.msgs.findIdx? fun m => m.cls = 1 && m.dst = t.dst && uAt m.payload 0 2 = t.tid with
        | some i =>
          match s.msg? i with
          | some m => (s.dropMsg i).sendStatus m 0 .ok
          | none => s
        | none => s
      s.txnEnd t (if pl then 2 else 1) (uAt f.payload 2 1) ((f.payload.drop 18).take (uAt f.payload 9 1))

/-- A fresh frame goes where its class sends it (R336, R349). -/
def State.routeFrame (s : State) (pl : Bool) (f : DlFrame) (psdu : List Byte) : State :=
  if f.cls = 1 then (s.push 3 5 psdu).1
  else if f.cls = 2 then s.takeResponse pl f
  else if f.cls = 4 then s.ruleCommand f
  else s.toHost ([0, BitVec.ofNat 8 f.cls, BitVec.ofNat 8 f.src, if pl then 2 else 1] ++ leBytes 2 f.seq ++ [0, 0] ++ f.payload) false

/-- A frame of any class but ACK. -/
def State.receiveFrame (s : State) (pl : Bool) (b : Bunting) (f : DlFrame) : State :=
  match s.filterFrame pl f with
  | (s, false) => s
  | (s, true) =>
    let s := if s.power = .networked then { s with wakeDue := some 4 } else s
    if f.cls = 6 then
      if f.dst = 0 then s else s.updLink fun l => { l with wakeHold := some (s.now, usQuanta (100 * f.seq + 20000)) }
    else if f.cls = 7 then s
    else
      let (s, c) := s.window f.src f.seq f.resync
      let s := if f.ackreq && decide (f.dst ≠ 0) then s.sendAck pl f (s.rxEndTb pl b) else s
      if c = .fresh then s.routeFrame pl f (b.data.drop 16) else s

/-- DRAVLINK_FRAME_RECEIVE (R335, R339): the frame at the head of queue 7 or 8; one of fewer than 6 bytes, and any frame while
the module takes no part, is dropped. -/
def execDravlinkFrameReceive (pl : Bool) (s : State) : Out :=
  let q := if pl then 8 else 7
  let ack := match s.rxHead pl with
    | some f => f.cls = 0
    | none => false
  nextWhen (decide ((s.queue q).items ≠ []) && !ack) s (match s.pop q with
    | (s, some b) =>
      match dlFrame (b.data.drop 16) with
      | some f => if s.linkOn && !b.corrupt then s.receiveFrame pl b f else s
      | none => s
    | (s, none) => s)

/-- An acknowledgement from a peer: the message it names is delivered; one whose TMO has passed has failed before (R340, R341,
R349). -/
def State.acknowledged (s : State) (pl : Bool) (f : DlFrame) : State :=
  match s.link.msgs.findIdx? fun m => m.dst = f.src && m.seq = f.seq with
  | none => s.bump 0x1020_08
  | some i =>
    match s.msg? i with
    | none => s
    | some m =>
      if 3 ≤ m.cls && s.passedMs m.t0 m.tmo then (s.msgTimeout i).bump 0x1020_08
      else
      let s := if pl then s else s.rfGood m.dst (((m.copy? false).map Copy.conv).getD false)
      let s := if m.resync then s.updPeer m.dst fun p => { p with synced := true } else s
      ((s.dropMsg i).bump 0x1020_02).sendStatus m (if pl then 2 else 1) .ok

/-- ACK_RECEIVED (R340): an ACK at the head of queue 7 or 8. -/
def execAckReceived (pl : Bool) (s : State) : Out :=
  let q := if pl then 8 else 7
  let ack := match s.rxHead pl with
    | some f => f.cls = 0
    | none => false
  nextWhen ack s (match s.pop q with
    | (s, some b) =>
      match dlFrame (b.data.drop 16) with
      | some f =>
        if s.linkOn && !b.corrupt then
          match s.filterFrame pl f with
          | (s, true) => if f.dst = 0 then s else s.acknowledged pl f
          | (s, false) => s
        else s
      | none => s
    | (s, none) => s)

/-! ### Standby and settings -/

/-- The WAKE broadcast on entering and on leaving NETWORKED_STANDBY (R348). -/
def State.wakeBroadcast (s : State) : State :=
  if s.linkOn then (s.push 5 5 (txDescriptor 0 0 0 0 ++ s.dlHeader s.linkSet 6 false 0 0)).1 else s

/-- Every window starts again (R339, R352). -/
def State.windowsRestart (s : State) : State :=
  (List.range 64).foldl (fun (t : State) i => (t.setN (peerKey (i + 1) 5) 0).updPeer (i + 1) fun p => { p with map := 0 }) s

/-- Dravlink has a message or transaction in flight (R406). -/
def State.linkBusy (s : State) : Bool := decide (s.link.msgs ≠ []) || decide (s.link.txns ≠ []) || decide (s.link.waiting ≠ [])

/-- What follows a taken write. -/
def State.linkWritten (s old : State) (k : Nat) : State :=
  if (k = 0x1010_01 || k = 0x1010_02) && decide (s.nat k ≠ old.nat k) then s.windowsRestart else s

end Sys2Proof.Machine
end

