-- ==== Sys2Proof/Machine/CalBase.lean ====
section
/-!
DEFINITION. What every calibration shares (R389, R390, R393): the die sensors and the record of a calibration's end.
-/

namespace Sys2Proof.Machine

open Sys2Proof

def calKey (b sub : Nat) : Nat := 0x3510_00 + 0x100 * b + sub

/-- The die sensor of a block: 0 to 7 the ports, 8 the radio, 9 the powerline (Table 18-4). -/
def calSensor (b : Nat) : Nat := if b < 4 then 0 else if b < 8 then 1 else if b = 8 then 2 else 3

/-- A die sensor takes part: it is not excluded (R387). -/
def State.sensorOk (s : State) (i : Nat) : Bool := s.flag (0x3502_01 + i)

/-- The sensor that a block reads: its own, or the nearest healthy one by number, the lower of two (R387; log 160). -/
def State.sensorFor (s : State) (i : Nat) : Nat :=
  if s.sensorOk i then i
  else (((List.range 6).filter s.sensorOk).foldl (fun (best : Option Nat) j =>
    match best with
    | none => some j
    | some b => if (if j < i then i - j else j - i) < (if b < i then i - b else b - i) then some j else best) none).getD i

/-- The temperature of a block in 0.1 °C. -/
def State.blockTemp (s : State) (b : Nat) : Int := s.int (0x3501_01 + s.sensorFor (calSensor b))

/-- A calibration of a block is pending (OD 3500/01). -/
def State.calPending (s : State) (b : Nat) : Bool := s.bit 0x3500_01 b

/-- Request the calibration of a block; requests for a pending block merge (R390). -/
def State.calAsk (s : State) (b : Nat) : State :=
  if s.calPending b then s else (s.setBit 0x3500_01 b true).setN (calKey b 3) 1

/-- A calibration of a block has ended (R393): LAST_CAL, CAL_COUNT, CAL_RESULT, and event 92. -/
def State.calDone (s : State) (b : Nat) (ok : Bool) : State :=
  let s := ((s.setBit 0x3500_01 b false).setN (calKey b 1) (s.nat 0x2A01_01)).setI (calKey b 2) (s.blockTemp b)
  ((s.bump (calKey b 4)).setN (calKey b 3) (if ok then 0 else 2)).raise 92

end Sys2Proof.Machine
end

