-- ==== Sys2Proof/Machine/Radio.lean ====
section
/-!
DEFINITION. The sub-GHz radio (chapters 13 and 14): its state machine, transmit frames and their grants, locks and duty,
aerials, receptions, sniffing, calibration, noise and test emission.
-/

namespace Sys2Proof.Machine

open Sys2Proof

def rangeKey (r sub : Nat) : Nat := 0x3011_00 + 0x100 * r + sub

def RadioState.code : RadioState → Nat
  | .sleep => 0
  | .standby => 1
  | .synth => 2
  | .rx => 3
  | .tx => 4
  | .cal => 5

/-- A return state (R261). -/
def returnState (n : Nat) : RadioState := if n = 0 then .sleep else if n = 1 then .standby else if n = 2 then .synth else .rx

def State.updRadio (s : State) (f : Radio → Radio) : State := { s with radio := f s.radio }

/-- The time since a moment, if it has been. -/
def State.sinceOpt (s : State) (t0 : Option Nat) : Nat := (t0.map fun t => s.now - t).getD 0

/-- Enter a state; time in RX, and time in RX without a preamble, is counted for R299. -/
def State.radioEnter (s : State) (st : RadioState) : State :=
  let from_ := if st = .rx then some s.now else none
  s.updRadio fun r => { r with state := st, rxTime := r.rxTime + s.sinceOpt r.rxT0, rxT0 := from_
                               quiet := r.quiet + s.sinceOpt r.quietT0, quietT0 := from_ }

/-- A radio command or a sniff wake ends a self-test slice on the radio (Table 18-1, group 8). -/
def State.radioTurns (s : State) : State := s.sliceYield 8 fun _ => true

/-- Begin a transition of us microseconds (Table 13-1). -/
def State.radioMove (s : State) (no : Nat) (dest : RadioState) (us chan : Nat) : State :=
  s.radioTurns.updRadio fun r => { r with move := some { no := no, dest := dest, t0 := s.now, dur := usQuanta us, chan := chan } }

/-! ### Channels, locks and power (R272 to R274) -/

/-- The carrier of a channel in Hz; 0 where it is unused or there is no such channel. -/
def State.carrierHz (s : State) (ch : Nat) : Nat := if ch < 16 then 30 * s.nat (0x3001_01 + ch) else 0

/-- The permitted range that holds an occupied band of kHz kilohertz on a channel, the lowest where several do. -/
def State.rangeFor (s : State) (ch khz : Nat) : Option Nat :=
  let f := 2 * s.carrierHz ch
  if f = 0 || decide (s.nat 0x3010_02 ≠ 0) then none
  else (List.range 8).find? fun r =>
    decide (s.nat (rangeKey r 4) ≠ 0) && decide (2000 * s.nat (rangeKey r 1) + 1000 * khz ≤ f) && decide (f + 1000 * khz ≤ 2000 * s.nat (rangeKey r 2))

/-- The effective power in a range, in 0.5 dB (R274). -/
def State.radioPower (s : State) (r : Nat) : Int := min (s.int 0x3000_08) (min (s.int 0x3010_01) (s.int (rangeKey r 3)))

/-- The claim of Table 13-6. -/
def powerClaim (p : Int) : Nat := if p ≤ 20 then 560 else if p ≤ 28 then 780 else if p ≤ 34 then 960 else 1250

/-- The range that a frame would be sent in now. -/
def State.frameRange (s : State) (f : RadioFrame) : Option Nat := s.rangeFor f.channel (s.occupied (s.modeTo f.node))

/-! ### Duty (R276) -/

/-- The duty window advances by the bins that POWERED_S has passed (R276). -/
def State.dutyAdvance (s : State) : State :=
  let n := (s.nat 0x2A01_01 - s.radio.binS) / 60
  s.updRadio fun r => { r with binS := r.binS + 60 * n, bins := r.bins.map fun b => (List.replicate n 0 ++ b).take 60 }

/-- The charged time of a range in the window, in thirds of a nanosecond. -/
def State.dutyUsed (s : State) (r : Nat) : Nat := sumN (s.dutyAdvance.radio.bins.getD r [])

/-- The budget of a range: DUTY of an hour. -/
def State.dutyBudget (s : State) (r : Nat) : Nat := s.nat (rangeKey r 4) * 108_000_000

/-- Add charged time to a range's present bin. -/
def State.dutyAdd (s : State) (r t : Nat) : State :=
  let s := s.dutyAdvance
  s.updRadio fun x => { x with bins := x.bins.modify r fun b => match b with
    | [] => [t]
    | c :: cs => (c + t) :: cs }

/-- Charge a range: accepted where it fits; the first refusal of a range raises event 76 until it accepts again (R276). -/
def State.dutyCharge (s : State) (r t : Nat) : State × Bool :=
  if s.dutyUsed r + t ≤ s.dutyBudget r then
    ((s.dutyAdd r t).updRadio fun x => { x with dutyGiven := x.dutyGiven &&& ~~~ BitVec.ofNat 8 (2 ^ r) }, true)
  else if s.radio.dutyGiven.getLsbD r then (s, false)
  else ((s.updRadio fun x => { x with dutyGiven := x.dutyGiven ||| BitVec.ofNat 8 (2 ^ r) }).raise 76, false)

/-! ### The end of a frame (Table 13-4) -/

/-- A frame ends with a status: its counter, event 73 or 74, and word to the link layer. -/
def State.radioEnd (s : State) (f : RadioFrame) (code : Nat) : State :=
  let s := s.bump (([0x3020_01, 0x3020_03, 0x3020_04, 0x3020_05, 0x3020_05, 0x3020_06] : List Nat).getD code 0x3020_06)
  let s := if code = 0 then s.setI 0x3002_01 f.power else s
  (s.raise (if code = 0 then 73 else 74)).linkEnded f.key false (if code = 0 then .sent else if 2 ≤ code && decide (code ≤ 4) then .gone else .lost)
    (f.coding = 1)

/-- The claimant of a frame. -/
def RadioFrame.who (f : RadioFrame) : Claimant := if f.ack then .ackRadio else .radio

/-- Release the radio's grants, but those that a waiting frame has in hand. -/
def State.radioRelease (s : State) : State :=
  let keeps (x : Option RadioFrame) (c : Claimant) : Bool := match x with
    | some f => f.granted.isSome && decide (f.who = c)
    | none => false
  [Claimant.radio, Claimant.ackRadio].foldl (fun t c => if keeps s.radio.held c || keeps s.radio.cur c then t else t.setGrant c 0) s

/-- A frame that was not sent leaves: its claim and grant go with it. A claim that DEADLINE ends is a refused one (R217). -/
def State.radioDrop (s : State) (f : RadioFrame) (code : Nat) : State :=
  let s := if f.claimed && f.granted.isNone then s.endClaim f.who (if code = 1 then some .deadline else none) else s
  let s := if f.granted.isSome then s.setGrant f.who 0 else s
  s.radioEnd f code

/-! ### Onto the air (R268, R270, R276, R287, R296) -/

/-- The transmit aerial of a frame (R270); one with a failed path gives way to the other (R387). -/
def State.txAerial (s : State) (f : RadioFrame) : Nat :=
  let a :=
    if f.aerial = 1 || f.aerial = 2 then f.aerial
    else if s.nat 0x3000_07 ≠ 0 then s.nat 0x3000_07
    else match s.radio.aerials.getD (f.node - 1) none with
      | some (a, t) => if f.node ≠ 0 && decide (s.nat 0x2A01_01 ≤ t + s.nat 0x3000_0F) then a else 1
      | none => 1
  if s.radio.txBad = some a then 3 - a else a

/-- The grant of a frame is in hand: its mode, power and range are fixed and the range is charged for its time on air, 12 µs
of ramps and a gap; or the status it ends with. -/
def State.fixFrame (s : State) (f : RadioFrame) (gapUs : Nat) : State × (RadioFrame ⊕ Nat) :=
  let m := s.modeTo f.node
  match s.frameRange f with
  | none => (s, .inr 3)
  | some r =>
    match s.dutyCharge r (s.airThirds m f.psdu.length + (12 + gapUs) * 3000) with
    | (s, false) => (s, .inr 2)
    | (s, true) => (s, .inl { f with granted := some s.now, rate := m.rate, coding := m.coding, power := s.radioPower r })

/-- The first symbol of a frame leaves after `later` quanta. -/
def State.onAir (s : State) (f : RadioFrame) (later : Nat) : State :=
  let m : RfMode := ⟨f.rate, f.coding⟩
  ((s.radioEnter .tx).setI 0x3002_01 f.power).updRadio fun r =>
    { r with air := some (f, s.now + later, s.airQuanta m f.psdu.length), bits := s.frameOnAir m f.psdu, devs := s.symbolsOnAir m f.psdu
             airRet := s.nat 0x3000_04, aerial := s.txAerial f, move := none, reversal := none, revHeld := false }

/-- The claim of a frame where it would be sent now. -/
def State.frameClaim (s : State) (f : RadioFrame) : Nat :=
  match s.frameRange f with
  | some r => powerClaim (s.radioPower r)
  | none => 560

/-- Ticks from now to the TB value t, negative if it is past. -/
def State.ticksTo (s : State) (t : Nat) : Int := toSigned 48 ((t + 2 ^ 48 - s.tb.tb.toNat) % 2 ^ 48)

/-- START + LATE_US as a number of ticks from now. -/
def State.deadlineTicks (s : State) (f : RadioFrame) : Int := s.ticksTo f.start + (f.late * 2712 / 100 : Nat)

/-- What the radio already holds for a frame: its own class's grant, and the other's unless another frame has it in hand. -/
def State.radioHas (s : State) (f : RadioFrame) : Nat :=
  let inHand (x : Option RadioFrame) : Bool := match x with
    | some h => h.granted.isSome && decide (h.key ≠ f.key)
    | none => false
  if inHand s.radio.held || inHand s.radio.cur then s.held f.who else s.held .radio + s.held .ackRadio

/-- Claim what a frame still needs (R218, R268): true where nothing more is needed. -/
def State.radioClaim (s : State) (f : RadioFrame) (txUs : Nat) : State × Bool :=
  let need := s.frameClaim f
  let have_ := s.radioHas f
  if need ≤ have_ then (s, true)
  else
    let dl : Option Nat := if f.timed then some ((s.now : Int) + s.deadlineTicks f * 1280 - usQuanta txUs).toNat else none
    (s.claim { who := f.who, mw := need - have_, prio := 0, t0 := s.now, deadline := dl }, false)

/-- The frame in preparation, or the held frame, changes; where the held one leaves, the next by its START takes its place. -/
def State.setFrame (s : State) (held : Bool) (f : Option RadioFrame) : State :=
  s.updRadio fun r =>
    if held then (if f.isNone then { r with held := r.later.head?, later := r.later.tail } else { r with held := f })
    else { r with cur := f }

/-- Microseconds from a state to the first symbol on a channel, without the grant (Table 13-1). -/
def chainUs (st : RadioState) (same : Bool) : Nat :=
  match st with
  | .sleep => 420 + 65 + 18
  | .standby => 65 + 18
  | .synth | .cal => if same then 18 else 65 + 18
  | .rx => if same then 22 else 2 + 65 + 18
  | .tx => 6 + (if same then 18 else 65 + 18)

/-- An untimed frame whose first symbol leaves after `later` quanta ends at least 30 µs before the held frame's START (R262),
and so that the held frame's own chain from TX can still meet it (R264; DEDUCED, log 260). -/
def State.endsBefore (s : State) (f : RadioFrame) (m : RfMode) (later : Nat) : Bool :=
  match s.radio.held with
  | none => true
  | some h =>
    let gap := max 30 (chainUs .tx (decide (h.channel = f.channel)))
    decide (((later + s.airQuanta m f.psdu.length + usQuanta gap : Nat) : Int) ≤ s.ticksTo h.start * 1280)

/-- From SYNTH or RX, the time of transition 4 or 5. -/
def State.leadUs (s : State) : Nat := if s.radio.state = .rx then 22 else 18

/-- Transition 4 or 5 begins for the frame in preparation, whose grant is in hand. It waits while a transition or a
calibration runs or a frame is being received, and where it would no longer end clear of the held frame (R262, R263, R267). -/
def State.curBegin (s : State) (f : RadioFrame) : State :=
  let r := s.radio
  if r.move.isSome || r.air.isSome || r.rx.isSome || r.test.isSome || decide (r.channel ≠ f.channel) ||
      !s.endsBefore f ⟨f.rate, f.coding⟩ (usQuanta s.leadUs) then s
  else match r.state with
    | .rx => s.radioMove 5 .tx 22 0
    | .synth => s.radioMove 4 .tx 18 0
    | _ => s

/-- The radio is to return to RX on the channel that it holds once the PA is down. -/
def State.returnsRx (s : State) : Bool :=
  s.radio.goal = .rx && decide (s.radio.channel = 0) && s.radio.cur.isNone && s.radio.held.isNone && s.radio.test.isNone

/-- The PA ramps down for so many quanta: the first part of transition 6, or transition 7 (Table 13-1). -/
def State.paDown (s : State) (dur : Nat) : State :=
  s.updRadio fun r => { r with
    move := some { no := if s.returnsRx then 6 else 7, dest := if s.returnsRx then .rx else .synth, t0 := s.now, dur := dur, ramp := true }
    reversal := none, revHeld := false }

/-- The frame of a reversal has left before its grant: the ramp-down goes on with what was left of it, and the grant stays
until its end (R265, R268). -/
def State.rampResume (s : State) : State :=
  match s.radio.reversal with
  | some d => s.paDown (usQuanta 6 - d)
  | none => s

/-- A frame has its grant, but cannot be sent: its grant goes at once, or, where the PA is still up for a reversal, with the
ramp-down that now goes on (R268). -/
def State.grantedBad (s : State) (held : Bool) (f : RadioFrame) (code : Nat) : State :=
  if s.radio.reversal.isSome && s.radio.revHeld = held then ((s.setFrame held none).radioEnd f code).rampResume
  else (s.setFrame held none).radioDrop { f with granted := some s.now } code

/-- The ramp goes back up: it takes as long as it has run down; the held frame's first symbol waits for START (R264, R265). -/
def State.rampBack (s : State) (held : Bool) (f : RadioFrame) : State :=
  match s.radio.reversal with
  | some d =>
    let dur := if held then max d (s.ticksTo f.start * 1280).toNat else d
    s.updRadio fun r => { r with move := some { no := 4, dest := .tx, t0 := s.now, dur := dur, timed := held }, reversal := none, revHeld := false }
  | none => s

/-- The grant of the frame in preparation has come: it is fixed, and its transition or a reversal begins (R265, R267). -/
def State.curGranted (s : State) (f : RadioFrame) : State :=
  match s.fixFrame f 0 with
  | (s, .inr code) => s.grantedBad false f code
  | (s, .inl f) =>
    let s := s.setFrame false (some f)
    if s.radio.reversal.isSome && !s.radio.revHeld then s.rampBack false f else s.curBegin f

/-- The grant of the held frame has come. -/
def State.heldGranted (s : State) (f : RadioFrame) : State :=
  match s.fixFrame f 0 with
  | (s, .inr code) => s.grantedBad true f code
  | (s, .inl f) =>
    let s := s.setFrame true (some f)
    if s.radio.revHeld then s.rampBack true f else s

/-- A claim of this frame's class waits already, for the other frame: one claim of a claimant waits at most, and they are
served in the order made (Table 10-6). -/
def State.claimBehind (s : State) (held : Bool) (f : RadioFrame) : Bool :=
  match (if held then s.radio.cur else s.radio.held) with
  | some g => g.claimed && g.granted.isNone && decide (g.who = f.who)
  | none => false

/-- A frame claims, and takes its grant at once where it needs no more. -/
def State.claimFrame (s : State) (held : Bool) (f : RadioFrame) : State :=
  if f.claimed || f.granted.isSome || s.claimBehind held f then s
  else
    let (s, ready) := s.radioClaim f (if s.radio.state = .rx then 22 else 18)
    if ready then (if held then s.heldGranted f else s.curGranted f)
    else if s.answerTo f.who = some .size then
      (let t := (s.setFrame held none).radioEnd f 4
       if s.radio.reversal.isSome && s.radio.revHeld = held then t.rampResume else t)
    else s.setFrame held (some { f with claimed := true })

/-! ### Where the radio goes next -/

/-- Toward a state on channel 0 when no command needs the radio. -/
def State.radioRest (s : State) : State :=
  let goal := if s.link.wakeHold.isSome then RadioState.rx else s.radio.goal
  match s.radio.state with
  | .sleep => if goal = .sleep then s else s.radioMove 1 .standby 420 0
  | .standby => if goal = .sleep then s.radioMove 11 .sleep 4 0 else if goal = .standby then s else s.radioMove 2 .synth 65 0
  | .synth =>
    if goal = .rx then (if s.radio.channel = 0 then s.radioMove 3 .rx 12 0 else s.radioMove 9 .synth 65 0)
    else if goal = .synth then s else s.radioMove 10 .standby 2 0
  | .rx => if goal = .rx && s.radio.channel = 0 then s else s.radioMove 8 .synth 2 0
  | .tx => s.paDown (usQuanta 6)
  | .cal => s

/-- Toward transmitting on a channel; `ready` is what happens in SYNTH or RX on it. -/
def State.radioToward (s : State) (ch : Nat) (ready : State → State) : State :=
  match s.radio.state with
  | .sleep => s.radioMove 1 .standby 420 0
  | .standby => s.radioMove 2 .synth 65 ch
  | .synth => if s.radio.channel = ch then ready s else s.radioMove 9 .synth 65 ch
  | .rx => if s.radio.channel = ch then ready s else s.radioMove 8 .synth 2 0
  | .tx => s.radioRest
  | .cal => s

/-- The power of a test emission: that of its channel's range at 100 kbit/s (R281). -/
def State.testRange (s : State) : Option Nat := s.rangeFor (s.nat 0x3000_0D) 120

/-- A test emission claims its grant (R281). -/
def State.testClaim (s : State) : State :=
  match s.testRange with
  | none => s
  | some r => if (s.claimOf .radio).isSome || decide (s.held .radio ≠ 0) then s
    else s.claim { who := .radio, mw := powerClaim (s.radioPower r), prio := 0, t0 := s.now, deadline := none }

/-- What of a transition is still to run: transition 6 goes on for 16 µs after its PA ramp-down (Table 13-1). -/
def State.moveLeft (s : State) (m : RadioMove) : Nat := (m.t0 + m.dur - s.now) + if m.no = 6 && m.ramp then usQuanta 16 else 0

/-- A frame on the channel in use finds the PA ramping down: the quanta for which it has, which a reversal takes (R265). -/
def State.reversing (s : State) (f : RadioFrame) : Option Nat :=
  match s.radio.move with
  | some m => if m.ramp && decide (s.radio.channel = f.channel) then some (min m.dur (s.now - m.t0)) else none
  | none => none

/-- The earliest start of a frame in quanta from now by the transitions of Table 13-1: the rest of the transition or of a
frame on air; the transitions to TX; 10 µs for the grant (R264). -/
def State.plainStart (s : State) (f : RadioFrame) : Nat :=
  let same := s.radio.channel = f.channel
  match s.radio.move, s.radio.air with
  | some m, _ => s.moveLeft m + usQuanta (chainUs m.dest (if m.no = 2 || m.no = 9 then m.chan = f.channel else same) + 10)
  | none, some (_, t0, dur) => (t0 + dur - s.now) + usQuanta (chainUs .tx same + 10)
  | none, none => usQuanta (chainUs s.radio.state same + 10)

/-- The earliest start of a frame: by a reversal of the PA's ramp-down where that comes first (R264, R265). -/
def State.earliestStart (s : State) (f : RadioFrame) : Nat :=
  match s.reversing f with
  | some d => min (d + usQuanta 10) (s.plainStart f)
  | none => s.plainStart f

/-- The sync word of a frame that is not received to its end may have been found or not; no rule tells of it, so the count and
the stamp of source 20 are free, once 32 symbols have passed (R288, R300; log 261). -/
def State.syncMaybe (s : State) (r : RadioRx) : State :=
  if s.now < r.t0 + 32 * bitQuanta (s.nat 0x3100_01) then s
  else
    let (f, s) := s.draw
    if f % 2 = 0 then s else (s.bump 0x3160_01).capEdge 20 true (s.capStamp (f / 2 % ((s.now - r.t0) / quantaTick + 1)))

/-- A reception ends without a frame, with a status of Table 13-7 by its counter, if it has one: the radio goes to
RETURN_AFTER_RX where nothing else needs it (R261). -/
def State.abandonRx (s : State) (k : Option Nat) : State :=
  match s.radio.rx with
  | none => s
  | some r =>
    let s := (s.syncMaybe r).updRadio fun x => { x with rx := none, sniff := none, goal := returnState r.ret, quiet := 0, quietT0 := x.rxT0.map fun _ => s.now }
    match k with
    | some k => s.bump k
    | none => s

/-- The held frame's transition to TX begins, so that its first symbol leaves at START, or as soon after it as its grant has come; a
reception is abandoned for it (R264, R267). -/
def State.heldMay (s : State) : Bool :=
  match s.radio.held with
  | some f =>
    f.granted.isSome && s.radio.test.isNone && s.radio.move.isNone && s.radio.air.isNone && s.radio.reversal.isNone &&
      (s.radio.state = .rx || s.radio.state = .synth) && decide (s.radio.channel = f.channel) &&
      decide (s.ticksTo f.start * 1280 ≤ ((usQuanta s.leadUs : Nat) : Int))
  | none => false

/-- That transition. -/
def State.heldBegin (s : State) : State :=
  let rx := s.radio.state = .rx
  let t := s.abandonRx (some 0x3020_08)
  t.radioTurns.updRadio fun r =>
    { r with move := some { no := if rx then 5 else 4, dest := .tx, t0 := s.now, dur := usQuanta s.leadUs, timed := true } }

/-- The frame in preparation begins, its grant in hand, or claims, where it still ends clear of the held frame (R262). -/
def State.serveCur (s : State) (f : RadioFrame) : State :=
  if f.granted.isSome then s.curBegin f
  else if s.endsBefore f (s.modeTo f.node) (s.earliestStart f) then s.claimFrame false f else s

/-- Of both frames on a channel the held one claims first. -/
def State.serveBoth (s : State) (f h : RadioFrame) : State :=
  (if h.channel = f.channel then s.claimFrame true h else s).serveCur f

/-- A held frame's chain of transitions must begin within a tick of Halyard for START to be met (R264). -/
def State.heldUrgent (s : State) (h : RadioFrame) : Bool := decide (s.ticksTo h.start * 1280 ≤ ((s.plainStart h + usQuanta 10 : Nat) : Int))

/-- While a frame is received, the waiting frames of this channel claim; a held frame of another channel whose chain must begin
puts an end to the reception (R264, R267, R268). -/
def State.radioInRx (s : State) : State :=
  let here (f : RadioFrame) : Bool := decide (f.channel = s.radio.channel)
  match s.radio.held with
  | some h =>
    if !here h && s.heldUrgent h then (s.abandonRx (some 0x3020_08)).radioToward h.channel fun s => s.claimFrame true h
    else
      let s := if here h then s.claimFrame true h else s
      match s.radio.cur with
      | some f => if here f then s.serveCur f else s
      | none => s
  | none => match s.radio.cur with
    | some f => if here f then s.serveCur f else s
    | none => s

/-- Both an untimed and a timed frame wait: the untimed one is served while it can still end clear of the other, and the chain
of the held one begins in time whatever the untimed one waits for (R262, R264). -/
def State.radioBoth (s : State) (f h : RadioFrame) : State :=
  let fits := s.endsBefore f (if f.granted.isSome then ⟨f.rate, f.coding⟩ else s.modeTo f.node)
    (if f.granted.isSome then s.plainStart f - usQuanta 10 else s.plainStart f)
  if fits && !(decide (h.channel ≠ f.channel) && s.heldUrgent h) then s.radioToward f.channel fun s => s.serveBoth f h
  else s.radioToward h.channel fun s => s.claimFrame true h

/-- The channel on which the transition in progress leaves the radio in SYNTH or RX (Table 13-1). -/
def State.settlesOn (s : State) (m : RadioMove) : Option Nat :=
  if m.no = 2 || m.no = 9 then some m.chan
  else if m.no = 3 || m.no = 6 || m.no = 7 || m.no = 8 then some s.radio.channel else none

/-- A frame claims 20 µs before transition 4 or 5 can begin (R268). -/
def State.claimSoon (s : State) (m : RadioMove) : State :=
  if usQuanta 20 < s.moveLeft m || s.radio.test.isSome then s
  else
    let s := match s.radio.held with
      | some h => if s.settlesOn m = some h.channel then s.claimFrame true h else s
      | none => s
    match s.radio.cur with
    | some f => if s.settlesOn m = some f.channel && f.granted.isNone then s.serveCur f else s
    | none => s

/-- The next transition or action, with no transition in progress and nothing on air. TEST_MODE leaves room for the test
alone; else the held frame's transition begins when it is time, during a reception the waiting frames claim, and without one
the frame in preparation or the held frame is served, or the radio goes to rest. -/
def State.radioNext (s : State) : State :=
  let r := s.radio
  if r.air.isSome || r.reversal.isSome then s
  else match r.move with
    | some m => s.claimSoon m
    | none =>
      match r.test with
      | some t => if t.on then s else (s.abandonRx none).radioToward (s.nat 0x3000_0D) State.testClaim
      | none =>
        if s.heldMay then s.heldBegin
        else if r.rx.isSome then s.radioInRx
        else match r.cur, r.held with
          | some f, none => s.radioToward f.channel fun s => s.serveCur f
          | some f, some h => s.radioBoth f h
          | none, some h => s.radioToward h.channel fun s => s.claimFrame true h
          | none, none => s.radioRest

/-- The radio is to rest in a state. A transition from RX to SYNTH is abandoned when RX on the same channel is wanted (R265). -/
def State.radioGoal (s : State) (g : RadioState) : State :=
  let s := s.radioTurns.updRadio fun r => { r with goal := g }
  match s.radio.move with
  | some m =>
    if m.no = 8 && g = .rx && s.radio.channel = 0 && s.radio.cur.isNone && s.radio.held.isNone then
      (s.updRadio fun r => { r with move := none }).radioEnter .rx
    else s
  | none => s.radioNext

/-- The PRBS-9 pattern, x⁹ + x⁵ + 1 from all ones, one period of 511 bits (R281; PRESUMED, log 262). -/
def prbs9 : List Bool := whitenBits 0x1FF (List.replicate 511 false)

/-- The emission of a test begins: the carrier alone, or 2-GFSK at 100 kbit/s with the pattern, which repeats (R281). -/
def State.testOnAir (s : State) : State :=
  let s := s.radioEnter .tx
  match s.testRange, s.radio.test with
  | some r, some t =>
    (s.setI 0x3002_01 (s.radioPower r)).updRadio fun x => { x with
      test := some { t with on := true, t0 := s.now, ms := 0 }
      bits := if t.mode = 2 then prbs9 else [], devs := if t.mode = 2 then symbolsHz 1 prbs9 else [0] }
  | _, _ => s

/-- What a completed transition leads to. -/
def State.radioArrive (s : State) (m : RadioMove) : State :=
  let s := s.updRadio fun r => { r with move := none }
  if m.ramp then
    let s := s.radioRelease
    if m.no = 6 then s.updRadio fun r => { r with move := some { no := 6, dest := .rx, t0 := s.now, dur := usQuanta 16 } }
    else (s.radioEnter .synth).radioNext
  else if m.no = 13 then (((s.radioEnter .synth).raise 79).calDone 8 true).radioNext
  else
    let s := if m.no = 2 || m.no = 9 then s.updRadio fun r => { r with channel := m.chan } else s
    match m.dest with
    | .tx =>
      match s.radio.test, (if m.timed then s.radio.held else s.radio.cur) with
      | some _, _ => s.testOnAir
      | none, some f => (s.setFrame m.timed none).onAir f 0
      | none, none => (s.radioEnter .tx).radioNext
    | .rx =>
      let s := s.radioEnter .rx
      let s := if s.radio.sniff.isSome then s.updRadio fun r => { r with sniff := some s.now } else s
      s.radioNext
    | d => (s.radioEnter d).radioNext

/-- RADIO_TRANSITION_COMPLETE (R259). -/
def execRadioTransitionComplete (s : State) : Out :=
  match s.radio.move with
  | some m => nextWhen (decide (m.t0 + m.dur ≤ s.now)) s (s.radioArrive m)
  | none => .next s

/-! ### Commands (R261 to R267) -/

/-- A queue-5 bunting as a frame (Table 13-3). -/
def State.radioFrame (s : State) (b : Bunting) : RadioFrame :=
  let d := b.data
  let flags := d.getD 0 0
  let ret := uAt d 3 1
  { key := b.key, psdu := d.drop 16, timed := flags.getLsbD 0, start := uAt d 4 6, late := uAt d 10 2, ack := flags.getLsbD 1,
    channel := uAt d 1 1, aerial := uAt d 2 1,
    ret := if s.nat 0x3000_05 = 1 && flags.getLsbD 2 && !b.twin && decide (ret ≤ 3) then some ret else none, node := uAt d 12 1 }

/-- An untimed frame taken now ends clear of the held frame (R262). -/
def State.fitsBefore (s : State) (f : RadioFrame) : Bool := s.endsBefore f (s.modeTo f.node) (s.earliestStart f)

/-- What stops a frame as it is taken: SIZE, LOCKED, or for a timed frame DEADLINE (R263, R272, R273; log 161). -/
def State.frameRefused (s : State) (f : RadioFrame) : Option Nat :=
  if f.psdu = [] || decide (255 < f.psdu.length) then some 4
  else if (s.frameRange f).isNone then some 3
  else if f.timed && decide (s.deadlineTicks f * 1280 < (s.earliestStart f : Int)) then some 1
  else none

/-- The head of queue 5 may be taken now: a timed frame as soon as it is the head, an untimed one while none is in preparation
and it ends clear of the held frame. In DEEP_STANDBY the radio stays in SLEEP, and the bunting wakes the module first (R278,
R407). -/
def State.radioReady (s : State) : Bool :=
  match (s.queue 5).items with
  | [] => false
  | b :: _ =>
    let f := s.radioFrame b
    s.coreOn && s.power ≠ .deep && s.radio.test.isNone &&
      (if f.timed then true else s.radio.cur.isNone && s.radio.air.isNone && s.fitsBefore f)

/-- A frame on the same channel during the PA ramp-down: the ramp reverses for as long as it has run (R265). A timed frame
whose START the plain transitions meet lets the ramp complete, since the PA would else stand on air until START (DEDUCED, log
263). -/
def State.reverse (s : State) (held : Bool) (f : RadioFrame) (d : Nat) : State :=
  (s.updRadio fun r => { r with move := none, reversal := some d, revHeld := held }).claimFrame held f

/-- Insert a timed frame by its START. -/
def State.byStart (s : State) (f : RadioFrame) : List RadioFrame → List RadioFrame
  | [] => [f]
  | x :: xs => if s.ticksTo f.start < s.ticksTo x.start then f :: x :: xs else x :: s.byStart f xs

/-- A timed frame is held: the one whose START comes first stands before those whose grant is not yet in hand (R262). -/
def State.holdTimed (s : State) (f : RadioFrame) : State :=
  match s.radio.held with
  | none => s.setFrame true (some f)
  | some h =>
    if s.ticksTo f.start < s.ticksTo h.start && h.granted.isNone then
      let t := if h.claimed then s.endClaim h.who none else s
      t.updRadio fun r => { r with held := some f, later := s.byStart { h with claimed := false } r.later }
    else s.updRadio fun r => { r with later := s.byStart f r.later }

/-- A frame taken from queue 5. -/
def State.radioTake (s : State) : State :=
  match s.radioTurns.pop 5 with
  | (s, none) => s
  | (s, some b) =>
    let f := s.radioFrame b
    if b.corrupt then s
    else match s.frameRefused f with
      | some code => s.radioEnd f code
      | none =>
        if f.timed then
          let t := s.holdTimed f
          match s.reversing f with
          | some d => if t.radio.held = some f && decide (s.ticksTo f.start * 1280 < ((s.plainStart f : Nat) : Int)) then t.reverse true f d else t
          | none => t.radioNext
        else match s.reversing f with
          | some d => (s.setFrame false (some f)).reverse false f d
          | none => (s.setFrame false (some f)).radioNext

/-- RADIO_TX_FRAME (R262). -/
def execRadioTxFrame (s : State) : Out := nextWhen s.radioReady s s.radioTake

/-- The held frame's transition to TX has run, which ends at START. -/
def State.timedDue (s : State) : Bool :=
  match s.radio.move with
  | some m => m.timed && decide (m.t0 + m.dur ≤ s.now)
  | none => false

/-- RADIO_TIMED_START (R264, R267): the held frame's transition to TX begins its 18 or 22 µs before START; it is over at
START, and the first symbol leaves. -/
def execRadioTimedStart (s : State) : Out :=
  match s.radio.move with
  | some m => nextWhen s.timedDue s (s.radioArrive m)
  | none => nextWhen s.heldMay s s.heldBegin

/-- A timed frame can no longer start by its deadline, within the 2 TB ticks of R264; one whose transition to TX runs is starting
(R263, R268). -/
def State.timedMissed (s : State) (f : RadioFrame) : Bool :=
  let starting := s.radio.held = some f && (s.radio.move.map RadioMove.timed) = some true
  let e := if f.granted.isSome && (s.radio.state = .rx || s.radio.state = .synth) && decide (s.radio.channel = f.channel) then usQuanta s.leadUs else s.earliestStart f
  !starting && decide (s.deadlineTicks f * 1280 + (if f.granted.isSome then 2560 else 0) < (e : Int))

/-- A timed frame leaves those that are held. -/
def State.unhold (s : State) (f : RadioFrame) : State :=
  if s.radio.held = some f then s.setFrame true none else s.updRadio fun r => { r with later := r.later.erase f }

/-- The first timed frame that has missed its deadline. -/
def State.missedOne (s : State) : Option RadioFrame := (s.radio.held.toList ++ s.radio.later).find? s.timedMissed

/-- RADIO_DEADLINE (R263). -/
def execRadioDeadline (s : State) : Out :=
  match s.missedOne with
  | some f => nextWhen true s (((s.unhold f).radioDrop f 1).radioNext)
  | none => .next s

/-! ### The end of a transmission (R261, R266) -/

/-- The PA ramps down from the frame on air toward the return state, or SYNTH where a command waits. -/
def State.rampDown (s : State) (ret : Option Nat) : State :=
  let g := returnState (ret.getD s.radio.airRet)
  (s.updRadio fun r => { r with air := none, bits := [], devs := [], goal := g }).paDown (usQuanta 6)

/-- A waiting untimed frame may follow the last one without a ramp: same channel, same power, and clear of the held frame (R266). -/
def State.mayFollow (s : State) (last f : RadioFrame) : Bool :=
  !f.timed && decide (f.channel = last.channel) && s.radio.test.isNone &&
    s.endsBefore f (if f.granted.isSome then ⟨f.rate, f.coding⟩ else s.modeTo f.node) (usQuanta 8) &&
    (if f.granted.isSome then f.power = last.power else (s.frameRange f).map s.radioPower = some last.power)

/-- The frame in preparation follows: its claim is not needed, and a frame charged before is charged its gap alone. -/
def State.curFollows (s : State) (f : RadioFrame) : Option (State × RadioFrame) :=
  let s := (if f.claimed && f.granted.isNone then s.endClaim f.who none else s).setFrame false none
  match f.granted, s.frameRange f with
  | some _, some r => match s.dutyCharge r 24000 with
    | (s, true) => some (s, f)
    | (s, false) => some ((s.radioEnd f 2), { f with psdu := [] })
  | _, _ => match s.fixFrame f 8 with
    | (s, .inl f) => some (s, f)
    | (s, .inr code) => some (s.radioEnd f code, { f with psdu := [] })

/-- The next untimed frame follows after 8 µs at the same power on the same channel: the one in preparation, else the head of
queue 5 (R266). -/
def State.backToBack (s : State) (last : RadioFrame) : Option (State × RadioFrame) :=
  match s.radio.cur with
  | some f => if s.mayFollow last f then s.curFollows f else none
  | none =>
    match (s.queue 5).items with
    | [] => none
    | b :: _ =>
      let f := s.radioFrame b
      if b.corrupt || !s.mayFollow last f || (s.frameRefused f).isSome then none else ((s.pop 5).1).curFollows f

/-- The last symbol of a frame is sent. -/
def State.radioSent (s : State) (f : RadioFrame) : State :=
  let s := s.bump (0x3160_06 + f.coding)
  let s := s.radioEnd f 0
  match s.backToBack f with
  | some (s, g) => if g.psdu = [] then s.rampDown f.ret else s.onAir g (usQuanta 8)
  | none => s.rampDown f.ret

/-- RADIO_TX_END (R261). -/
def execRadioTxEnd (s : State) : Out :=
  match s.radio.air with
  | some (f, t0, dur) => nextWhen (decide (t0 + dur ≤ s.now)) s (s.radioSent f)
  | none => .next s

/-- The frame on air, or one whose transition to TX runs, ends with ABORTED. -/
def State.radioAbort (s : State) : State :=
  let s := match s.radio.air with
    | some (f, _, _) => (s.updRadio fun r => { r with air := none, bits := [], devs := [] }).radioEnd f 5
    | none => s
  match s.radio.cur, s.radio.move with
  | some f, some m => if f.granted.isSome && m.dest = .tx then (s.setFrame false none).radioDrop f 5 else s
  | _, _ => s

/-- A waiting frame is without claim and grant, and claims anew when the radio can serve it. -/
def State.unclaimed (s : State) (held : Bool) : State :=
  match (if held then s.radio.held else s.radio.cur) with
  | some f => (if f.claimed && f.granted.isNone then s.dropClaim f.who else s).setFrame held (some { f with claimed := false, granted := none })
  | none => s

/-! ### After a tick of Halyard (R219, R268, R281) -/

/-- A test emission ends. -/
def State.testEnd (s : State) : State :=
  let on := s.radio.test.any RadioTest.on
  let s := ((s.updRadio fun r => { r with test := none }).setN 0x3000_0C 0).dropClaim .radio
  if on then s.rampDown none else s.radioNext

/-- A test emission takes its grant, or is charged for the milliseconds since (R281). -/
def State.testFollow (s : State) : State :=
  match s.radio.test, s.testRange with
  | none, _ => s
  | some _, none => s.testEnd
  | some t, some r =>
    if t.on then
      let n := s.sinceUs t.t0 / 1000 - t.ms
      if s.held .radio = 0 then (s.bump 0x3020_06).testEnd
      else if n = 0 then s
      else match s.dutyCharge r (n * 3_000_000) with
        | (s, true) => s.updRadio fun x => { x with test := some { t with ms := t.ms + n } }
        | (s, false) => s.testEnd
    else if s.held .radio ≠ 0 && s.radio.move.isNone && decide (s.radio.channel = s.nat 0x3000_0D) && (s.radio.state = .synth || s.radio.state = .rx) then
      s.radioMove (if s.radio.state = .rx then 5 else 4) .tx s.leadUs 0
    else if s.answerTo .radio = some .size then s.testEnd
    else s

/-- A claimed frame hears from Halyard. -/
def State.claimHeard (s : State) (held : Bool) (f : RadioFrame) : State :=
  if !f.claimed || f.granted.isSome then s
  else match s.answerTo f.who with
    | some .granted => if held then s.heldGranted f else s.curGranted f
    | some .size => (s.setFrame held none).radioEnd f 4
    | some .deadline => (s.setFrame held none).radioEnd f 1
    | _ => s

/-- A reversal whose frame has left goes on down. -/
def State.reversalHeard (s : State) : State :=
  if s.radio.reversal.isSome && (if s.radio.revHeld then s.radio.held else s.radio.cur).isNone then s.rampResume else s

/-- A frame on air, or one that waits with its grant in hand, has lost it. -/
def State.radioCut (s : State) : Bool :=
  let has (x : Option RadioFrame) : Bool := x.any fun f => f.granted.isSome
  (s.radio.air.isSome || has s.radio.cur || has s.radio.held) && decide (s.held .radio + s.held .ackRadio = 0)

/-- The frame in progress is ABORTED; those that wait with a grant are without it (R219, R268). -/
def State.cutRadio (s : State) : State :=
  let on := s.radio.air.isSome
  let drop (t : State) (held : Bool) : State :=
    if (if held then t.radio.held else t.radio.cur).any fun f => f.granted.isSome then t.unclaimed held else t
  let s := drop (drop s.radioAbort false) true
  if on then s.rampDown none else s

/-- What the radio does once Halyard has ticked. -/
def State.radioSettle (s : State) : State :=
  let s := if s.radioCut then s.cutRadio else s
  let s := match s.radio.held with
    | some f => s.claimHeard true f
    | none => s
  let s := match s.radio.cur with
    | some f => s.claimHeard false f
    | none => s
  s.reversalHeard.testFollow.radioNext

/-! ### Receiving (R269 to R271, R280, R293, R294) -/

/-- What diversity measures of a preamble: the correlation energies of ANT_A and ANT_B in the two windows, the aerial that led
(false ANT_A) if the sync word came before the second window ended, the RSSI in 0.1 dBm and the symbol-rate offset in 0.1 %. -/
structure Preamble where
  a1 : Nat
  b1 : Nat
  a2 : Nat
  b2 : Nat
  early : Option Bool
  rssi : Int
  rate : Int
deriving DecidableEq, Repr

/-- The aerial by the two windows (R269). -/
def Preamble.aerial (p : Preamble) : Nat :=
  if p.b1 < p.a1 && decide (p.b2 < p.a2) then 1
  else if p.a1 < p.b1 && decide (p.a2 < p.b2) then 2
  else if p.b1 + p.b2 ≤ p.a1 + p.a2 then 1 else 2

/-- Reception starts on the aerial that R269 and R270 choose. -/
def State.rxStart (s : State) (p : Preamble) : State :=
  let fixed := match s.radio.rxPin with
    | some a => a
    | none => s.nat 0x3000_06
  let go (s : State) (a : Nat) : State := s.updRadio fun r =>
    { r with rx := some { t0 := s.now, aerial := a, rssi := p.rssi, rate := p.rate, ret := s.nat 0x3000_03, capture := s.nat 0x3000_09
                          sync := s.nat 0x3100_03, tol := s.nat 0x3100_04, tolerant := s.flag 0x3100_05, iterMax := s.nat 0x3100_06 },
             quiet := 0, quietT0 := none }
  if fixed ≠ 0 then go s fixed
  else match p.early with
    | some b => let a := if b then 2 else 1
                go ((s.bump 0x3020_0C).bump (0x3020_09 + a)) a
    | none => go (s.bump (0x3020_09 + p.aerial)) p.aerial

/-- A symbol rate, of the preamble or of the payload, admits the frame: within the limit; beyond it by more than 0.3 % it is refused
and counted; between, either can occur, as `heard` says (R294). -/
def State.rateAdmits (s : State) (tolerant : Bool) (rate : Int) (heard : Bool) : State × Bool :=
  let limit := if tolerant then 80 else 20
  if rate.natAbs ≤ limit || (decide (rate.natAbs ≤ limit + 3) && heard) then (s, true) else (s.bump 0x3160_04, false)

/-- A preamble is detected. -/
def State.preamble (s : State) (p : Preamble) : State :=
  let s := if s.radio.sniff.isSome then s.bump 0x3020_0F else s
  let (f, s) := s.draw
  match s.rateAdmits (s.flag 0x3100_05) p.rate (decide (f % 2 = 0)) with
  | (s, true) => s.rxStart p
  | (s, false) => s.updRadio fun r => { r with quiet := 0, quietT0 := some s.now }

/-- The operands of a preamble as a structure. -/
def mkPreamble (a1 b1 a2 b2 : BitVec 16) (early : Option Bool) (rssi : BitVec 16) (rate : BitVec 8) : Preamble :=
  { a1 := a1.toNat, b1 := b1.toNat, a2 := a2.toNat, b2 := b2.toNat, early := early, rssi := rssi.toInt, rate := rate.toInt }

/-- The receiver listens. -/
def State.rxListening (s : State) : Bool := s.radio.state = .rx && s.radio.move.isNone && s.radio.test.isNone

/-- RADIO_PREAMBLE_DETECT (R269). -/
def execRadioPreambleDetect (a1 b1 a2 b2 : BitVec 16) (early : Option Bool) (rssi : BitVec 16) (rate : BitVec 8) (s : State) : Out :=
  nextWhen (s.rxListening && s.radio.rx.isNone) s (s.preamble (mkPreamble a1 b1 a2 b2 early rssi rate))

/-- The new preamble is CAPTURE_DB above the mean RSSI of the frame being received (R271). -/
def State.captures (s : State) (mean rssi : Int) : Bool :=
  match s.radio.rx with
  | some r => decide (mean + r.capture ≤ rssi)
  | none => false

/-- The receiver is left with no frame: it goes to RETURN_AFTER_RX as the abandoned one found it (R261). -/
def State.leftAlone (s : State) : State := if s.radio.rx.isNone then s.radioGoal s.radio.goal else s

/-- RX_CAPTURE (R271): a new preamble during a reception whose RSSI has this mean. -/
def execRxCapture (a1 b1 a2 b2 : BitVec 16) (early : Option Bool) (rssi : BitVec 16) (rate : BitVec 8) (mean : BitVec 16) (s : State) : Out :=
  nextWhen (s.rxListening && s.captures mean.toInt rssi.toInt) s
    ((((s.abandonRx (some 0x3020_07)).raise 75).preamble (mkPreamble a1 b1 a2 b2 early rssi rate)).leftAlone)

/-- What the receiver measures of a frame: the crystal cycles since its last sync symbol by its stamp, its mean RSSI, the
carrier offset, Eb/N0, the offset of the payload's symbol rate, and which outcome comes between the limits of R294 (Table
14-7). -/
structure RxMeasure where
  ago : Nat
  rssi : BitVec 16
  freq : BitVec 16
  quality : BitVec 8
  rate : BitVec 8
  heard : Bool
deriving DecidableEq, Repr

/-- The receive descriptor (Table 14-7). -/
def State.rxDescriptor (s : State) (m : RfMode) (r : RadioRx) (x : RxMeasure) (iter : Nat) : List Byte :=
  [BitVec.ofNat 8 (m.rate + 8 * m.coding), BitVec.ofNat 8 r.aerial] ++ leBytes 2 x.rssi.toNat ++ leBytes 6 ((s.tb64 - x.ago) % 2 ^ 48) ++
    leBytes 2 x.freq.toNat ++ [x.quality, BitVec.ofNat 8 iter, BitVec.ofInt 8 r.rate, BitVec.ofNat 8 s.radio.channel]

/-- A correct frame is delivered to queue 7 (R280). -/
def State.rxDeliver (s : State) (m : RfMode) (r : RadioRx) (x : RxMeasure) (iter : Nat) (psdu : List Byte) : State :=
  let (s, st) := s.push 7 3 (s.rxDescriptor m r x iter ++ psdu)
  let s := (s.setN 0x3002_02 r.aerial).setI 0x3002_03 x.rssi.toInt
  let src := uAt psdu 3 1
  let s := if 6 ≤ psdu.length && isNode src then
      s.updRadio fun y => { y with aerials := y.aerials.set (src - 1) (some (r.aerial, s.nat 0x2A01_01)) } else s
  if st = .ok then (s.bump 0x3020_0E).raise 72 else s.bump 0x3020_0D

/-- The frame's soft decisions are decoded and judged (R290, R291, R293, R294): header, mode, the payload's symbol rate, CRC.
The answer says whether the frame was delivered. -/
def State.rxJudge (s : State) (header payload : List (BitVec 4)) (r : RadioRx) (x : RxMeasure) : State × Bool :=
  match checkHeader (headerDecode header) with
  | .bad => (s.bump 0x3160_02, false)
  | .unsupported => (s.bump 0x3160_03, false)
  | .good m len =>
    match s.rateAdmits r.tolerant x.rate.toInt x.heard with
    | (s, false) => (s, false)
    | (s, true) =>
      let d := payloadDecode m len r.iterMax payload
      let s := if m.coding = 2 then s.add 0x3160_05 d.bad else s
      match checkPayload len d.bits with
      | some psdu => (s.rxDeliver m r x d.iter psdu, true)
      | none => (s.bump 0x3020_02, false)

/-- A reception ends. After a frame, and without a sync word, the radio goes on as R261 says; a frame that is dropped leaves it
searching for a preamble at once (R293; log 231). -/
def State.rxEnd (s : State) (synced : Bool) (header payload : List (BitVec 4)) (x : RxMeasure) (r : RadioRx) : State :=
  let s := s.updRadio fun y => { y with rx := none, quiet := 0, quietT0 := some s.now }
  let rest (s : State) : State := (s.updRadio fun y => { y with sniff := none }).radioGoal (returnState r.ret)
  if synced then
    match ((s.bump 0x3160_01).capEdge 20 true (s.capStamp x.ago)).rxJudge header payload r x with
    | (s, true) => rest s
    | (s, false) => s.radioNext
  else rest s

/-- RADIO_RX_FRAME (R280, R288): the 32 bits found where the sync word is sought, and the soft decisions of the header and the
payload behind it. The sync word ended `ago` crystal cycles back, and its stamp stands within two ticks of that either way
(`off`). -/
def execRadioRxFrame (sync : BitVec 32) (header payload : List (BitVec 4)) (ago : BitVec 32) (off : Fin 5) (rssi freq : BitVec 16)
    (quality rate : BitVec 8) (heard : Bool) (s : State) : Out :=
  match s.radio.rx with
  | some r => done s (s.rxEnd (syncFound r.sync r.tol sync) header payload
      { ago := ago.toNat + off - 2, rssi := rssi, freq := freq, quality := quality, rate := rate, heard := heard } r)
  | none => .next s

/-! ### Sniffing (R278) -/

/-- A sniff is due. -/
def State.sniffDue (s : State) : Bool := s.power = .networked && s.passedMs s.radio.sniffT0 (s.nat 0x3000_0A)

/-- SNIFF_WAKE (R278). -/
def execSniffWake (s : State) : Out :=
  nextWhen s.sniffDue s
    ((s.updRadio fun r => { r with sniffT0 := s.now, sniff := some s.now }).radioGoal .rx)

/-- SNIFF_LISTEN_END (R278): the listen passes with no preamble. -/
def execSniffListenEnd (s : State) : Out :=
  nextWhen (match s.radio.sniff with
    | some t0 => s.rxListening && s.radio.rx.isNone && s.passedUs t0 (s.nat 0x3000_0B)
    | none => false) s ((s.updRadio fun r => { r with sniff := none }).radioGoal (if s.power = .networked then .sleep else s.radio.goal))

/-- WAKE_HOLD_END (R348): the announced time and 20 ms have passed. -/
def execWakeHoldEnd (s : State) : Out :=
  nextWhen (match s.link.wakeHold with
    | some (t0, d) => decide (t0 + d ≤ s.now)
    | none => false) s
    ((s.updLink fun l => { l with wakeHold := none }).radioGoal (if s.power = .networked then .sleep else s.radio.goal))

/-! ### Calibration and lock (R279) -/

/-- A synthesiser calibration may start; it waits for a slice on the radio (R381). -/
def State.synthCalReady (s : State) : Bool :=
  s.calPending 8 && (s.radio.state = .standby || s.radio.state = .synth) && s.radio.move.isNone && s.radio.rx.isNone && !s.halted &&
    !s.sliceIn 8 &&
    (match s.radio.held with
      | some f => decide (250 * 2712 / 100 ≤ s.ticksTo f.start)
      | none => true)

/-- SYNTH_CALIBRATION (R279): transition 12, then 13 after 160 µs. -/
def execSynthCalibration (s : State) : Out :=
  nextWhen s.synthCalReady s ((s.radioEnter .cal).updRadio fun r => { r with move := some { no := 13, dest := .synth, t0 := s.now, dur := usQuanta 160 } })

/-- A test that was on the air is off it, and comes on again when the radio can (R279, R281). -/
def State.testOff (s : State) : State :=
  s.updRadio fun r => { r with test := r.test.map fun t => if t.on then { t with on := false, spent := t.spent + (s.now - t.t0), ms := 0 } else t }

/-- The radio falls to SLEEP (transition 14), whatever it did: a frame in progress is ABORTED, one that waited waits on; the
listen of a sniff is over (R263, R278, R279). -/
def State.radioFall (s : State) : State :=
  let s := ((s.radioAbort.unclaimed false).unclaimed true).testOff.radioRelease
  let rests := s.radio.sniff.isSome && s.power = .networked
  s.updRadio fun r => { r with move := some { no := 14, dest := .sleep, t0 := s.now, dur := usQuanta 20 }, reversal := none, revHeld := false
                               sniff := none, bits := [], devs := [], goal := if rests then .sleep else r.goal }

/-- An unlock is counted and event 78 raised (R279). -/
def State.unlockCounted (s : State) : State := (s.bump 0x3020_09).raise 78

/-- The synthesiser has lost lock. In CAL its calibration has not settled: it ends as failed, and the radio acts as for an unlock
(R279, R393; log 240). -/
def State.synthUnlocked (s : State) : State :=
  let t := if s.radio.state = .cal then (s.raise 79).calDone 8 false else s
  ((t.abandonRx none).unlockCounted).radioFall

/-- SYNTH_UNLOCK (R279). -/
def execSynthUnlock (s : State) : Out :=
  let r := s.radio
  nextWhen (r.state = .synth || r.state = .rx || r.state = .tx || r.state = .cal) s s.synthUnlocked

/-! ### Duty, test, noise and LDPC timers -/

/-- DUTY_BIN_ADVANCE (R276). -/
def execDutyBinAdvance (s : State) : Out := nextWhen (decide (s.radio.binS + 60 ≤ s.nat 0x2A01_01)) s s.dutyAdvance

/-- RADIO_TEST_TIME_END (R281). -/
def execRadioTestTimeEnd (s : State) : Out :=
  match s.radio.test with
  | some t => nextWhen (t.on && decide (quantaSecond * s.nat 0x3000_0E ≤ t.spent + (s.now - t.t0))) s s.testFollow.testEnd
  | none => .next s

/-- Insert a number into a rising list. -/
def insertInt (x : Int) : List Int → List Int
  | [] => [x]
  | y :: ys => if x ≤ y then x :: y :: ys else y :: insertInt x ys

/-- The median of measurements: of an even number, the mean of the two middle ones (log 50). -/
def medianInt (xs : List Int) : Int :=
  let o := xs.foldl (fun acc x => insertInt x acc) []
  (o.getD ((o.length - 1) / 2) 0 + o.getD (o.length / 2) 0) / 2

/-- One noise measurement of an aerial (0 ANT_A, 1 ANT_B) on the channel in use. -/
def State.noiseTake (s : State) (aerial : Nat) (x : Int) : State :=
  let i := 2 * s.radio.channel + aerial
  let l := (x :: s.radio.noise.getD i []).take 16
  (s.updRadio fun r => { r with noise := r.noise.set i l }).setI (0x3150_01 + 0x100 * s.radio.channel + aerial) (medianInt l)

/-- Time in RX since the last noise measurement, in quanta. -/
def State.rxSpent (s : State) : Nat := s.radio.rxTime + (match s.radio.rxT0 with
  | some t0 => s.now - t0
  | none => 0)

/-- RADIO_NOISE_MEASUREMENT (R299): over 1 ms in RX in which no preamble was detected. -/
def execRadioNoiseMeasurement (a b : BitVec 16) (s : State) : Out :=
  nextWhen (s.rxListening && s.radio.rx.isNone && decide (usQuanta (1000 * s.nat 0x3100_09) ≤ s.rxSpent) &&
      decide (usQuanta 1000 ≤ s.radio.quiet + s.sinceOpt s.radio.quietT0)) s
    (((s.noiseTake 0 a.toInt).noiseTake 1 b.toInt).updRadio fun r => { r with rxTime := 0, rxT0 := some s.now, quiet := 0, quietT0 := some s.now })

/-- LDPC_HOLD_EXPIRY (R297): the next frame to the node tries the convolutional code. -/
def execLdpcHoldExpiry (n : Fin 64) (s : State) : Out :=
  let k := radioKey (n.val + 1)
  nextWhen (decide (s.nat (k 2) = 0) && decide (s.nat (k 3) = 2) && (match s.radio.ldpcT0.getD n none with
    | some t => decide (t + s.nat 0x3100_08 ≤ s.nat 0x2A01_01)
    | none => false)) s
    ((s.setN (k 3) 1).updRadio fun r => { r with ldpcT0 := r.ldpcT0.set n none, trial := r.trial ||| BitVec.ofNat 64 (2 ^ n.val) })

/-! ### Dictionary entries (R272, R281, R283, R297, R300) -/

/-- The band of BAND, in Hz. -/
def bandEdges (b : Nat) : Nat × Nat := if b = 0 then (863_000_000, 870_000_000) else if b = 1 then (870_000_000, 876_000_000) else (902_000_000, 928_000_000)

/-- A range record's index. -/
def rangeOfKey (k : Nat) : Option Nat := if 0x3011_00 ≤ k && decide (k < 0x3019_00) then some ((k - 0x3011_00) / 256) else none

/-- The chapters' checks: a channel in its band, a range's edges in order, a sync word without a long run, and a test only
with queue 5 empty and nothing on air (log 163). -/
def State.radioCheck (s : State) (k : Nat) (v : Val) : Status :=
  let n := v.int.toNat
  if 0x3001_01 ≤ k && decide (k ≤ 0x3001_10) then
    let e := bandEdges (s.nat 0x3000_02)
    if n = 0 || (decide (e.1 ≤ 30 * n) && decide (30 * n ≤ e.2)) then .ok else .range
  else if k = 0x3100_03 then if longestRun (bitsMsb 32 n) 0 0 none ≤ 6 then .ok else .range
  else if k = 0x3000_0C then if decide ((s.queue 5).items ≠ []) || s.radio.air.isSome then .state else .ok
  else match rangeOfKey k with
    | some r => if k % 256 = 2 && decide (n ≤ s.nat (rangeKey r 1)) then .range else .ok
    | none => .ok

/-- The test in progress takes the other mode: its emission is what the mode says from here on. -/
def State.testMode (s : State) (n : Nat) : State :=
  s.updRadio fun r => { r with
    test := r.test.map fun t => { t with mode := n }
    bits := if r.test.any RadioTest.on then (if n = 2 then prbs9 else []) else r.bits
    devs := if r.test.any RadioTest.on then (if n = 2 then symbolsHz 1 prbs9 else [0]) else r.devs }

/-- What follows a taken write: CODING sets CODING_NOW and resets the failures; TEST_MODE starts or ends a test. -/
def State.radioWritten (s : State) (k : Nat) (v : Val) : State :=
  let n := v.int.toNat
  if 0x3110_00 ≤ k && decide (k < 0x3150_00) && k % 256 = 2 then
    let i := (k - 0x3110_00) / 256
    ((s.setN (k + 1) (if n = 0 then 1 else n - 1)).setN (k + 2) 0).updRadio fun r =>
      { r with ldpcT0 := r.ldpcT0.set i none, trial := r.trial &&& ~~~ BitVec.ofNat 64 (2 ^ i) }
  else if k = 0x3000_0C then
    if n = 0 then (if s.radio.test.isSome then s.testEnd else s)
    else if s.testRange.isNone then (((s.setN 0x3000_0C 0).bump 0x3020_05).raise 74)
    else if s.radio.test.isSome then s.testMode n
    else (s.updRadio fun r => { r with test := some { mode := n } }).radioNext
  else s

/-- Entries that show the radio's state. -/
def State.radioView (s : State) (k : Nat) : Option Nat :=
  if k = 0x3000_01 then some s.radio.state.code
  else match rangeOfKey k with
    | some r =>
      if k % 256 = 5 then some ((s.dutyUsed r + 2_999_999) / 3_000_000)
      else if k % 256 = 6 then some ((s.dutyBudget r - s.dutyUsed r) / 3_000_000)
      else none
    | none => none

end Sys2Proof.Machine
end

