-- ==== Sys2Proof/Machine/Powerline.lean ====
section
/-!
DEFINITION. The powerline link (chapter 15): sending, receiving, map sets and reports, noise, the line and its calibration.
-/

namespace Sys2Proof.Machine

open Sys2Proof

def State.updPl (s : State) (f : Powerline → Powerline) : State := { s with pl := f s.pl }

def State.plPeer (s : State) (n : Nat) : PlPeer := s.pl.peers.getD (n - 1) {}

def State.updPlPeer (s : State) (n : Nat) (f : PlPeer → PlPeer) : State := s.updPl fun x => { x with peers := x.peers.modify (n - 1) f }

/-! ### The end of a frame (Table 15-7) -/

/-- The claimant of a frame. -/
def PlFrame.who (f : PlFrame) : Claimant := if f.ack then .ackPl else .powerline

/-- A frame that has claimed lets go: a claim that still waits ends, counted where the frame's status is a refusal's, and its
grant is released (R217, R314). Another frame of its class that claims nothing yet is not touched. -/
def State.plRelease (s : State) (f : PlFrame) (code : Nat) : State :=
  if f.claimed then
    (s.endClaim f.who (if code = 1 then some .deadline else if code = 2 then some .noLine else if code = 4 then some .size else none)).setGrant f.who 0
  else s

/-- A frame ends with a status: its counter, event 81 or 82, its own claim and grant released, word to the link layer. -/
def State.plEnd (s : State) (f : PlFrame) (code : Nat) : State :=
  let s := (s.plRelease f code).bump
    (([0x3220_01, 0x3220_05, 0x3220_06, 0x3220_07, 0x3220_07, 0x3220_08, 0x3220_0F, 0x3220_07] : List Nat).getD code 0x3220_08)
  let s := s.raise (if code = 0 then 81 else 82)
  match f.key with
  | some k => s.linkEnded k true (if code = 0 then .sent else if code = 2 || code = 3 || code = 4 || code = 7 then .gone else .lost) false
  | none => s

/-! ### Starting (R306, R311, R313 to R315) -/

/-- The effective level in 0.1 dBµV, on the 0.5 dB grid (R313). -/
def State.plLevel (s : State) : Nat := min (min (s.nat 0x3200_03) (s.nat 0x3200_02)) (if s.nat 0x3200_01 = 2 then 1200 else 1260) / 5 * 5

/-- The claim of Table 15-5. -/
def State.plClaim (s : State) : Nat := if s.plLevel ≤ 1100 then 400 else if s.plLevel ≤ 1200 then 900 else 1600

/-- The transmitter is barred: no line, or a lock, or off after a calibration or a finding, or a PSDU too long; the status. -/
def State.plBarred (s : State) (f : PlFrame) : Option Nat :=
  if s.noLine then some 2
  else if s.nat 0x3200_01 = 0 || decide (s.nat 0x3200_04 ≠ 0) then some 3
  else if 255 < f.psdu.length || f.psdu = [] then some 7
  else if s.pl.calFailed || s.pl.finding then some 5
  else none

/-- The map set of a frame. -/
def State.plMap (s : State) (f : PlFrame) : PlMap := if f.report then {} else s.plMapFor f.node f.robust

/-- The start is inside its burgee window, and preamble and header run clear of blanking (R306, R315). -/
def State.plMayStart (s : State) : Bool :=
  s.burgeeOpen (s.nat 0x3201_03) && !s.inBlank && !s.meetsBlank { start := s.angle, len := s.unitsOfTicks s.band.head } &&
    s.pl.outage.isNone && s.pl.air.isNone

/-- The line has been quiet for PL_IFS_US and r symbol times (R315). -/
def State.plQuiet (s : State) : Bool :=
  s.pl.rx.isNone && decide (s.pl.quietT0 + usQuanta (s.nat 0x3200_08) + s.pl.wait.getD 0 * s.band.slot * quantaTick ≤ s.now)

/-- A frame goes on the line, or ends with BLANKED; the grant in hand is its own (R303 to R306, R314). -/
def State.plStart (s : State) (f : PlFrame) : State :=
  let f := { f with claimed := true }
  let b := s.band
  let m := s.plMap f
  match s.plSlots b m f.psdu.length s.angle with
  | none => s.plEnd f 6
  | some sl =>
    let h := plHeader f.psdu.length (boolNat f.report) m.id (s.ownNode - 1) ((s.angle + s.unitsOfTicks b.head) % 65536) (s.aSym b)
      (if m.id = 0 then 0 else f.node - 1)
    s.updPl fun x => { x with air := some (f, s.now, b.frame sl * quantaTick), map := m.id, header := BitVec.ofNat 64 h, slots := sl,
                              symbols := s.plSymbols h f.psdu sl }

/-- Claim for a frame; a grant in hand already counts (R314). -/
def State.plAsk (s : State) (f : PlFrame) (deadline : Option Nat) : State × Bool :=
  let need := s.plClaim
  if need ≤ s.held f.who then (s, true)
  else (s.claim { who := f.who, mw := need - s.held f.who, prio := 0, t0 := s.now, deadline := deadline }, false)

/-- The frame that waits, or the held one, changes. -/
def State.plSet (s : State) (held : Bool) (f : Option PlFrame) : State := s.updPl fun x => if held then { x with held := f } else { x with cur := f }

/-- A queue-6 bunting as a frame (Table 15-6). -/
def plFrameOf (b : Bunting) : PlFrame :=
  let d := b.data
  let flags := d.getD 0 0
  { key := some b.key, psdu := d.drop 16, timed := flags.getLsbD 0, ack := flags.getLsbD 1, robust := flags.getLsbD 2, start := uAt d 4 6,
    late := uAt d 10 2, node := uAt d 12 1 }

/-- The report frame of the set issued to a peer (R310). -/
def State.reportFrame (s : State) (n : Nat) : PlFrame :=
  let k := plPeerKey n
  { key := none, node := n, report := true, robust := true,
    psdu := [1, BitVec.ofNat 8 n, BitVec.ofNat 8 (s.nat (k 6)), BitVec.ofNat 8 s.bandNo] ++ leBytes 2 (s.plPeer n).offset ++ s.oct (k 5) }

/-- A frame waits for its start: its r is drawn (R315). -/
def State.plWait (s : State) (f : PlFrame) : State :=
  match s.plBarred f with
  | some code => s.plEnd f code
  | none =>
    let (r, s) := s.random (s.nat 0x3200_09 + 1)
    (s.plSet false (some f)).updPl fun x => { x with wait := some r }

/-- The next frame: a timed one at the head of queue 6 while none is held, a report, then the head of queue 6. -/
def State.plTake (s : State) : State :=
  let head := match (s.queue 6).items with
    | b :: _ => some (plFrameOf b)
    | [] => none
  let timed := match head with
    | some f => f.timed
    | none => false
  if timed && s.pl.held.isNone then
    match s.pop 6 with
    | (s, some b) =>
      let f := plFrameOf b
      if b.corrupt then s
      else match s.plBarred f with
        | some code => s.plEnd f code
        | none => s.plSet true (some f)
    | (s, none) => s
  else if s.pl.cur.isSome then s
  else match s.pl.reports with
    | n :: rest => (s.updPl fun x => { x with reports := rest }).plWait (s.reportFrame n)
    | [] =>
      if head.isSome && !timed then
        match s.pop 6 with
        | (s, some b) => if b.corrupt then s else s.plWait (plFrameOf b)
        | (s, none) => s
      else s

/-- The held frame has claimed in this frame's class: the claim, or its grant, is the held frame's. -/
def State.plHeldClaims (s : State) (f : PlFrame) : Bool :=
  match s.pl.held with
  | some h => h.claimed && h.who = f.who
  | none => false

/-- The waiting frame may start now. -/
def State.plReady (s : State) : Bool := s.pl.cur.isSome && s.plQuiet && s.plMayStart

/-- A frame that falls due, or a detected preamble, ends a self-test slice on the powerline (Table 18-1, group 9). -/
def State.plTurns (s : State) : State := s.sliceYield 9 fun _ => true

/-- The waiting frame starts with its grant, or claims it. -/
def State.plGo (s : State) : State :=
  match s.pl.cur with
  | none => s
  | some f =>
    if !s.plReady || s.plHeldClaims f then s
    else match s.plBarred f with
      | some code => (s.plSet false none).plEnd f code
      | none =>
        match s.plTurns.plAsk f none with
        | (s, true) => (s.plSet false none).plStart f
        | (s, false) => if s.answerTo f.who = some .size then (s.plSet false none).plEnd f 4 else s.plSet false (some { f with claimed := true })

/-- PL_TX_FRAME (R315). In DEEP_STANDBY the bunting wakes the module first (R407). -/
def execPlTxFrame (s : State) : Out := nextWhen (s.power ≠ .deep) s s.plTake.plGo

/-- The held frame starts at START, or at the first later moment that R306 and the window allow; past START + LATE_US it ends
with DEADLINE. A reception is abandoned (R315). -/
def State.plTimed (s : State) (f : PlFrame) : State :=
  let late := s.ticksTo f.start + (f.late * 2712 / 100 : Nat)
  if late < 0 then (s.plSet true none).plEnd f 1
  else if (s.plBarred f).isSome then (s.plSet true none).plEnd f ((s.plBarred f).getD 3)
  else if s.plClaim ≤ s.held f.who && s.plMayStart then
    let s := if s.pl.rx.isSome then (s.updPl fun x => { x with rx := none }).bump 0x3220_0C else s
    (s.plSet true none).plStart f
  else s

/-- PL_TIMED_START (R315). -/
def execPlTimedStart (s : State) : Out :=
  match s.pl.held with
  | some f => nextWhen (decide (s.ticksTo f.start ≤ 0)) s (s.plTurns.plTimed f)
  | none => .next s

/-- The frame on the line leaves it. -/
def State.plOff (s : State) : State := s.updPl fun x => { x with air := none, slots := [], symbols := [], quietT0 := s.now }

/-- PL_TX_END (R315). -/
def execPlTxEnd (s : State) : Out :=
  match s.pl.air with
  | some (f, t0, dur) =>
    nextWhen (decide (t0 + dur ≤ s.now)) s
      (let nulls := (s.pl.slots.filter (·.isNone)).length
       let s := (s.plOff.add 0x3220_09 nulls).plEnd f 0
       if f.report then s.bump 0x3220_0D else s)
  | none => .next s

/-- A claimed frame hears of a refusal. -/
def State.plHeard (s : State) (held : Bool) (f : PlFrame) : State :=
  match s.answerTo f.who with
  | some .size => (s.plSet held none).plEnd f 4
  | some .deadline => (s.plSet held none).plEnd f 1
  | some .noLine => (s.plSet held none).plEnd f 2
  | _ => s

/-- The claim of the frame that waits is a held frame's from now on; it claims anew later. -/
def State.plYieldClaim (s : State) (f : PlFrame) : State :=
  s.updPl fun x => { x with cur := x.cur.map fun c => if c.who = f.who then { c with claimed := false } else c }

/-- A held frame claims when its start is within 20 µs and no frame is on the line (R314); one whose claim was answered hears of it,
and one that lost its grant claims again. -/
def State.plHold (s : State) (f : PlFrame) : State :=
  let t := s.ticksTo f.start
  if f.claimed && s.answerTo f.who ≠ some .granted then s.plHeard true f
  else if f.claimed && decide (s.plClaim ≤ s.held f.who) then s
  else if t ≤ 20 * 2712 / 100 && s.pl.air.isNone then
    let dl := ((s.now : Int) + (t + (f.late * 2712 / 100 : Nat)) * 1280).toNat
    let s := ((s.plYieldClaim f).plAsk f (some dl)).1
    s.plSet true (some { f with claimed := true })
  else s

/-- What the powerline does once Halyard has ticked: a frame that lost its grant ends with ABORTED; claims are heard; the
waiting frame starts if it still may, and else gives its grant back (R219, R314). -/
def State.plSettle (s : State) : State :=
  let s := match s.pl.air with
    | some (f, _, _) => if s.held f.who = 0 then s.plOff.plEnd f 5 else s
    | none => s
  let s := match s.pl.held with
    | some f => s.plHold f
    | none => s
  match s.pl.cur with
  | some f =>
    if !f.claimed then s
    else if s.answerTo f.who = some .granted && decide (s.plClaim ≤ s.held f.who) then
      if s.plReady then s.plGo else (s.setGrant f.who 0).plSet false (some { f with claimed := false })
    else s.plHeard false f
  | none => s

/-! ### Map sets (R308 to R310) -/

/-- The set that the receiver would issue to a peer. -/
def State.mapSet (s : State) (n : Nat) : List Byte :=
  let b := s.band
  let sig := s.oct (plPeerKey n 7)
  (List.range 6).flatMap fun r =>
    let noise := s.oct (0x3210_01 + r)
    let load (c : Nat) : Nat :=
      if s.notched c then 0
      else loadFor (5 * (((sig.getD (c - b.first) 0).toNat : Int) - ((noise.getD (c - b.first) 0).toNat : Int))) (s.nat 0x3200_05)
    let ls := b.carriers.map load
    (List.range b.regionBytes).map fun i => BitVec.ofNat 8 (ls.getD (2 * i) 0 + 16 * ls.getD (2 * i + 1) 0)

/-- The bits of a region of a set. -/
def regionBits (b : Band) (set : List Byte) (r : Nat) : Nat := sumN ((List.range b.data).map fun i => mapNibble b set r i)

/-- Some region's bits differ by more than 10 % of the issued set's. -/
def mapsDiffer (b : Band) (old new : List Byte) : Bool :=
  (List.range 6).any fun r =>
    let o := regionBits b old r
    let n := regionBits b new r
    decide (o < 10 * (if o ≤ n then n - o else o - n))

/-- OFFSET: the mean of the last differences, taken round the circle from the newest (R309; log 50). -/
def meanAngle (ds : List Nat) : Nat :=
  match ds with
  | [] => 0
  | d :: _ =>
    let sum : Int := ds.foldl (fun acc x => acc + toSigned 16 ((x + 65536 - d) % 65536)) 0
    (((d : Int) + sum / (ds.length : Int)) % 65536).toNat

/-- A set is issued to a peer: the next id, OFFSET, a report (R309). -/
def State.issueMap (s : State) (n : Nat) : State :=
  let k := plPeerKey n
  let old := s.nat (k 6)
  let p := s.plPeer n
  let off := meanAngle p.diffs
  let s := s.updPlPeer n fun p => { p with prev := if old = 0 then p.prev else some (old, s.oct (k 5), p.offset), offset := off, issuedT0 := s.now, asked := false }
  let s := (s.setO (k 5) (s.mapSet n)).setN (k 6) (old % 7 + 1)
  (s.updPl fun x => { x with reports := (x.reports.filter (· ≠ n)) ++ [n] }).raise 83

/-- A set is to be issued to a peer (R309). -/
def State.mapDue (s : State) (n : Nat) : Bool :=
  let k := plPeerKey n
  let p := s.plPeer n
  s.ma.state = .locked &&
    (p.asked || (s.nat (k 6) = 0 && decide (4 ≤ p.frames)) ||
      (decide (s.nat (k 6) ≠ 0) && s.passedS p.issuedT0 (s.nat 0x3200_06) && mapsDiffer s.band (s.oct (k 5)) (s.mapSet n)))

/-- TONEMAP_ISSUE (R309). -/
def execTonemapIssue (n : Fin 64) (s : State) : Out := nextWhen (s.mapDue (n.val + 1)) s (s.issueMap (n.val + 1))

/-! ### Receiving (R307, R310, R311, R316) -/

/-- The receiver is on, with no outage and no frame of its own on the line. -/
def State.plListening (s : State) : Bool := s.coreOn && s.plOn && s.pl.outage.isNone && s.pl.air.isNone

/-- PL_PREAMBLE_DETECT (R316): the first preamble symbol was `ago` crystal cycles ago, and is capture source 21
(R247, Table 15-8). -/
def execPlPreambleDetect (ago : BitVec 32) (s : State) : Out :=
  nextWhen (s.plListening && s.pl.rx.isNone) s
    ((s.plTurns.updPl fun x => { x with rx := some (s.tb64 - ago.toNat), quietT0 := s.now }).capEdge 21 true (s.capStamp ago.toNat))

/-- What the receiver measures of a frame: the pilot energy of each payload slot and the mean one of the header symbols, the
received level in 0.1 dBµV, the mean pilot SNR in 0.25 dB, the level of each sub-carrier in the preamble in 0.5 dBµV, and the
receiver's own angle at payload slot 0. -/
structure PlMeasure where
  pilots : List (BitVec 16)
  mean : Nat
  level : BitVec 16
  snr : BitVec 8
  signal : List Byte
  angle : Nat
deriving DecidableEq, Repr

/-- The null slots of a frame: pilot energy below one eighth of the header's mean (R307). -/
def PlMeasure.nulls (x : PlMeasure) : List Bool := x.pilots.map fun e => decide (8 * e.toNat < x.mean)

/-- 16 consecutive null slots, counted with those just before. -/
def nullRun : Nat → List Bool → Bool
  | _, [] => false
  | n, b :: rest => if b then decide (15 ≤ n) || nullRun (n + 1) rest else nullRun 0 rest

/-- 16 consecutive null slots ended the frame (R307). -/
def PlMeasure.truncated (x : PlMeasure) : Bool := nullRun 0 x.nulls

/-- The receiver holds the set that a frame of a peer names. -/
def State.holdsMap (s : State) (src id : Nat) : Bool :=
  id = s.nat (plPeerKey src 6) || (match (s.plPeer src).prev with
    | some (i, _, _) => i = id
    | none => false)

/-- A report addressed to the module becomes its set for the source (R310). -/
def State.takeReport (s : State) (src : Nat) (p : List Byte) : State :=
  let b := s.band
  if uAt p 0 1 = 1 && uAt p 1 1 = s.ownNode && uAt p 3 1 = s.bandNo && decide (p.length = 6 + 6 * b.regionBytes) then
    let k := plPeerKey src
    let s := ((s.setO (k 1) (p.drop 6)).setN (k 2) (uAt p 2 1)).setN (k 3) (uAt p 4 2)
    ((s.updPlPeer src fun x => { x with takenS := some (s.nat 0x2A01_01) }).bump 0x3220_0E).raise 83
  else s

/-- A correct data frame goes to queue 8 behind its descriptor (Table 15-8). -/
def State.plDeliver (s : State) (h : PlHead) (stamp : Nat) (x : PlMeasure) (psdu : List Byte) : State :=
  let d := [BitVec.ofNat 8 (h.map + 8 * h.type), BitVec.ofNat 8 (x.nulls.filter id).length] ++ leBytes 2 x.level.toNat ++ leBytes 6 (stamp % 2 ^ 48) ++
    leBytes 2 h.angle ++ [x.snr, BitVec.ofNat 8 h.src, 0, 0]
  match s.push 8 4 (d ++ psdu) with
  | (s, .ok) => (s.bump 0x3220_02).raise 80
  | (s, _) => s.bump 0x3220_0C

/-- A frame's preamble joins the sums of a peer. -/
def PlPeer.heard (p : PlPeer) (signal : List Byte) : PlPeer :=
  { p with seen := p.seen + 1, sums := signal.zipIdx.map fun x => p.sums.getD x.2 0 + x.1.toNat }

/-- S(n, c): the mean over the preambles of all frames of the peer, rounded to the nearest 0.5 dBµV (R308; DESIGN CHOICE, log
234). -/
def PlPeer.signal (p : PlPeer) : List Byte := p.sums.map fun x => BitVec.ofNat 8 ((2 * x + p.seen) / (2 * p.seen))

/-- What every frame with a good header tells of its sender, whether its payload comes through or not: the levels of its
preamble, and while LOCKED the difference of angle (R308, R309, R317; DEDUCED, log 267). -/
def State.plLearn (s : State) (h : PlHead) (x : PlMeasure) : State :=
  let p := (s.plPeer h.src).heard x.signal
  let s := (s.setO (plPeerKey h.src 7) p.signal).updPlPeer h.src fun _ => p
  if s.ma.state = .locked then s.updPlPeer h.src fun p => { p with diffs := (((x.angle + 65536 - h.angle) % 65536) :: p.diffs).take 8 } else s

/-- A received frame is judged. -/
def State.plJudge (s : State) (header : Nat) (data : List Byte) (stamp : Nat) (x : PlMeasure) : State :=
  match plCheck header with
  | none => s.bump 0x3220_03
  | some h =>
    let s := s.plLearn h x
    if h.map ≠ 0 && decide (h.dst ≠ s.ownNode) then s
    else if h.map ≠ 0 && !s.holdsMap h.src h.map then (s.bump 0x3220_0A).updPlPeer h.src fun p => { p with asked := true }
    else if x.truncated then s.bump 0x3220_0B
    else match checkPayload h.len (bitsLsb data) with
      | none => s.bump 0x3220_04
      | some psdu =>
        let s := s.updPlPeer h.src fun p => { p with frames := p.frames + 1 }
        if h.type = 1 then s.takeReport h.src psdu else s.plDeliver h stamp x psdu

/-- PL_RX_FRAME (R307, R316): the header as decoded, the payload bytes as decoded and still whitened, and what the receiver
measured. -/
def execPlRxFrame (header : BitVec 64) (data : List Byte) (pilots : List (BitVec 16)) (mean : BitVec 16) (level : BitVec 16) (snr : BitVec 8)
    (signal : List Byte) (angle : BitVec 16) (s : State) : Out :=
  match s.pl.rx with
  | some stamp => done s ((s.updPl fun x => { x with rx := none, quietT0 := s.now }).plJudge header.toNat data stamp
      { pilots := pilots, mean := mean.toNat, level := level, snr := snr, signal := signal, angle := angle.toNat })
  | none => .next s

/-! ### Noise (R317) -/

/-- One measurement, in 0.5 dBµV, is smoothed with weight 1/8 into a region (log 50). -/
def State.plNoise (s : State) (r : Nat) (levels : List Byte) : State :=
  let old := s.pl.noise.getD r []
  let new := levels.zipIdx.map fun x => old.getD x.2 0 - old.getD x.2 0 / 8 + x.1.toNat * 4096 / 8
  (s.updPl fun x => { x with noise := x.noise.set r new }).setO (0x3210_01 + r) (new.map fun v => BitVec.ofNat 8 ((v + 2048) / 4096))

/-- PL_NOISE_MEASUREMENT (R317): one level for each sub-carrier. It serves learning too (R25). -/
def execPlNoiseMeasurement (levels : List Byte) (s : State) : Out :=
  nextWhen (s.plListening && s.pl.rx.isNone && s.ma.state = .locked && s.passedMs s.pl.noiseT0 (s.nat 0x3200_0A)) s
    (((s.plNoise (plRegion s.angle) levels).learnHear (levels.map BitVec.toNat)).updPl fun x => { x with noiseT0 := s.now })

/-! ### The line (R318) and calibration (R319) -/

/-- The line becomes present or absent (R318). -/
def State.lineChanged (s : State) (present : Bool) : State :=
  let s := (s.setN 0x3200_0B (boolNat present)).raise 84
  if present then s
  else
    let s := s.updPl fun x => { x with rx := none }
    let s := match s.pl.air with
      | some (f, _, _) => s.plOff.plEnd f 2
      | none => s
    let s := match s.pl.cur with
      | some f => (s.plSet false none).plEnd f 2
      | none => s
    match s.pl.held with
    | some f => (s.plSet true none).plEnd f 2
    | none => s

/-- The line as a start finds it, by the MAINS_VRMS that the supply measured meanwhile; it has not changed (R318; DEDUCED, log
232). -/
def State.lineAtStart (s : State) : State := s.setN 0x3200_0B (boolNat (decide (750 ≤ s.nat 0x2000_04)))

/-- The line as MAINS_VRMS shows it, with what a change brings (R318). -/
def State.lineJudged (s : State) : State :=
  let present := decide (750 ≤ s.nat 0x2000_04)
  if boolNat present ≠ s.nat 0x3200_0B then s.lineChanged present else s

/-- LINE_STATE_CHANGE (R318): MAINS_VRMS in 0.1 V. -/
def execLineStateChange (vrms : BitVec 16) (s : State) : Out :=
  let s1 := s.setN 0x2000_04 vrms.toNat
  doneAny s (if s.coreOn then s1.lineJudged else s1)

/-- A timed frame is due within 3.5 ms: the held one, or one that waits in queue 6 (R319). -/
def State.plTimedSoon (s : State) : Bool :=
  (s.pl.held.toList ++ ((s.queue 6).items.map plFrameOf).filter (·.timed)).any fun f => decide (s.ticksTo f.start < 3500 * 2712 / 100)

/-- A powerline calibration may start (R319, R391). -/
def State.plCalReady (s : State) : Bool :=
  s.calPending 9 && s.pl.outage.isNone && !s.halted && !s.sliceIn 9 && s.pl.air.isNone && s.pl.rx.isNone && s.fitsWindow (s.nat 0x3500_06) 3000 && !s.plTimedSoon

/-- PL_CALIBRATION (R319): the 3 ms outage begins. -/
def execPlCalibration (s : State) : Out := nextWhen (s.plCalReady) s (s.updPl fun x => { x with outage := some s.now })

/-! ### The window (R315) and settings -/

/-- Book the transmit window anew: owner 3, TX_ANGLE, TX_SPAN, ENABLE and HALF (R315). -/
def State.plBook (s : State) : State :=
  let w := s.nat 0x3201_03
  let s := if w = 0xFF then s else s.burgeeFree w
  match s.burgeeBook { start := s.nat 0x3201_01, len := s.nat 0x3201_02, owner := 3, flags := 3, period := 0, ports := 0, float := 0 } with
  | (s, some w) => s.setN 0x3201_03 w
  | (s, none) => s.setN 0x3201_03 0xFF

/-- A notch write: every issued set is computed and reported again; event 85 where a set changes (R312). -/
def State.notchWritten (s : State) : State :=
  let issued := (List.range 64).filter fun i => s.nat (plPeerKey (i + 1) 6) ≠ 0
  let changed := issued.any fun i => s.oct (plPeerKey (i + 1) 5) ≠ s.mapSet (i + 1)
  let s := issued.foldl (fun t i => t.issueMap (i + 1)) s
  if changed then s.raise 85 else s

/-- NOISE and SIGNAL hold one zero for each sub-carrier of the band until something is measured (Tables 15-11 and 15-12). -/
def State.plLevelsFresh (s : State) : State :=
  let z := zeroBytes s.band.count
  let s := (List.range 6).foldl (fun (t : State) r => t.setO (0x3210_01 + r) z) s
  (List.range 64).foldl (fun (t : State) i => t.setO (plPeerKey (i + 1) 7) z) (s.updPl fun x => { x with noise := List.replicate 6 [] })

/-- The start of a module in the FCC band, whose sub-carriers are not those of the tables' defaults. -/
def State.plFresh (s : State) : State := if s.band = bandOf 2 then s.plLevelsFresh else s

/-- Another band: sets and levels of the old one are dropped (log 141). -/
def State.bandWritten (s old : State) : State :=
  let b := s.nat 0x3200_01
  let s := if b = 0 then s else s.updPl fun x => { x with lastBand := b }
  if s.band = old.band then s
  else
    let s := (List.range 64).foldl (fun (t : State) i =>
      let k := plPeerKey (i + 1)
      ((((t.setO (k 1) []).setN (k 2) 0).setO (k 5) []).setN (k 6) 0)) s
    (s.updPl fun x => { x with peers := x.peers.map (fun p => { p with prev := none, frames := 0, seen := 0, sums := [], asked := false, takenS := none }), reports := [] }).plLevelsFresh

/-- What follows a taken write. -/
def State.plWritten (s old : State) (k : Nat) : State :=
  if k = 0x3201_01 || k = 0x3201_02 then s.plBook
  else if 0x3208_00 ≤ k && decide (k < 0x3210_00) then s.notchWritten
  else if k = 0x3200_01 then s.bandWritten old
  else s

/-- TX_MAP_AGE_S. -/
def State.plView (s : State) (k : Nat) : Option Nat :=
  if 0x3240_00 ≤ k && decide (k < 0x3280_00) && k % 256 = 4 then some (s.txAge (s.pl.peers.getD ((k - 0x3240_00) / 256) {}).takenS) else none

/-! ### Halyard's tick and the thermal update (R217, R219, R221) -/

/-- What the claimants do once Halyard has acted: lost field frames, the radio, the powerline, VOUT_3V3. -/
def State.afterHalyard (s : State) : State := s.absorbAborts.radioSettle.plSettle.voutFollow

/-- HALYARD_TICK (R217): in ROM recovery too (R451). -/
def execHalyardTick (s : State) : Out := nextAny (s.coreRuns && s.tickDue) s s.halyardTick.afterHalyard

/-- INPUT_MW and VOUT_MW show the powers of which D was last worked. -/
def State.powersShown (s : State) (input : BitVec 16) (m : Outputs) : State :=
  (({ s with hal := { s.hal with dissT0 := s.now } } : State).setN 0x2000_07 input.toNat).setN 0x2001_03 m.vout.toNat

/-- THERMAL_UPDATE (R220, R221): each millisecond, with the powers then measured and estimated, in mW. -/
def execThermalUpdate (input : BitVec 16) (m : Outputs) (s : State) : Out :=
  nextWhen (s.passedMs s.hal.dissT0 1) s (((s.powersShown input m).thermal s.hottest (lossOf input m)).afterHalyard)

end Sys2Proof.Machine
end

