-- ==== Sys2Proof/Machine/SelfTest.lean ====
section
/-!
DEFINITION. Self-test and calibration (chapter 18): slices, findings and repair; ECC; sensors, requests, and the
calibrations of the ports and the powerline.
-/

namespace Sys2Proof.Machine

open Sys2Proof

/-! ### Which slice comes next (R377, R380, R383) -/

/-- The groups whose turn may come: slices left in the cycle, and not escalated. -/
def State.openGroups (s : State) : List Nat :=
  (List.range 11).filter fun g => decide (s.st.counts.getD g 0 < sliceCounts.getD g 0) && !(s.st.escalated.any fun x => x.1 = g)

/-- The next group in turn. -/
def State.nextGroup (s : State) : Option Nat :=
  match s.openGroups.find? fun g => s.st.turn ≤ g with
  | some g => some g
  | none => s.openGroups.head?

/-- The next regular slice: the first targeted one, ahead of the sequence, or the next unit of the next group; a group whose next
slice is escalated is skipped (R377, R383). -/
def State.nextSlice (s : State) : Option Slice :=
  match s.st.targets.find? fun x => !(s.st.escalated.any fun y => y.1 = x.group) with
  | some x => some x
  | none => s.nextGroup.map fun g => { group := g, index := s.st.counts.getD g 0 }

/-- The next slice of an escalated group: its targeted one, or its next unit (R380, R383). -/
def State.nextEscalated (s : State) (g : Nat) : Slice :=
  match s.st.targets.find? fun x => x.group = g with
  | some x => { x with escalated := true }
  | none => { group := g, index := s.st.counts.getD g 0, escalated := true }

/-- A slice cannot start: the last column of Table 18-1, or a calibration outage of its block (R378, R381). -/
def State.sliceBarred (s : State) (x : Slice) : Bool :=
  let u := sliceUnit x.group x.index
  match x.group with
  | 4 => s.supply.state = .shutdown
  | 5 => !s.coreOn || s.groupRuns
  | 6 => (s.rxp u).cancel ≠ .off || (s.port u).outage
  | 7 => (s.port u).state ≠ .off || s.unavailable u
  | 8 => (s.radio.state ≠ .sleep && s.radio.state ≠ .standby) || s.radio.move.isSome
  | 9 => decide (s.nat 0x3200_0B = 0) || s.pl.air.isSome || s.pl.rx.isSome || s.pl.outage.isSome
  | _ => false

/-- Start a slice, or count it as pre-empted at its start (R378). -/
def State.sliceBegin (s : State) (x : Slice) : State :=
  let s := s.updSt fun y => { y with targets := if x.targeted then y.targets.erase { x with escalated := false } else y.targets,
                                     turn := if x.escalated || x.targeted then y.turn else (x.group + 1) % 11 }
  if s.sliceBarred x then s.slicePreempted x else s.updSt fun y => { y with run := some x }

/-- A slice may start at all: enabled, the core in service and not halted, none in progress. -/
def State.slicesRun (s : State) : Bool := s.flag 0x3400_01 && s.phase = .service && s.power ≠ .sleep && !s.halted && s.st.run.isNone

/-- SLICE_PERIOD_MS of TB has passed since the last regular slice started (R377). -/
def State.sliceDue (s : State) : Bool := decide (s.st.t0 + s.nat 0x3400_02 * 27120 ≤ s.tb64)

/-- A regular slice starts every SLICE_PERIOD_MS. -/
def State.sliceStart (s : State) : State :=
  if s.slicesRun && s.sliceDue then
    let s := s.updSt fun y => { y with t0 := s.tb64 }
    match s.nextSlice with
    | some x => s.sliceBegin x
    | none => s
  else s

/-- The escalated slice starts in an acting occurrence of slot 31 that leaves it its 250 µs; one that is pre-empted, at its start too,
is tried again in the next occurrence (R29, R377, R380). -/
def State.escalatedStart (s : State) : State :=
  match s.st.escalated with
  | (g, _) :: _ =>
    let opened := (s.ma.burgee.getD 31 {}).openAt
    if s.slicesRun && s.fitsWindow 31 250 && decide (s.st.tried ≠ opened) then
      (s.updSt fun x => { x with tried := opened }).sliceBegin (s.nextEscalated g)
    else s
  | [] => s

/-! ### Findings (R382 to R387) -/

/-- What a slice found: its KIND, its address, the bit, the unit, and the spare rows that fail their march before a good one. -/
structure Finding where
  unit : Nat
  kind : Nat
  addr : Nat
  bit : Nat
  badSpares : Nat
deriving DecidableEq, Repr

/-- Record a finding (Table 18-2). -/
def State.recordFinding (s : State) (g : Nat) (f : Finding) (action : Nat) : State :=
  let k := s.nat 0x3401_05
  let b := [BitVec.ofNat 8 g, BitVec.ofNat 8 f.unit, BitVec.ofNat 8 f.kind, BitVec.ofNat 8 action] ++ leBytes 4 f.addr ++
    [BitVec.ofNat 8 f.bit, 0, 0, 0] ++ s.poweredStamp ++ zeroBytes 4
  ((s.setO (0x3420_01 + k % 16) b).bump 0x3401_05).raise 90

/-- The spares used of a unit. -/
def State.sparesUsed (s : State) (g u : Nat) : Nat := ((s.st.spares.find? fun x => x.1 = g && x.2.1 = u).map (·.2.2)).getD 0

/-- Take spares of a unit: whether one was left, with the bad ones before it marked (R384, R385). -/
def State.takeSpare (s : State) (g u limit bad : Nat) : State × Bool :=
  let used := s.sparesUsed g u
  let n := min limit (used + bad + 1)
  let s := (s.updSt fun x => { x with spares := (g, u, n) :: x.spares.filter fun y => ¬ (y.1 = g ∧ y.2.1 = u) }).setN (groupKey g 3)
    (s.nat (groupKey g 3) + (n - used))
  (s, decide (used + bad < limit))

/-- A repair of a row or block: stored, counted, event 91; without a spare the group is exhausted (R384 to R386). -/
def State.repair (s : State) (g : Nat) (f : Finding) (unit limit action : Nat) : State :=
  match s.takeSpare g unit limit f.badSpares with
  | (s, true) => (((s.recordFinding g f action).bump 0x3401_06)).raise 91
  | (s, false) => (((s.recordFinding g f 5)).setN (groupKey g 2) 3).raise 91

/-- A relocated block of the commissioning store is written as one group, in the host class of R186, with what it holds (R385). Not
over a group that is still to be rolled forward (log 83). -/
def State.relocated (s : State) (addr : Nat) : State :=
  let b := addr / 32
  if s.tag.commit.committed || regionOf b = .outside then s else s.groupWrite b 1 (s.homeBlock b) false true

/-- A unit of groups 0 and 6 to 9 is faulty. -/
def State.unitFaulty (s : State) (g u : Nat) : State :=
  (s.updSt fun x => { x with faulty := (g, u, 0) :: x.faulty.filter fun y => ¬ (y.1 = g ∧ y.2.1 = u) }).setN (groupKey g 2) 1

/-- The radio's path of a slice of group 8: receive or transmit, and its aerial. -/
def State.radioFinding (s : State) (i : Nat) : State :=
  let a := i / 2 + 1
  if i % 2 = 0 then s.updRadio fun r => { r with rxPin := some (3 - a) }
  else
    let s := s.updRadio fun r => { r with txBad := some a }
    if s.radio.air.isSome && decide (s.radio.aerial = a) then s.radioAbort.rampDown none else s

/-- The middle one of the other five sensors, as last read. -/
def State.sensorMedian (s : State) (i : Nat) : Int :=
  (((List.range 6).filter (· ≠ i)).map (fun j => s.int (0x3501_01 + j)) |> sortBy fun a b => decide (a ≤ b)).getD 2 0

/-- The sensors that lie more than 5 °C from the median of the others (R387). -/
def State.sensorsOff (s : State) : List Nat :=
  (List.range 6).filter fun i => decide (50 < (s.int (0x3501_01 + i) - s.sensorMedian i).natAbs)

/-- A finding in group 0: sensors that lie off are excluded; where none does, the finding is the reference's and has no action
(R387; DEDUCED, log 269). -/
def State.referenceFinding (s : State) (f : Finding) : State :=
  let off := s.sensorsOff
  let s := s.recordFinding 0 { f with unit := 0 } (if off = [] then 0 else 7)
  if off = [] then s.unitFaulty 0 6 else off.foldl (fun (t : State) i => (t.setB (0x3502_01 + i) false).unitFaulty 0 i) s

/-- The action of a finding in each group (R384 to R387). -/
def State.findingAct (s : State) (x : Slice) (f : Finding) : State :=
  let g := x.group
  let u := sliceUnit g x.index
  match g with
  | 0 => s.referenceFinding f
  | 1 | 2 => s.repair g { f with unit := u } u 8 1
  | 3 => s.repair g { f with unit := u } u 8 1
  | 4 => s.repair g { f with unit := 0, badSpares := 0 } 0 64 2
  | 5 =>
    let t := s.repair g { f with unit := 0, badSpares := 0 } 0 16 2
    if s.sparesUsed 5 0 < 16 then t.relocated f.addr else t
  | 6 => ((s.recordFinding 6 { f with unit := u } 4).rxFault u).unitFaulty 6 u
  | 7 => ((s.recordFinding 7 { f with unit := u } 3).portFault u 4).unitFaulty 7 u
  | 8 => ((s.recordFinding 8 { f with unit := u + 1 } 4).radioFinding x.index).unitFaulty 8 x.index
  | 9 => ((s.recordFinding 9 { f with unit := u } 4).updPl fun y => { y with finding := true }).unitFaulty 9 u
  | _ => (((s.recordFinding 10 { f with unit := 0 } 6).add 0x2900_05 s.pool.leaked).updPool fun p => { p with leaked := 0 }).poolLevel

/-- A slice of group 0 passed: every excluded sensor takes part again. -/
def State.referencePassed (s : State) : State :=
  let back := ((s.st.faulty.filter fun y => y.1 = 0).map (·.2.1)).filter (· < 6)
  let s := (s.updSt fun z => { z with faulty := z.faulty.filter fun y => y.1 ≠ 0 }).setN (groupKey 0 2) 0
  back.foldl (fun (t : State) i => t.setB (0x3502_01 + i) true) s

/-- A path of the radio is healthy again, receive or transmit; a finding on the other aerial still holds (R387). -/
def State.radioPassed (s : State) (path : Nat) : State :=
  let left := (s.st.faulty.find? fun w => w.1 = 8 && decide (w.2.1 % 2 = path)).map fun w => w.2.1 / 2 + 1
  s.updRadio fun r => if path = 0 then { r with rxPin := left.map (3 - ·) } else { r with txBad := left }

/-- A slice of a faulty unit passed: groups 6, 8 and 9 are healthy after two in a row, 0 and 7 after one (R387; log 164). -/
def State.unitPassed (s : State) (x : Slice) : State :=
  let g := x.group
  let u := if g = 8 then x.index else sliceUnit g x.index
  match s.st.faulty.find? fun y => y.1 = g && (g = 0 || y.2.1 = u) with
  | none => s
  | some y =>
    if g = 0 then s.referencePassed
    else if y.2.2 + 1 < 2 && (g = 6 || g = 8 || g = 9) then s.updSt fun z => { z with faulty := z.faulty.map fun w => if w = y then (y.1, y.2.1, 1) else w }
    else
      let s := s.updSt fun z => { z with faulty := z.faulty.filter (· ≠ y) }
      let s := if g = 8 then s.radioPassed (y.2.1 % 2)
        else if g = 9 && !(s.st.faulty.any fun w => w.1 = 9) then s.updPl fun p => { p with finding := false }
        else s
      if s.st.faulty.any fun w => w.1 = g then s else s.setN (groupKey g 2) 0

/-- A slice has completed (R377, R379). -/
def State.sliceDone (s : State) (x : Slice) (f : Option Finding) : State :=
  let g := x.group
  let s := ((s.updSt fun y => { y with run := none }).bump 0x3401_01).setN (groupKey g 1) 0
  let s := if s.nat (groupKey g 2) = 2 then s.setN (groupKey g 2) 0 else s
  let s := match f with
    | some f => s.findingAct x f
    | none => (if g = 6 then s.rxPassed (sliceUnit 6 x.index) else s).unitPassed x
  let s := if x.targeted then s else s.sliceCount g
  if x.escalated then s.deescalate g else s

/-- An access to the memory under test can end the slice by itself: groups 1, 2 and 4. The requests to which the others yield are
commands of their own, and group 0 yields to none (Table 18-1; log 228). -/
def memoryGroup (g : Nat) : Bool := g = 1 || g = 2 || g = 4

/-- SELF_TEST_SLICE (R377, R379, R380): a regular slice starts, an escalated one starts, or the slice in progress passes, is
pre-empted by an access to the memory under test, or finds a fault. -/
def execSelfTestSlice (x : SliceStep) (s : State) : Out :=
  match x with
  | .start => done s s.sliceStart
  | .startEscalated => done s s.escalatedStart
  | .passed => match s.st.run with
    | some r => done s (s.sliceDone r none)
    | none => .next s
  | .preempted => match s.st.run with
    | some r => done s (if memoryGroup r.group then s.slicePreempted r else s)
    | none => .next s
  | .found unit kind addr bit bad => match s.st.run with
    | some r => done s (s.sliceDone r (some { unit := unit.toNat, kind := kind.val, addr := addr.toNat, bit := bit.toNat, badSpares := bad.val }))
    | none => .next s

/-- LANE_ADMISSION (R77): the requests are decided. -/
def execLaneAdmission (s : State) : Out := done s s.laneAdmission

/-! ### ECC (R383) -/

/-- A correction in service: an address corrected twice within 3,600 powered seconds gets a targeted slice and a record. -/
def State.eccCorrected (s : State) (g : Nat) (f : Finding) (index : Nat) : State :=
  let s := s.bump 0x3401_07
  let t := s.nat 0x2A01_01
  match s.st.ecc.find? fun x => x.1 = g && x.2.1 = f.addr with
  | some x =>
    let again := decide (t ≤ x.2.2 + 3600)
    let s := s.updSt fun y => { y with ecc := (g, f.addr, t) :: y.ecc.filter (· ≠ x) }
    if again then
      (s.recordFinding g { f with kind := 8 } 0).updSt fun y => { y with targets := y.targets ++ [{ group := g, index := index, targeted := true }] }
    else s
  | none => s.updSt fun y => { y with ecc := (g, f.addr, t) :: y.ecc }

/-- The bunting of this number on a queue is CORRUPT, with the data that can be reached; the one that its reader is reading is
delivered so from here on (R235). -/
def State.corruptAt (s : State) (q key : Nat) (data : List Byte) : State :=
  let hit (b : Bunting) : Bunting := if b.key = key then { b with corrupt := true, data := data } else b
  let t := s.updQueue q fun x => { x with items := x.items.map hit, current := x.current.map hit }
  match (s.queue q).current with
  | some b => if b.key = key && !b.corrupt then t.corruptPop { b with corrupt := true } else t
  | none => t

/-- A double-bit error in a bunting of the Moss pool, the i-th that is queued, or the current one behind the last (R235): in a
cell it is delivered CORRUPT; in the link entry of its n-th cell it ends there as well, and the cells behind are out of reach
until the pool audit finds them. A twin push has one copy of the cells, so both of its buntings are hit (R227). -/
def State.buntingHit (s : State) (q i : Nat) (link : Option Nat) : State :=
  match (s.queue q).items[i]?.or (if i = (s.queue q).items.length then (s.queue q).current else none) with
  | none => s
  | some b =>
    let cut := match link with
      | none => b.data
      | some n => b.data.take (128 * (n + 1))
    let s := (if b.twin then [5, 6] else [q]).foldl (fun (t : State) x => t.corruptAt x b.key cut) s
    s.updPool fun p => { p with leaked := p.leaked + (cellsFor b.data.length - cellsFor cut.length) }

/-- ECC_CORRECTION (R383): a memory group, the slice of its row or block, the unit, the address and the bit; where the error
is past correction, the queued bunting that it meets: its queue, its place in it, and the cell if a link entry is hit. -/
def execEccCorrection (g : Fin 6) (index : BitVec 8) (unit : BitVec 8) (addr : BitVec 32) (bit : BitVec 8) (uncorrectable : Bool)
    (hit : Option (Fin 32 × Fin 64 × Option (Fin 64))) (s : State) : Out :=
  let f : Finding := { unit := unit.toNat, kind := 9, addr := addr.toNat, bit := bit.toNat, badSpares := 0 }
  let t := if uncorrectable then (s.bump 0x3401_08).recordFinding g f 0 else s.eccCorrected g f index.toNat
  done s (match hit with
    | some (q, i, link) => if uncorrectable then t.buntingHit q i (link.map Fin.val) else t
    | none => t)

/-! ### Sensors and corrections (R389, R390) -/

/-- Interpolation of a factory set at −25, 0, 25, 55 and 85 °C, T in 0.1 °C (R389). -/
def interpolate (f : List Int) (t : Int) : Int :=
  let at_ (i : Nat) : Int := f.getD i 0
  let line (i : Nat) (lo hi : Int) (x : Int) : Int := at_ i + (at_ (i + 1) - at_ i) * (x - lo) / (hi - lo)
  if t ≤ -250 then at_ 0
  else if t ≤ 0 then line 0 (-250) 0 t
  else if t ≤ 250 then line 1 0 250 t
  else if t ≤ 550 then line 2 250 550 t
  else line 3 550 850 (min t 1000)

/-- The factory set of quantity i of port p, each value of 16 bits as OD 3510+b/05 holds its offset (log 6). -/
def factorySet (p i : Nat) : List Int := (Config.factoryCal p i).map BitVec.toInt

/-- The four offsets of a port (OD 3510+b/05). -/
def State.offsets (s : State) (p : Nat) : List Int := (List.range 4).map fun i => iAt (s.oct (calKey p 5)) (2 * i) 2

/-- The corrections that port p would use now: f(T) + Δ. -/
def State.corrections (s : State) (p : Nat) : List Int :=
  (List.range 4).map fun i => interpolate (factorySet p i) (s.blockTemp p) + (s.offsets p).getD i 0

/-- A new correction may take effect: nothing on the port modulates or moves, and its canceller is not in HOLD (R389). -/
def State.mayCorrect (s : State) (p : Nat) : Bool :=
  let x := s.port p
  x.state ≠ .modulating && x.state ≠ .rampUp && x.state ≠ .rampDown && x.comps.all (fun c => c.doing = .steady && c.out.isNone) && (s.rxp p).cancel ≠ .hold

/-- New corrections are to take effect (R389). -/
def State.correct (s : State) : State := { s with cal := { s.cal with corrWait := BitVec.allOnes 8 } }

/-- A drive-word boundary: waiting corrections take effect at the ports where they may (R389). -/
def State.correctWord (s : State) : State :=
  let may (p : Nat) : Bool := s.cal.corrWait.getLsbD p && s.mayCorrect p
  { s with cal := { s.cal with
      corr := (List.range 8).map fun p => if may p then s.corrections p else s.cal.corr.getD p []
      corrWait := s.cal.corrWait &&& ~~~ BitVec.ofNat 8 (((List.range 8).filter may).foldl (fun n p => n + 2 ^ p) 0) } }

/-- Where corrections wait, the fabric clock that just passed may have reached a drive-word boundary. -/
def State.correctFollow (s : State) : State :=
  if s.cal.corrWait ≠ 0 ∧ (s.now - quantaFabric) / quantaWord < s.now / quantaWord then s.correctWord else s

/-- Request calibrations, with the time for R391. -/
def State.calRequest (s : State) (bs : List Nat) : State :=
  bs.foldl (fun (t : State) b =>
    if t.calPending b then t
    else { (t.calAsk b) with cal := { t.cal with pendT0 := t.cal.pendT0.set b t.now, limitGiven := t.cal.limitGiven &&& ~~~ BitVec.ofNat 10 (2 ^ b) } }) s

/-- The blocks whose sensor has moved by CAL_DELTA since their last calibration (R390). -/
def State.drifted (s : State) : List Nat :=
  (List.range 10).filter fun b => decide (s.nat 0x3500_02 ≤ (s.blockTemp b - s.int (calKey b 2)).natAbs)

/-- SENSOR_READ (R389): the six die sensors in 0.1 °C, every 100 ms. -/
def execSensorRead (t0 t1 t2 t3 t4 t5 : BitVec 16) (s : State) : Out :=
  nextWhen (s.passedMs s.cal.sensorT0 100) s
    (let s := [t0, t1, t2, t3, t4, t5].zipIdx.foldl (fun (t : State) x => t.setI (0x3501_01 + x.2) x.1.toInt) s
     let s : State := { s with cal := { s.cal with sensorT0 := s.now } }
     s.correct.calRequest s.drifted)

/-! ### Calibrations (R388, R391 to R393) -/

/-- Book the calibration window: owner 5, START CAL_ANGLE, LENGTH CAL_SPAN at the nominal frequency, HALF (R391). A span of
more than 32,767 units, as 8,000 µs above 62.5 Hz, has no LENGTH that R29 states; the model books it as it comes out, without
bounding it (DESIGN CHOICE, log 257). -/
def State.calBook (s : State) : State :=
  let w := s.nat 0x3500_06
  let s := if w = 0xFF then s else s.burgeeFree w
  let len := (s.nat 0x3500_05 * s.nat 0x2100_01 * 65536 + 999_999) / 1_000_000
  match s.burgeeBook { start := s.nat 0x3500_04, len := len, owner := 5, flags := 3, period := 0, ports := 0, float := 0 } with
  | (s, some w) => s.setN 0x3500_06 w
  | (s, none) => s.setN 0x3500_06 0xFF

/-- A pending port calibration has waited CAL_DEFER_MAX_S. -/
def State.calForced (s : State) (b : Nat) : Bool := s.passedS (s.cal.pendT0.getD b 0) (s.nat 0x3500_03)

/-- The slice in progress is on a port's block (R381). -/
def State.sliceOn (s : State) (p : Nat) : Bool :=
  match s.st.run with
  | some x => (x.group = 6 || x.group = 7) && sliceUnit x.group x.index = p
  | none => false

/-- A port calibration may start in the open occurrence: OFF and in no lane, or forced in a gap between exchanges (R391). -/
def State.portCalReady (s : State) (p : Nat) : Bool :=
  s.coreOn && !s.halted && s.calPending p && s.cal.run.isNone && s.fitsWindow (s.nat 0x3500_06) 1400 && !s.sliceOn p &&
    !(p = 0 && s.assigned) && (s.frond p).ping.isNone && (s.port p).state ≠ .fault &&
    (((s.port p).state = .off && !s.inLane p) ||
      (s.calForced p && (s.port p).comps.all fun c => decide (c.lane < 4) && !s.inExchange c.lane))

/-- The outage of a port begins: its lanes go on on the cover form (R87, R391). -/
def State.portCalStart (s : State) (p : Nat) : State :=
  let s := (s.updPort p fun x => { x with outage := true })
  let s := (List.range 4).foldl (fun (t : State) l => if (t.port p).comps.any (fun c => c.lane = l) then t.dropComponent p l else t) s
  { (s.coverAll) with cal := { s.cal with run := some (p, s.now) } }

/-- CALIBRATION_START (R391). -/
def execCalibrationStart (p : Fin 8) (s : State) : Out := nextWhen (s.portCalReady p) s (s.portCalStart p)

/-- A complex correction in 1/10,000, applied to a baseline (R156). -/
def correctBase (c z : Int × Int) : Int × Int :=
  ((z.1 * c.1 - z.2 * c.2) / 10000, (z.1 * c.2 + z.2 * c.1) / 10000)

/-- The stored baseline and BASE_REF take a calibration's complex correction, so that the live B and they go on together (R156);
zeros stay none. -/
def State.baseCorrected (s : State) (p : Nat) (c : Int × Int) : State :=
  [frondKey p 11, frondKey p 19].foldl (fun (t : State) k =>
    let b := t.oct k
    t.setO k (baseBytes (correctBase c (iAt b 0 4 * 1000000, iAt b 4 4 * 1000000)))) s

/-- A port's offsets Δ from the values measured (R389). -/
def State.newOffsets (s : State) (p : Nat) (m : List Int) : List Int :=
  m.zipIdx.map fun x => x.1 - interpolate (factorySet p x.2) (s.blockTemp p)

/-- Offsets within 1.0 dB in gain and 5.0° in phase (R393). -/
def offsetsHold (d : List Int) : Bool :=
  decide ((d.getD 0 0).natAbs ≤ 100) && decide ((d.getD 1 0).natAbs ≤ 500) && decide ((d.getD 2 0).natAbs ≤ 100) && decide ((d.getD 3 0).natAbs ≤ 500)

/-- A port calibration ends (R392, R393): the offsets stored and the baseline corrected, or FAULT code 5; the port is back. -/
def State.portCalEnd (s : State) (p : Nat) (m : List Int) (c : Int × Int) (settled : Bool) : State :=
  let s : State := { (s.updPort p fun x => { x with outage := false }) with cal := { s.cal with run := none } }
  let d := s.newOffsets p m
  if settled && offsetsHold d then
    let s := (s.setO (calKey p 5) (d.flatMap (leBytesI 2))).calDone p true
    let s := ((s.updFrond p fun f => { f with base := correctBase c f.base }).baseCorrected p c).frondDrift p
    ((s.correct.coverAll).staleFor [p]).requestSurvey
  else (((s.calDone p false).coverAll).portFault p 5).absorbAborts

/-- A powerline calibration ends; one that failed keeps the transmitter off until a later one succeeds (R393). -/
def State.plCalEnd (s : State) (settled : Bool) : State :=
  (s.updPl fun x => { x with outage := none, calFailed := !settled }).calDone 9 settled

/-- CALIBRATION_COMPLETE (R392, R393): of the port in its outage, with drive gain and phase and receive gain and phase as
measured, in 0.01 dB and 0.01°, and the sense path's complex correction in 1/10,000; or of the powerline. -/
def execCalibrationComplete (pl : Bool) (dg dp rg rp cre cim : BitVec 16) (settled : Bool) (s : State) : Out :=
  if pl then
    match s.pl.outage with
    | some t0 => nextWhen (s.passedUs t0 3000) s (s.plCalEnd settled)
    | none => .next s
  else
    match s.cal.run with
    | some (p, t0) => nextWhen (s.passedUs t0 1400) s
        (s.portCalEnd p [dg.toInt, dp.toInt, rg.toInt, rp.toInt] (cre.toInt, cim.toInt) settled)
    | none => .next s

/-- CAL_DEFERRAL_LIMIT (R393): a request pending for CAL_DEFER_MAX_S is marked once. -/
def execCalDeferralLimit (b : Fin 10) (s : State) : Out :=
  nextWhen (s.calPending b && !s.cal.limitGiven.getLsbD b && s.calForced b) s
    ({ s with cal := { s.cal with limitGiven := s.cal.limitGiven ||| BitVec.ofNat 10 (2 ^ b.val) } }.raise 92)

/-! ### Dictionary entries -/

/-- CAL_REQUEST reads the pending bits: a write adds requests (R390). -/
def State.calMerge (s : State) (k : Nat) (v : Val) : Val := if k = 0x3500_01 then s.val k else v

/-- What follows a taken write. -/
def State.calWritten (s : State) (k : Nat) (v : Val) : State :=
  if k = 0x3500_01 then s.calRequest ((List.range 10).filter fun b => v.int.toNat.testBit b)
  else if k = 0x3500_04 || k = 0x3500_05 then s.calBook
  else s

end Sys2Proof.Machine
end

