-- ==== Sys2Proof/Machine/Pads.lean ====
section
/-!
DEFINITION. Clearing, enabling and routing of events and the modes of the IRQ lines (chapter 20), and the GP pads (chapter 21).
-/

namespace Sys2Proof.Machine

open Sys2Proof

/-! ### Events (R413 to R420) -/

/-- The events of a word that a clear in the present fabric clock leaves pending: those raised in it (R414). -/
def State.raisedBits (s : State) (word : Nat) : BitVec 32 :=
  s.raisedNow.foldl (fun (w : BitVec 32) x => if x.1 / 32 = word then w ||| BitVec.ofNat 32 (2 ^ (x.1 % 32)) else w) 0

/-- What a word of pending bits becomes where the host writes 1 to some: the raise of the same fabric clock wins (R414). -/
def State.pendingAfter (s : State) (word : Nat) (bits : BitVec 32) : Nat :=
  (BitVec.ofNat 32 (s.nat (0x3600_01 + word)) &&& ~~~ (bits &&& ~~~ s.raisedBits word)).toNat

/-- An event that was pending before the present clock, raised in it and cleared in it, counts as newly set: it pulses the lines it
reaches (R414, R417). -/
def State.clearLost (s : State) (word : Nat) (bits : BitVec 32) : State :=
  s.raisedNow.foldl (fun (t : State) x =>
    if x.2 && x.1 / 32 = word && bits.getLsbD (x.1 % 32) then
      (List.range 4).foldl (fun (u : State) l => if u.reaches x.1 l then u.newlyReach l else u)
        { t with raised := t.raised.map fun y => if y.1 = x.1 then (y.1, false) else y }
    else t) s

/-- Pending bits are cleared where the host writes 1 (R414). -/
def State.clearEvents (s : State) (word : Nat) (bits : BitVec 32) : State :=
  (s.setN (0x3600_01 + word) (s.pendingAfter word bits)).clearLost word bits

/-- EVENT_CLEAR: FW_EVT_PENDn (R414). -/
def execEventClear (word : Fin 3) (bits : BitVec 32) (s : State) : Out := done s (s.clearEvents word bits)

/-- A word of enable bits is written: pending events that reach a pulse line anew pulse it (R417). -/
def State.enableWrite (s : State) (word : Nat) (bits : BitVec 32) : State := (s.setN (0x3601_01 + word) bits.toNat).pulseNew s

/-- EVENT_ENABLE_WRITE: FW_EVT_ENAn (R417). -/
def execEventEnableWrite (word : Fin 3) (bits : BitVec 32) (s : State) : Out := done s (s.enableWrite word bits)

/-- What follows a write of LINE_MODE of line l: one pulse on entering pulse mode with an event there; on leaving it, a pulse
owed lapses (R417). -/
def State.lineModeWritten (s old : State) (l : Nat) : State :=
  if old.lineMode l ≠ 2 && decide (s.lineMode l = 2) then (if s.lineReached l then s.newlyReach l else s)
  else if old.lineMode l = 2 && decide (s.lineMode l ≠ 2) then
    { s with lines := s.lines.modify l fun x => if x.phase = .gap then {} else { x with owed := false } }
  else s

/-- The end of a pulse of line l: 1 µs of rest follows; after it an owed pulse is given (R417). -/
def State.lineTurn (s : State) (l : Nat) : State :=
  { s with lines := s.lines.modify l fun x =>
      if x.phase = .pulse then { x with phase := .gap, t0 := s.now }
      else if x.owed then { phase := .pulse, t0 := s.now, mode := s.nat (0x3602_01 + l) } else {} }

/-- IRQ_PULSE_END (R417): PULSE_US has passed in a pulse, or 1 µs after it. In SLEEP the lines are held (R420). -/
def execIrqPulseEnd (l : Fin 4) (s : State) : Out :=
  let x := s.lines.getD l {}
  nextWhen ((x.phase = .pulse && s.passedUs x.t0 (s.nat (0x3603_01 + l.val))) || (x.phase = .gap && s.passedUs x.t0 1)) s (s.lineTurn l)

/-- Fast words of events: how many are pending and enabled, the lowest and its route; the lines reached (Table 20-3). -/
def State.evtNext (s : State) : Nat :=
  match s.liveEvents with
  | [] => 0xFF
  | e :: rest => (rest.length + 1) * 2 ^ 24 + s.nat (0x3610_01 + e) % 16 * 2 ^ 16 + e

def State.evtLines (s : State) : Nat := (List.range 4).foldl (fun n l => n + boolNat (s.liveEvents.any fun e => s.isPending e && s.isEnabled e && s.bit (0x3610_01 + e) l && decide (s.lineMode l ≠ 0)) * 2 ^ l) 0

/-- Checks beyond range: MODE 3, and open-drain with POLARITY 1 (R416). -/
def eventsCheck (k : Nat) (v : Val) : Status :=
  if 0x3602_01 ≤ k && decide (k ≤ 0x3602_04) then
    let n := v.int.toNat
    if n % 4 = 3 || (n.testBit 3 && n.testBit 2) then .range else .ok
  else .ok

/-- A write of PENDING clears bits (R414). -/
def State.eventsMerge (s : State) (k : Nat) (v : Val) : Val :=
  if 0x3600_01 ≤ k && decide (k ≤ 0x3600_03) then .num (s.pendingAfter (k - 0x3600_01) (BitVec.ofNat 32 v.int.toNat)) else v

/-- What follows a taken write of the value v. -/
def State.eventsWritten (s old : State) (k : Nat) (v : Val) : State :=
  if 0x3600_01 ≤ k && decide (k ≤ 0x3600_03) then s.clearLost (k - 0x3600_01) (BitVec.ofNat 32 v.int.toNat)
  else if 0x3602_01 ≤ k && decide (k ≤ 0x3602_04) then s.lineModeWritten old (k - 0x3602_01)
  else if k / 256 = 0x3601 || k / 256 = 0x3610 then s.pulseNew old
  else s

/-! ### GP pads (R431, R432) -/

def padKey (n sub : Nat) : Nat := 0x3700_00 + 0x100 * n + sub

def State.padDir (s : State) (n : Nat) : Nat := s.nat (padKey n 1)
def State.padOut (s : State) (n : Nat) : Bool := s.flag (padKey n 4)

/-- IN follows what the pad itself drives: a push-pull output, or an open-drain output that pulls low (R431). The level of a
released pad comes with its edges. -/
def State.padFollow (s : State) (n : Nat) : State :=
  if s.padDir n = 1 then s.setB (padKey n 5) (s.padOut n)
  else if s.padDir n = 2 && !s.padOut n then s.setB (padKey n 5) false
  else s

def State.setPulse (s : State) (n : Nat) (x : Option Pulse) : State := { s with pulses := s.pulses.set n x }

/-- OUT of a pad. -/
def State.setOut (s : State) (n : Nat) (level : Bool) : State := (s.setB (padKey n 4) level).padFollow n

/-- A host write of OUT ends a rule pulse, and the host's level stands (R432). -/
def State.hostOut (s : State) (n : Nat) (level : Bool) : State := (s.setPulse n none).setOut n level

/-- A write of GP_OUT sets every pad and ends every pulse (R432, log 172). -/
def State.hostOutAll (s : State) (v : Nat) : State := (List.range 16).foldl (fun (t : State) n => t.hostOut n (v.testBit n)) s

/-- OUT takes INIT at every start (R431). -/
def State.padsInit (s : State) : State := (List.range 16).foldl (fun (t : State) n => t.setOut n (t.flag (padKey n 3))) s

/-- A write of DIR: DIR 0 ends a pulse (R432), and OUT returns to what the pulse would have restored (DEDUCED, log 171). -/
def State.dirWritten (s : State) (n : Nat) : State :=
  match s.pulses.getD n none with
  | some x => if s.padDir n = 0 then (s.setPulse n none).setOut n x.back else s.padFollow n
  | none => s.padFollow n

/-- A GPIO action of a rule or scene: 0 low, 1 high, 2 toggle, 3 pulse (R203, R432); none where it cannot be carried out. A
pulse drives the complement of OUT and brings OUT back (DEDUCED, log 171); one that replaces a pulse restores what that one
would have. -/
def State.gpioAction (s : State) (pad op ms : Nat) : Option State :=
  if ¬ s.bit 0x2880_01 pad || decide (s.padDir pad = 0) then none
  else
    let base := ((s.pulses.getD pad none).map (·.back)).getD (s.padOut pad)
    match op with
    | 0 => some (s.hostOut pad false)
    | 1 => some (s.hostOut pad true)
    | 2 => some (s.hostOut pad (!s.padOut pad))
    | _ =>
      if 1 ≤ ms && decide (ms ≤ 65535) then
        some ((s.setPulse pad (some { t0 := s.tb64, ms := ms, back := base })).setOut pad (!base))
      else none

/-- GPIO_PULSE_END (R432). -/
def execGpioPulseEnd (n : Fin 16) (s : State) : Out :=
  match s.pulses.getD n none with
  | some x => nextWhen (decide (x.t0 + x.ms * 27120 ≤ s.tb64)) s ((s.setPulse n none).setOut n x.back)
  | none => done s s

/-- ms left of a rule pulse, rounded up. -/
def State.pulseLeft (s : State) (n : Nat) : Nat :=
  match s.pulses.getD n none with
  | some x => x.ms - (s.tb64 - x.t0) / 27120
  | none => 0

/-- The GPIO_EDGE trigger of a pad's edge (Table 9-3). -/
def State.gpioTrigger (s : State) (n : Nat) (rising : Bool) (ago : Nat) : Trigger :=
  { kind := 6, arg := n + if rising then 16 else 32, order := n, level := 0, stamp := s.tb64 - ago, zone := none, ident := zeroBytes 24, verdict := {} }

/-- An accepted edge at an input pad: captures of its source, and the trigger (R247, R431). It reached the pad two ticks back,
within the tick either way that R247 allows, a free value. -/
def State.padEdge (s : State) (n : Nat) (rising : Bool) : State :=
  let (f, s) := s.draw
  let ago := 1 + f % 3
  (s.capEdge (n + 1) rising (s.capStamp ago)).trigger (s.gpioTrigger n rising ago)

/-- GP_INPUT_EDGE (R431): the filtered level of a pad that the module does not drive changes. -/
def execGpInputEdge (n : Fin 16) (rising : Bool) (s : State) : Out :=
  let t := s.setB (padKey n 5) rising
  nextWhen (decide (s.padDir n ≠ 1) && !(s.padDir n = 2 && !s.padOut n) && decide (s.flag (padKey n 5) ≠ rising)) s
    (if s.padDir n = 0 then t.padEdge n rising else t)

/-- GP_OUT is stored as the OUT bits of the pads, which show it. -/
def padsMerge (s : State) (k : Nat) (v : Val) : Val := if k = 0x3710_02 then s.val k else v

/-- What follows a taken write. -/
def State.padsWritten (s : State) (k : Nat) (v : Val) : State :=
  if k = 0x3710_02 then s.hostOutAll v.int.toNat
  else if 0x3700_00 ≤ k && decide (k < 0x3710_00) then
    let n := k / 256 - 0x3700
    match k % 256 with
    | 1 => s.dirWritten n
    | 4 => s.hostOut n (decide (v.int ≠ 0))
    | _ => s
  else s

/-- Entries that show the pads. -/
def State.padsView (s : State) (k : Nat) : Option Nat :=
  if k = 0x3710_01 then some ((List.range 16).foldl (fun n i => n + boolNat (s.flag (padKey i 5)) * 2 ^ i) 0)
  else if k = 0x3710_02 then some ((List.range 16).foldl (fun n i => n + boolNat (s.padOut i) * 2 ^ i) 0)
  else if 0x3700_00 ≤ k && decide (k < 0x3710_00) && k % 256 = 6 then some (s.pulseLeft (k / 256 - 0x3700))
  else none

end Sys2Proof.Machine
end

