-- ==== Sys2Proof/Machine/Startup.lean ====
section
/-!
DEFINITION. Power-up, resets, shutdown, standby, SLEEP and debug halt (chapter 19; R213, R249 to R252, R370).
-/

namespace Sys2Proof.Machine

open Sys2Proof

/-! ### What a start leaves (R397, R402) -/

/-- The measurements that the supply makes whether or not the core domain runs. -/
def supplyKeys : List Nat := [0x2000_04, 0x2000_08, 0x2000_09]

/-- The dictionary with the writes that wait for a lane: an accepted write survives any loss of supply (R92, R325). -/
def State.odTaken (s : State) : OdStore :=
  s.deferred.foldl (fun (m : OdStore) x =>
    let m := m.put x.1 (s.pennantsMerge x.1 x.2)
    if 0x2300_00 ≤ x.1 && decide (x.1 < 0x2340_00) && x.1 % 256 = 7 then m.put (x.1 - 4) (.num 2) else m) s.od

/-- The dictionary after a start: volatile entries at their defaults, the supply's measurements kept. FIR_STATUS of a set 8 to 15
is volatile with default 3, so a set that was written and accepted reads EMPTY after a start, and a new mapping to it is
refused, although its stored coefficients and mappings stay in use: the tables say no more (DESIGN CHOICE, log 209). FIR_DELAY
and FIR_MARGIN go on telling the figures of what is stored. -/
def State.freshOd (s : State) : OdStore := supplyKeys.foldl (fun (m : OdStore) k => m.put k (s.val k)) s.odTaken.dropVolatile

/-- The tag domain as the core domain leaves it: HOLD is released (R167); without a field its lockout time, which ran on the core's
supply, stops. -/
def State.tagAlone (s : State) : Tag :=
  let t := { s.tag with hold := none }
  if t.state = .noField && s.coreRuns then { t with lockLeft := t.lockLeft.map fun x => x - (s.now - t.lockT0), lockT0 := s.now } else t

/-- An erase or a verify that is cut short leaves the inactive slot INVALID (R369). -/
def State.firmwareCut (s : State) : Firmware :=
  let f := { s.firmware with busy := none }
  if s.firmware.busy.isSome then { f with slots := f.slots.modify (1 - f.running) fun i => { i with st := 3 } } else f

/-- The state that a stop of the core domain leaves: what the supply, the tag domain, ferroelectric memory and the always-on
block hold, and nothing else. -/
def State.stopped (s : State) : State :=
  { ({} : State) with
    now := s.now, drawn := s.drawn, od := s.freshOd, out := s.out, status := s.status
    supply := { s.supply with pwrGood := false, vout := .off }
    tag := { s.tagAlone with stageDue := false, statusT0 := 0 }
    store := s.store, audit := s.audit, auditTb := s.auditTb, firmware := s.firmwareCut, tidSeen := s.tidSeen, firOk := s.firOk
    survey := { accepted := s.survey.accepted, z := s.survey.z, yd := s.survey.yd }
    radio := { bins := s.radio.savedBins, savedBins := s.radio.savedBins, savedBinS := s.radio.savedBinS,
               cleanSave := s.radio.cleanSave, binS := s.radio.savedBinS }
    pl := { lastBand := s.pl.lastBand }
    st := { spares := s.st.spares }
    tb := { frac := s.tb.frac }
    hal := { tickT0 := s.hal.tickT0, thermT0 := s.hal.thermT0 } }

/-! ### The ROM (R368, R399) -/

/-- The ROM starts the image of a slot. -/
def State.slotStarts (s : State) (slot : Nat) : Bool :=
  match (s.image slot).data with
  | none => s.nat 0x1A10_09 = 0 || decide (s.nat 0x1A10_09 ≤ imageSec Config.factoryImage)
  | some b => s.imageCheck b = 0

/-- The slots in the order of R399: after an unconfirmed trial the previous slot first. -/
def State.slotOrder (s : State) : List Nat :=
  let b := s.nat 0x1A10_06
  if s.flag 0x1A10_07 && s.firmware.tried then [1 - b, b] else [b, 1 - b]

/-- An automatic revert: action 6 by ROLE 0xFF, and the previous slot, confirmed (R370). -/
def State.autoRevert (s : State) : State :=
  let s := ((s.setN 0x1A10_06 (1 - s.nat 0x1A10_06)).setB 0x1A10_07 false).auditModule 2 0x1A10_01 6
  ({ s with firmware := { s.firmware with tried := false } } : State).security 4

/-- The image of a slot runs: its first start in trial begins the trial. -/
def State.imageRuns (s : State) (slot tries : Nat) : State :=
  let s := ({ s with firmware := { s.firmware with running := slot } } : State).setN 0x3801_02 tries
  if s.flag 0x1A10_07 then
    if slot = s.nat 0x1A10_06 then { s with firmware := { s.firmware with tried := true, trialT0 := s.now } } else s.autoRevert
  else s

/-- CODING_NOW of each node follows CODING, and in its automatic setting starts as convolutional (R297). -/
def State.codings (s : State) : State :=
  (List.range 64).foldl (fun (t : State) i =>
    let c := t.nat (radioKey (i + 1) 2)
    if c = 0 then t else t.setN (radioKey (i + 1) 3) (c - 1)) s

/-- The receive settings in force at a start are the stored ones (R117). -/
def State.rxRestored (s : State) : State := { s with rx := s.rx.map fun x => { x with cfg := s.rxSettings } }

/-- R277: after a cycle without step 3 of shutdown each range is charged 1,000 ms, or what it has left. -/
def State.dutyRestore (s : State) : State :=
  let s := if s.radio.cleanSave then s else
    (List.range 8).foldl (fun (t : State) r => t.dutyAdd r (min 3_000_000_000 (t.dutyBudget r - t.dutyUsed r))) s
  s.updRadio fun r => { r with savedBins := r.bins, savedBinS := r.binS, cleanSave := false }

/-- Step 5 of Table 19-1: the slots 0 to 15 are booked anew by their owners, Frond's first (R30, R151; log 223). -/
def State.windowsRebuilt (s : State) : State :=
  ((List.range 16).foldl (fun (t : State) w => t.burgeeFree w) s).frondWindows.plBook.calBook

/-- The angle in FREE_RUN at 0 with the nominal rate (R20). -/
def freeAngle (rate : Nat) : Angle := { rate := rate }

/-- The counts of a start: RESET_CAUSE, a random SEQ, POWER_CYCLES and PSEC_AT_START (R242, R243, R338). -/
def State.countStart (s : State) (cause : Nat) : State :=
  let x := s.random 65536
  let t := (({ x.2 with txSeq := x.1 } : State).setN 0x3801_01 cause).addUp 0x2A01_02 1
  t.setN 0x2A01_03 (t.nat 0x2A01_01)

/-- The moments that a start is timed from, the angle, and the ACTIVE core reserve, held from here on (R451). -/
def State.stampStart (s : State) : State :=
  { s with hal := { s.hal with core := s.coreReserve }, startT0 := s.now, gateT0 := s.now, idleT0 := s.now, ma := freeAngle s.nominalRate }

def State.inPhase (s : State) (p : Phase) : State := { s with phase := p }

/-- What the tag domain meets when an image starts: port 0 stays its own while an external field is there, with event 43 (R187);
a roll-forward that ran unpowered is reported (R181). -/
def State.tagJoins (s : State) : State :=
  let s := if s.tag.field then ({ s with assigned := true } : State).raise 43 else { s with assigned := false }
  if s.tag.recovered then (s.updTag fun t => { t with recovered := false }).raise 42 else s

/-- Blocks 0 to 3 (Table 16-13): SERIAL; PRODUCT, HW_REV and the running image's FW_VERSION; the identity fingerprint. -/
def State.identityBlocks (s : State) : List Byte :=
  s.serial32 ++ slice (slice (s.oct 0x1000_02) 0 16 ++ leBytes 2 (s.nat 0x1000_04) ++ leBytes 4 (imageVersion (s.image s.firmware.running).bytes)) 0 32 ++
    slice (Config.sha512 (s.oct 0x1A00_01)) 0 32 ++ zeroBytes 32

/-- The blocks 0 to 3 as they are held. -/
def State.identityHeld (s : State) : List Byte := s.homeBlock 0 ++ s.homeBlock 1 ++ s.homeBlock 2 ++ s.homeBlock 3

/-- Blocks 0 to 3 are written at start-up where they differ (R350); not over a group that is still to be rolled forward (log 83). -/
def State.writeIdentity (s : State) : State :=
  let b := s.identityBlocks
  let due := !s.tag.commit.committed && decide (s.identityHeld ≠ b)
  { s with tag := if due then s.tag.groupStarts s.now 0 4 s.identityHeld b false false else s.tag
           store := if due then s.store.write 0 b else s.store }

/-- Step 7 of Table 19-1 begins: steps 4 to 6 take 9 ms for each slot tried, 12 ms and 11 ms (DEDUCED, log 270). -/
def State.gateFrom (s : State) (tries : Nat) : State := { s with gateT0 := s.now + usQuanta (9000 * tries + 23000) }

/-- A slot's image starts the firmware. -/
def State.firmwareStarts (s : State) (slot : Nat) : State :=
  let tries := if s.slotOrder.head? = some slot then 1 else 2
  ((({ s with phase := .gate, sessions := [{}, {}] } : State).gateFrom tries).imageRuns slot tries).codings.rxRestored.padsInit.dutyRestore.lineAtStart.plFresh.windowsRebuilt.tagJoins.writeIdentity

/-- The ROM's part (R399). In recovery the maker service serves the maker role, which no claim can reach there (log 180), and the
tag, which works there, has port 0, without which it would not answer (R166; DEDUCED, log 225). -/
def State.romStarts (s : State) : State :=
  match s.slotOrder.find? s.slotStarts with
  | none => { (s.inPhase .recovery).setN 0x3801_02 2 with sessions := [{}, { role := .maker }], assigned := true }
  | some slot => s.firmwareStarts slot

/-- Lockout time counts on under the core's supply (R174). -/
def State.lockOn (s : State) : State := if s.tag.state = .noField then s.lockResume else s

/-- Steps 4 to 6 of Table 19-1, with the restart of TB and the count of the start (R242). The calibration figures of step 6
come with those of step 8. -/
def State.boot (s : State) (cause : Nat) : State := (s.countStart cause).stampStart.lockOn.romStarts

/-- A reset of the core domain (R402). -/
def State.resetCore (s : State) (cause : Nat) : State :=
  let locked := s.flag 0x1812_03
  (s.stopped.setB 0x1812_03 locked).boot cause

/-- The core domain is powered. -/
def State.powered (s : State) : Bool := s.phase ≠ .off

/-- CORE_START (Table 19-1, steps 3 to 6): a source carries the bus. -/
def execCoreStart (s : State) : Out :=
  let cause := if s.supply.returned then 4 else 0
  let t := { s.stopped with tb := {}, supply := { s.supply with state := .normal, returned := false } }
  nextAny (!s.powered && s.supply.source ≠ .store) s (t.boot cause)

/-- RST_N (R402): at its release. -/
def execRstN (s : State) : Out := nextAny s.powered s (s.resetCore 1)

/-- WATCHDOG_EXPIRY (R402): it does not run in debug halt, nor while the core's clocks stand in SLEEP. -/
def execWatchdogExpiry (s : State) : Out := nextAny (s.powered && s.power ≠ .sleep && !s.halted) s (s.resetCore 2)

/-- FW_TRIAL_EXPIRY (R370): FW_TRIAL_S of powered time without confirmation. -/
def execFwTrialExpiry (s : State) : Out :=
  nextWhen (s.inTrial && s.passedS s.firmware.trialT0 (s.nat 0x1A10_08)) s
    (let t := s.stopped.setB 0x1812_03 (s.flag 0x1812_03)
     t.boot 3)

/-- SHUTDOWN (R213): E has reached 0. Every grant goes at once, stored writes and a tag status that has changed are completed,
the core domain is held in reset; a host access in progress has failed (R167). -/
def State.shutDown (s : State) : State :=
  let ms := min 65535 (s.sinceUs s.supply.rideT0 / 1000)
  let s := (s.bump 0x2000_0D).setN 0x2000_0C ms
  let s := if s.statusChanged then s.writeStatus else s
  let s := s.updSupply fun y => { y with state := .shutdown, swT0 := s.now, pwrGood := false, vout := .off, returned := false }
  let s := s.updRadio fun r => { r with savedBins := r.bins, savedBinS := r.binS, cleanSave := true }
  if s.hostGroup then s.stopped.storeEnd 3 else s.stopped

def execShutdown (s : State) : Out :=
  nextAny (s.powered && s.supply.source = .store && decide (s.supply.energy ≤ 0)) s s.shutDown

/-! ### The start gate, the survey and ready (R394, R398, R400, R401) -/

/-- Step 4: a port's offsets, or FAULT code 5 (R389, R393). -/
def State.startPort (s : State) (m : StartMeasure) (p : Nat) : State :=
  let x := m.ports.getD p []
  let d := s.newOffsets p (x.take 4)
  if m.settled.getD p false && offsetsHold d then
    ((s.setO (calKey p 5) (d.flatMap (leBytesI 2))).calDone p true).baseCorrected p (x.getD 4 0, x.getD 5 0)
  else (s.calDone p false).portFault p 5

/-- Step 5: Frond compares the probe with the stored baseline; no wake action yet (R400). -/
def State.startFrond (s : State) (m : StartMeasure) (p : Nat) : State :=
  let s := s.frondFollow p
  let f := s.frond p
  if f.state ≠ .absent then s
  else
    let zu := m.probe.getD p (0, 0)
    let d := (zu.1 * 1000000 - f.base.1, zu.2 * 1000000 - f.base.2)
    let s := (s.setO (frondKey p 18) (leBytesI 4 zu.1 ++ leBytesI 4 zu.2)).writeDetune p d f.base
    let s := s.updFrond p fun f => { f with last := d }
    if atLeast d f.base (s.nat (frondKey p 3)) && decide (d ≠ (0, 0)) then
      s.updFrond p fun f => { f with state := .present, cls := s.classOf (deciDegrees (Cx.ofInts d)) }
    else s

/-- A lock record that fails its check is replaced by the restrictive setting, with events 77 and 85 (R12, R273). -/
def State.locksFail (s : State) : State := (((s.setN 0x3010_02 1).setN 0x3200_04 1).raise 77).raise 85

/-- Steps 1 and 10: the sensors. -/
def State.startSensors (s : State) (m : StartMeasure) : State :=
  let s := m.sensors.zipIdx.foldl (fun (t : State) x => if x.2 < 6 then t.setI (0x3501_01 + x.2) x.1 else t) s
  (List.range 6).foldl (fun (t : State) i =>
    let others := ((List.range 6).filter (· ≠ i)).map fun j => m.sensors.getD j 0
    if 50 < (m.sensors.getD i 0 - medianInt others).natAbs then t.setB (0x3502_01 + i) false else t) s

/-- The calibration of start-up (Table 18-5) with what it found. -/
def State.startCalibrated (s : State) (m : StartMeasure) : State :=
  let s := s.startSensors m
  let s := if m.locksBad then s.locksFail else s
  let s := (List.range 8).foldl (fun (t : State) p => if m.paths.getLsbD p then t.rxFault p else t) s
  let s := (List.range 8).foldl (fun (t : State) p => t.startPort m p) s
  let s := s.calDone 8 (m.settled.getD 8 false)
  let s := if m.settled.getD 8 false then s else s.unlockCounted
  let s := s.updRadio fun r => { r with rxPin := if m.aerials = 1 then some 2 else if m.aerials = 2 then some 1 else none }
  let s := s.plCalEnd (m.settled.getD 9 false)
  let s := (List.range 8).foldl (fun (t : State) p => t.startFrond m p) s
  let s := { s with cal := { s.cal with sensorT0 := s.now } }
  s.correct

/-- The start gate is met: E of 120 mJ, or 72 ms in step 7 (R398). -/
def State.gateMetNow (s : State) : Bool := s.phase = .gate && decide (s.gateT0 ≤ s.now) && (decide (120 * 100_000_000 ≤ s.supply.energy) || s.passedMs s.gateT0 72)

/-- START_GATE (R398): steps 7 and 8; step 8 takes 31.0 ms, and the survey's 10 ms run from its end (R400; DEDUCED, log 270). -/
def execStartGate (m : StartMeasure) (s : State) : Out :=
  nextAny s.gateMetNow s
    (let t := s.setN 0x3801_04 (min 65535 (s.sinceUs s.gateT0 / 100))
     { t.startCalibrated m with phase := .survey, gateT0 := s.now + usQuanta 31000, survey := { t.survey with phase := .requested, t0 := s.now, periodT0 := s.now } })

/-- Every pennant is computed on the stored survey. -/
def State.pennantsFromStore (s : State) : State :=
  (List.range 64).foldl (fun (t : State) n => if t.nat (penKey n 2) = 0xFF then t else t.recompute n) s

/-- STARTUP_SURVEY (R400): it starts at the first moment that meets R66; after 10 ms it is given up, and requested again. -/
def execStartupSurvey (s : State) : Out :=
  let t := { s.pennantsFromStore with phase := .finish }
  nextAny (s.phase = .survey && decide (s.gateT0 ≤ s.now) && (s.surveyMayStart || s.passedMs s.gateT0 10)) s
    (if s.surveyMayStart then t.surveyStart else t.requestSurvey)

/-- The survey of start-up has ended or was given up. -/
def State.readyDue (s : State) : Bool := s.phase = .finish && s.survey.phase ≠ .driving && s.survey.phase ≠ .solving

/-- The state that Dravlink, radio and receiver take in ACTIVE. -/
def State.radioRestful (s : State) : State := s.radioGoal (returnState (s.nat 0x3000_03))

/-- The wake actions of the ports that start-up found PRESENT (R401). -/
def State.startWakes (s : State) : State :=
  (List.range 8).foldl (fun (t : State) p => if (t.frond p).state = .present then t.frondPresent p (t.frond p).cls else t) s

/-- Dravlink as it begins. -/
def freshLink (now : Nat) : Link := { running := true, t0 := now }

/-- The set that waits in the store is to be applied (R184). -/
def State.stageAtStart (s : State) : State :=
  if s.nat 0x2710_02 < 2 && (s.stageState = 2 || s.stageState = 3) then s.updTag fun t => { t with stageDue := true, stageStart := true } else s

/-- Phase, Dravlink and READY_MS of a module that is ready. -/
def State.serve_ (s : State) : State :=
  ({ s with phase := .service, idleT0 := s.now, link := freshLink s.now } : State).setN 0x3801_03 (min 65535 (s.sinceUs s.startT0 / 100))

/-- Ready for service (R401). -/
def State.ready (s : State) : State :=
  let s := s.serve_
  let s := (s.pwrGood s.supply.energy).voutFollow.radioRestful
  let s := if s.nat 0x2701_01 = 2 then s.assignTag else s
  s.startWakes.stageAtStart.writeIdentity

/-- READY_FOR_SERVICE (R401). -/
def execReadyForService (s : State) : Out := nextAny s.readyDue s s.ready

/-! ### Idle and standby (R405 to R407) -/

/-- Queue 5 holds only WAKE frames of the link layer, which no queue wakes by (log 170). -/
def isWakeFrame (b : Bunting) : Bool := b.producer = 5 && decide (uAt b.data 16 1 % 8 = 6)

/-- A queue among 0, 2, 4, 5 and 6 holds a bunting that wakes. -/
def State.queuesBusy (s : State) : Bool :=
  [0, 2, 4, 5, 6].any fun q => (s.queue q).items.any (fun b => !isWakeFrame b) || (s.queue q).current.isSome

/-- R406, but for the frames of the host ports. -/
def State.idleInside (s : State) : Bool :=
  s.openLanes.isEmpty && s.requests.isEmpty && s.ports.all (fun x => !x.inUse) && s.seqs.all (fun x => x.hostJob.isNone) &&
    (s.survey.phase = .idle || s.survey.phase = .requested) && s.cal.run.isNone && s.pl.outage.isNone && s.radio.state ≠ .cal &&
    !s.queuesBusy && !s.linkBusy && s.scenes.isEmpty && !s.assigned && !s.halted

/-- No SPI or UART frame for IDLE_MS. -/
def State.portsQuiet (s : State) : Bool := s.sessions.all fun x => s.passedMs x.frameT0 (s.nat 0x3800_02)

/-- The module is idle (R406). -/
def State.idle (s : State) : Bool := s.idleInside && s.portsQuiet

/-- What follows a fabric clock: a survey that may go on, a held frame that may start, corrections that wait for a drive word; and
while the module is not idle the count of IDLE_MS begins anew. -/
def State.idleFollow (s : State) : State :=
  let s := s.surveyFollow.correctFollow
  let s := if s.heldMay then s.heldBegin else s
  if s.idleInside then s else { s with idleT0 := s.now }

/-- Cancellers go to OFF. -/
def State.rxAllOff (s : State) : State := (List.range 8).foldl (fun (t : State) p => t.rxOff p) s

/-- Entry to a standby (Table 19-3): in DEEP_STANDBY the powerline receiver goes off, and with it the frame it receives. -/
def State.standby (s : State) (mode : PowerState) : State :=
  let s := ({ s with power := mode, wakeDue := none } : State).bump 0x3801_05
  let s := s.rxAllOff
  let s := if mode = .deep then s.updPl fun x => { x with rx := none } else s
  let s := if mode = .networked then (s.updRadio fun r => { r with sniffT0 := s.now }).wakeBroadcast else s
  (s.radioGoal .sleep).voutFollow

/-- STANDBY_ENTRY (R405): idle for IDLE_MS. -/
def execStandbyEntry (s : State) : Out :=
  nextWhen (s.phase = .service && s.power = .active && decide (s.nat 0x3800_01 ≠ 0) && s.idle && s.passedMs s.idleT0 (s.nat 0x3800_02)) s
    (s.standby (if s.nat 0x3800_01 = 1 then .networked else .deep))

/-- Return to ACTIVE with its LAST_WAKE code (R405). -/
def State.standbyLeave (s : State) (code : Nat) : State :=
  let was := s.power
  let s := ({ s with power := .active, wakeDue := none, idleT0 := s.now } : State).setN 0x3801_08 code
  let s := if was = .networked then s.wakeBroadcast else s
  s.radioRestful.voutFollow

/-- The WAKE pad's edge is of the polarity WAKE_EDGE. -/
def State.wakeEdge (s : State) (rising : Bool) : Bool := s.bit 0x3800_06 (if rising then 0 else 1)

/-- A wake cause holds, and its LAST_WAKE code (R407). -/
def State.wakeCode (s : State) (c : WakeCause) : Option Nat :=
  match c with
  | .frond => if !s.requests.isEmpty || !s.openLanes.isEmpty then some 1 else none
  | .pad rising => if s.wakeEdge rising then some 2 else none
  | .host => some 3
  | .dravlink => if s.wakeDue = some 4 then some 4 else none
  | .queue => if s.queuesBusy then some 5 else none
  | .scene => if s.scenes.isEmpty then none else some 6

/-- The module is in a standby state. -/
def State.inStandby (s : State) : Bool := s.power = .networked || s.power = .deep

/-- CS_N falls, or a UART start bit comes: a module in standby wakes (R407). -/
def State.hostWakes (s : State) : State := if s.inStandby then s.standbyLeave 3 else s

/-- STANDBY_WAKE (R407). -/
def execStandbyWake (c : WakeCause) (s : State) : Out :=
  nextWhen (s.inStandby && (s.wakeCode c).isSome) s (s.standbyLeave ((s.wakeCode c).getD 0))

/-! ### SLEEP (R249 to R251, R405, R408) -/

/-- A write of SLEEP_CMD: 1 requests SLEEP if the module is idle, 0 wakes it from standby and takes a request back. -/
def State.sleepCmd (s : State) (v : Nat) : State :=
  if v = 1 then (if s.idle then s.setN 0x3800_03 1 else (s.setN 0x3800_03 2).bump 0x3801_07)
  else
    let s := s.setN 0x3800_03 0
    if s.inStandby then s.standbyLeave 7 else s

/-- A slice in progress is broken off (R377, R379). -/
def State.sliceBreak (s : State) : State :=
  match s.st.run with
  | some x => s.slicePreempted x
  | none => s

/-- The radio goes down to SLEEP by transitions 8, 10 and 11, whose 8 µs are part of the 1 ms that the entry to SLEEP takes
(R259, Table 19-3); a reception ends. The powerline receiver stands still. -/
def State.radioStill (s : State) : State :=
  let s := (s.abandonRx none).updRadio fun r => { r with sniff := none, goal := .sleep }
  let s := if s.radio.state = .rx then s.radioEnter .synth else s
  let s := if s.radio.state = .synth then s.radioEnter .standby else s
  (if s.radio.state = .standby then s.radioEnter .sleep else s).updPl fun x => { x with rx := none }

/-- The radio can go down: nothing is on the air and no transition runs. -/
def State.radioRests (s : State) : Bool :=
  s.radio.air.isNone && s.radio.move.isNone && s.radio.reversal.isNone && s.radio.test.isNone && s.radio.state ≠ .tx && s.radio.state ≠ .cal

/-- SLEEP begins: what R408 stops is stopped. -/
def State.sleepEnter (s : State) : State :=
  let s := s.rxAllOff.sliceBreak.radioStill
  let s := (s.setN 0x3800_03 0).bump 0x3801_06
  ({ s with power := .sleep, wakeDue := none, tag := s.tagAlone, tb := { s.tb with slow := 0 } } : State).voutFollow

/-- SLEEP_ENTRY (R249, R405): at a slow-clock edge after the pending ferroelectric writes end. -/
def execSleepEntry (s : State) : Out :=
  nextWhen (s.phase = .service && decide (s.nat 0x3800_03 = 1) && s.idleInside && !s.groupRuns && s.radioRests) s s.sleepEnter

/-- n × 827.63671875 + F: the whole part and the new F (R249). -/
def makeUp (n : Nat) (frac : BitVec 32) : Nat × BitVec 32 :=
  let x := n * (827 * 2 ^ 32 + 163 * 2 ^ 24) + frac.toNat
  (x / 2 ^ 32, BitVec.ofNat 32 x)

/-- Channel n's VALUE lies in the interval that the make-up crossed (R250). -/
def State.crossedBy (s : State) (before added n : Nat) : Bool :=
  s.cmpArmed n && decide ((s.nat (cmpKey n 2) + 2 ^ 48 - (before + 1) % 2 ^ 48) % 2 ^ 48 < added)

/-- The channels that a make-up crosses, beside those still to fire. -/
def State.crossedSet (s : State) (added : Nat) : BitVec 16 :=
  (List.range 16).foldl (fun (b : BitVec 16) n => if s.crossedBy s.tb.tb.toNat added n then b ||| BitVec.ofNat 16 (2 ^ n) else b)
    s.tb.cmpCrossed

/-- TB_EPOCH advances where a make-up carries TB past 2^48 (R240). -/
def State.epochOn (s : State) : State := ({ s with tb := { s.tb with epoch := s.tb.epoch + 1 } } : State).raise 65

/-- TB, powered time and compare channels after `added` ticks of sleep (R249, R250). -/
def State.madeUp (s : State) (added : Nat) (frac : BitVec 32) : State :=
  let total := s.tb.secTicks + added
  let sum := s.tb.tb.toNat + added
  let t : State := { s with tb := { s.tb with tb := BitVec.ofNat 48 sum, frac := frac, cmpCrossed := s.crossedSet added, secTicks := total % 27_120_000 } }
  let t : State := { t with tb := { t.tb with upAt := s.tb64 + added } }
  let t := (if 2 ^ 48 ≤ sum then t.epochOn else t).addUp 0x2A01_01 (total / 27_120_000)
  ((t.setN 0x2A01_06 added).bump 0x2A01_07).raise 66

/-- The mains angle after `added` ticks at NOMINAL_FREQ: no occurrence inside the sleep acts, and the loop is in FREE_RUN
(R408). Where it passed 0x0000, the blanking windows changed there (R27): once for the first, and once more for the last, of
which the windows just loaded may run on. -/
def State.maMadeUp (s : State) (added : Nat) : State :=
  let acc := s.ma.acc + s.nominalRate * added
  let s := { s with ma := { s.ma.stopMove with
    acc := acc % maCycle, cycle := s.ma.cycle + BitVec.ofNat 16 (acc / maCycle), judged := true, early := false, missed := 0
    burgee := s.ma.burgee.map fun (b : Burgee) => { b with openAt := none, last := none } } }
  let s := if maCycle ≤ acc then s.blankLoad else s
  let s := if 2 * maCycle ≤ acc then s.blankLoad else s
  (s.maEnter .freeRun).syncFollow

/-- The ports return through OFF with their stored baselines (R408, Table 7-4). -/
def State.frondRestart (s : State) : State :=
  ((List.range 8).foldl (fun (t : State) p => t.updFrond p fun f =>
    { f with state := .off, cls := 0, ping := none, laneDue := false, laneFirst := [], handled := none, absorb := false }) s).frondFollowAll

/-- The tag domain is supplied by the core again, and a session with an external field passes to active emulation (R167). -/
def State.tagPowered (s : State) : State :=
  let s := if s.tag.state = .noField then s.lockResume else s
  if s.tag.field then s.assignTag else s

/-- The end of SLEEP with its LAST_WAKE code (R405, R408). -/
def State.sleepLeave (s : State) (code : Nat) : State :=
  let m := makeUp s.tb.slow s.tb.frac
  let s := ({ s with power := .active, idleT0 := s.now } : State).setN 0x3801_08 code
  ((s.madeUp m.1 m.2).maMadeUp m.1).lineJudged.frondRestart.tagPowered.radioRestful.voutFollow

/-- SLEEP_MAX_S slow-clock seconds have passed. -/
def State.sleepOver (s : State) : Bool := decide (s.nat 0x3800_05 ≠ 0) && decide (s.nat 0x3800_05 * 32768 ≤ s.tb.slow)

/-- A cause that SLEEP_WAKE enables holds, and its code. -/
def State.sleepCode (s : State) (c : SleepCause) : Option Nat :=
  match c with
  | .pad rising => if s.bit 0x3800_04 0 && s.wakeEdge rising then some 2 else none
  | .field => if s.bit 0x3800_04 1 && s.tag.field then some 8 else none
  | .limit => if s.sleepOver then some 9 else none

/-- The edge that woke the module is captured at the first tick after the resume (R250). -/
def State.captureWake (s : State) (c : SleepCause) : State :=
  match c with
  | .pad rising => s.capEdge 17 rising s.tb64
  | _ => s

/-- SLEEP_WAKE (R408). -/
def execSleepWake (c : SleepCause) (s : State) : Out :=
  nextAny (s.phase = .service && s.power = .sleep && (s.sleepCode c).isSome) s (State.captureWake (s.sleepLeave ((s.sleepCode c).getD 0)) c)

/-- SLEEP_LIMIT (R251). -/
def execSleepLimit (s : State) : Out :=
  nextAny (s.phase = .service && s.power = .sleep && decide (2 ^ 37 ≤ s.tb.slow)) s (s.sleepLeave 9)

/-! ### Debug halt (R252, R409) -/

/-- DEBUG_HALT_ENTRY: only with test access. -/
def execDebugHaltEntry (s : State) : Out :=
  nextWhen (s.testAccess && !s.halted) s (State.freezeEdge { s with halted := true, haltSeen := true } s)

/-! ### Restore of defaults (R403) -/

/-- The regulatory locks of R362. -/
def isLock (k : Nat) : Bool :=
  let i := k / 256
  (0x2200 ≤ i && decide (i < 0x2280) && decide (i % 16 = 1) && decide (k % 256 = 1)) || k = 0x3000_02 || k = 0x3010_01 ||
    (decide (0x3011 ≤ i) && decide (i < 0x3019)) || k = 0x3200_01 || k = 0x3200_02 || (decide (0x3208 ≤ i) && decide (i < 0x3210))

/-- What both codes leave alone: keys, OD 1010 and 1011, the locks, the ring. -/
def restoreKeeps (k : Nat) : Bool :=
  let i := k / 256
  i = 0x1810 || i = 0x1811 || (i = 0x2720 && decide (k % 256 ≤ 3)) || i = 0x1010 || i = 0x1011 || i = 0x1900 && decide (k % 256 ≤ 2) || isLock k

/-- A stored entry that these roles may write takes its default. -/
def restores (roles k : Nat) : Bool :=
  match odRow? k with
  | some r => r.stored && (r.acc = .rw || r.acc = .wo) && decide (r.wr &&& roles ≠ 0) && !restoreKeeps k
  | none => false

/-- RESTORE_DEFAULTS: the stored entries, with the writes of them that still wait for a lane, and what the checks of the sets 8 to 15
found; then the reset. -/
def State.restored (s : State) (code : Nat) : State :=
  let roles := if code = 0xDEF0_0001 then 2 else 6
  let s : State := { s with od := s.od.filter fun kv => !restores roles kv.1 && !firFigure kv.1,
                              deferred := s.deferred.filter fun x => !restores roles x.1, firOk := s.firOk.filter fun x => x.1 < 8 }
  (if (s.od.find 0x22A0_01).isSome then s.maskWritten else s).resetCore 5

/-! ### Dictionary entries 3800 to 38FF -/

/-- The codes of SOFT_RESET and RESTORE_DEFAULTS (R402, R403). -/
def modesCheck (r : Role) (k : Nat) (v : Val) : Status :=
  if k = 0x3802_01 then if v.int = 0x5E7A_1C0D then .ok else .range
  else if k = 0x3803_01 then
    if v.int = 0xDEF0_0001 then .ok else if v.int = 0xDEF0_0002 then (if r = .maker then .ok else .writeDenied) else .range
  else .ok

/-- SLEEP_CMD keeps what it reads, and the WO codes hold nothing. -/
def State.modesMerge (s : State) (k : Nat) (v : Val) : Val :=
  if k = 0x3800_03 then s.val k else if k = 0x3802_01 || k = 0x3803_01 then .num 0 else v

/-- What follows a taken write. -/
def State.modesWritten (s : State) (k : Nat) (v : Val) : State :=
  if k = 0x3800_03 then s.sleepCmd v.int.toNat
  else if k = 0x3802_01 then s.resetCore 5
  else if k = 0x3803_01 then s.restored v.int.toNat
  else s

end Sys2Proof.Machine
end

