-- ==== Sys2Proof/Machine/Hub.lean ====
section
/-!
DEFINITION. The dictionary (chapter 16): entries as they read, the checks of a write and what follows it (R322 to R327), the
audit of writes (R364), and accesses that wait in a debug halt (R409).
-/

namespace Sys2Proof.Machine

open Sys2Proof

/-! ### Entries that show what the block does -/

def numVal (n : Nat) : Option Val := some (.num n)

/-- Identity, roles, audit and firmware. -/
def State.viewSystem (s : State) (who : Who) (k : Nat) : Option Val :=
  let own (f : Sess → Nat) : Option Val := numVal (((sessOf? who).map f).getD 0)
  if k = 0x1000_05 then numVal (imageVersion (s.image s.firmware.running).bytes)
  else if k = 0x1000_06 then numVal s.firmware.running
  else if k = 0x1012_01 then numVal s.txSeq
  else if k = 0x1800_01 then numVal (roleCode (s.roleOf who))
  else if k = 0x1800_05 then own fun x => min 2 (s.session x).fails
  else if k = 0x1800_06 then own s.lockoutDs
  else if k = 0x1812_01 then numVal s.keyState
  else if k = 0x1901_02 then some (.oct s.auditRecord)
  else if k = 0x1A10_05 then numVal (s.image s.otherSlot).st
  else if k = 0x1A10_0A then numVal s.otherVersion
  else none

/-- The field ports (Table 3-10). -/
def State.viewPort (s : State) (k : Nat) : Option Val :=
  let p := (k - 0x2200_00) / 0x1000
  if 0x2200_00 ≤ k && decide (k < 0x2280_00) && k / 256 % 16 = 2 then
    match k % 256 with
    | 1 => numVal (s.stateSeen p).code
    | 3 => numVal (s.ampNow p)
    | 4 => numVal (s.phaseNow p)
    | 7 => if (s.port p).state.on then none else numVal 0
    | 8 => numVal (s.held (.port p))
    | 9 => numVal (s.bias p)
    | 10 => numVal (s.port p).aLim
    | _ => none
  else none

/-- SURVEY_CMD as read. -/
def SurveyPhase.code : SurveyPhase → Nat
  | .idle => 0
  | .requested => 1
  | .driving | .solving => 2

/-- The components of a lane, in the layout of PAIRS. -/
def State.laneComponents (s : State) (l : Nat) : List Byte :=
  pairBytes ((List.range 8).map fun p => match (s.port p).comps.find? fun c => c.lane = l with
    | some c => (c.amp, c.phase)
    | none => (0, 0))

/-- Pennants, survey and lanes (Tables 4-8 to 4-11). -/
def State.viewLane (s : State) (k : Nat) : Option Val :=
  let l := (k - 0x2360_00) / 256
  if 0x2300_00 ≤ k && decide (k < 0x2340_00) && k % 256 = 1 then numVal (s.pennants.getD (k / 256 - 0x2300) {}).state.code
  else if k = 0x2340_01 then numVal s.survey.phase.code
  else if k = 0x2340_08 then numVal s.surveyWait
  else if k = 0x2340_09 then numVal s.port0Null
  else if 0x2350_00 ≤ k && decide (k < 0x2360_00) && k % 256 = 5 then some (.oct (s.refBytes (k / 256 - 0x2350)))
  else if 0x2360_00 ≤ k && decide (k < 0x2364_00) then
    match k % 256 with
    | 1 => numVal (s.lane l).state.code
    | 2 => numVal (s.lane l).zone
    | 3 => numVal (if (s.lane l).live then 0xFE else (s.lane l).pennant)
    | 8 => some (.oct (s.laneComponents l))
    | _ => none
  else none

/-- Receive paths, the protocol engine and its hold table (Tables 5-8, 6-12 and 6-13). -/
def State.viewHf (s : State) (k : Nat) : Option Val :=
  let c := (s.seq (k / 256 - 0x2550)).heldCard
  let h := s.holds.getD (k / 256 - 0x2510) {}
  if 0x2400_00 ≤ k && decide (k < 0x2408_00) then
    match k % 256 with
    | 1 => numVal (s.rxp (k / 256 - 0x2400)).cancel.code
    | 2 => numVal (s.rxp (k / 256 - 0x2400)).gain
    | 8 => numVal (s.rxHealth (k / 256 - 0x2400))
    | _ => none
  else if k = 0x2501_06 then numVal (s.holds.filter fun x => x.state ≠ 0).length
  else if 0x2510_00 ≤ k && decide (k < 0x2550_00) then
    match k % 256 with
    | 1 => some (.oct (slice h.ident 0 12))
    | 2 => numVal h.zone
    | 3 => numVal h.state
    | 4 => numVal h.first
    | 5 => numVal h.last
    | _ => none
  else if 0x2550_00 ≤ k && decide (k < 0x2554_00) then
    match k % 256 with
    | 0x10 => numVal (if c.ident = [] then 0xFF else uAt c.ident 0 1)
    | 0x11 => numVal c.state
    | 0x12 => numVal c.ds
    | 0x13 => numVal c.dr
    | 0x14 => numVal c.fwi
    | _ => none
  else none

/-- ACTION_ARG or ACTION_VAL of a rule whose ACTION makes it res. (Table 9-4): it reads 0, and a write is ignored (R7; DESIGN
CHOICE, log 226). -/
def State.actionRes (s : State) (k : Nat) : Bool :=
  let a := s.nat (k / 256 * 256 + 11)
  0x8000_00 ≤ k && decide (k < 0x8400_00) && ((k % 256 = 12 && a = 0) || (k % 256 = 13 && a ≠ 1 && a ≠ 3))

/-- Frond, match engine, rules and scenes. -/
def State.viewRules (s : State) (k : Nat) : Option Val :=
  if 0x2610_00 ≤ k && decide (k < 0x2618_00) && k % 256 = 7 then numVal (s.frond (k / 256 - 0x2610)).state.code
  else if 0x2610_00 ≤ k && decide (k < 0x2618_00) && k % 256 = 8 then numVal (s.frond (k / 256 - 0x2610)).cls
  else if k = 0x2800_01 then numVal s.usedSlots.length
  else if k = 0x2820_02 then numVal s.triggers.length
  else if s.actionRes k then numVal 0
  else if 0x8400_00 ≤ k && decide (k < 0x8500_00) then
    let x := s.scenes.find? fun y => y.scene = k / 256 - 0x8400
    match k % 256 with
    | 2 => numVal (boolNat x.isSome)
    | 3 => numVal ((x.map Scene.next).getD 0)
    | _ => none
  else none

/-- The mains angle and the time base. -/
def State.viewTime (s : State) (k : Nat) : Option Val :=
  if k = 0x2101_01 then numVal s.ma.state.code
  else if k = 0x2110_03 then numVal s.ma32
  else if k = 0x2A00_01 then numVal s.tb64
  else none

/-- A write that waits for a lane is held already (R92). -/
def State.viewDeferred (s : State) (k : Nat) : Option Val :=
  (s.deferred.reverse.find? fun x => x.1 = k).map fun x => s.pennantsMerge k x.2

/-- The first of the readings that there is. -/
def firstVal : List (Option Val) → Option Val
  | [] => none
  | some v :: _ => some v
  | none :: rest => firstVal rest

/-- An entry as it reads now, but for the reads with a side effect. -/
def State.odLive (s : State) (who : Who) (k : Nat) : Val :=
  let n (o : Option Nat) : Option Val := o.map fun x => .num x
  (firstVal [s.viewDeferred k, s.viewSystem who k, s.viewPort k, s.viewLane k, s.viewHf k, s.viewRules k, s.viewTime k, n (s.tagView k),
    n (s.supplyView k), n (s.poolView k), n (s.radioView k), n (s.plView k), n (s.padsView k)]).getD (s.val k)

/-! ### Reading (R322, R324) -/

/-- The role may read, or write, by a Rights column. -/
def roleIn (r : Role) (bits : Nat) : Bool := bits.testBit (roleCode r)

/-- Measurements of the moment that no command of the block brings: AUX_MV and BUS_MW (log 181), and the carrier
at a port's terminals and its suppression, which what a command sensed last does not tell (R95, R117; log 216). -/
def freeEntry (k : Nat) : Bool :=
  k = 0x2000_05 || k = 0x2000_06 || (0x2400_00 ≤ k && decide (k < 0x2408_00) && (k % 256 = 3 || k % 256 = 4))

/-- What a free measurement reads: AUX_MV is 0 below 1,000 mV (R224), and SUPPRESSION is 0 in OFF. -/
def State.freeReading (s : State) (k f : Nat) : Nat :=
  if k = 0x2000_05 && decide (f % 65536 < 1000) then 0
  else if 0x2400_00 ≤ k && decide (k < 0x2408_00) && k % 256 = 4 && (s.rxp (k / 256 - 0x2400)).cancel = .off then 0
  else f % 65536

/-- The value of an entry, and what its reading changes: latches, nonces, captures and free measurements. -/
def State.odTake (s : State) (who : Who) (k : Nat) : State × Val :=
  if k = 0x2110_01 then let t := s.readAngle who; (t, t.out)
  else if k = 0x2110_02 then (s, .num (s.readCycle who))
  else if k = 0x1800_02 then let t := s.readNonce (sessOf? who); (t, t.out)
  else if 0x2A30_00 ≤ k && decide (k < 0x2A38_00) && k % 256 = 3 then let t := s.readCapture (k / 256 - 0x2A30); (t, t.out)
  else if freeEntry k then
    let (f, t) := s.draw
    (t, .num (s.freeReading k f))
  else (s, s.odLive who k)

/-- The status of a read (R322, R324). -/
def State.odReadStatus (s : State) (who : Who) (k : Nat) : Status :=
  if ¬ odHasIndex (k / 256) then .noEntry
  else if k % 256 = 0 then .ok
  else match odRow? k with
    | none => .noSubindex
    | some r => if r.acc = .wo || !roleIn (s.roleOf who) r.rd then .readDenied else .ok

/-- A read: the state, its status and the bytes (R323). Subindex 00 gives the highest subindex in use (R322). -/
def State.odRead (s : State) (who : Who) (k : Nat) : State × Status × List Byte :=
  match s.odReadStatus who k with
  | .ok =>
    match odRow? k with
    | none => (s, .ok, [BitVec.ofNat 8 (odHighestSub (k / 256))])
    | some r =>
      let (t, v) := s.odTake who k
      (t, .ok, odEncode r.ty v)
  | st => (s, st, [])

/-! ### Types, lengths and ranges (R7, R323) -/

/-- The type is signed. -/
def OdType.signed : OdType → Bool
  | .i8 | .i16 | .i32 => true
  | _ => false

/-- The bytes fit the type's length and the entry's length rule (R323). -/
def OdRow.lengthOk (r : OdRow) (n : Nat) : Bool :=
  match r.ty, r.rng with
  | .octets, .len lo hi m => decide (lo ≤ n) && decide (n ≤ hi) && decide (n % m = 0)
  | .octets, _ => decide (n ≤ 256)
  | .vstring, _ => decide (n ≤ 64)
  | t, _ => decide (n = t.bytes)

/-- The value that bytes of good length carry; res. bits are ignored (R7). -/
def OdRow.valueOf (r : OdRow) (b : List Byte) : Val :=
  match r.ty with
  | .octets | .vstring => .oct b
  | t =>
    let n := leNat b
    let n := if r.mask = 0 then n else n &&& r.mask
    if t.signed then .num (toSigned (8 * t.bytes) n) else .num n

/-- The value lies in the stated range or set. -/
def OdRange.holds (g : OdRange) (v : Val) : Bool :=
  let i := v.int
  match g with
  | .any | .len _ _ _ => true
  | .span lo hi => decide (lo ≤ i) && decide (i ≤ hi)
  | .alt x lo hi => decide (i = x) || (decide (lo ≤ i) && decide (i ≤ hi))
  | .step lo hi b => decide (lo ≤ i) && decide (i ≤ hi) && decide ((i - lo).toNat % b = 0)
  | .oneOf vs => vs.contains i
  | .nibbles => (List.range 4).all fun j => let d := i.toNat / 16 ^ j % 16; d ≤ 3 || d = 15
  | .actions => (List.range 4).all fun j => i.toNat / 4 ^ j % 4 ≤ 1

/-! ### Checks of the match engine, the rules and the protocol engine -/

/-- The slot of a key of the match-table window (R198). -/
def slotOf? (k : Nat) : Option Nat := if 0x6000_00 ≤ k && decide (k < 0x8000_00) then some (2 * (k / 256 - 0x6000) + (k % 256 - 1)) else none

/-- A window write (R197, R198): CLASS by role, KEYTYPE, then the place. -/
def State.windowCheck (s : State) (r : Role) (e x : Nat) : Status :=
  if ¬ (classAllowed r (s.slotBits e) && classAllowed r x) then .writeDenied
  else if 8 ≤ entryKeytype x then .range
  else if s.windowFits e x then .ok else .state

/-- TRIGGER names a kind and argument of Table 9-3. -/
def triggerOk (n : Nat) : Bool :=
  let a := n % 4096
  match n / 4096 with
  | 0 | 1 | 2 | 3 | 5 => true
  | 4 => decide (a < 96)
  | 6 => decide (a / 16 % 4 ≠ 0)
  | 7 => decide (a < 256)
  | _ => false

/-- COND_OBJ is 0 or names a readable entry of type BOOL, U8 to U32 or I8 to I32 (R203). -/
def condObjOk (n : Nat) : Bool :=
  n = 0 || (match odRow? n with
    | some r => r.acc ≠ .wo && roleIn .operator r.rd && decide (r.ty.bytes = 1 || r.ty.bytes = 2 || r.ty.bytes = 4)
    | none => false)

/-- Checks of indices 2550, 2810, 6000 and 8000: a command in progress, the table's commands, the window, rules. -/
def State.matchCheck (s : State) (r : Role) (k : Nat) (v : Val) : Status :=
  if 0x2550_00 ≤ k && decide (k < 0x2554_00) && k % 256 = 1 then (if s.nat k = 1 then .busy else .ok)
  else if 0x2350_00 ≤ k && decide (k < 0x2360_00) && k % 256 = 6 then (if s.nat k = 1 then .busy else .ok)
  else if k = 0x2810_01 then (if v.int ≠ 4 && s.nat 0x2810_02 = 0 then .state else .ok)
  else if 0x8000_00 ≤ k && decide (k < 0x8400_00) then
    match k % 256 with
    | 2 => if triggerOk v.int.toNat then .ok else .range
    | 8 => if condObjOk v.int.toNat then .ok else .range
    | _ => .ok
  else match slotOf? k with
    | some e => s.windowCheck r e (leNat v.octets)
    | none => .ok

/-- One step of a scene with its res. fields at 0 (Table 9-5, R7). -/
def stepClean (b : List Byte) : List Byte :=
  let kind := uAt b 0 1
  let b := if kind = 4 then splice b 2 [0, 0] else b
  let b := if kind ≠ 1 ∧ kind ≠ 2 then splice b 4 [0, 0, 0, 0] else b
  splice b 10 [0, 0]

/-- The steps of a scene. -/
def stepsClean (b : List Byte) : List Byte := (List.range (b.length / 12)).flatMap fun i => stepClean ((b.drop (12 * i)).take 12)

/-- An entry of the table without its res. bits [6:4] (Table 9-1, R7). -/
def entryClean (x : Nat) : Nat := x - x / 16 % 8 * 16

/-- What is stored: a command keeps what it reads; res. fields inside a value are ignored (R7). -/
def State.matchMerge (s : State) (k : Nat) (v : Val) : Val :=
  if (0x2550_00 ≤ k && decide (k < 0x2554_00) && k % 256 = 1) || k = 0x2810_01 then s.val k
  else if k = 0x2810_04 then .num (entryClean v.int.toNat)
  else if (slotOf? k).isSome then .oct (leBytes 16 (entryClean (leNat v.octets)))
  else if 0x8000_00 ≤ k && decide (k < 0x8400_00) && k % 256 = 2 && decide (v.int < 0x4000) then .num (v.int / 4096 * 4096)
  else if s.actionRes k then s.val k
  else if 0x8400_00 ≤ k && decide (k < 0x8500_00) && k % 256 = 1 then .oct (stepsClean v.octets)
  else if 0x2580_00 ≤ k && decide (k < 0x2590_00) && v.int ≠ 0xFF then .num (v.int % 32)
  else v

/-- A match-table command: the state, and whether the table changed. -/
def State.tableCommand (s : State) (r : Role) (c : Nat) : State × Bool :=
  let s := s.lookupsFirst
  match c with
  | 1 => s.tableInsert r
  | 2 => s.tableDelete r
  | 3 => (s.tableLookup, false)
  | _ => s.tableClear r

/-- What follows a taken write; a command of OD 2810 is run with its record (`matchRun`). -/
def State.matchWritten (s : State) (k : Nat) (v : Val) : State :=
  if 0x2550_00 ≤ k && decide (k < 0x2554_00) && k % 256 = 1 then
    (if v.int = 1 then s.hostExchange (k / 256 - 0x2550) else s.pollRequest (k / 256 - 0x2550))
  else match slotOf? k with
    | some e => (s.tableTouch [e]).raise 46
    | none => s

/-! ### Writing (R324, R325) -/

/-- The first refusal. -/
def firstBad : List Status → Status
  | [] => .ok
  | st :: rest => if st = .ok then firstBad rest else st

/-- The chapters' checks of a value: rights by value, range, then state. -/
def State.chapterCheck (s : State) (who : Who) (k : Nat) (v : Val) : Status :=
  firstBad [modesCheck (s.roleOf who) k v, eventsCheck k v, s.angleCheck k v, s.portsCheck k v, s.pennantsCheck k v, s.frondCheck k v,
    s.tagCheck k v, s.matchCheck (s.roleOf who) k v, s.poolCheck k v, s.timerCheck k v, s.radioCheck k v, s.securityCheck who k v]

/-- A write that makes no record of its own kind 0 and passes an audit hold: AUD_ACK, AUD_READ_SEQ and ROLE_CLAIM (log 182). -/
def holdExempt (k : Nat) : Bool := k = 0x1900_02 || k = 0x1901_01 || k = 0x1800_03

/-- The write would make a record (R364). -/
def State.recorded (s : State) (who : Who) (k : Nat) : Bool := s.roleOf who ≠ .operator || k = 0x1902_01

/-- A full ring under hold refuses the write (R366). -/
def State.auditStops (s : State) (who : Who) (k : Nat) : Bool := s.recorded who k && !holdExempt k && s.auditHeld

/-- The status of a write, its checks in the order of R325; the hold of the audit ring is judged last. -/
def State.odWriteStatus (s : State) (who : Who) (k : Nat) (b : List Byte) : Status :=
  if ¬ odHasIndex (k / 256) then .noEntry
  else if k % 256 = 0 then .writeDenied
  else match odRow? k with
    | none => .noSubindex
    | some r =>
      if r.acc = .ro || r.acc = .const then .writeDenied
      else if !roleIn (s.roleOf who) r.wr || securityDenied who k || slotDenied k then .writeDenied
      else if ¬ r.lengthOk b.length then .type
      else if ¬ r.rng.holds (r.valueOf b) then .range
      else match s.chapterCheck who k (r.valueOf b) with
        | .ok => if s.auditStops who k then .state else .ok
        | st => st

/-- What a refused write counts. -/
def State.writeRefusedBy (s : State) (who : Who) (k : Nat) (v : Val) (st : Status) : State :=
  if st = .state && s.auditStops who k && s.chapterCheck who k v = .ok then s.auditRefuse
  else ((if st = .state then s.angleRefused k else s).portsRefused k st).securityRefused who k v st

/-- What an accepted write stores. -/
def State.merged (s : State) (k : Nat) (v : Val) : Val :=
  let v := s.modesMerge k (padsMerge s k (s.eventsMerge k (s.calMerge k v)))
  let v := s.poolMerge k (s.tagMerge k (s.frondMerge k (s.pennantsMerge k v)))
  s.matchMerge k (s.securityMerge k (s.timerMerge k (s.portsMerge k v)))

/-- The audit record of an accepted write: one each, of the kind that the write is (R364, log 183). A table command makes its
own; an operator's write makes none but an annotation. -/
def State.recordWrite (s : State) (who : Who) (k : Nat) (b : List Byte) : State :=
  if k = 0x1902_01 then s.annotated who b
  else if s.roleOf who = .operator || k = 0x2810_01 || k = 0x1A40_01 || (k = 0x1800_03 && decide (uAt b 0 1 ≠ 0)) then s
  else if k = 0x1A10_01 then s.auditAction who (roleCode (s.roleOf who)) 2 k (uAt b 0 1)
  else if (slotOf? k).isSome then s.auditWrite who 1 k b
  else s.auditWrite who 0 k b

/-- A command of OD 2810 runs, and an installer's or maker's makes its record: kind 1 where the table changed. -/
def State.matchRun (s : State) (who : Who) (k : Nat) (v : Val) (b : List Byte) : State :=
  if k = 0x2810_01 then
    let r := s.tableCommand (s.roleOf who) v.int.toNat
    if s.roleOf who = .operator then r.1 else r.1.auditWrite who (boolNat r.2) k b
  else s

/-- What follows in the chapters; `old` is the state before. A write that resets the core comes last. -/
def State.chapterWritten (s old : State) (who : Who) (k : Nat) (v : Val) : State :=
  let s := (((((s.angleWritten old k).portsWritten k v).rxWritten k).pennantsTaken k).frondWritten old k v).matchWritten k v
  let s := (((((s.tagWritten who k v).supplyWritten k).poolWritten k v).timerWritten old k).linkWritten old k).radioWritten k v
  ((((s.plWritten old k).calWritten k v).eventsWritten old k v).padsWritten k v).securityWritten who k v |>.modesWritten k v

/-- An accepted write (R325): stored, recorded and followed; one to a pennant or zone that a lane uses waits for the lane
(R92). -/
def State.takeWrite (s : State) (who : Who) (k : Nat) (b : List Byte) (v : Val) : State :=
  if s.defers k then ({ s with deferred := s.deferred ++ [(k, v)] } : State).recordWrite who k b
  else
    let s := if (slotOf? k).isSome then s.lookupsFirst else s.cmpFirst k
    let t := (s.put k (s.merged k v)).recordWrite who k b
    (t.matchRun who k v b).chapterWritten s who k v

/-- In ROM recovery an activated image starts at once (R399). -/
def State.recoveryStart (s : State) (k : Nat) (v : Val) : State :=
  if s.phase = .recovery && k = 0x1A10_01 && v.int = 3 && decide (s.nat 0x1A10_04 = 0) then s.stampStart.romStarts else s

/-- A write: the state and its status. -/
def State.odWrite (s : State) (who : Who) (k : Nat) (b : List Byte) : State × Status :=
  match s.odWriteStatus who k b, odRow? k with
  | .ok, some r => ((s.takeWrite who k b (r.valueOf b)).recoveryStart k (r.valueOf b), .ok)
  | st, some r => (s.writeRefusedBy who k (r.valueOf b) st, st)
  | st, none => (s, st)

/-! ### Accesses from outside (R327, R399, R409) -/

/-- The dictionary serves this access: in service; in ROM recovery the maker service alone reaches it. -/
def State.serves (s : State) (who : Who) : Bool :=
  (s.phase = .service && s.power ≠ .sleep && (who ≠ .uart || decide (s.nat 0x1001_01 = 2))) || (s.phase = .recovery && who = .uart)

/-- ROM recovery serves OD 1000 and OD 1A10 alone (R399). -/
def State.recoveryBars (s : State) (k : Nat) : Bool := s.phase = .recovery && k / 256 ≠ 0x1000 && k / 256 ≠ 0x1A10

/-- One access of an entry, read where it brings no value: the state, the status and the bytes read. -/
def State.access (s : State) (who : Who) (k : Nat) (value : Option (List Byte)) : State × Status × List Byte :=
  if s.recoveryBars k then (s, .noEntry, [])
  else match value with
    | none => s.odRead who k
    | some b => let r := s.odWrite who k b; (r.1, r.2, [])

/-- The access as its reader sees it: `out` and `status` (log 4). -/
def State.accessOut (s : State) (who : Who) (k : Nat) (value : Option (List Byte)) : State :=
  let r := s.access who k value
  { r.1 with status := r.2.1, out := if value.isNone && r.2.1 = .ok then .oct r.2.2 else r.1.out }

/-- In a debug halt a local access waits, but for a maker's write of FREEZE, which is taken all the same (R252, R409). -/
def State.mustStay (s : State) (who : Who) (k : Nat) (value : Option (List Byte)) : Bool :=
  s.halted && !(k = 0x2A01_04 && value.isSome && s.roleOf who = .maker)

/-- A local access waits. -/
def State.waitAccess (s : State) (w : Wait) : State := { s with waits := s.waits ++ [w] }

/-- A dictionary access with a row of its own in the command table. -/
def dictAccess (who : Who) (k : Nat) (value : Option (List Byte)) (s : State) : Out :=
  nextAny (s.serves who) s
    (if s.mustStay who k value then s.waitAccess { who := who, key := k, value := value, cmd := false } else s.accessOut who k value)

/-- A write of n bytes. -/
def dictWrite (who : Who) (k n v : Nat) (s : State) : Out := dictAccess who k (some (leBytes n v)) s

/-- The end of a local access of FW_OD_CMD: STATE, CODE and value (R331). A reset has left the registers at their defaults. -/
def State.cmdDone (s : State) (x : Sess) (phase : Phase) (st : Status) (b : List Byte) : State :=
  if s.phase = phase then s.odDone x st.code b else s

/-- A local access through FW_OD_CMD. -/
def State.cmdAccess (s : State) (x : Sess) (k : Nat) (value : Option (List Byte)) : State :=
  let who := match x with
    | .spi => Who.spi
    | .uart => Who.uart
  if s.mustStay who k value then (s.waitAccess { who := who, key := k, value := value, cmd := true }).updSession x fun y => { y with stat := 1 }
  else
    let r := s.access who k value
    { r.1.cmdDone x s.phase r.2.1 r.2.2 with status := r.2.1 }

/-- A waiting access is served. -/
def State.serveWait (s : State) (w : Wait) : State :=
  if w.cmd then
    match sessOf? w.who with
    | some x => s.cmdAccess x w.key w.value
    | none => s
  else s.accessOut w.who w.key w.value

/-- The bridge relays: queue 10 to queue 0, and queue 1 to queue 11 (R334). A CORRUPT bunting is discarded (R235). -/
def State.relay (s : State) : State :=
  if ¬ s.bridged then s
  else
    let s := (List.range (s.queue 10).items.length).foldl (fun (t : State) _ =>
      match t.pop 10 with
      | (t, some b) => if b.corrupt then t else (t.push 0 1 b.data).1
      | (t, none) => t) s
    (List.range (s.queue 1).items.length).foldl (fun (t : State) _ =>
      match t.pop 1 with
      | (t, some b) => if b.corrupt then t else (t.push 11 1 b.data).1
      | (t, none) => t) s

/-- SPI and UART take turns while both wait; the rest of one's accesses come in order (R13, R327). -/
def State.serveWaits : Nat → List Wait → State → State
  | 0, _, s => s
  | n + 1, ws, s =>
    let both := ws.any (fun w => w.who = .spi) && ws.any (fun w => w.who = .uart)
    match if both then ws.find? fun w => w.who = s.rrLocal else ws.head? with
    | none => s
    | some w => State.serveWaits n (ws.erase w) ({ s with rrLocal := if both then (if w.who = Who.spi then Who.uart else Who.spi) else s.rrLocal }.serveWait w)

/-- The halt ends: what waited is served, and the bridge goes on (R327, R409). -/
def State.haltEnds (s : State) : State :=
  let t := State.freezeEdge { s with halted := false, waits := [] } s
  (State.serveWaits s.waits.length s.waits t).relay

/-- DEBUG_HALT_EXIT (R252, R409). -/
def execDebugHaltExit (s : State) : Out := nextWhen s.halted s s.haltEnds

/-- ANGLE_READ (R24): OD 2110/01. -/
def execAngleRead (who : Who) (s : State) : Out := dictAccess who 0x2110_01 none s

/-- CAPTURE_VALUE_READ (R248): OD 2A30+c/03. -/
def execCaptureValueRead (who : Who) (c : Fin 8) (s : State) : Out := dictAccess who (capKey c 3) none s

/-- ROLE_NONCE (R354): OD 1800/02. -/
def execRoleNonce (sess : Sess) (s : State) : Out :=
  dictAccess (match sess with
    | .spi => .spi
    | .uart => .uart) 0x1800_02 none s

end Sys2Proof.Machine
end

