-- ==== Sys2Proof/Machine/Fast.lean ====
section
/-!
DEFINITION. The fast registers (R332, R333 and the register tables of chapters 2, 11, 12, 16 and 20), SPI frames and UART frames
(R328 to R334).
-/

namespace Sys2Proof.Machine

open Sys2Proof

/-- A field of a word: a value at its lowest bit. -/
def fieldAt (lo v : Nat) : Nat := v * 2 ^ lo

/-- n bits of a signed value. -/
def bitsI (n : Nat) (i : Int) : Nat := ofSigned n i

/-- One bit for each of n members. -/
def maskOf (n : Nat) (f : Nat → Bool) : Nat := (List.range n).foldl (fun m i => m + boolNat (f i) * 2 ^ i) 0

/-! ### Identity and status (Table 16-5b) -/

def State.fwStatus (s : State) : Nat :=
  fieldAt 24 s.power.code + fieldAt 22 s.supply.state.code + fieldAt 21 (boolNat s.supply.pwrGood) +
    fieldAt 20 (boolNat (s.phase = .service)) + fieldAt 19 (boolNat (s.phase = .recovery)) + fieldAt 18 (boolNat (s.flag 0x1A10_07)) +
    fieldAt 17 s.firmware.running + fieldAt 16 (boolNat (s.flag 0x1812_02)) + fieldAt 15 (boolNat (s.flag 0x1812_03)) +
    fieldAt 14 (boolNat s.testAccess) + fieldAt 13 (boolNat s.assigned) + fieldAt 12 (boolNat s.holdHeld) + fieldAt 8 s.ma.state.code +
    maskOf 4 fun l => (s.lane l).state ≠ .idle

def State.fwFault (s : State) : Nat :=
  let f := s.faultsPresent
  fieldAt 24 f.length + fieldAt 16 (f.headD 0xFF) + fieldAt 8 (maskOf 8 fun p => (s.port p).state = .fault) + maskOf 8 fun p => (s.rxp p).faulty

def State.fwCover (s : State) : Nat :=
  fieldAt 16 (maskOf 16 fun z => s.nat (zoneKey z 7) = 1) + maskOf 16 fun z => s.nat (zoneKey z 7) = 2

/-- Registers 0x000 to 0x01C. -/
def State.fastIdentity (s : State) (a : Nat) : Nat :=
  match a with
  | 0 => s.fwStatus
  | 1 => fieldAt 16 0x8640 + s.nat 0x1000_04 % 2 ^ 16
  | 2 => imageVersion (s.image s.firmware.running).bytes
  | 3 => uAt (s.oct 0x2700_01) 0 4
  | 4 => uAt (s.oct 0x2700_01) 4 4
  | 5 => s.fwFault
  | 6 => s.fwCover
  | _ => s.nat 0x2A01_02

/-! ### The maker window (Table 16-5c) -/

/-- A bridge temperature in whole °C, held within I8. -/
def State.bridgeC (s : State) (p : Nat) : Int := clampI (-128) 127 (s.int (portKey p 2 11) / 10)

def State.fastPort (s : State) (p : Nat) : Nat :=
  fieldAt 16 (if (s.port p).state.on then s.nat (portKey p 2 7) else 0) + fieldAt 8 (bitsI 8 (s.bridgeC p)) +
    fieldAt 4 (s.nat (portKey p 2 2)) + (s.port p).state.code

/-- Registers 0x0C0 to 0x0FC, as the maker reads them, but for FW_MK_SUPPLY. -/
def State.fastMaker (s : State) (a : Nat) : Nat :=
  match a with
  | 48 => fieldAt 4 (boolNat (s.flag 0x1812_02)) + fieldAt 3 (boolNat (s.flag 0x1812_03)) + fieldAt 2 (boolNat (s.flag 0x2A01_04)) +
      fieldAt 1 (boolNat s.halted) + boolNat s.testAccess
  | 49 => fieldAt 16 (bitsI 16 (s.int 0x2010_09)) + s.nat 0x2010_08
  | 50 => fieldAt 16 (s.nat 0x2000_08) + bitsI 16 (s.int 0x2000_09)
  | 60 => fieldAt 16 (bitsI 16 (s.int 0x3002_03)) + fieldAt 8 (s.nat 0x3010_02) + s.radio.state.code
  | 61 => fieldAt 8 (s.nat 0x3200_04) + s.nat 0x3200_0B
  | 62 => fieldAt 16 (s.nat 0x3400_05) + s.nat 0x3401_05 % 65536
  | _ => if 52 ≤ a && decide (a < 60) then s.fastPort (a - 52) else 0

/-- FW_MK_SUPPLY: MAINS_VRMS, and AUX_MV, which no command brings and which reads a free value as its entry does (log 181). -/
def State.fastSupply (s : State) : State × Nat :=
  let (f, t) := s.draw
  (t, fieldAt 16 (s.nat 0x2000_04) + s.freeReading 0x2000_05 f)

/-! ### Dictionary registers (Table 16-5) -/

/-- FW_DL_STAT: a path to the head exists for a member that is not the head itself (log 184). -/
def State.dlStat (s : State) : Nat :=
  let h := s.nat 0x1010_05
  let up (pl : Bool) : Bool := s.linkOn && decide (h ≠ s.ownNode) && s.pathUp h pl
  fieldAt 18 (boolNat (up true)) + fieldAt 17 (boolNat (up false)) + fieldAt 16 (boolNat (s.flag 0x1010_04)) + fieldAt 8 (s.nat 0x1010_02) +
    s.ownNode

/-- FW_OD_STAT. -/
def Session.odStat (y : Session) : Nat := fieldAt 16 y.len + fieldAt 8 y.code + fieldAt 4 (boolNat y.rejected) + y.stat

/-- The value word at the pointer; bytes beyond LENGTH read 0. -/
def Session.word (y : Session) : Nat := if y.ptr < 64 then uAt (y.buf.take y.len) (4 * y.ptr) 4 else 0

/-- A read of FW_OD_DATA. -/
def State.odDataRead (s : State) (x : Sess) : State × Nat :=
  (s.updSession x fun y => { y with ptr := y.ptr + 1 }, (s.session x).word)

/-- A write of FW_OD_DATA; words beyond the 64th are ignored (R331). -/
def State.odDataWrite (s : State) (x : Sess) (w : BitVec 32) : State :=
  s.updSession x fun y =>
    if y.ptr < 64 then { y with buf := splice (slice y.buf 0 256) (4 * y.ptr) (leBytes 4 w.toNat), ptr := y.ptr + 1 } else y

/-- A write of FW_OD_ADDR (R331). -/
def State.odAddr (s : State) (x : Sess) (w : BitVec 32) : State := s.updSession x fun y => { y with addr := w, ptr := 0 }

/-- NODE and key of FW_OD_ADDR. -/
def Session.node (y : Session) : Nat := y.addr.toNat / 2 ^ 24
def Session.key (y : Session) : Nat := y.addr.toNat % 2 ^ 24

/-- A node that this head reaches. -/
def State.reachable (s : State) (node : Nat) : Bool := s.flag 0x1010_04 && s.linkOn && decide (node ≤ s.nat 0x1010_03)

/-- A remote access that ends at once. -/
def State.remoteEnd (s : State) (x : Sess) (st : Status) : State := (s.odDone x st.code []).raise 86

/-- The payload of Table 16-10 for a request. -/
def requestPayload (op ofs k : Nat) (value : List Byte) : List Byte :=
  [0, 0, BitVec.ofNat 8 op, 0, 0, BitVec.ofNat 8 ofs] ++ leBytes 2 (k / 256) ++ [BitVec.ofNat 8 k, BitVec.ofNat 8 value.length] ++
    zeroBytes 8 ++ value

/-- The access goes to this module itself: NODE 0 or the own node. -/
def State.localNode (s : State) (node : Nat) : Bool := node = 0 || node = s.ownNode

/-- FW_OD_CMD OP 1. -/
def State.cmdRead (s : State) (x : Sess) (ofs : Nat) : State :=
  let y := s.session x
  if y.stat = 1 then s.updSession x fun y => { y with rejected := true }
  else if s.localNode y.node then s.cmdAccess x y.key none
  else if ¬ s.reachable y.node then s.remoteEnd x .noNode
  else s.remoteAccess x y.node (requestPayload 1 ofs y.key [])

/-- FW_OD_CMD OP 2. -/
def State.cmdWrite (s : State) (x : Sess) (len : Nat) : State :=
  let y := s.session x
  if y.stat = 1 then s.updSession x fun y => { y with rejected := true }
  else if s.localNode y.node then
    if 256 < len then s.odDone x Status.type.code [] else s.cmdAccess x y.key (some (slice y.buf 0 len))
  else if ¬ s.reachable y.node then s.remoteEnd x .noNode
  else if 222 < len then s.remoteEnd x .tooLong
  else s.remoteAccess x y.node (requestPayload 2 0 y.key (slice y.buf 0 len))

/-- A remote request of the session is on its way. -/
def State.remoteRuns (s : State) (x : Sess) : Bool :=
  s.link.txns.any (fun t => t.source = .access x) || s.link.waiting.any (fun m => m.source = .access x)

/-- FW_OD_CMD OP 15 (R331): it ends a remote request; a local access cannot be aborted. -/
def State.cmdAbort (s : State) (x : Sess) : State := if s.remoteRuns x then s.remoteAbort x else s

/-- A write of FW_OD_CMD; other OPs are ignored. -/
def State.odCommand (s : State) (x : Sess) (w : BitVec 32) : State :=
  let n := w.toNat
  match n % 16 with
  | 1 => s.cmdRead x (n / 256 % 256)
  | 2 => s.cmdWrite x (n / 65536)
  | 15 => s.cmdAbort x
  | _ => s

/-! ### The register map -/

/-- A read of the register at word address a, with its side effects. -/
def State.fastRead (s : State) (x : Sess) (a : Nat) : State × Nat :=
  let y := s.session x
  let keep (n : Nat) : State × Nat := (s, n)
  if a < 8 then keep (s.fastIdentity a)
  else if a = 51 && decide (y.role = .maker) then s.fastSupply
  else if 48 ≤ a then keep (if y.role = .maker then s.fastMaker a else 0)
  else match a with
    | 8 | 9 | 10 => keep (s.nat (0x3600_01 + (a - 8)))
    | 11 | 12 | 13 => keep (s.nat (0x3601_01 + (a - 11)))
    | 14 => keep s.evtNext
    | 15 => keep s.evtLines
    | 16 => keep y.addr.toNat
    | 18 => (s.updSession x fun y => { y with rejected := false }, y.odStat)
    | 19 => s.odDataRead x
    | 20 => keep (roleCode y.role)
    | 21 => keep y.tid.toNat
    | 22 => keep s.dlStat
    | 24 => (s.readTbLo x, s.tb64 % 2 ^ 32)
    | 25 => keep (s.tbHi x)
    | 26 => keep s.tmrFlags
    | 27 => keep (s.nat 0x2A01_01)
    | 28 => keep s.ma32
    | 29 => (s.readMaStat, s.maStat)
    | 30 => keep s.ma.zcTb.toNat
    | 32 => keep s.pool.sel.toNat
    | 35 => keep s.qPstat
    | 36 => s.hostPop
    | 38 => keep s.qStat
    | 39 => keep (s.qBits fun q => q.items ≠ [])
    | 40 => keep (s.qBits Queue.above)
    | 41 => keep (s.qBits fun q => q.high || q.low)
    | 42 => s.poolRead
    | _ => keep 0

/-- A read-only register whose writing counts in SPI_ERRORS (R332, R333). -/
def fastGuarded (a : Nat) : Bool := decide (a < 8) || decide (48 ≤ a)

/-- A write of the register at word address a; writes of read-only registers and of res. fields are ignored (R7). -/
def State.fastWrite (s : State) (x : Sess) (a : Nat) (w : BitVec 32) : State :=
  if fastGuarded a then s.bump 0x1001_04
  else match a with
    | 8 | 9 | 10 => s.clearEvents (a - 8) w
    | 11 | 12 | 13 => s.enableWrite (a - 11) w
    | 16 => s.odAddr x w
    | 17 => s.odCommand x w
    | 19 => s.odDataWrite x w
    | 26 => s.tmrClear w.toNat
    | 32 => s.updPool fun p => { p with sel := w &&& 0x1F1F }
    | 33 => s.hostPush w
    | 34 => s.hostPctl w
    | 37 => if w.toNat % 16 = 1 then s.queDrop else s
    | 38 => s.qStatWrite w
    | 41 => s.qCrossedWrite w
    | _ => s

/-! ### Frames (R328 to R330) -/

/-- The word address that the n-th word of a frame accesses. -/
def frameAddr (cmd : Byte) (n : Nat) : Nat := if cmd.getLsbD 6 then (cmd.toNat % 64 + n) % 64 else cmd.toNat % 64

/-- The status byte: EVT and OD_BUSY. -/
def State.statusByte (s : State) (x : Sess) : Byte :=
  BitVec.ofNat 8 (boolNat (decide (s.evtLines ≠ 0)) * 128 + boolNat (decide ((s.session x).stat = 1)) * 64)

/-- n words are read, each sent byte 3 first. -/
def State.readWords (s : State) (x : Sess) (cmd : Byte) (n : Nat) : State × List Byte :=
  (List.range n).foldl (fun (r : State × List Byte) i =>
    let t := r.1.fastRead x (frameAddr cmd i)
    (t.1, r.2 ++ (leBytes 4 t.2).reverse)) (s, [])

/-- The whole words of b are written. -/
def State.writeWords (s : State) (x : Sess) (cmd : Byte) (b : List Byte) : State :=
  (List.range (b.length / 4)).foldl (fun (t : State) i => t.fastWrite x (frameAddr cmd i) (BitVec.ofNat 32 (leNat (slice b (4 * i) 4).reverse))) s

/-- A frame of a session: the bytes it sends, and `extra` bits past the last whole byte. Answers the state and what the module
answers, the status byte and the words read (R328, R330). -/
def State.frame (s : State) (x : Sess) (sent : List Byte) (extra : Nat) : State × List Byte :=
  match sent with
  | [] => (s, [])
  | cmd :: data =>
    let st := s.statusByte x
    if cmd.getLsbD 7 then
      let bits := 8 * (data.length - 1) + (if data = [] then 0 else extra)
      let r := s.readWords x cmd ((bits + 31) / 32)
      (if bits % 32 = 0 then r.1 else r.1.bump 0x1001_04, st :: r.2)
    else
      let t := s.writeWords x cmd data
      (if data.length % 4 = 0 && extra = 0 then t else t.bump 0x1001_04, [st])

/-- MISO in a frame that answers `b`: the status byte, 0x00 in the turnaround byte, then the words, for as long as the host shifts;
0 during write words (R328, log 75). -/
def miso (sent : List Byte) (extra : Nat) (b : List Byte) : List Byte :=
  if sent = [] then [] else (b.take 1 ++ 0 :: b.drop 1 ++ zeroBytes sent.length).take (sent.length + if extra = 0 then 0 else 1)

/-- The session's frame has ended. -/
def State.frameEnd (s : State) (x : Sess) : State := s.updSession x fun y => { y with frameT0 := s.now }

/-- SPI_RDY is high: the module is ready, and the last frame's writes have taken effect (R329). -/
def State.spiReady (s : State) : Bool := s.phase = .service && s.power ≠ .sleep && decide ((s.session .spi).readyT ≤ s.now)

/-- CS_N rises: SPI_RDY is low for a time of which the rule states only that it is at most 1 µs, a free value (R329, log 185). -/
def State.spiBusy (s : State) : State :=
  let (d, s) := s.draw
  s.updSession .spi fun y => { y with readyT := s.now + d % (usQuanta 1 + 1) }

/-- An SPI frame (R328, R329). -/
def State.spiFrame (s : State) (sent : List Byte) (extra : Nat) : State :=
  let s := s.hostWakes
  if s.spiReady then
    let r := (s.bump 0x1001_03).frame .spi sent extra
    { (r.1.frameEnd .spi).spiBusy with out := .oct (miso sent extra r.2), status := .ok }
  else { (s.bump 0x1001_04).spiBusy with out := .oct (List.replicate sent.length 0xFF), status := .ok }

/-- SPI_FRAME: while the core domain does not run its image nothing answers. -/
def execSpiFrame (sent : List Byte) (extra : Fin 8) (s : State) : Out := done s (s.spiFrame sent extra)

/-! ### UART (R334) -/

/-- The content between two delimiters, its escapes undone. -/
def unstuff : List Byte → List Byte
  | [] => []
  | 0x7D :: x :: rest => (x ^^^ 0x20) :: unstuff rest
  | x :: rest => x :: unstuff rest

/-- Content as sent: 0x7D and 0x7E escaped. -/
def stuff : List Byte → List Byte
  | [] => []
  | x :: rest => if x = 0x7D || x = 0x7E then 0x7D :: (x ^^^ 0x20) :: stuff rest else x :: stuff rest

/-- A frame on the line, with its check bytes and delimiters. -/
def uartLine (content : List Byte) : List Byte := 0x7E :: stuff (content ++ checkBytes 1 content) ++ [0x7E]

/-- The CRC_B of a content holds. -/
def uartGood (b : List Byte) : Bool := decide (2 ≤ b.length) && decide (b.drop (b.length - 2) = checkBytes 1 (b.take (b.length - 2)))

/-- A frame with good check bytes, in the use that UART_MODE selects; ROM recovery runs the maker service, which answers with the
status byte and any read words. -/
def State.uartContent (s : State) (c : List Byte) : State :=
  if s.phase = .recovery || s.nat 0x1001_01 = 2 then
    let r := s.frame .uart c 0
    { r.1 with out := .oct (uartLine r.2), status := .ok }
  else
    let s := (s.push 10 7 c).1
    if s.halted then s else s.relay

/-- A delimited frame: `line` is what stands between two 0x7E. -/
def State.uartFrame (s : State) (line : List Byte) : State :=
  let s := s.hostWakes
  let b := unstuff line
  if s.phase ≠ .recovery && s.nat 0x1001_01 = 0 then s
  else (if uartGood b then s.uartContent (b.take (b.length - 2)) else s.bump 0x1001_05).frameEnd .uart

/-- UART_FRAME (R334): the UART serves once the module is ready, and in ROM recovery. -/
def execUartFrame (line : List Byte) (s : State) : Out :=
  nextAny ((s.phase = .service && s.power ≠ .sleep) || s.phase = .recovery) s (s.uartFrame line)

/-! ### Registers with rows of their own -/

/-- A session that reaches the registers: SPI in service; the maker service in its mode or in ROM recovery. -/
def whoOf : Sess → Who
  | .spi => .spi
  | .uart => .uart

def State.reads (s : State) (x : Sess) : Bool := s.serves (whoOf x)

/-- OD_ADDR_WRITE (R331). -/
def execOdAddrWrite (sess : Sess) (w : BitVec 32) (s : State) : Out := nextAny (s.reads sess) s (s.odAddr sess w)

/-- OD_DATA_ACCESS (R331): a write of a word, or a read. -/
def execOdDataAccess (sess : Sess) (w : Option (BitVec 32)) (s : State) : Out :=
  nextAny (s.reads sess) s (match w with
    | some w => s.odDataWrite sess w
    | none => let r := s.odDataRead sess; { r.1 with out := .num r.2, status := .ok })

/-- OD_READ: FW_OD_CMD OP 1 (R331). -/
def execOdRead (sess : Sess) (ofs : BitVec 8) (s : State) : Out := nextAny (s.reads sess) s (s.cmdRead sess ofs.toNat)

/-- OD_WRITE: FW_OD_CMD OP 2, or a dictionary write with no row of its own (R325, R331). -/
def execOdWrite (via : OdVia) (s : State) : Out :=
  match via with
  | .command sess len => nextAny (s.reads sess) s (s.cmdWrite sess len.toNat)
  | .entry who index sub value => dictAccess who (index.toNat * 256 + sub.toNat) (some value) s

/-- OD_ABORT: FW_OD_CMD OP 15 (R331). -/
def execOdAbort (sess : Sess) (s : State) : Out := nextAny (s.reads sess) s (s.cmdAbort sess)

/-- FAST_REGISTER_WRITE (R7). -/
def execFastRegisterWrite (sess : Sess) (word : Fin 64) (w : BitVec 32) (s : State) : Out :=
  nextAny (s.reads sess) s (s.fastWrite sess word w)

end Sys2Proof.Machine
end

