-- ==== Sys2Proof/Machine/Writes.lean ====
section
/-!
DEFINITION. The dictionary writes that have rows of their own in the command table: each is the write of one entry by a writer, by
the rules of R325 and of the chapter that owns the entry.
-/

namespace Sys2Proof.Machine

open Sys2Proof

/-- BLANK_SLOT_WRITE (R26): START or LENGTH of blanking slot b. -/
def execBlankSlotWrite (who : Who) (b : Fin 8) (length : Bool) (value : BitVec 16) (s : State) : Out :=
  dictWrite who (0x2130_01 + 0x100 * b.val + boolNat length) 2 value.toNat s

/-- FAULT_CODE_WRITE (R58). -/
def execFaultCodeWrite (who : Who) (p : Fin 8) (value : BitVec 8) (s : State) : Out := dictWrite who (portKey p 2 2) 1 value.toNat s

/-- FIELD_CAP_WRITE (R47). -/
def execFieldCapWrite (who : Who) (p : Fin 8) (value : BitVec 16) (s : State) : Out := dictWrite who (portKey p 1 1) 2 value.toNat s

/-- FIR_SET_WRITE (R51, R52). -/
def execFirSetWrite (who : Who) (set : Fin 16) (coef : List Byte) (s : State) : Out := dictAccess who (firKey set 1) (some coef) s

/-- FIR_MAP_WRITE (R52): the set of a mode of port p. -/
def execFirMapWrite (who : Who) (p : Fin 8) (mode : Fin 12) (set : BitVec 8) (s : State) : Out :=
  dictWrite who (portKey p 4 (mode.val + 1)) 1 set.toNat s

/-- MASK_WRITE (R52). -/
def execMaskWrite (who : Who) (mask : List Byte) (s : State) : Out := dictAccess who 0x22A0_01 (some mask) s

/-- PORT_TEST_MODE_WRITE (R63). -/
def execPortTestModeWrite (who : Who) (p : Fin 8) (value : BitVec 8) (s : State) : Out := dictWrite who (portKey p 5 1) 1 value.toNat s

/-- SURVEY_CMD (R70). -/
def execSurveyCmd (who : Who) (value : BitVec 8) (s : State) : Out := dictWrite who 0x2340_01 1 value.toNat s

/-- TEACH (R71). -/
def execTeach (who : Who) (z : Fin 16) (value : BitVec 8) (s : State) : Out := dictWrite who (zoneKey z 6) 1 value.toNat s

/-- REF_VECTOR_WRITE (R71). -/
def execRefVectorWrite (who : Who) (z : Fin 16) (v : List Byte) (s : State) : Out := dictAccess who (zoneKey z 5) (some v) s

/-- PAIRS_WRITE (R74). -/
def execPairsWrite (who : Who) (n : Fin 64) (pairs : List Byte) (s : State) : Out := dictAccess who (penKey n 7) (some pairs) s

/-- HOST_EXCHANGE (R142): EXCH_CMD 1. -/
def execHostExchange (who : Who) (l : Fin 4) (s : State) : Out := dictWrite who (hfKey l 1) 1 1 s

/-- POLL_REQUEST (R128): EXCH_CMD 2. -/
def execPollRequest (who : Who) (l : Fin 4) (s : State) : Out := dictWrite who (hfKey l 1) 1 2 s

/-- BASE_RESET (R157). -/
def execBaseReset (who : Who) (p : Fin 8) (value : BitVec 8) (s : State) : Out := dictWrite who (frondKey p 0x14) 1 value.toNat s

/-- FROND_CONFIG_WRITE (R151): RATE_HZ of a port, or PING_ANGLE, PING_STEP, WIN_LENGTH or PING_FLOAT. -/
def execFrondConfigWrite (who : Who) (port : Option (Fin 8)) (item : Fin 4) (value : BitVec 16) (s : State) : Out :=
  match port with
  | some p => dictWrite who (frondKey p 1) 1 value.toNat s
  | none => dictWrite who (0x2600_03 + item.val) 2 value.toNat s

/-- STORE_READ (R186): STORE_CMD 1. -/
def execStoreRead (who : Who) (s : State) : Out := dictWrite who 0x2730_04 1 1 s

/-- STORE_WRITE_GROUP (R186): STORE_CMD 2. -/
def execStoreWriteGroup (who : Who) (s : State) : Out := dictWrite who 0x2730_04 1 2 s

/-- HOLD_WRITE (R186). -/
def execHoldWrite (who : Who) (value : BitVec 8) (s : State) : Out := dictWrite who 0x2701_04 1 value.toNat s

/-- TABLE_INSERT (R195): OD 2810/01 written 1. -/
def execTableInsert (who : Who) (s : State) : Out := dictWrite who 0x2810_01 1 1 s

/-- TABLE_DELETE (R195): written 2. -/
def execTableDelete (who : Who) (s : State) : Out := dictWrite who 0x2810_01 1 2 s

/-- TABLE_LOOKUP (R194): written 3. -/
def execTableLookup (who : Who) (s : State) : Out := dictWrite who 0x2810_01 1 3 s

/-- TABLE_CLEAR_ALL (R207): written 4. -/
def execTableClearAll (who : Who) (s : State) : Out := dictWrite who 0x2810_01 1 4 s

/-- TABLE_WINDOW_WRITE (R198). -/
def execTableWindowWrite (who : Who) (e : Fin 16384) (entry : List Byte) (s : State) : Out := dictAccess who (slotKey e) (some entry) s

/-- COMPARE_VALUE_WRITE (R245). -/
def execCompareValueWrite (who : Who) (n : Fin 16) (value : BitVec 64) (s : State) : Out := dictWrite who (cmpKey n 2) 8 value.toNat s

/-- COMPARE_CTRL_WRITE (R245). -/
def execCompareCtrlWrite (who : Who) (n : Fin 16) (value : BitVec 8) (s : State) : Out := dictWrite who (cmpKey n 1) 1 value.toNat s

/-- LC_COUNT_WRITE (R253). -/
def execLcCountWrite (who : Who) (i : Fin 4) (value : BitVec 16) (s : State) : Out := dictWrite who (lcKey i 3) 2 value.toNat s

/-- LC_PRESCALE_WRITE (R253): PRESCALE, or CTRL with RUN. -/
def execLcPrescaleWrite (who : Who) (i : Fin 4) (ctrl : Bool) (value : BitVec 8) (s : State) : Out :=
  dictWrite who (lcKey i (if ctrl then 1 else 2)) 1 value.toNat s

/-- RADIO_TEST_MODE_WRITE (R281). -/
def execRadioTestModeWrite (who : Who) (value : BitVec 8) (s : State) : Out := dictWrite who 0x3000_0C 1 value.toNat s

/-- NOTCH_WRITE (R312): NOTCH_LOW_KHZ or NOTCH_HIGH_KHZ of notch x. -/
def execNotchWrite (who : Who) (x : Fin 8) (high : Bool) (value : BitVec 16) (s : State) : Out :=
  dictWrite who (0x3208_01 + 0x100 * x.val + boolNat high) 2 value.toNat s

/-- ROLE_CLAIM (R354). -/
def execRoleClaim (who : Who) (claim : List Byte) (s : State) : Out := dictAccess who 0x1800_03 (some claim) s

/-- The keys of OD 1810, 1811 and 2720 (R363). -/
def keyEntry (n : Nat) : Nat := ([0x1810_01, 0x1810_02, 0x1811_01, 0x1811_02, 0x1811_03, 0x2720_01, 0x2720_02, 0x2720_03] : List Nat).getD n 0

/-- KEY_WRITE (R363). -/
def execKeyWrite (who : Who) (key : Fin 8) (value : List Byte) (s : State) : Out := dictAccess who (keyEntry key) (some value) s

/-- TID_RESET (R360) of peer n + 1. -/
def execTidReset (who : Who) (n : Fin 64) (value : BitVec 8) (s : State) : Out := dictWrite who (0x1820_02 + 0x100 * n.val) 1 value.toNat s

/-- ANNOTATE (R365). -/
def execAnnotate (who : Who) (note : List Byte) (s : State) : Out := dictAccess who 0x1902_01 (some note) s

/-- AUD_ACK_WRITE (R366). -/
def execAudAckWrite (who : Who) (value : BitVec 32) (s : State) : Out := dictWrite who 0x1900_02 4 value.toNat s

/-- ERASE (R369): FW_CMD 1. -/
def execErase (who : Who) (s : State) : Out := dictWrite who 0x1A10_01 1 1 s

/-- VERIFY (R369): FW_CMD 2. -/
def execVerifyImage (who : Who) (s : State) : Out := dictWrite who 0x1A10_01 1 2 s

/-- ACTIVATE (R369): FW_CMD 3. -/
def execActivate (who : Who) (s : State) : Out := dictWrite who 0x1A10_01 1 3 s

/-- CONFIRM (R370): FW_CMD 4. -/
def execConfirm (who : Who) (s : State) : Out := dictWrite who 0x1A10_01 1 4 s

/-- REVERT (R369): FW_CMD 5. -/
def execRevert (who : Who) (s : State) : Out := dictWrite who 0x1A10_01 1 5 s

/-- FW_CHUNK_WRITE (R369). -/
def execFwChunkWrite (who : Who) (chunk : List Byte) (s : State) : Out := dictAccess who 0x1A10_03 (some chunk) s

/-- ATTEST_CMD (R372). -/
def execAttestCmd (who : Who) (value : BitVec 8) (s : State) : Out := dictWrite who 0x1A20_02 1 value.toNat s

/-- TEST_ACCESS (R373). -/
def execTestAccess (who : Who) (value : BitVec 32) (s : State) : Out := dictWrite who 0x1A40_01 4 value.toNat s

/-- CAL_REQUEST (R390). -/
def execCalRequest (who : Who) (value : BitVec 16) (s : State) : Out := dictWrite who 0x3500_01 2 value.toNat s

/-- SOFT_RESET (R402). -/
def execSoftReset (who : Who) (value : BitVec 32) (s : State) : Out := dictWrite who 0x3802_01 4 value.toNat s

/-- RESTORE_DEFAULTS (R403). -/
def execRestoreDefaults (who : Who) (value : BitVec 32) (s : State) : Out := dictWrite who 0x3803_01 4 value.toNat s

/-- SLEEP_CMD (R405). -/
def execSleepCmd (who : Who) (value : BitVec 8) (s : State) : Out := dictWrite who 0x3800_03 1 value.toNat s

/-- ROUTE_WRITE (R417) of event e. -/
def execRouteWrite (who : Who) (e : Fin 96) (value : BitVec 8) (s : State) : Out := dictWrite who (0x3610_01 + e.val) 1 value.toNat s

/-- LINE_MODE_WRITE (R416). -/
def execLineModeWrite (who : Who) (l : Fin 4) (value : BitVec 8) (s : State) : Out := dictWrite who (0x3602_01 + l.val) 1 value.toNat s

/-- GP_OUT_WRITE (R432): OUT of a pad, or GP_OUT. -/
def execGpOutWrite (who : Who) (pad : Option (Fin 16)) (value : BitVec 16) (s : State) : Out :=
  match pad with
  | some n => dictWrite who (padKey n 4) 1 value.toNat s
  | none => dictWrite who 0x3710_02 2 value.toNat s

/-- GP_DIR_WRITE (R431). -/
def execGpDirWrite (who : Who) (n : Fin 16) (value : BitVec 8) (s : State) : Out := dictWrite who (padKey n 1) 1 value.toNat s

end Sys2Proof.Machine
end

