-- ==== Sys2Proof/Machine/Rules.lean ====
section
/-!
DEFINITION. The rule sequencer and the scenes (R199 to R205).
-/

namespace Sys2Proof.Machine

open Sys2Proof

def ruleKey (r sub : Nat) : Nat := 0x8000_00 + 0x100 * r + sub
def sceneKey (n sub : Nat) : Nat := 0x8400_00 + 0x100 * n + sub

/-! ### Rules (R199) -/

/-- One rule as a trigger finds it. -/
structure Rule where
  number : Nat
  trigger : Nat
  zones : Nat
  classes : Nat
  verdicts : Nat
  group : Nat
  bits : Nat
  condObj : Nat
  condOp : Nat
  condVal : Nat
  action : Nat
  arg : Nat
  value : Nat
  flags : Nat
deriving DecidableEq, Repr

def State.ruleAt (s : State) (r : Nat) : Rule :=
  let f (sub : Nat) : Nat := s.nat (ruleKey r sub)
  { number := r, trigger := f 2, zones := f 3, classes := f 4, verdicts := f 5, group := f 6, bits := f 7, condObj := f 8, condOp := f 9,
    condVal := f 10, action := f 11, arg := f 12, value := f 13, flags := f 14 }

/-- The enabled rules, in ascending number. -/
def State.enabledRules (s : State) : List Rule := ((List.range 1024).filter fun r => s.flag (ruleKey r 1)).map s.ruleAt

/-- The trigger comes from an identifier: TAG_SEEN, TAG_FOUND or TAG_LEFT. -/
def Trigger.ofCard (t : Trigger) : Bool := decide (1 ≤ t.kind) && decide (t.kind ≤ 3)

/-- The trigger matches TRIGGER (Table 9-3). -/
def triggerMatches (n : Nat) (t : Trigger) : Bool :=
  decide (n / 4096 = t.kind) &&
    (if t.ofCard then true
     else if t.kind = 6 then decide (n % 16 = t.arg % 16) && decide (n / 16 % 4 &&& t.arg / 16 ≠ 0)
     else decide (n % 4096 = t.arg))

/-- CLASS, GROUP and ACTION_SET of a verdict; 0 on NO_MATCH. -/
def Verdict.cls (v : Verdict) : Nat := v.bits.toNat / 2 ^ 40 % 16
def Verdict.group (v : Verdict) : Nat := v.bits.toNat / 2 ^ 8 % 256
def Verdict.actions (v : Verdict) : Nat := v.bits.toNat % 16
def Verdict.scene (v : Verdict) : Nat := v.bits.toNat / 2 ^ 16 % 256

/-- The verdict tests of a card's trigger. -/
def Rule.cardFits (r : Rule) (v : Verdict) : Bool :=
  r.verdicts.testBit v.code && r.classes.testBit v.cls && decide (v.actions &&& r.bits % 16 = r.bits % 16) &&
    (!r.group.testBit 8 || decide (v.group = r.group % 256))

/-- The zone test: for cards, and for a port event with a zone. -/
def Rule.zoneFits (r : Rule) (t : Trigger) : Bool :=
  match t.zone with
  | some z => if t.ofCard || t.kind = 4 then r.zones.testBit z else true
  | none => !t.ofCard

/-- A comparison of COND_OP; the octet of an I type compares signed. -/
def compares (op : Nat) (signed : Bool) (x : Int) (bits c : Nat) : Bool :=
  let y : Int := if signed then toSigned 32 c else c
  match op with
  | 1 => decide (x = y)
  | 2 => decide (x ≠ y)
  | 3 => decide (x < y)
  | 4 => decide (y ≤ x)
  | _ => decide (bits &&& c = c)

/-- The condition holds: COND_OP 0, or the entry as the operator reads it compares (R199). A COND_OBJ of 0 with another COND_OP
fails (log 190). -/
def State.condition (s : State) (r : Rule) : State × Bool :=
  if r.condOp = 0 then (s, true)
  else if r.condObj = 0 then (s, false)
  else
    let (t, st, b) := s.odRead .rules r.condObj
    match st, odRow? r.condObj with
    | .ok, some row =>
      let n := leNat b
      let x : Int := if row.ty.signed then toSigned (8 * row.ty.bytes) n else n
      (t, compares r.condOp row.ty.signed x (ofSigned 32 x) r.condVal)
    | _, _ => (t, false)

/-! ### Actions (R202, R203) -/

/-- Where an action comes from: the rule's number (0xFFFF for a scene), and the trigger, none for a scene. -/
structure Origin where
  number : Nat
  trigger : Option Trigger
deriving DecidableEq, Repr

/-- The 40 bytes of a notification (R203, log 191). -/
def notification (o : Origin) (code : Nat) : List Byte :=
  let kind := (o.trigger.map Trigger.kind).getD 0
  let tail := match o.trigger with
    | some t => if t.ofCard then slice t.ident 0 24 ++ leBytes 2 (t.verdict.slot % 2 ^ 14 + t.verdict.code * 2 ^ 14) ++ leBytes 6 t.verdict.bits.toNat
        else zeroBytes 32
    | none => zeroBytes 32
  leBytes 2 code ++ leBytes 2 o.number ++ [BitVec.ofNat 8 kind, 0, 0, 0] ++ tail

/-- A WRITE: with the operator's rights, the value truncated to the entry's type (R203). -/
def State.actWrite (s : State) (k v : Nat) : State × Bool :=
  match odRow? k with
  | some r =>
    if r.ty.bytes = 0 then (s, false)
    else
      let t := s.odWrite .rules k (leBytes r.ty.bytes v)
      (t.1, decide (t.2 = .ok))
  | none => (s, false)

/-- A NOTIFY to a node: a bunting in queue 2. -/
def State.actNotify (s : State) (o : Origin) (node code : Nat) : State × Bool :=
  if ¬ isNode node then (s, false)
  else
    let key := s.pool.key
    match s.push 2 6 (notification o code) with
    | (t, .ok) => (t.updLink fun l => { l with notes := l.notes ++ [(key, node)] }, true)
    | (t, _) => (t, false)

/-- A GPIO action. -/
def State.actGpio (s : State) (pad op ms : Nat) : State × Bool :=
  match s.gpioAction pad op ms with
  | some t => (t, true)
  | none => (s, false)

/-- Step n of a scene's bytes; none past the eighth step, the bytes' end or a step of KIND 0. -/
def sceneStepAt (steps : List Byte) (n : Nat) : Option (List Byte) :=
  if n < 8 && decide (12 * n + 12 ≤ steps.length) && decide (steps.getD (12 * n) 0 ≠ 0) then some (slice steps (12 * n) 12) else none

/-- A scene has run its last step: event 50 and a SCENE_DONE trigger (R204). -/
def State.sceneDone (s : State) (n level : Nat) : State :=
  (s.raise 50).trigger { kind := 7, arg := n, order := n, level := level, stamp := s.tb64, zone := none, ident := zeroBytes 24, verdict := {} }

/-- A scene is recalled (R205): a running one starts again; a fifth ends the one recalled longest ago. One with no step is done at
once (log 192). -/
def State.recall (s : State) (n : Nat) : State :=
  let s := s.bump (sceneKey n 4)
  let s : State := { s with scenes := s.scenes.filter fun x => x.scene ≠ n }
  let s := if 4 ≤ s.scenes.length then (({ s with scenes := s.scenes.drop 1 } : State).bump 0x2820_05).raise 51 else s
  let steps := s.oct (sceneKey n 1)
  if (sceneStepAt steps 0).isNone then s.sceneDone n s.causeLevel
  else { s with scenes := s.scenes ++ [{ scene := n, steps := steps, t0 := s.tb64, level := s.causeLevel }] }

/-- CANCEL of a scene; one that does not run takes nothing. -/
def State.sceneCancel (s : State) (n : Nat) : State := { s with scenes := s.scenes.filter fun x => x.scene ≠ n }

/-- A recall by a rule: its scene, or the credential's with FLAGS[1], which needs a credential found (log 190). -/
def State.actScene (s : State) (r : Rule) (t : Trigger) : State × Bool :=
  if r.flags.testBit 1 then
    (if t.ofCard && decide (t.verdict.code ≠ 0) then (s.recall t.verdict.scene, true) else (s, false))
  else (s.recall (r.arg % 256), true)

/-- An action that cannot be carried out (R202). -/
def actFailed (r : State × Bool) : State := if r.2 then r.1 else ((r.1.bump 0x2820_06).raise 49)

/-- The action of a rule (Table 9-4). -/
def State.ruleAction (s : State) (r : Rule) (t : Trigger) : State × Bool :=
  match r.action with
  | 0 => (s, true)
  | 1 => s.actWrite (r.arg % 2 ^ 24) r.value
  | 2 => s.actScene r t
  | 3 => s.actGpio (r.arg % 16) (r.arg / 256 % 4) r.value
  | 4 => s.actNotify { number := r.number, trigger := some t } (r.arg % 256) (r.arg / 256 % 65536)
  | 5 => ((s.setN 0x2820_07 r.arg).raise 48, true)
  | _ => (s.sceneCancel (r.arg % 256), true)

/-- An action at a depth of causes: what it causes is one level deeper (R202). -/
def State.atLevel (s : State) (level : Nat) (f : State → State) : State := { f { s with causeLevel := level } with causeLevel := 0 }

/-- A rule that fires: counted, its action taken. -/
def State.fire (s : State) (r : Rule) (t : Trigger) : State :=
  (s.bump (ruleKey r.number 15)).atLevel (t.level + 1) fun u => actFailed (u.ruleAction r t)

/-- The rules of a trigger in turn; STOP ends the trigger (R200). -/
def State.runRules (s : State) (t : Trigger) : List Rule → State
  | [] => s
  | r :: rest =>
    if triggerMatches r.trigger t && r.zoneFits t && (!t.ofCard || r.cardFits t.verdict) then
      let c := s.condition r
      if c.2 then
        let u := c.1.fire r t
        if r.flags.testBit 0 then u else u.runRules t rest
      else c.1.runRules t rest
    else s.runRules t rest

/-- The next trigger is taken (R200); with RULES_ON 0 it is discarded and counted. -/
def State.ruleTrigger (s : State) : State :=
  match s.triggers with
  | [] => s
  | t :: rest =>
    let s : State := { s with triggers := rest }
    if s.flag 0x2820_01 then s.runRules t s.enabledRules else s.bump 0x2820_03

/-- RULE_TRIGGER (R200). -/
def execRuleTrigger (s : State) : Out := nextWhen (decide (s.triggers ≠ [])) s s.ruleTrigger

/-! ### Scene steps (R204) -/

/-- The action of a step (Table 9-5). -/
def State.stepAction (s : State) (b : List Byte) : State × Bool :=
  let a := uAt b 1 1
  let w := uAt b 2 2
  match uAt b 0 1 with
  | 1 => s.actWrite (w * 256 + a) (uAt b 4 4)
  | 2 => s.actGpio a (w % 4) (uAt b 4 4)
  | 3 => s.actNotify { number := 0xFFFF, trigger := none } a w
  | 4 => (s.sceneCancel a, true)
  | _ => (s, false)

/-- DELAY_MS of the next step has passed on TB: 27,120 ticks a millisecond. -/
def State.sceneDue (s : State) (x : Scene) : Bool :=
  match sceneStepAt x.steps x.next with
  | some b => decide (x.t0 + uAt b 8 2 * 27120 ≤ s.tb64)
  | none => false

/-- An action of the sequencer waits: a trigger still to be evaluated, or a scene's step that is due. Its access to the
dictionary goes before a request over Dravlink and the staged application (R327; DEDUCED, log 268). -/
def State.actionWaits (s : State) : Bool := decide (s.triggers ≠ []) || s.scenes.any fun x => s.sceneDue x

/-- The step of a running scene is taken; after the last one the scene is done. -/
def State.sceneStep (s : State) (x : Scene) : State :=
  let b := (sceneStepAt x.steps x.next).getD []
  let s := s.atLevel x.level fun u => actFailed (u.stepAction b)
  if s.scenes.contains x then
    if (sceneStepAt x.steps (x.next + 1)).isNone then s.atLevel x.level fun u => (u.sceneCancel x.scene).sceneDone x.scene x.level
    else { s with scenes := s.scenes.map fun y => if y.scene = x.scene then { y with next := x.next + 1, t0 := s.tb64 } else y }
  else s

/-- SCENE_STEP (R204): the next step of scene n. -/
def execSceneStep (n : Fin 256) (s : State) : Out :=
  match s.scenes.find? fun x => x.scene = n.val with
  | some x => nextWhen (s.sceneDue x) s (s.sceneStep x)
  | none => .next s

end Sys2Proof.Machine
end

