-- ==== Sys2Proof/Machine/Requests.lean ====
section
/-!
DEFINITION. What reaches the dictionary from elsewhere: requests over Dravlink (R346, R347, R359) and the staged set of the
commissioning store (R183, R184).
-/

namespace Sys2Proof.Machine

open Sys2Proof

/-! ### Requests over Dravlink -/

/-- A reply waits in queue 4 with where it goes (R345); one that the queue refuses is lost there. -/
def State.queueReply (s : State) (dst : Nat) (r : Role) (t0 tmo : Nat) (b : List Byte) : State :=
  let key := s.pool.key
  match s.push 4 1 b with
  | (t, .ok) => t.updLink fun l => { l with replies := l.replies ++ [{ key := key, dst := dst, role := r, t0 := t0, tmo := tmo }] }
  | (t, _) => t

/-- The OD_RSP to a request: CODE and a value (Table 16-10). -/
def replyPayload (req : List Byte) (code : Nat) (value : List Byte) : List Byte :=
  slice req 0 2 ++ [BitVec.ofNat 8 code, 0, 0] ++ slice req 5 4 ++ [BitVec.ofNat 8 value.length] ++ zeroBytes 8 ++ value

/-- ms that an entry of the reply cache has left. -/
def State.cacheLeft (s : State) (c : Cached) : Nat := c.tmo * 1000 - s.sinceUs c.t0

/-- A reply joins the cache; a full cache gives up the entry with the least time left (R347). -/
def State.cacheReply (s : State) (c : Cached) : State :=
  let drop (l : List Cached) : List Cached :=
    match l with
    | [] => []
    | x :: rest => l.erase (rest.foldl (fun m y => if s.cacheLeft y < s.cacheLeft m then y else m) x)
  s.updLink fun l => { l with cache := (if 64 ≤ l.cache.length then drop l.cache else l.cache) ++ [c] }

/-- TID of a write from a peer is fresh (R359; log 92). -/
def State.tidFresh (s : State) (src tid : Nat) : Bool :=
  let d := (tid + 65536 - s.nat (0x1820_01 + 0x100 * (src - 1))) % 65536
  !s.tidSeen.getLsbD (src - 1) || (decide (1 ≤ d) && decide (d < 32768))

/-- TID_LAST takes a TID. -/
def State.tidTake (s : State) (src tid : Nat) : State :=
  ({ s with tidSeen := s.tidSeen ||| BitVec.ofNat 64 (2 ^ (src - 1)) } : State).setN (0x1820_01 + 0x100 * (src - 1)) tid

/-- The operation of a request that passed: its code and value. -/
def State.runRequest (s : State) (who : Who) (p : List Byte) : State × Nat × List Byte :=
  let k := uAt p 6 2 * 256 + uAt p 8 1
  match uAt p 2 1 with
  | 1 =>
    let r := s.odRead who k
    (r.1, r.2.1.code, (r.2.2.drop (32 * uAt p 5 1)).take 222)
  | 2 =>
    let n := uAt p 9 1
    if 222 < n then (s, Status.tooLong.code, [])
    else if p.length < 18 + n then (s, Status.type.code, [])
    else let r := s.odWrite who k ((p.drop 18).take n); (r.1, r.2.code, [])
  | _ => (s, Status.range.code, [])

/-- A write under a key that is set must be fresh. -/
def State.needsTid (s : State) (r : Role) (p : List Byte) : Bool := decide (uAt p 2 1 = 2) && !noKey (s.segKey r)

/-- A request in the order of R359: the cache, AUTH, the TID, then R325. A request that is not executed leaves no entry in the cache
(log 193). -/
def State.takeRequest (s : State) (f : DlFrame) (t0 : Nat) : State :=
  let p := f.payload
  let tid := uAt p 0 2
  let r := roleOfCode (uAt p 3 1)
  let tmo := 10 * uAt p 4 1
  match s.link.cache.find? fun c => c.src = f.src && c.tid = tid && decide (0 < s.cacheLeft c) with
  | some c => (s.bump 0x1020_0B).queueReply f.src c.role t0 tmo c.reply
  | none =>
    if decide (2 < uAt p 3 1) || !s.authGood r f.src f.seq (odPart p) (slice p 10 8) || (s.needsTid r p && !s.tidFresh f.src tid) then
      (s.bump 0x1020_0C).queueReply f.src r t0 tmo (replyPayload p Status.auth.code [])
    else
      let phase := s.phase
      let s := if s.needsTid r p then s.tidTake f.src tid else s
      let (s, code, value) := s.runRequest (.remote f.src r) p
      let b := replyPayload p code value
      if s.phase ≠ phase then s
      else (s.cacheReply { src := f.src, tid := tid, tmo := tmo, t0 := t0, reply := b, role := r }).queueReply f.src r t0 tmo b

/-- The head of queue 3 is taken (R327). -/
def State.odRequest (s : State) : State :=
  match s.pop 3 with
  | (s, none) => s
  | (s, some x) =>
    match dlFrame x.data with
    | some f => if x.corrupt || decide (f.payload.length < 18) then s else s.takeRequest f (s.now - (s.tb64 - x.stamp) * quantaTick)
    | none => s

/-- DRAVLINK_OD_REQUEST (R359): after the sequencer's actions, and not in a debug halt, where queue 3 fills (R327, R409). -/
def execDravlinkOdRequest (s : State) : Out :=
  nextWhen (s.phase = .service && !s.halted && !s.actionWaits && decide ((s.queue 3).items ≠ [])) s s.odRequest

/-! ### The staged set (R183, R184) -/

/-- n bytes of the store from an address. -/
def State.storeBytes (s : State) (a n : Nat) : List Byte := (List.range n).map fun i => s.storeByte (a + i)

/-- A staged record: an entry and its value bytes. -/
structure Record where
  key : Nat
  value : List Byte
deriving DecidableEq, Repr

/-- The bytes of a record with its padding to a multiple of 4. -/
def recordSpan (len : Nat) : Nat := (4 + len + 3) / 4 * 4

/-- n records that fill the bytes exactly; none where they do not (Table 8-9). -/
def parseRecords : Nat → List Byte → Option (List Record)
  | 0, b => if b = [] then some [] else none
  | n + 1, b =>
    let len := uAt b 3 1
    let span := recordSpan len
    if b.length < span || len = 0 || 252 < len || ((b.drop (4 + len)).take (span - 4 - len)).any (· ≠ 0) then none
    else (parseRecords n (b.drop span)).map fun rest => { key := uAt b 0 2 * 256 + uAt b 2 1, value := (b.drop 4).take len } :: rest

/-- The records of the set, or RESULT 2 or 3 (R184). -/
def State.stagedRecords (s : State) : List Record × Nat :=
  let h := s.homeBlock 16
  let bytes := uAt h 10 2
  let area := s.storeBytes 1024 bytes
  if 30720 < bytes then ([], 3)
  else if uAt h 12 4 ≠ (crc32 area).toNat then ([], 2)
  else if h.take 3 ≠ [0x5A, 0xC0, 1] || decide (uAt h 8 2 = 0) || decide (2048 < uAt h 8 2) then ([], 3)
  else match parseRecords (uAt h 8 2) area with
    | some l => (l, 0)
    | none => ([], 3)

/-- RESULT of a record's check of entry, access, role, type, length and range; 0 where it passes. The module's state is judged when
the record is written. -/
def recordResult : Status → Nat
  | .ok | .state | .busy | .auth => 0
  | .noEntry | .noSubindex => 6
  | .writeDenied | .readDenied => 4
  | _ => 5

/-- The first record that fails, with its RESULT. -/
def State.firstBadRecord (s : State) (who : Who) (l : List Record) : Option (Nat × Nat) :=
  (l.zipIdx.find? fun x => recordResult (s.odWriteStatus who x.1.key x.1.value) ≠ 0).map fun x =>
    (x.2, recordResult (s.odWriteStatus who x.1.key x.1.value))

/-- The set ends: STATE, block 17, APPLY_RESULT, APPLY_FAIL_REC and event 41. -/
def State.stageEnd (s : State) (state result failed : Nat) : State :=
  let s := ((s.setStageState state).setN 0x2710_04 result).setN 0x2710_05 failed
  let b := [BitVec.ofNat 8 result, 0] ++ leBytes 2 failed ++ leBytes 4 (s.nat 0x2710_06) ++ s.poweredStamp
  (s.moduleWrite 17 (slice b 0 32)).raise 41

/-- The records are written in order as dictionary writes; a record that resets the core ends the work, which the next start takes
up again. -/
def State.writeRecords (s : State) (who : Who) : List Record → State
  | [] => s
  | x :: rest =>
    let t := (s.odWrite who x.key x.value).1
    if t.phase = s.phase then t.writeRecords who rest else t

/-- A set is applied under the role of its header. -/
def State.applySet (s : State) : State :=
  let role := s.stageRole
  let seq := s.stageSeq
  let s := s.setStageState 3
  if seq = s.nat 0x2710_06 then s.stageEnd 4 8 0xFFFF
  else if role = 0 || 2 < role then s.stageEnd 5 7 0xFFFF
  else
    let who := Who.staged (roleOfCode role)
    let r := s.stagedRecords
    if r.2 ≠ 0 then s.stageEnd 5 r.2 0xFFFF
    else match s.firstBadRecord who r.1 with
      | some x => s.stageEnd 5 x.2 x.1
      | none =>
        let t := s.writeRecords who r.1
        if t.phase = s.phase then (t.setN 0x2710_06 seq).stageEnd 4 1 0xFFFF else t

/-- The set that waits is still ready, and APPLY_POLICY still lets it be applied: 0 always, 1 only since the start (R184). -/
def State.stageAllowed (s : State) : Bool :=
  (s.stageState = 2 || s.stageState = 3) && (s.nat 0x2710_02 = 0 || (decide (s.nat 0x2710_02 = 1) && s.tag.stageStart))

/-- STAGED_SET_APPLY (R184), the last class of R327, behind the requests of queue 3; a group that is still to be rolled
forward goes first (log 83). A set that is no longer to be applied waits no longer. -/
def execStagedSetApply (s : State) : Out :=
  let t := s.updTag fun t => { t with stageDue := false }
  nextWhen (s.phase = .service && s.tag.stageDue && !s.halted && !s.actionWaits && decide ((s.queue 3).items = []) && !s.tag.commit.committed) s (if s.stageAllowed then t.applySet else t)

end Sys2Proof.Machine
end

