-- ==== Sys2Proof/Machine/PadStates.lean ====
section
/-!
DEFINITION. The levels that the module's pads are driven to (Table 21-4, R416, R428, R429, R435): what the outside sees of the
state between commands.
-/

namespace Sys2Proof.Machine

open Sys2Proof

/-! ### The pad face (R426) -/

/-- The functions of the pads (Table 21-3). -/
inductive PadName where
  | driveA (p : Nat) | driveB (p : Nat) | senseA (p : Nat) | senseB (p : Nat) | shield (p : Nat) | ant (a : Nat) | auxDc | vout
  | sck | mosi | miso | csN | spiRdy | irq (l : Nat) | uartTx | uartRx | rstN | wake | pwrGood | maSync | gp (n : Nat) | tst (n : Nat)
  | res | gnd
deriving DecidableEq, Repr, Inhabited

/-- The rows A to U of the pad face, seen from above, each with its columns 1 to 16 (Table 21-2). -/
def padRow : Nat → List PadName
  | 0 => [.gnd, .gnd, .gnd, .gnd, .gnd, .gnd, .auxDc, .auxDc, .vout, .gnd, .gnd, .gnd, .gnd, .gnd, .gnd, .gnd]
  | 1 => [.gnd, .gnd, .gnd, .rstN, .wake, .pwrGood, .auxDc, .auxDc, .vout, .gnd, .maSync, .uartTx, .uartRx, .gnd, .gnd, .gnd]
  | 2 => [.driveA 0, .senseA 0, .gnd, .gnd, .sck, .mosi, .miso, .csN, .spiRdy, .irq 0, .irq 1, .irq 2, .irq 3, .gnd, .senseA 4, .driveA 4]
  | 3 => [.shield 0, .gnd, .gnd, .gnd, .gnd, .gnd, .gnd, .gnd, .gnd, .gnd, .gnd, .gnd, .gnd, .gnd, .gnd, .shield 4]
  | 4 => [.driveB 0, .senseB 0, .gnd, .gnd, .gnd, .gnd, .gnd, .gnd, .gnd, .gnd, .gnd, .gnd, .gnd, .gnd, .senseB 4, .driveB 4]
  | 5 => [.driveA 1, .senseA 1, .gnd, .gnd, .gnd, .gnd, .gnd, .gnd, .gnd, .gnd, .gnd, .gnd, .gnd, .gnd, .senseA 5, .driveA 5]
  | 6 => [.shield 1, .gnd, .gnd, .gnd, .gnd, .gnd, .gnd, .gnd, .gnd, .gnd, .gnd, .gnd, .gnd, .gnd, .gnd, .shield 5]
  | 7 => [.driveB 1, .senseB 1, .gnd, .gnd, .gnd, .gnd, .gnd, .gnd, .gnd, .gnd, .gnd, .gnd, .gnd, .gnd, .senseB 5, .driveB 5]
  | 8 => [.driveA 2, .senseA 2, .gnd, .gnd, .gnd, .gnd, .gnd, .gnd, .gnd, .gnd, .gnd, .gnd, .gnd, .gnd, .senseA 6, .driveA 6]
  | 9 => [.shield 2, .gnd, .gnd, .gnd, .gnd, .gnd, .gnd, .gnd, .gnd, .gnd, .gnd, .gnd, .gnd, .gnd, .gnd, .shield 6]
  | 10 => [.driveB 2, .senseB 2, .gnd, .gnd, .gnd, .gnd, .gnd, .gnd, .gnd, .gnd, .gnd, .gnd, .gnd, .gnd, .senseB 6, .driveB 6]
  | 11 => [.driveA 3, .senseA 3, .gnd, .gnd, .gnd, .gnd, .gnd, .gnd, .gnd, .gnd, .gnd, .gnd, .gnd, .gnd, .senseA 7, .driveA 7]
  | 12 => [.shield 3, .gnd, .gnd, .gnd, .gp 0, .gp 1, .gp 2, .gp 3, .gp 4, .gp 5, .gp 6, .gp 7, .gnd, .gnd, .gnd, .shield 7]
  | 13 => [.driveB 3, .senseB 3, .gnd, .gnd, .gp 8, .gp 9, .gp 10, .gp 11, .gp 12, .gp 13, .gp 14, .gp 15, .gnd, .gnd, .senseB 7, .driveB 7]
  | 14 => [.gnd, .gnd, .gnd, .gnd, .gnd, .gnd, .res, .res, .res, .res, .gnd, .gnd, .gnd, .gnd, .gnd, .gnd]
  | 15 => [.gnd, .gnd, .gnd, .ant 1, .gnd, .tst 0, .tst 1, .tst 2, .tst 3, .tst 4, .tst 5, .gnd, .ant 2, .gnd, .gnd, .gnd]
  | _ => []

/-- The pad in a row (A is 0) and a column (1 to 16). -/
def padAt (row col : Nat) : PadName := (padRow row).getD (col - 1) .res

/-! ### What each pad does -/

/-- A pad is left at high impedance or driven. -/
inductive PadLevel where
  | z | low | high
deriving DecidableEq, Repr, Inhabited

/-- The conditions of R428. -/
inductive PadCond where
  | unpowered | start | preReady | service | sleep
deriving DecidableEq, Repr, Inhabited

/-- Steps 4 and 5 of Table 19-1 are not over: the gate of step 7 follows them and the 11.0 ms of step 6. -/
def State.beforeStep6 (s : State) : Bool := s.phase = .gate && decide (s.now + usQuanta 11000 < s.gateT0)

def State.padCond (s : State) : PadCond :=
  match s.phase with
  | .off => .unpowered
  | .service => if s.power = .sleep then .sleep else .service
  | _ => if s.beforeStep6 then .start else .preReady

/-- R429: no pad is driven high before ready, nor in SLEEP with VOUT_3V3 off. -/
def State.mayDriveHigh (s : State) : Bool :=
  match s.padCond with
  | .service => true
  | .sleep => s.supply.vout ≠ .off
  | _ => false

/-- A push-pull level under R429. -/
def State.driven (s : State) (level : Bool) : PadLevel := if ¬ level then .low else if s.mayDriveHigh then .high else .z

/-- An IRQ line (R416): active or inactive by POLARITY; open-drain drives low only. A pulse in progress keeps the LINE_MODE it began
with. -/
def State.irqPad (s : State) (l : Nat) : PadLevel :=
  if s.padCond = .unpowered || s.padCond = .start then .z
  else
    let x := s.lines.getD l {}
    let m := if x.phase = .pulse then x.mode else s.nat (0x3602_01 + l)
    let level := s.lineActive l == m.testBit 2
    if m.testBit 3 && level then .z else s.driven level

/-- SPI_RDY (R329): high in service between frames, low until the last one's writes have taken effect. -/
def State.spiRdyPad (s : State) : PadLevel :=
  match s.padCond with
  | .unpowered => .z
  | .service => if (s.session .spi).readyT ≤ s.now then .high else .low
  | _ => .low

/-- PWR_GOOD (R212). -/
def State.pwrGoodPad (s : State) : PadLevel :=
  match s.padCond with
  | .unpowered => .z
  | .service => if s.supply.pwrGood then .high else .low
  | .sleep => if s.nat 0x2001_01 = 2 && s.supply.pwrGood then s.driven true else .low
  | .start | .preReady => .low

/-- MA_SYNC_OUT (R34). -/
def State.maSyncPad (s : State) : PadLevel :=
  match s.padCond with
  | .unpowered => .z
  | .service => if s.ma.sync then .high else .low
  | _ => .low

/-- UART_TX at rest: idle high in ROM recovery, and in service with UART_MODE not 0. -/
def State.uartTxPad (s : State) : PadLevel :=
  if s.phase = .recovery then .high else if s.padCond = .service && decide (s.nat 0x1001_01 ≠ 0) then .high else .z

/-- MISO is driven: in service, while CS_N is low. -/
def State.misoDriven (s : State) (csLow : Bool) : Bool := s.padCond = .service && csLow

/-- CS_N, UART_RX and RST_N are pulled up with 47 kΩ. -/
def State.inputsPulledUp (s : State) : Bool := s.padCond ≠ .unpowered

/-- The pull of a GP pad: none, up or down, as PULL sets it for an input and for a released open-drain output (R431); none up to the
end of step 5 (R433). -/
def State.gpPull (s : State) (n : Nat) : PadLevel :=
  if s.padCond = .unpowered || s.padCond = .start then .z
  else if s.padDir n = 0 || (s.padDir n = 2 && s.padOut n) then
    match s.nat (padKey n 2) with
    | 1 => .high
    | 2 => .low
    | _ => .z
  else .z

/-- A GP pad as the module drives it (R431); an input without pull up to the end of step 5 (R433). -/
def State.gpPad (s : State) (n : Nat) : PadLevel :=
  if s.padCond = .unpowered || s.padCond = .start then .z
  else match s.padDir n with
    | 1 => s.driven (s.padOut n)
    | 2 => if s.padOut n then .z else .low
    | _ => .z

/-- The tag switch of port 0 is closed (R435). -/
def State.tagSwitch (s : State) : Bool := s.phase = .off || s.power = .sleep || s.assigned

/-- What stands behind the drive pads of a port: nothing, the tag rectifier, the clamped bridge, or the bridge as it drives. -/
inductive DrivePads where
  | z | tag | clamped | driven
deriving DecidableEq, Repr, Inhabited

/-- FPn_DA and FPn_DB (Table 21-4, R64, R435): a port in OFF or CHARGING, or whose summed component is zero, is clamped; a bridge in
FAULT is off (Table 3-6). -/
def State.drivePads (s : State) (p : Nat) : DrivePads :=
  if p = 0 && s.tagSwitch then .tag
  else match s.padCond with
    | .unpowered | .sleep => .z
    | .start | .preReady => .clamped
    | .service => match s.stateSeen p with
      | .fault => .z
      | .off | .charging => .clamped
      | _ => if s.ampNow p = 0 then .clamped else .driven

/-- VOUT_3V3 gives its voltage (Table 21-4, R214). -/
def State.voutPad (s : State) : Bool := (s.padCond = .service || s.padCond = .sleep) && s.supply.vout ≠ .off && s.supply.vout ≠ .fault

/-- VOUT_3V3 off is discharged through 1 kΩ: up to the end of step 5 (Table 21-4). -/
def State.voutDischarge (s : State) : Bool := s.padCond = .start

/-- An aerial pad carries radio power: in service, as the radio's state and its aerial in use have it. -/
def State.aerialSends (s : State) (a : Nat) : Bool := s.padCond = .service && s.radio.state = .tx && decide (s.radio.aerial = a)

/-- The maker test pads are enabled (R373, R427). -/
def State.testPads (s : State) : Bool := s.padCond = .service && s.testAccess

end Sys2Proof.Machine
end

