-- ==== Sys2Proof/Machine/Dispatch.lean ====
section
/-!
DEFINITION. One arm per command: the meaning it calls.
-/

namespace Sys2Proof.Machine

open Sys2Proof

/-- The effect of a command on everything but the queue. -/
def exec (i : Instr) (s : State) : Host.Outcome State Fault Refusal :=
  match i with
  | .zeroCrossingEdge positive => Sys2Proof.Machine.execZeroCrossingEdge positive s
  | .edgeWindowEnd => Sys2Proof.Machine.execEdgeWindowEnd s
  | .acquireTimeout => Sys2Proof.Machine.execAcquireTimeout s
  | .angleWrap => Sys2Proof.Machine.execAngleWrap s
  | .blankingWindowEdge => Sys2Proof.Machine.execBlankingWindowEdge s
  | .learnPassEnd levels => Sys2Proof.Machine.execLearnPassEnd levels s
  | .burgeeOccurrence w half => Sys2Proof.Machine.execBurgeeOccurrence w half s
  | .maSyncPulse => Sys2Proof.Machine.execMaSyncPulse s
  | .maSyncPulseEnd => Sys2Proof.Machine.execMaSyncPulseEnd s
  | .angleRead who => Sys2Proof.Machine.execAngleRead who s
  | .maStatRead => Sys2Proof.Machine.execMaStatRead s
  | .blankSlotWrite who b length value => Sys2Proof.Machine.execBlankSlotWrite who b length value s
  | .chargingComplete p bridgeOk => Sys2Proof.Machine.execChargingComplete p bridgeOk s
  | .rampUpComplete p loadR loadX lowCurrent => Sys2Proof.Machine.execRampUpComplete p loadR loadX lowCurrent s
  | .rampDownComplete p => Sys2Proof.Machine.execRampDownComplete p s
  | .componentTransitionEnd p lane => Sys2Proof.Machine.execComponentTransitionEnd p lane s
  | .firTailEnd p lane above => Sys2Proof.Machine.execFirTailEnd p lane above s
  | .portFaultDetect p code => Sys2Proof.Machine.execPortFaultDetect p code s
  | .portLoadCheck p loadR loadX power temp lowCurrent => Sys2Proof.Machine.execPortLoadCheck p loadR loadX power temp lowCurrent s
  | .faultRecheck p pass temp => Sys2Proof.Machine.execFaultRecheck p pass temp s
  | .faultCodeWrite who p value => Sys2Proof.Machine.execFaultCodeWrite who p value s
  | .fieldCapWrite who p value => Sys2Proof.Machine.execFieldCapWrite who p value s
  | .firSetWrite who set coef => Sys2Proof.Machine.execFirSetWrite who set coef s
  | .firCheckDone set => Sys2Proof.Machine.execFirCheckDone set s
  | .firMapWrite who p mode set => Sys2Proof.Machine.execFirMapWrite who p mode set s
  | .maskWrite who mask => Sys2Proof.Machine.execMaskWrite who mask s
  | .portTestModeWrite who p value => Sys2Proof.Machine.execPortTestModeWrite who p value s
  | .portTestTimeEnd p => Sys2Proof.Machine.execPortTestTimeEnd p s
  | .surveyCmd who value => Sys2Proof.Machine.execSurveyCmd who value s
  | .surveyPeriodExpiry => Sys2Proof.Machine.execSurveyPeriodExpiry s
  | .surveyStart => Sys2Proof.Machine.execSurveyStart s
  | .surveySolve drive coil sensed => Sys2Proof.Machine.execSurveySolve drive coil sensed s
  | .teach who z value => Sys2Proof.Machine.execTeach who z value s
  | .teachTimeout z => Sys2Proof.Machine.execTeachTimeout z s
  | .refVectorWrite who z v => Sys2Proof.Machine.execRefVectorWrite who z v s
  | .pairsWrite who n pairs => Sys2Proof.Machine.execPairsWrite who n pairs s
  | .laneAdmission => Sys2Proof.Machine.execLaneAdmission s
  | .admitWaitExpiry l => Sys2Proof.Machine.execAdmitWaitExpiry l s
  | .laneClosed l => Sys2Proof.Machine.execLaneClosed l s
  | .liveNullRecompute => Sys2Proof.Machine.execLiveNullRecompute s
  | .cancellerAcquire p predicted measured => Sys2Proof.Machine.execCancellerAcquire p predicted measured s
  | .acquisitionEnd p found => Sys2Proof.Machine.execAcquisitionEnd p found s
  | .suppressionLoss p suppression predicted => Sys2Proof.Machine.execSuppressionLoss p suppression predicted s
  | .cancellerIdle p predicted measured => Sys2Proof.Machine.execCancellerIdle p predicted measured s
  | .rxOverload p => Sys2Proof.Machine.execRxOverload p s
  | .gainRestore p => Sys2Proof.Machine.execGainRestore p s
  | .replyStart l heard => Sys2Proof.Machine.execReplyStart l heard s
  | .falseStart l => Sys2Proof.Machine.execFalseStart l s
  | .replyComplete l r => Sys2Proof.Machine.execReplyComplete l r s
  | .noiseMeasurement dens => Sys2Proof.Machine.execNoiseMeasurement dens s
  | .resetGuardEnd l => Sys2Proof.Machine.execResetGuardEnd l s
  | .commandStart l => Sys2Proof.Machine.execCommandStart l s
  | .noReplyDecision x => Sys2Proof.Machine.execNoReplyDecision x s
  | .verdictLate l => Sys2Proof.Machine.execVerdictLate l s
  | .presenceCheck l => Sys2Proof.Machine.execPresenceCheck l s
  | .presenceTimeout l => Sys2Proof.Machine.execPresenceTimeout l s
  | .holdRelease h => Sys2Proof.Machine.execHoldRelease h s
  | .hostExchange who l => Sys2Proof.Machine.execHostExchange who l s
  | .pollRequest who l => Sys2Proof.Machine.execPollRequest who l s
  | .exchTimeout x => Sys2Proof.Machine.execExchTimeout x s
  | .freePing p extMv => Sys2Proof.Machine.execFreePing p extMv s
  | .frondOccurrenceSkip p => Sys2Proof.Machine.execFrondOccurrenceSkip p s
  | .lanePing p => Sys2Proof.Machine.execLanePing p s
  | .frondPingDecision p z sensed => Sys2Proof.Machine.execFrondPingDecision p z sensed s
  | .disarmAbsorb p => Sys2Proof.Machine.execDisarmAbsorb p s
  | .baseReset who p value => Sys2Proof.Machine.execBaseReset who p value s
  | .frondConfigWrite who port item value => Sys2Proof.Machine.execFrondConfigWrite who port item value s
  | .tagFieldOn => Sys2Proof.Machine.execTagFieldOn s
  | .tagFieldLoss => Sys2Proof.Machine.execTagFieldLoss s
  | .lichenLatchExpiry => Sys2Proof.Machine.execLichenLatchExpiry s
  | .inventory r afi slots16 mask => Sys2Proof.Machine.execInventory r afi slots16 mask s
  | .stayQuiet r => Sys2Proof.Machine.execStayQuiet r s
  | .selectCard r => Sys2Proof.Machine.execSelectCard r s
  | .resetToReady r => Sys2Proof.Machine.execResetToReady r s
  | .readSingleBlock r block => Sys2Proof.Machine.execReadSingleBlock r block s
  | .extendedReadSingleBlock r block => Sys2Proof.Machine.execExtendedReadSingleBlock r block s
  | .writeSingleBlock r p block data => Sys2Proof.Machine.execWriteSingleBlock r p block data s
  | .extendedWriteSingleBlock r p block data => Sys2Proof.Machine.execExtendedWriteSingleBlock r p block data s
  | .readMultipleBlocks r first more => Sys2Proof.Machine.execReadMultipleBlocks r first more s
  | .extendedReadMultipleBlocks r first more => Sys2Proof.Machine.execExtendedReadMultipleBlocks r first more s
  | .writeMultipleBlocks r p first more data => Sys2Proof.Machine.execWriteMultipleBlocks r p first more data s
  | .extendedWriteMultipleBlocks r p first more data => Sys2Proof.Machine.execExtendedWriteMultipleBlocks r p first more data s
  | .writeAfi r p v => Sys2Proof.Machine.execWriteAfi r p v s
  | .writeDsfid r p v => Sys2Proof.Machine.execWriteDsfid r p v s
  | .getSystemInformation r => Sys2Proof.Machine.execGetSystemInformation r s
  | .extendedGetSystemInformation r => Sys2Proof.Machine.execExtendedGetSystemInformation r s
  | .getMultipleBlockSecurityStatus r first more => Sys2Proof.Machine.execGetMultipleBlockSecurityStatus r first more s
  | .extGetMultiBlockSecurityStatus r first more => Sys2Proof.Machine.execExtGetMultiBlockSecurityStatus r first more s
  | .tagUnsupportedCommand r code => Sys2Proof.Machine.execTagUnsupportedCommand r code s
  | .getPwdNonce r mfg => Sys2Proof.Machine.execGetPwdNonce r mfg s
  | .presentPwd r mfg pn => Sys2Proof.Machine.execPresentPwd r mfg pn s
  | .authBegin r mfg slot => Sys2Proof.Machine.execAuthBegin r mfg slot s
  | .authFinish r mfg rndR macR => Sys2Proof.Machine.execAuthFinish r mfg rndR macR s
  | .logout r mfg => Sys2Proof.Machine.execLogout r mfg s
  | .getTagStatus r mfg => Sys2Proof.Machine.execGetTagStatus r mfg s
  | .stageApply r p mfg seq => Sys2Proof.Machine.execStageApply r p mfg seq s
  | .tagLockoutEnd => Sys2Proof.Machine.execTagLockoutEnd s
  | .rollForward rail cap => Sys2Proof.Machine.execRollForward rail cap s
  | .stagedSetApply => Sys2Proof.Machine.execStagedSetApply s
  | .statusBlockWrite => Sys2Proof.Machine.execStatusBlockWrite s
  | .storeRead who => Sys2Proof.Machine.execStoreRead who s
  | .storeWriteGroup who => Sys2Proof.Machine.execStoreWriteGroup who s
  | .holdWrite who value => Sys2Proof.Machine.execHoldWrite who value s
  | .holdMaxExpiry => Sys2Proof.Machine.execHoldMaxExpiry s
  | .port0Release => Sys2Proof.Machine.execPort0Release s
  | .verdictReady => Sys2Proof.Machine.execVerdictReady s
  | .tableInsert who => Sys2Proof.Machine.execTableInsert who s
  | .tableDelete who => Sys2Proof.Machine.execTableDelete who s
  | .tableLookup who => Sys2Proof.Machine.execTableLookup who s
  | .tableClearAll who => Sys2Proof.Machine.execTableClearAll who s
  | .tableWindowWrite who e entry => Sys2Proof.Machine.execTableWindowWrite who e entry s
  | .ruleTrigger => Sys2Proof.Machine.execRuleTrigger s
  | .sceneStep n => Sys2Proof.Machine.execSceneStep n s
  | .gpioPulseEnd n => Sys2Proof.Machine.execGpioPulseEnd n s
  | .sourceLoss aux => Sys2Proof.Machine.execSourceLoss aux s
  | .sourcePresence aux => Sys2Proof.Machine.execSourcePresence aux s
  | .preferredSourceReturn => Sys2Proof.Machine.execPreferredSourceReturn s
  | .storeLevelCrossing mv => Sys2Proof.Machine.execStoreLevelCrossing mv s
  | .shutdown => Sys2Proof.Machine.execShutdown s
  | .voutFault low => Sys2Proof.Machine.execVoutFault low s
  | .voutRetry => Sys2Proof.Machine.execVoutRetry s
  | .halyardTick => Sys2Proof.Machine.execHalyardTick s
  | .halyardClaim who mw prio deadline => Sys2Proof.Machine.execHalyardClaim who mw prio deadline s
  | .halyardRelease who keep => Sys2Proof.Machine.execHalyardRelease who keep s
  | .thermalUpdate input m => Sys2Proof.Machine.execThermalUpdate input m s
  | .queuePushWord w => Sys2Proof.Machine.execQueuePushWord w s
  | .commitBunting tail => Sys2Proof.Machine.execCommitBunting tail s
  | .abortBunting => Sys2Proof.Machine.execAbortBunting s
  | .queuePopRead => Sys2Proof.Machine.execQueuePopRead s
  | .queDrop => Sys2Proof.Machine.execQueDrop s
  | .hardwarePush q who data pop => Sys2Proof.Machine.execHardwarePush q who data pop s
  | .hardwarePop q who => Sys2Proof.Machine.execHardwarePop q who s
  | .poolFreeMinRead => Sys2Proof.Machine.execPoolFreeMinRead s
  | .tbWrap => Sys2Proof.Machine.execTbWrap s
  | .tbLoRead sess => Sys2Proof.Machine.execTbLoRead sess s
  | .poweredSecond => Sys2Proof.Machine.execPoweredSecond s
  | .compareFire n => Sys2Proof.Machine.execCompareFire n s
  | .compareValueWrite who n value => Sys2Proof.Machine.execCompareValueWrite who n value s
  | .compareCtrlWrite who n value => Sys2Proof.Machine.execCompareCtrlWrite who n value s
  | .captureEdge c rising off => Sys2Proof.Machine.execCaptureEdge c rising off s
  | .captureValueRead who c => Sys2Proof.Machine.execCaptureValueRead who c s
  | .lcOverflow n => Sys2Proof.Machine.execLcOverflow n s
  | .lcCountWrite who n value => Sys2Proof.Machine.execLcCountWrite who n value s
  | .lcPrescaleWrite who n ctrl value => Sys2Proof.Machine.execLcPrescaleWrite who n ctrl value s
  | .radioTransitionComplete => Sys2Proof.Machine.execRadioTransitionComplete s
  | .radioTxFrame => Sys2Proof.Machine.execRadioTxFrame s
  | .radioTimedStart => Sys2Proof.Machine.execRadioTimedStart s
  | .radioDeadline => Sys2Proof.Machine.execRadioDeadline s
  | .radioTxEnd => Sys2Proof.Machine.execRadioTxEnd s
  | .radioPreambleDetect a1 b1 a2 b2 early rssi rate => Sys2Proof.Machine.execRadioPreambleDetect a1 b1 a2 b2 early rssi rate s
  | .rxCapture a1 b1 a2 b2 early rssi rate mean => Sys2Proof.Machine.execRxCapture a1 b1 a2 b2 early rssi rate mean s
  | .radioRxFrame sync header payload ago off rssi freq quality rate heard => Sys2Proof.Machine.execRadioRxFrame sync header payload ago off rssi freq quality rate heard s
  | .sniffWake => Sys2Proof.Machine.execSniffWake s
  | .sniffListenEnd => Sys2Proof.Machine.execSniffListenEnd s
  | .synthCalibration => Sys2Proof.Machine.execSynthCalibration s
  | .synthUnlock => Sys2Proof.Machine.execSynthUnlock s
  | .dutyBinAdvance => Sys2Proof.Machine.execDutyBinAdvance s
  | .radioTestModeWrite who value => Sys2Proof.Machine.execRadioTestModeWrite who value s
  | .radioTestTimeEnd => Sys2Proof.Machine.execRadioTestTimeEnd s
  | .radioNoiseMeasurement a b => Sys2Proof.Machine.execRadioNoiseMeasurement a b s
  | .ldpcHoldExpiry n => Sys2Proof.Machine.execLdpcHoldExpiry n s
  | .plTxFrame => Sys2Proof.Machine.execPlTxFrame s
  | .plTimedStart => Sys2Proof.Machine.execPlTimedStart s
  | .plTxEnd => Sys2Proof.Machine.execPlTxEnd s
  | .plRxFrame header data pilots mean level snr signal angle => Sys2Proof.Machine.execPlRxFrame header data pilots mean level snr signal angle s
  | .tonemapIssue n => Sys2Proof.Machine.execTonemapIssue n s
  | .notchWrite who x high value => Sys2Proof.Machine.execNotchWrite who x high value s
  | .lineStateChange vrms => Sys2Proof.Machine.execLineStateChange vrms s
  | .plNoiseMeasurement levels => Sys2Proof.Machine.execPlNoiseMeasurement levels s
  | .plCalibration => Sys2Proof.Machine.execPlCalibration s
  | .spiFrame sent extra => Sys2Proof.Machine.execSpiFrame sent extra s
  | .uartFrame line => Sys2Proof.Machine.execUartFrame line s
  | .odAddrWrite sess w => Sys2Proof.Machine.execOdAddrWrite sess w s
  | .odDataAccess sess w => Sys2Proof.Machine.execOdDataAccess sess w s
  | .odRead sess ofs => Sys2Proof.Machine.execOdRead sess ofs s
  | .odWrite via => Sys2Proof.Machine.execOdWrite via s
  | .odAbort sess => Sys2Proof.Machine.execOdAbort sess s
  | .fastRegisterWrite sess word w => Sys2Proof.Machine.execFastRegisterWrite sess word w s
  | .messageHandover => Sys2Proof.Machine.execMessageHandover s
  | .dravlinkFrameReceive pl => Sys2Proof.Machine.execDravlinkFrameReceive pl s
  | .ackReceived pl => Sys2Proof.Machine.execAckReceived pl s
  | .ackWaitExpiry m pl => Sys2Proof.Machine.execAckWaitExpiry m pl s
  | .retryHandover m pl => Sys2Proof.Machine.execRetryHandover m pl s
  | .transactionTimeout txn n => Sys2Proof.Machine.execTransactionTimeout txn n s
  | .dravlinkOdRequest => Sys2Proof.Machine.execDravlinkOdRequest s
  | .replyCacheExpiry n => Sys2Proof.Machine.execReplyCacheExpiry n s
  | .resyncEnd => Sys2Proof.Machine.execResyncEnd s
  | .wakeHoldEnd => Sys2Proof.Machine.execWakeHoldEnd s
  | .roleNonce sess => Sys2Proof.Machine.execRoleNonce sess s
  | .roleClaim who claim => Sys2Proof.Machine.execRoleClaim who claim s
  | .claimLockoutEnd sess => Sys2Proof.Machine.execClaimLockoutEnd sess s
  | .roleIdleExpiry sess => Sys2Proof.Machine.execRoleIdleExpiry sess s
  | .keyWrite who key value => Sys2Proof.Machine.execKeyWrite who key value s
  | .tidReset who n value => Sys2Proof.Machine.execTidReset who n value s
  | .annotate who note => Sys2Proof.Machine.execAnnotate who note s
  | .audAckWrite who value => Sys2Proof.Machine.execAudAckWrite who value s
  | .erase who => Sys2Proof.Machine.execErase who s
  | .verifyImage who => Sys2Proof.Machine.execVerifyImage who s
  | .activate who => Sys2Proof.Machine.execActivate who s
  | .confirm who => Sys2Proof.Machine.execConfirm who s
  | .revert who => Sys2Proof.Machine.execRevert who s
  | .fwChunkWrite who chunk => Sys2Proof.Machine.execFwChunkWrite who chunk s
  | .fwCmdComplete fault => Sys2Proof.Machine.execFwCmdComplete fault s
  | .fwTrialExpiry => Sys2Proof.Machine.execFwTrialExpiry s
  | .attestCmd who value => Sys2Proof.Machine.execAttestCmd who value s
  | .attestationComplete => Sys2Proof.Machine.execAttestationComplete s
  | .testAccess who value => Sys2Proof.Machine.execTestAccess who value s
  | .selfTestSlice x => Sys2Proof.Machine.execSelfTestSlice x s
  | .eccCorrection g index unit addr bit uncorrectable hit => Sys2Proof.Machine.execEccCorrection g index unit addr bit uncorrectable hit s
  | .sensorRead t0 t1 t2 t3 t4 t5 => Sys2Proof.Machine.execSensorRead t0 t1 t2 t3 t4 t5 s
  | .calRequest who value => Sys2Proof.Machine.execCalRequest who value s
  | .calibrationStart p => Sys2Proof.Machine.execCalibrationStart p s
  | .calibrationComplete pl dg dp rg rp cre cim settled => Sys2Proof.Machine.execCalibrationComplete pl dg dp rg rp cre cim settled s
  | .coreStart => Sys2Proof.Machine.execCoreStart s
  | .startGate m => Sys2Proof.Machine.execStartGate m s
  | .startupSurvey => Sys2Proof.Machine.execStartupSurvey s
  | .readyForService => Sys2Proof.Machine.execReadyForService s
  | .rstN => Sys2Proof.Machine.execRstN s
  | .watchdogExpiry => Sys2Proof.Machine.execWatchdogExpiry s
  | .softReset who value => Sys2Proof.Machine.execSoftReset who value s
  | .restoreDefaults who value => Sys2Proof.Machine.execRestoreDefaults who value s
  | .standbyEntry => Sys2Proof.Machine.execStandbyEntry s
  | .standbyWake c => Sys2Proof.Machine.execStandbyWake c s
  | .sleepCmd who value => Sys2Proof.Machine.execSleepCmd who value s
  | .sleepEntry => Sys2Proof.Machine.execSleepEntry s
  | .sleepWake c => Sys2Proof.Machine.execSleepWake c s
  | .sleepLimit => Sys2Proof.Machine.execSleepLimit s
  | .debugHaltEntry => Sys2Proof.Machine.execDebugHaltEntry s
  | .debugHaltExit => Sys2Proof.Machine.execDebugHaltExit s
  | .eventClear word bits => Sys2Proof.Machine.execEventClear word bits s
  | .eventEnableWrite word bits => Sys2Proof.Machine.execEventEnableWrite word bits s
  | .routeWrite who e value => Sys2Proof.Machine.execRouteWrite who e value s
  | .lineModeWrite who l value => Sys2Proof.Machine.execLineModeWrite who l value s
  | .irqPulseEnd l => Sys2Proof.Machine.execIrqPulseEnd l s
  | .gpInputEdge n rising => Sys2Proof.Machine.execGpInputEdge n rising s
  | .gpOutWrite who pad value => Sys2Proof.Machine.execGpOutWrite who pad value s
  | .gpDirWrite who n value => Sys2Proof.Machine.execGpDirWrite who n value s
  | .switchoverComplete => Sys2Proof.Machine.execSwitchoverComplete s
  | .voutCurrentLimit beyond => Sys2Proof.Machine.execVoutCurrentLimit beyond s
  | .angleHalfCycle => Sys2Proof.Machine.execAngleHalfCycle s
  | .plPreambleDetect ago => Sys2Proof.Machine.execPlPreambleDetect ago s
  | .receiveWindowOpen l => Sys2Proof.Machine.execReceiveWindowOpen l s
  | .calDeferralLimit b => Sys2Proof.Machine.execCalDeferralLimit b s

end Sys2Proof.Machine
end

