-- ==== Sys2Proof/Machine/Step.lean ====
section
/-!
DEFINITION. One step: the command at the front of the queue, or, with an empty queue, what passing time does by itself
(log 2).
-/

namespace Sys2Proof.Machine

open Sys2Proof

/-- One slow-clock tick of SLEEP: the slow counter counts and nothing else runs (R249, R408). -/
def State.slowTick (s : State) : State := { s with now := s.now + quantaSlow, tb := { s.tb with slow := s.tb.slow + 1 } }

/-- Time passes while no command waits (log 2): one fabric clock while the core domain is powered, one slow-clock tick in
SLEEP, and time alone while it is unpowered. -/
def State.idleTick (s : State) : State :=
  if s.phase = .off then { s with now := s.now + quantaFabric }
  else if s.power = .sleep then s.slowTick
  else (s.fabricTick s.frozen).idleFollow

/-- Take the command at the front of the queue and run it on the queue's rest; on an empty queue, let time pass. -/
def step (s : State) : Host.Outcome State Fault Refusal :=
  match s.pending with
  | [] => doneAny s s.idleTick
  | c :: rest => exec c { s with pending := rest }

/-- The table gives its commands no bits, so no word spells a command and the state stays as it is (log 10). -/
def State.withFetchWord (s : State) (nbits w : Nat) : State :=
  match Sys2Proof.decodeTableWord nbits w with
  | some c => { s with pending := c :: s.pending }
  | none => s

end Sys2Proof.Machine
end

