-- ==== Sys2Proof/Safety.lean ====
section
/-!
DEFINITION. What counts as a safe run, and the words the statements use: the invariant that every step keeps, and what it
means that a command completes.
-/

namespace Sys2Proof.Machine

open Sys2Proof

/-- The invariant of the block: the dictionary's and the commissioning store's cells are in canonical form, and every list of
a fixed number of like things (lines, ports, pennants, lanes, sequencers, holds, sessions, slots, peers, queues …) has that
number. -/
abbrev State.Inv (s : State) : Prop :=
  s.od.wf = true ∧ s.store.wf = true ∧
  s.lines.length = 4 ∧ s.ports.length = 8 ∧ s.pennants.length = 64 ∧ s.teach.length = 16 ∧ s.lanes.length = 4 ∧ s.rx.length = 8 ∧
  s.seqs.length = 4 ∧ s.holds.length = 64 ∧ s.fronds.length = 8 ∧ s.sessions.length = 2 ∧ s.pulses.length = 16 ∧
  s.tb.cmpW.length = 16 ∧ s.tb.lcPre.length = 4 ∧ s.ma.blank.length = 8 ∧ s.ma.carry.length = 8 ∧ s.ma.burgee.length = 32 ∧
  s.pl.peers.length = 64 ∧ s.link.peers.length = 64 ∧ s.pool.queues.length = 32 ∧ s.firmware.slots.length = 2

/-- Command c at s answers a next state, and that state satisfies the postcondition. -/
def Completes (c : Instr) (s : State) (post : State → Prop) : Prop := ∃ t, exec c s = .next t ∧ post t

/-- The tag hears this request: it may answer, the frame is good and in a mode the tag has, and it is for the tag in its state
(R168, R169). -/
def State.heardReq (s : State) (r : TagReq) : Bool :=
  s.tagAnswers && r.good && !r.dual && r.high && s.tagHears r

/-- A group of n blocks from b, of the field, the host or the module, stands among those in progress or waiting (R178, R186). -/
def State.groupAt (s : State) (b n : Nat) (field host : Bool) : Bool :=
  s.tag.groups.any fun g => decide (g.first = b) && decide (g.n = n) && g.field == field && g.host == host

/-- A waiting group that a write of the field, or of the host, overtakes covers block b: the block holds that group's data in the
end (R186). -/
def State.overtakenAt (s : State) (b : Nat) (field : Bool) : Bool := (s.tag.overtaken s.now field !field).any fun g => g.covers b

/-- The four random bytes that the state draws next. -/
def State.freshFour (s : State) : List Byte := (s.randomBytes 4).1

/-- A group of n blocks from b may be written by the field with this data in this form, its block numbers taking so many bytes
of a frame that the tag accepts, and S0's checks hold (R167, R178, R179, R183, R186). -/
def State.fieldMayWrite (s : State) (r : TagReq) (p : TagPower) (numbers b n top : Nat) (data : List Byte) : Bool :=
  s.heardReq r && !r.option && decide (data.length = 32 * n) && decide (writeFrame r numbers data ≤ 270) && decide (b + n ≤ top) && decide (n ≤ 8) && oneRegion b n &&
    (regionOf b).writable && s.stageLevel && decide (s.gateError p = none) &&
    !(hasHeader b n && decide (1 < uAt data (32 * (16 - b) + 3) 1))

/-- This write comes in service, is taken at once and passes every check of R325, and no open lane defers it (R92, R327, R409). -/
def State.writes (s : State) (who : Who) (k : Nat) (b : List Byte) : Bool :=
  s.phase = .service && s.serves who && !s.halted && decide (s.odWriteStatus who k b = .ok) && !s.defers k

/-- The commands that need no powered core domain: those of the supply and the line's measurement, the reader's requests to the
tag domain with what the tag does by itself, and CORE_START. -/
def needsNoCore : Instr → Bool
  | .sourceLoss _ | .sourcePresence _ | .switchoverComplete | .storeLevelCrossing _ | .voutCurrentLimit _ | .voutFault _ | .voutRetry
  | .lineStateChange _ | .coreStart
  | .tagFieldOn | .tagFieldLoss | .lichenLatchExpiry | .inventory .. | .stayQuiet _ | .selectCard _ | .resetToReady _
  | .readSingleBlock .. | .extendedReadSingleBlock .. | .readMultipleBlocks .. | .extendedReadMultipleBlocks ..
  | .writeSingleBlock .. | .extendedWriteSingleBlock .. | .writeMultipleBlocks .. | .extendedWriteMultipleBlocks ..
  | .writeAfi .. | .writeDsfid .. | .getSystemInformation _ | .extendedGetSystemInformation _ | .getMultipleBlockSecurityStatus ..
  | .extGetMultiBlockSecurityStatus .. | .tagUnsupportedCommand .. | .getPwdNonce .. | .presentPwd .. | .authBegin .. | .authFinish ..
  | .logout .. | .getTagStatus .. | .stageApply .. | .tagLockoutEnd | .rollForward .. => true
  | _ => false

/-- A step is safe where it answers a next state: no command of this block stops it (log 1). -/
def SafeStep (s : State) : Prop := ∃ t, step s = .next t

/-! ### What a command leaves as it is: the parts of the state, and sets of dictionary entries -/

/-- The model's time and the time base. -/
abbrev State.sameTime (s t : State) : Prop := t.now = s.now ∧ t.tb = s.tb

/-- The same, but that capture channels may take an edge. -/
abbrev State.sameClock (s t : State) : Prop := t.now = s.now ∧ t.tb = { s.tb with capOld := t.tb.capOld, capHeld := t.tb.capHeld }

/-- The radio but for its stored duty bins. -/
abbrev State.sameSaved (s t : State) : Prop :=
  t.radio = { s.radio with savedBins := t.radio.savedBins, savedBinS := t.radio.savedBinS, cleanSave := t.radio.cleanSave }

/-- Field ports, pulse shaping, survey, pennants, zones and lanes. -/
abbrev State.sameField (s t : State) : Prop :=
  t.ports = s.ports ∧ t.fir = s.fir ∧ t.firOk = s.firOk ∧ t.survey = s.survey ∧ t.pennants = s.pennants ∧ t.teach = s.teach ∧
  t.lanes = s.lanes ∧ t.requests = s.requests ∧ t.deferred = s.deferred ∧ t.dirty = s.dirty ∧ t.rrZone = s.rrZone ∧
  t.rrLane = s.rrLane ∧ t.turned = s.turned ∧ t.portCal = s.portCal ∧ t.assigned = s.assigned

/-- The protocol engine, its hold table, the match engine's queue and Frond. -/
abbrev State.sameEngine (s t : State) : Prop :=
  t.seqs = s.seqs ∧ t.holds = s.holds ∧ t.firstPoll = s.firstPoll ∧ t.lookups = s.lookups ∧ t.fronds = s.fronds ∧ t.wakes = s.wakes

/-- The receive paths. -/
abbrev State.sameReceive (s t : State) : Prop := t.rx = s.rx ∧ t.noiseT0 = s.noiseT0

/-- Radio, powerline link and Dravlink. -/
abbrev State.sameLinks (s t : State) : Prop := t.radio = s.radio ∧ t.pl = s.pl ∧ t.link = s.link ∧ t.txSeq = s.txSeq

/-- The tag domain and the commissioning store. -/
abbrev State.sameTag (s t : State) : Prop := t.tag = s.tag ∧ t.store = s.store

/-- Sources, VOUT_3V3 and the power state. -/
abbrev State.samePower (s t : State) : Prop := t.supply = s.supply ∧ t.power = s.power ∧ t.wakeDue = s.wakeDue

/-- The audit ring, the sessions, firmware, peers' TIDs and test access. -/
abbrev State.sameSecurity (s t : State) : Prop :=
  t.audit = s.audit ∧ t.sessions = s.sessions ∧ t.firmware = s.firmware ∧ t.tidSeen = s.tidSeen ∧ t.attestT0 = s.attestT0 ∧
  t.testAccess = s.testAccess ∧ t.testEntered = s.testEntered

/-- The phase of the start, debug halt, and the moments these are timed from. -/
abbrev State.sameModes (s t : State) : Prop :=
  t.phase = s.phase ∧ t.halted = s.halted ∧ t.haltSeen = s.haltSeen ∧ t.startT0 = s.startT0 ∧ t.gateT0 = s.gateT0 ∧
  t.idleT0 = s.idleT0 ∧ t.waits = s.waits ∧ t.rrLocal = s.rrLocal

/-- Self-test, calibration, running scenes and pad pulses. -/
abbrev State.sameWork (s t : State) : Prop := t.st = s.st ∧ t.cal = s.cal ∧ t.scenes = s.scenes ∧ t.pulses = s.pulses

/-- Calibration, running scenes and pad pulses stay, and of self-test and the mains angle nothing changes but what the end of
a slice in progress does (R379, R380): its group's count, and slot 31 where the group is escalated or no longer. -/
abbrev State.sameButSlice (s t : State) : Prop :=
  t.cal = s.cal ∧ t.scenes = s.scenes ∧ t.pulses = s.pulses ∧
  t.st = { s.st with run := t.st.run, counts := t.st.counts, escalated := t.st.escalated } ∧
  t.ma = { s.ma with burgee := s.ma.burgee.set 31 (t.ma.burgee.getD 31 {}) } ∧ (s.st.run = none → t.st = s.st ∧ t.ma = s.ma)

/-- The same, and a measurement of noise may count for a learning pass that runs (R25). -/
abbrev State.sameButNoise (s t : State) : Prop := s.sameButSlice { t with ma := { t.ma with heard := s.ma.heard } } ∧ (s.learning = false → t.ma.heard = s.ma.heard)

/-- Every dictionary entry but those of `may` holds in t what it holds in s. -/
def State.sameEntries (s t : State) (may : Nat → Bool) : Prop := ∀ k, may k = false → t.val k = s.val k

/-- Entry k stands at an index from a to b. -/
def atIndex (a b k : Nat) : Bool := decide (a ≤ k / 256) && decide (k / 256 ≤ b)

/-- What raising an event changes: the pending bits, counts and stamps, and the counts of refused triggers. -/
def eventEntry (k : Nat) : Bool :=
  atIndex 0x3600 0x3600 k || atIndex 0x3620 0x3620 k || atIndex 0x3630 0x3630 k || k = 0x2820_03 || k = 0x2820_04

/-- What the mains angle reports: its counters, what a learning pass writes, and the STATUS of each burgee window. -/
def mainsEntry (k : Nat) : Bool :=
  (0x2101_02 ≤ k && k ≤ 0x2101_07) || k = 0x2120_01 || atIndex 0x2130 0x2137 k || k = 0x2170_01 ||
    (atIndex 0x2140 0x215F k && k % 256 = 8)

/-- What the capture channels report. -/
def capEntry (k : Nat) : Bool := atIndex 0x2A30 0x2A37 k

/-- What ports, FIR checks, survey, pennants, zones and lanes report or compute, and Halyard's counts: not
the ports' configuration (OD 22p0 and 22p1), the mask, or OD 2342 and 2370. -/
def portEntry (k : Nat) : Bool :=
  (atIndex 0x2200 0x227F k && decide (2 ≤ k / 256 % 16)) || atIndex 0x2290 0x229F k || atIndex 0x22A1 0x22A1 k || atIndex 0x2300 0x2341 k ||
    atIndex 0x2350 0x2363 k || atIndex 0x2371 0x2371 k || atIndex 0x2012 0x2013 k

/-- What receive paths, sequencers and Frond report: not their configuration (OD 2410, 2500 and 2600). -/
def engineEntry (k : Nat) : Bool :=
  atIndex 0x2400 0x2407 k || atIndex 0x2411 0x2411 k || atIndex 0x2550 0x2553 k || atIndex 0x2560 0x2560 k || atIndex 0x2610 0x2617 k

/-- What the Moss pool reports and its queues' entries. -/
def poolEntry (k : Nat) : Bool := atIndex 0x2900 0x2900 k || atIndex 0x2910 0x292F k

/-- What self-test reports. -/
def testEntry (k : Nat) : Bool := atIndex 0x3400 0x3420 k

/-- What the end of a slice changes: self-test's reports, slot 31 and the windows' STATUS. -/
def sliceEntry (k : Nat) : Bool := testEntry k || atIndex 0x215F 0x215F k || (atIndex 0x2140 0x215F k && k % 256 = 8)

/-- What the tag domain reports, the failure count, AFI and DSFID. -/
def tagEntry (k : Nat) : Bool := atIndex 0x2740 0x2740 k || k = 0x2720_04 || k = 0x2700_03 || k = 0x2700_04

/-- AUD_NEXT and the ring's counts, and SEC_REASON. -/
def auditEntry (k : Nat) : Bool := atIndex 0x1900 0x1900 k && k ≠ 0x1900_02 && k ≠ 0x1900_03 || k = 0x1812_04

/-- What Dravlink, the radio and the powerline link report: not their configuration (OD 1010, 1011, 3000 but for TEST_MODE, 3010,
3200 but for what the line and the band report, 3201 and 3208). -/
def linkEntry (k : Nat) : Bool :=
  atIndex 0x1020 0x1020 k || atIndex 0x1100 0x113F k || k = 0x1813_01 || k = 0x3000_0C || atIndex 0x3002 0x3002 k ||
    atIndex 0x3020 0x3020 k || atIndex 0x3110 0x314F k || atIndex 0x3150 0x3160 k || k = 0x3200_0B || atIndex 0x3210 0x3220 k ||
    atIndex 0x3240 0x327F k

/-! ### Groups of commands of one shape -/

/-- What the mains-angle block does by itself, but for the burgee windows, and a read of its status. -/
def mainsCommand : Instr → Bool
  | .zeroCrossingEdge _ | .edgeWindowEnd | .acquireTimeout | .blankingWindowEdge | .learnPassEnd _ | .maSyncPulse | .maSyncPulseEnd
  | .maStatRead => true
  | _ => false

/-- The events of a clock, up to whose tick time passes (log 259). -/
def tickCommand : Instr → Bool
  | .angleWrap | .angleHalfCycle | .tbWrap | .poweredSecond | .lcOverflow _ => true
  | _ => false

/-- What happens at the field ports, the survey and the lanes. -/
def portCommand : Instr → Bool
  | .chargingComplete .. | .rampUpComplete .. | .rampDownComplete _ | .componentTransitionEnd .. | .firTailEnd .. | .portFaultDetect ..
  | .portLoadCheck .. | .faultRecheck .. | .firCheckDone _ | .portTestTimeEnd _ | .surveyPeriodExpiry | .surveyStart | .surveySolve ..
  | .teachTimeout _ | .laneAdmission | .admitWaitExpiry _ | .laneClosed _ | .liveNullRecompute => true
  | _ => false

/-- What happens in the receive paths alone. -/
def receiveCommand : Instr → Bool
  | .cancellerAcquire .. | .suppressionLoss .. | .cancellerIdle .. | .rxOverload _ | .gainRestore _ | .noiseMeasurement _ => true
  | _ => false

/-- What happens in the protocol engine's exchanges and in Frond, but for the decision of a ping. -/
def engineCommand : Instr → Bool
  | .acquisitionEnd .. | .receiveWindowOpen _ | .replyStart .. | .falseStart _ | .replyComplete .. | .resetGuardEnd _ | .commandStart _
  | .noReplyDecision .. | .verdictLate _ | .presenceCheck _ | .presenceTimeout _ | .holdRelease _ | .exchTimeout .. | .freePing ..
  | .frondOccurrenceSkip _ | .lanePing _ | .disarmAbsorb _ => true
  | _ => false

/-- A reader's request to the commissioning tag that writes no block, and what the field and the tag's timers do. -/
def tagQuiet : Instr → Bool
  | .tagFieldOn | .tagFieldLoss | .lichenLatchExpiry | .tagLockoutEnd
  | .inventory .. | .stayQuiet _ | .selectCard _ | .resetToReady _ | .readSingleBlock .. | .extendedReadSingleBlock ..
  | .readMultipleBlocks .. | .extendedReadMultipleBlocks .. | .writeAfi .. | .writeDsfid .. | .getSystemInformation _
  | .extendedGetSystemInformation _ | .getMultipleBlockSecurityStatus .. | .extGetMultiBlockSecurityStatus ..
  | .tagUnsupportedCommand .. | .getPwdNonce .. | .presentPwd .. | .authBegin .. | .authFinish .. | .logout .. | .getTagStatus .. => true
  | _ => false

/-- The first block and the number of blocks that a reader's request may write. -/
def blocksWritten : Instr → Option (Nat × Nat)
  | .writeSingleBlock _ _ block _ => some (block.toNat, 1)
  | .extendedWriteSingleBlock _ _ block _ => some (block.toNat, 1)
  | .writeMultipleBlocks _ _ first more _ => some (first.toNat, more.toNat + 1)
  | .extendedWriteMultipleBlocks _ _ first more _ => some (first.toNat, more.toNat + 1)
  | .stageApply .. => some (16, 1)
  | _ => none

/-- The steps among these that touch no more than their own entry, an exchange's end and an event. -/
def quietCommand : Instr → Bool
  | .falseStart _ | .presenceCheck _ | .holdRelease _ | .frondOccurrenceSkip _ | .disarmAbsorb _ | .verdictLate _ | .surveyPeriodExpiry | .teachTimeout _ => true
  | _ => false

/-- The start of a ping. -/
def startsPing : Instr → Bool
  | .freePing .. | .lanePing _ => true
  | _ => false

/-- The steps of radio, powerline link and Dravlink that end no frame and deliver nothing. -/
def quietLink : Instr → Bool
  | .synthCalibration | .dutyBinAdvance | .radioTimedStart | .radioPreambleDetect .. | .replyCacheExpiry _ | .resyncEnd
  | .plPreambleDetect .. | .plNoiseMeasurement _ | .plCalibration => true
  | _ => false

/-- What happens in the supply, and claims of Halyard. -/
def supplyCommand : Instr → Bool
  | .sourceLoss _ | .sourcePresence _ | .preferredSourceReturn | .storeLevelCrossing _ | .switchoverComplete | .voutFault _ | .voutRetry
  | .voutCurrentLimit _ | .halyardClaim .. | .halyardRelease .. => true
  | _ => false

/-- The operations of the Moss pool. -/
def poolCommand : Instr → Bool
  | .queuePushWord _ | .commitBunting .. | .abortBunting | .queuePopRead | .queDrop | .hardwarePush .. | .hardwarePop .. | .poolFreeMinRead => true
  | _ => false

/-- What happens in the radio, the powerline link and Dravlink. -/
def linkCommand : Instr → Bool
  | .radioTransitionComplete | .radioTxFrame | .radioTimedStart | .radioDeadline | .radioTxEnd | .radioPreambleDetect .. | .rxCapture ..
  | .radioRxFrame .. | .sniffWake | .sniffListenEnd | .synthCalibration | .synthUnlock | .dutyBinAdvance | .radioTestTimeEnd
  | .radioNoiseMeasurement .. | .ldpcHoldExpiry _ | .plTxFrame | .plTimedStart | .plTxEnd | .plPreambleDetect .. | .plRxFrame ..
  | .tonemapIssue _ | .lineStateChange _ | .plNoiseMeasurement _ | .messageHandover | .ackReceived _ | .ackWaitExpiry ..
  | .retryHandover .. | .transactionTimeout .. | .replyCacheExpiry _ | .resyncEnd | .wakeHoldEnd => true
  | _ => false

/-- What the time base, the sessions, firmware, attestation, pads, events and sensors do by themselves, and the fast registers'
reads and writes among them. -/
def timerCommand : Instr → Bool
  | .tbLoRead _ | .compareFire _ | .captureEdge .. | .odAddrWrite .. | .odDataAccess ..
  | .claimLockoutEnd _ | .roleIdleExpiry _ | .fwCmdComplete _ | .attestationComplete | .eccCorrection .. | .sensorRead .. | .calDeferralLimit _
  | .debugHaltEntry | .eventClear .. | .eventEnableWrite .. | .irqPulseEnd _ | .gpInputEdge .. | .gpioPulseEnd _ => true
  | _ => false

/-- Self-test, calibration, the later steps of the start, and the changes of the power state. -/
def modeCommand : Instr → Bool
  | .selfTestSlice _ | .calibrationStart _ | .calibrationComplete .. | .startGate _ | .startupSurvey | .standbyEntry | .standbyWake _
  | .sleepEntry | .sleepWake _ | .sleepLimit => true
  | _ => false

/-- Who writes which entry with which bytes, for the commands that are the write of one entry. -/
def entryWrite : Instr → Option (Who × Nat × List Byte)
  | .blankSlotWrite who b length value => some (who, 0x2130_01 + 0x100 * b.val + boolNat length, leBytes 2 value.toNat)
  | .faultCodeWrite who p value => some (who, portKey p 2 2, leBytes 1 value.toNat)
  | .fieldCapWrite who p value => some (who, portKey p 1 1, leBytes 2 value.toNat)
  | .firSetWrite who set coef => some (who, firKey set 1, coef)
  | .firMapWrite who p mode set => some (who, portKey p 4 (mode.val + 1), leBytes 1 set.toNat)
  | .maskWrite who mask => some (who, 0x22A0_01, mask)
  | .portTestModeWrite who p value => some (who, portKey p 5 1, leBytes 1 value.toNat)
  | .surveyCmd who value => some (who, 0x2340_01, leBytes 1 value.toNat)
  | .teach who z value => some (who, zoneKey z 6, leBytes 1 value.toNat)
  | .refVectorWrite who z v => some (who, zoneKey z 5, v)
  | .pairsWrite who n pairs => some (who, penKey n 7, pairs)
  | .hostExchange who l => some (who, hfKey l 1, leBytes 1 1)
  | .pollRequest who l => some (who, hfKey l 1, leBytes 1 2)
  | .baseReset who p value => some (who, frondKey p 0x14, leBytes 1 value.toNat)
  | .frondConfigWrite who (some p) _ value => some (who, frondKey p 1, leBytes 1 value.toNat)
  | .frondConfigWrite who none item value => some (who, 0x2600_03 + item.val, leBytes 2 value.toNat)
  | .storeRead who => some (who, 0x2730_04, leBytes 1 1)
  | .storeWriteGroup who => some (who, 0x2730_04, leBytes 1 2)
  | .holdWrite who value => some (who, 0x2701_04, leBytes 1 value.toNat)
  | .tableInsert who => some (who, 0x2810_01, leBytes 1 1)
  | .tableDelete who => some (who, 0x2810_01, leBytes 1 2)
  | .tableLookup who => some (who, 0x2810_01, leBytes 1 3)
  | .tableClearAll who => some (who, 0x2810_01, leBytes 1 4)
  | .tableWindowWrite who e entry => some (who, slotKey e, entry)
  | .compareValueWrite who n value => some (who, cmpKey n 2, leBytes 8 value.toNat)
  | .compareCtrlWrite who n value => some (who, cmpKey n 1, leBytes 1 value.toNat)
  | .lcCountWrite who i value => some (who, lcKey i 3, leBytes 2 value.toNat)
  | .lcPrescaleWrite who i ctrl value => some (who, lcKey i (if ctrl then 1 else 2), leBytes 1 value.toNat)
  | .radioTestModeWrite who value => some (who, 0x3000_0C, leBytes 1 value.toNat)
  | .notchWrite who x high value => some (who, 0x3208_01 + 0x100 * x.val + boolNat high, leBytes 2 value.toNat)
  | .roleClaim who claim => some (who, 0x1800_03, claim)
  | .keyWrite who key value => some (who, keyEntry key, value)
  | .tidReset who n value => some (who, 0x1820_02 + 0x100 * n.val, leBytes 1 value.toNat)
  | .annotate who note => some (who, 0x1902_01, note)
  | .audAckWrite who value => some (who, 0x1900_02, leBytes 4 value.toNat)
  | .erase who => some (who, 0x1A10_01, leBytes 1 1)
  | .verifyImage who => some (who, 0x1A10_01, leBytes 1 2)
  | .activate who => some (who, 0x1A10_01, leBytes 1 3)
  | .confirm who => some (who, 0x1A10_01, leBytes 1 4)
  | .revert who => some (who, 0x1A10_01, leBytes 1 5)
  | .fwChunkWrite who chunk => some (who, 0x1A10_03, chunk)
  | .attestCmd who value => some (who, 0x1A20_02, leBytes 1 value.toNat)
  | .testAccess who value => some (who, 0x1A40_01, leBytes 4 value.toNat)
  | .calRequest who value => some (who, 0x3500_01, leBytes 2 value.toNat)
  | .softReset who value => some (who, 0x3802_01, leBytes 4 value.toNat)
  | .restoreDefaults who value => some (who, 0x3803_01, leBytes 4 value.toNat)
  | .sleepCmd who value => some (who, 0x3800_03, leBytes 1 value.toNat)
  | .routeWrite who e value => some (who, 0x3610_01 + e.val, leBytes 1 value.toNat)
  | .lineModeWrite who l value => some (who, 0x3602_01 + l.val, leBytes 1 value.toNat)
  | .gpOutWrite who (some n) value => some (who, padKey n 4, leBytes 1 value.toNat)
  | .gpOutWrite who none value => some (who, 0x3710_02, leBytes 2 value.toNat)
  | .gpDirWrite who n value => some (who, padKey n 1, leBytes 1 value.toNat)
  | _ => none

/-- The writes of the security chapter's entries that can start no image. -/
def securityWrite : Instr → Bool
  | .roleClaim .. | .keyWrite .. | .tidReset .. | .annotate .. | .audAckWrite .. | .erase _ | .verifyImage _ | .confirm _ | .revert _
  | .fwChunkWrite .. | .attestCmd .. | .testAccess .. => true
  | _ => false

/-- The writes of the match table. -/
def tableWrite : Instr → Bool
  | .tableInsert _ | .tableDelete _ | .tableLookup _ | .tableClearAll _ | .tableWindowWrite .. => true
  | _ => false

/-- The writes of compare channels, line counters, event routes, line modes and GP pads. -/
def timerWrite : Instr → Bool
  | .compareValueWrite .. | .compareCtrlWrite .. | .lcCountWrite .. | .lcPrescaleWrite .. | .routeWrite .. | .lineModeWrite .. | .gpOutWrite ..
  | .gpDirWrite .. => true
  | _ => false

/-- The commands that no byte of the commissioning store depends on: all but a reader's writes, the groups of the tag and of the
module, the host's write, what can reach it through the dictionary, and the starts of an image. -/
def keepsStore (c : Instr) : Bool :=
  mainsCommand c || tickCommand c || portCommand c || receiveCommand c || engineCommand c || tagQuiet c || poolCommand c || linkCommand c ||
    timerCommand c || modeCommand c || securityWrite c || tableWrite c || timerWrite c ||
    (match c with
    | .burgeeOccurrence .. | .angleRead _ | .blankSlotWrite .. | .faultCodeWrite .. | .fieldCapWrite .. | .firSetWrite .. | .firMapWrite ..
    | .maskWrite .. | .portTestModeWrite .. | .surveyCmd .. | .teach .. | .refVectorWrite .. | .pairsWrite .. | .hostExchange .. | .pollRequest ..
    | .frondPingDecision .. | .baseReset .. | .frondConfigWrite .. | .storeRead _ | .holdWrite .. | .holdMaxExpiry | .port0Release | .verdictReady
    | .sourcePresence _ | .preferredSourceReturn | .storeLevelCrossing _ | .switchoverComplete | .voutFault _ | .voutRetry
    | .voutCurrentLimit _ | .halyardTick | .halyardClaim .. | .halyardRelease .. | .thermalUpdate .. | .captureValueRead .. | .radioTestModeWrite ..
    | .notchWrite .. | .plCalibration | .odAbort _ | .dravlinkFrameReceive _ | .roleNonce _ | .calRequest .. | .sleepCmd .. => true
    | _ => false)

end Sys2Proof.Machine
end

