-- ==== Sys2Proof/Certificates/Slice0/Obligations.lean ====
section
/-!
DEFINITION. The statements for the provers: what each family of commands does, where it completes and what it leaves alone,
and what every step keeps.
-/

open Sys2Proof Sys2Proof.Machine

/-- State.reset has an empty queue, the core domain off, the mains angle in FREE_RUN at MA 0 with no crossing accepted,
empty audit ring, and every dictionary entry at its Default. That the reset state lies before the first power-up is
the model's choice (log 7). -/
def Obligations.ResetIsFactoryState : Prop :=
  State.reset.pending = [] ∧ State.reset.phase = .off ∧ State.reset.ma.state = .freeRun ∧ State.reset.ma32 = 0 ∧
  State.reset.ma.everZc = false ∧ State.reset.audit = [] ∧ State.reset.testAccess = false ∧ State.reset.halted = false ∧
  (∀ k, State.reset.val k = odDefault k) ∧ (∀ a, State.reset.store.get a = 0) ∧ ∀ p, (State.reset.port p).state = .off

/-- State.Inv holds at State.reset. -/
def Obligations.ResetKeepsInvariant : Prop :=
  State.reset.Inv

/-- For every command c and state s, step of s with c at the front of its queue is exec c on s with the queue's rest. -/
def Obligations.StepRunsFrontCommand : Prop :=
  ∀ (c : Instr) (rest : List Instr) (s : State),
  step { s with pending := c :: rest } = exec c { s with pending := rest }

/-- From every state that satisfies State.Inv, a step that answers a next state leaves State.Inv: both stores stay
canonical, and every list of a fixed number of like things keeps that number, whichever of the 243 commands runs or if
time passes. -/
def Obligations.StepKeepsInvariant : Prop :=
  ∀ s t : State, s.Inv → step s = .next t → t.Inv

/-- Every step from every state answers a next state: the spec gives every command an effect, and an event that does not
hold changes nothing (log 1, log 5). -/
def Obligations.EveryStepIsSafe : Prop :=
  ∀ s : State, SafeStep s

/-- Whatever the command, exec leaves the queue as it met it. -/
def Obligations.CommandsLeaveTheQueue : Prop :=
  ∀ (c : Instr) (s t : State), exec c s = .next t → t.pending = s.pending

/-- While the core domain is off, every command but those of the supply (SOURCE_LOSS, SOURCE_PRESENCE,
STORE_LEVEL_CROSSING, SWITCHOVER_COMPLETE, VOUT_*), the reader's commands to the tag domain, ROLL_FORWARD and
CORE_START leaves the state as it is. -/
def Obligations.UnpoweredModuleIgnoresCommands : Prop :=
  ∀ (c : Instr) (s : State), s.phase = .off → needsNoCore c = false → exec c s = .next s

/-- With an empty queue: an unpowered module only sees time pass; in SLEEP the slow counter counts one tick and nothing
else moves; in service a fabric clock that completes a crystal cycle advances TB by one unless a debug freeze holds it
(log 2). -/
def Obligations.TimePassesWhileIdle : Prop :=
  (∀ s : State, s.Inv → s.pending = [] → s.phase = .off → step s = .next { s with now := s.now + quantaFabric }) ∧
  (∀ s : State, s.Inv → s.pending = [] → s.phase ≠ .off → s.power = .sleep → step s = .next s.slowTick) ∧
  (∀ s : State, s.Inv → s.pending = [] → s.phase ≠ .off → s.power ≠ .sleep → (s.tb.ph + 1) % 20 % 10 = 0 → s.frozen = false →
    s.tb.tb ≠ BitVec.allOnes 48 → ∃ t, step s = .next t ∧ t.tb.tb = s.tb.tb + 1 ∧ t.now = s.now + quantaFabric) ∧
  (∀ s : State, s.Inv → s.pending = [] → s.phase ≠ .off → s.power ≠ .sleep → s.frozen = true →
    ∃ t, step s = .next t ∧ t.tb.tb = s.tb.tb ∧ t.now = s.now + quantaFabric)

/-- A first positive crossing in FREE_RUN is accepted: the loop enters ACQUIRE, the angle steps, events 68 and 69 are
raised. A crossing within 7.5 ms of the last is rejected and counted. A negative-going one changes nothing. A missed
crossing takes LOCKED to HOLDOVER, the eighth takes HOLDOVER to FREE_RUN. ACQUIRE without a crossing ends in FREE_RUN
at the nominal rate. -/
def Obligations.MainsCrossing : Prop :=
  (∀ (s : State), s.coreOn = true → s.ma.state = .freeRun → s.ma.everZc = false → s.ma.lastZc = none → Completes (.zeroCrossingEdge true) s fun t =>
    t.ma.state = .acquire ∧ t.ma.everZc = true ∧ t.ma.stepped = true ∧ t.ma.missed = 0 ∧ t.isPending 68 = true ∧ t.isPending 69 = true) ∧
  (∀ (s : State) (t0 : Nat), s.Inv → s.coreOn = true → s.ma.lastZc = some t0 → (s.now - s.crossingDelay - t0) * 2000 < 15 * quantaSecond → s.nat 0x2101_04 + 1 < 2 ^ 32 → Completes (.zeroCrossingEdge true) s fun t =>
    t.nat 0x2101_04 = s.nat 0x2101_04 + 1 ∧ t.ma = s.ma) ∧
  (∀ (s : State), s.Inv → s.coreOn = true → Completes (.zeroCrossingEdge false) s fun t =>
    t = s) ∧
  (∀ (s : State), s.coreOn = true → s.windowMissed = true → s.ma.state = .locked → s.nat 0x2101_05 + 1 < 2 ^ 32 → Completes (.edgeWindowEnd) s fun t =>
    t.ma.state = .holdover ∧ t.ma.judged = true ∧ t.ma.missed = s.ma.missed + 1 ∧ t.nat 0x2101_05 = s.nat 0x2101_05 + 1 ∧ t.isPending 68 = true) ∧
  (∀ (s : State), s.coreOn = true → s.windowMissed = true → s.ma.state = .holdover → 7 ≤ s.ma.missed → Completes (.edgeWindowEnd) s fun t =>
    t.ma.state = .freeRun ∧ t.ma.rate = s.nominalRate ∧ t.isPending 68 = true) ∧
  (∀ (s : State), s.coreOn = true → s.acquireTimedOut = true → Completes (.acquireTimeout) s fun t =>
    t.ma.state = .freeRun ∧ t.ma.rate = s.nominalRate ∧ t.ma.moveLeft = 0 ∧ t.ma.acc = s.ma.acc ∧ t.ma.cycle = s.ma.cycle ∧ t.isPending 68 = true)

/-- The angle passes to 0x0000 with the cycle count incremented and no flag; at 0x8000 MA_SYNC_OUT of mode 3 goes low,
either with the crystal cycle that takes the angle there; in mode 4 the pad follows blanking; a pulse begins at
SYNC_ANGLE and ends after SYNC_WIDTH; a learning pass publishes its levels and raises event 70; an occurrence of a
free, unblanked, unheld slot opens it. -/
def Obligations.MainsAngleRuns : Prop :=
  (∀ (s : State), s.coreOn = true → maCycle ≤ s.accNext → Completes (.angleWrap) s fun t =>
    t.ma.acc = s.accNext - maCycle ∧ t.ma.cycle = s.ma.cycle + 1 ∧ t.ma.rate = s.ma.rate ∧ t.ma.state = s.ma.state) ∧
  (∀ (s : State), s.coreOn = true → s.ma.acc * 2 < maCycle → maCycle ≤ s.accNext * 2 → s.accNext < maCycle → s.nat 0x2160_01 = 3 → Completes (.angleHalfCycle) s fun t =>
    t.ma.acc = s.accNext ∧ t.ma.sync = false ∧ t.ma.cycle = s.ma.cycle) ∧
  (∀ (s : State), s.coreOn = true → s.nat 0x2160_01 = 4 → Completes (.blankingWindowEdge) s fun t =>
    t.ma.sync = s.inBlank ∧ t.ma.acc = s.ma.acc) ∧
  (∀ (s : State), s.coreOn = true → s.syncDue = true → Completes (.maSyncPulse) s fun t =>
    t.ma.sync = true ∧ t.ma.syncPulse = some s.now) ∧
  (∀ (s : State), s.coreOn = true → s.syncOver = true → Completes (.maSyncPulseEnd) s fun t =>
    t.ma.sync = false ∧ t.ma.syncPulse = none) ∧
  (∀ (s : State) (levels : List Byte), s.coreOn = true → s.learnDue = true → Completes (.learnPassEnd levels) s fun t =>
    t.oct 0x2170_01 = s.binLevels levels ∧ t.ma.learned = 0 ∧ t.isPending 70 = true ∧ (s.nat 0x2120_01 = 2 → t.nat 0x2120_01 = 0)) ∧
  (∀ (s : State) (w : Fin 32) (half : Bool), s.Inv → s.coreOn = true → s.occurrenceNow w half = true → (s.ma.burgee.getD w {}).skip = 0 → s.meetsBlank { start := ((s.burgeeStart w).1 + if half then 0x8000 else 0) % 65536, len := (s.burgeeSpec w).len } = false → s.heldByExclusive w (s.burgeeSpec w) { start := ((s.burgeeStart w).1 + if half then 0x8000 else 0) % 65536, len := (s.burgeeSpec w).len } = false → (s.burgeeSpec w).owner = 4 → (s.burgeeSpec w).notes = true → Completes (.burgeeOccurrence w half) s fun t =>
    (t.ma.burgee.getD w {}).openAt = some s.ma32 ∧ (t.ma.burgee.getD w {}).openLen = (s.burgeeSpec w).len ∧ t.isPending 71 = true)

/-- A charged port with a good bridge begins its ramp at 0 with the next drive word; a bad bridge takes it to FAULT with
code 1. The ramp up ends in CARRIER with the load measured; the ramp down ends in OFF with its grant released. A
component's ramp ends steady. A frame's FIR tail ends in CARRIER. -/
def Obligations.PortRamps : Prop :=
  (∀ (s : State) (p : Fin 8), s.Inv → s.coreOn = true → (s.port p).state = .charging → 20 ≤ s.bias p → Completes (.chargingComplete p true) s fun t =>
    (t.port p).state = .rampUp ∧ (t.port p).x0 = 0 ∧ (t.port p).t0 = s.nextWord ∧ (∀ q : Fin 8, q ≠ p → t.port q = s.port q) ∧ t.od = s.od) ∧
  (∀ (s : State) (p : Fin 8), s.Inv → s.coreOn = true → (s.port p).state = .charging → 20 ≤ s.bias p → Completes (.chargingComplete p false) s fun t =>
    (t.port p).state = .fault ∧ t.nat (portKey p 2 2) = 1 ∧ (t.port p).comps = [] ∧ t.held (.port p) = 0) ∧
  (∀ (s : State) (p : Fin 8) (loadR loadX : BitVec 16), s.Inv → s.coreOn = true → (s.port p).state = .rampUp → s.rampPos p = 65536 → s.portNeeds p ≤ s.held (.port p) → loadR.toNat ≤ 15000 → Completes (.rampUpComplete p loadR loadX false) s fun t =>
    (t.port p).state = .carrier ∧ (t.port p).measured = true ∧ t.nat (portKey p 2 5) = loadR.toNat ∧ t.int (portKey p 2 6) = loadX.toInt) ∧
  (∀ (s : State) (p : Fin 8), s.Inv → s.coreOn = true → (s.port p).state = .rampDown → s.rampPos p = 0 → (s.port p).faultNext = none → s.reachedLower p = false → Completes (.rampDownComplete p) s fun t =>
    (t.port p).state = .off ∧ t.held (.port p) = 0 ∧ (t.port p).frames = []) ∧
  (∀ (s : State) (p : Fin 8) (lane : Fin 6) (c : Component), s.Inv → s.coreOn = true → (s.port p).state = .carrier → (s.port p).comps = [c] → c.lane = lane.val → c.doing = .rampIn → c.out = none → s.componentDone p c = true → Completes (.componentTransitionEnd p lane) s fun t =>
    (t.port p).comps = [{ c with doing := .steady, ramped := some (c.t0, c.x0), t0 := s.now }] ∧ (t.port p).state = .carrier) ∧
  (∀ (s : State) (p : Fin 8) (lane : Fin 4) (e m : Nat), s.Inv → s.coreOn = true → (s.port p).state = .modulating → (s.port p).frames = [(lane.val, e, m)] → e + 64 * quantaCarrier ≤ s.now → s.flag 0x2280_04 = false → (s.port p).cutAtEnd = none → ((s.port p).comps.all fun c => decide (c.doing = .steady) && c.left.isNone) = true → (s.port p).inUse = true → Completes (.firTailEnd p lane false) s fun t =>
    (t.port p).state = .carrier ∧ (t.port p).frames = [] ∧ (t.port p).comps = (s.port p).comps)

/-- A short is a FAULT at once, with its code; a 1 ms check stores what it measured; a recheck that fails leaves the port
in FAULT, and the third pass of an immediate series returns it to OFF with code 0 and event 1; a test emission ends by
time; a FIR check takes the new coefficients up or refuses them with event 5. -/
def Obligations.PortFaultsAndChecks : Prop :=
  (∀ (s : State) (p : Fin 8), s.Inv → s.coreOn = true → (s.port p).state ≠ .fault → Completes (.portFaultDetect p 1) s fun t =>
    (t.port p).state = .fault ∧ t.nat (portKey p 2 2) = 1 ∧ t.isPending 0 = true ∧ (t.port p).comps = []) ∧
  (∀ (s : State) (p : Fin 8) (loadR loadX power temp : BitVec 16), s.Inv → s.coreOn = true → (s.port p).state.on = true → s.passedMs (s.port p).checkT0 1 = true → loadR.toNat ≤ 15000 → Completes (.portLoadCheck p loadR loadX power temp false) s fun t =>
    t.nat (portKey p 2 5) = loadR.toNat ∧ t.nat (portKey p 2 7) = power.toNat ∧ t.int (portKey p 2 11) = temp.toInt ∧ (t.port p).measured = true ∧ (t.port p).checkT0 = s.now) ∧
  (∀ (s : State) (p : Fin 8) (temp : BitVec 16), s.Inv → s.coreOn = true → s.recheckDue p = true → (s.port p).series = none → Completes (.faultRecheck p false temp) s fun t =>
    (t.port p).state = .fault ∧ (t.port p).passes = 0 ∧ (t.port p).rechecks = (s.port p).rechecks + 1) ∧
  (∀ (s : State) (p : Fin 8) (t0 : Nat) (temp : BitVec 16), s.Inv → s.coreOn = true → s.recheckDue p = true → (s.port p).series = some (t0, 2) → s.nat (portKey p 2 2) ≠ 3 → Completes (.faultRecheck p true temp) s fun t =>
    (t.port p).state = .off ∧ t.nat (portKey p 2 2) = 0 ∧ t.isPending 1 = true ∧ (t.port p).series = none) ∧
  (∀ (s : State) (p : Fin 8), s.coreOn = true → s.nat (portKey p 5 1) ≠ 0 → s.passedS (s.port p).testT0 (s.nat (portKey p 5 3)) = true → Completes (.portTestTimeEnd p) s fun t =>
    t.nat (portKey p 5 1) = 0) ∧
  (∀ (s : State) (set : Fin 16) (c : FirCheck) (coef : List Byte), s.coreOn = true → s.fir = [c] → c.set = set.val → c.coef = some coef → c.map = none → Completes (.firCheckDone set) s fun t =>
    t.fir = [] ∧ (if 0 ≤ s.worstMargin coef (s.mappedModes set) then t.oct (firKey set 1) = coef ∧ t.nat (firKey set 2) = 0
     else t.oct (firKey set 1) = s.oct (firKey set 1) ∧ t.nat (firKey set 2) = 2 ∧ t.isPending 5 = true))

/-- A periodic request merges into the waiting one; a survey that may start drives the ports; the measurements of a survey
whose ports are in OFF again are solved: one that is not reciprocal is refused with event 9 and a counter, one that is
reciprocal is accepted with event 8. Teaching ends unsuccessful after 60 s. -/
def Obligations.SurveyRuns : Prop :=
  (∀ (s : State), s.coreOn = true → s.nat 0x2340_02 ≠ 0 → s.passedS s.survey.periodT0 (s.nat 0x2340_02) = true → s.survey.phase = .idle → Completes (.surveyPeriodExpiry) s fun t =>
    t.survey.phase = .requested ∧ t.survey.periodT0 = s.now ∧ t.survey.t0 = s.now ∧ t.ports = sized 8 {} s.ports) ∧
  (∀ (s : State), s.coreOn = true → s.phase = .service → s.surveyMayStart = true → Completes (.surveyStart) s fun t =>
    t.survey.phase = .driving ∧ t.survey.t0 = s.now ∧ t.survey.again = false) ∧
  (∀ (s : State) (drive coil : List (Int × Int) × List (Int × Int)) (sensed : List Sensed) (y z yd : List (Int × Int)), s.coreOn = true → s.surveyDriven = true → (⟨drive.1, drive.2, coil.1, coil.2⟩ : Measured).solve s.surveyPorts = some (y, z, yd) → reciprocal (among s.surveyPorts z) = false → s.nat 0x2340_07 + 1 < 2 ^ 32 → Completes (.surveySolve drive coil sensed) s fun t =>
    t.nat 0x2340_06 = 2 ∧ t.nat 0x2340_07 = s.nat 0x2340_07 + 1 ∧ t.isPending 9 = true ∧ t.survey.phase = (if s.survey.again then .requested else .idle) ∧ t.survey.accepted = s.survey.accepted) ∧
  (∀ (s : State) (drive coil : List (Int × Int) × List (Int × Int)) (sensed : List Sensed), s.coreOn = true → s.surveyDriven = true → (⟨drive.1, drive.2, coil.1, coil.2⟩ : Measured).solve s.surveyPorts = none → s.nat 0x2340_07 + 1 < 2 ^ 32 → Completes (.surveySolve drive coil sensed) s fun t =>
    t.nat 0x2340_06 = 2 ∧ t.nat 0x2340_07 = s.nat 0x2340_07 + 1 ∧ t.isPending 9 = true ∧ t.survey.phase = (if s.survey.again then .requested else .idle) ∧ t.survey.accepted = s.survey.accepted) ∧
  (∀ (s : State) (drive coil : List (Int × Int) × List (Int × Int)) (sensed : List Sensed) (y z yd : List (Int × Int)), s.coreOn = true → s.surveyDriven = true → (⟨drive.1, drive.2, coil.1, coil.2⟩ : Measured).solve s.surveyPorts = some (y, z, yd) → reciprocal (among s.surveyPorts z) = true → Completes (.surveySolve drive coil sensed) s fun t =>
    t.survey.accepted = true ∧ t.isPending 8 = true ∧ t.survey.phase = (if s.survey.again then .requested else .idle) ∧ t.nat 0x2341_03 = min 65535 (recipErr (among s.surveyPorts z))) ∧
  (∀ (s : State) (z : Fin 16), s.Inv → s.coreOn = true → s.nat (zoneKey z 6) = 1 → s.passedS (s.teach.getD z {}).t0 60 = true → Completes (.teachTimeout z) s fun t =>
    t.nat (zoneKey z 6) = 3 ∧ t.teach.getD z {} = {})

/-- A request that finds a lane, a pennant and power opens the lane in OPENING; one whose grant does not come within
ADMIT_WAIT_MS is refused with event 15 and the lane is IDLE; a CLOSING lane whose components have ramped out is IDLE
with its isolation figures at 0x7FFF; a due live recomputation stamps every CONCURRENT lane. -/
def Obligations.LanesOpenAndClose : Prop :=
  (∀ (s : State) (r : LaneRequest) (l : Fin 4) (n : Nat), s.Inv → s.coreOn = true → s.requests = [r] → r.t0 < s.now * 10 / 347136 → s.survey.phase ≠ .driving → s.freeLane r.lane = some l.val → s.openLanes.length < s.nat 0x2370_01 → s.nat (zoneKey r.zone 7) ≠ 2 → ({ s with requests := [] } : State).withoutSurvey.choose l r.zone = some (n, none) → ({ s with requests := [] } : State).withoutSurvey.powerFits (s.penDrive n) none = true → Completes (.laneAdmission) s fun t =>
    (t.lane l).state = .opening ∧ (t.lane l).zone = r.zone ∧ (t.lane l).pennant = n ∧ t.requests = [] ∧ t.rrZone = (r.zone + 1) % 16) ∧
  (∀ (s : State) (l : Fin 4), s.Inv → s.coreOn = true → (s.lane l).state = .opening → s.passedMs (s.lane l).t0 (s.nat 0x2370_05) = true → ((List.range 8).any fun p => (s.port p).state = .off && (s.port p).comps.any fun c => c.lane = l.val) = true → Completes (.admitWaitExpiry l) s fun t =>
    (t.lane l).state = .idle ∧ t.isPending 15 = true) ∧
  (∀ (s : State) (l : Fin 4), s.Inv → s.coreOn = true → s.laneGone l = true → Completes (.laneClosed l) s fun t =>
    (t.lane l).state = .idle ∧ (t.lane l).zone = 0xFF ∧ t.int (laneKey l 4) = 0x7FFF ∧ t.int (laneKey l 5) = 0x7FFF) ∧
  (∀ (s : State) (l : Fin 4), s.Inv → s.coreOn = true → s.liveDue = true → (s.lane l).state = .concurrent → Completes (.liveNullRecompute) s fun t =>
    (t.lane l).liveT0 = s.now)

/-- A carrier from 10 mV takes a canceller from OFF to ACQUIRE; 60 dB ends the acquisition in TRACK while no receive
window is open and no survey drives; a failure restarts it with event 25; suppression below 45 dB re-acquires; below 5
mV it goes OFF; an overload steps the gain down with event 24; a restoration steps it up; a receive window holds
tracking cancellers. -/
def Obligations.ReceivePathFollowsCarrier : Prop :=
  (∀ (s : State) (p : Fin 8) (predicted measured : BitVec 16), s.Inv → s.coreOn = true → (s.rxp p).cancel = .off → s.rxBarred p = false → 10 ≤ predicted.toNat → Completes (.cancellerAcquire p predicted measured) s fun t =>
    (t.rxp p).cancel = .acquire ∧ t.nat (rxKey p 3) = measured.toNat ∧ (t.rxp p).t0 = s.now) ∧
  (∀ (s : State) (p : Fin 8) (suppression predicted : BitVec 16), s.Inv → s.coreOn = true → (s.rxp p).cancel = .acquire → 600 ≤ suppression.toNat → s.windowOpen = false → s.survey.phase ≠ .driving → Completes (.acquisitionEnd p (suppression, predicted)) s fun t =>
    (t.rxp p).cancel = .track ∧ (t.rxp p).failed = 0 ∧ t.nat (rxKey p 4) = suppression.toNat) ∧
  (∀ (s : State) (p : Fin 8) (suppression predicted : BitVec 16), s.Inv → s.coreOn = true → (s.rxp p).cancel = .acquire → suppression.toNat < 600 → s.passedUs (s.rxp p).t0 12 = true → (s.rxp p).failed < 2 → Completes (.acquisitionEnd p (suppression, predicted)) s fun t =>
    (t.rxp p).cancel = .acquire ∧ (t.rxp p).failed = (s.rxp p).failed + 1 ∧ t.isPending 25 = true) ∧
  (∀ (s : State) (p : Fin 8) (suppression predicted : BitVec 16), s.Inv → s.coreOn = true → (s.rxp p).cancel = .track → suppression.toNat < 450 → Completes (.suppressionLoss p suppression predicted) s fun t =>
    (t.rxp p).cancel = .acquire ∧ t.isPending 25 = true ∧ t.nat (rxKey p 4) = suppression.toNat) ∧
  (∀ (s : State) (p : Fin 8) (predicted measured : BitVec 16), s.Inv → s.coreOn = true → (s.rxp p).cancel = .track → predicted.toNat < 5 → measured.toNat < 5 → Completes (.cancellerIdle p predicted measured) s fun t =>
    (t.rxp p).cancel = .off ∧ t.nat (rxKey p 3) = measured.toNat) ∧
  (∀ (s : State) (p : Fin 8), s.Inv → s.coreOn = true → (s.rxp p).cancel = .track → s.rxBarred p = false → s.nat (rxKey p 10) + 1 < 2 ^ 32 → Completes (.rxOverload p) s fun t =>
    (t.rxp p).cancel = .acquire ∧ t.nat (rxKey p 10) = s.nat (rxKey p 10) + 1 ∧ ((s.rxp p).allowed < min 4 ((s.rxp p).gain + 1) → min 4 ((s.rxp p).gain + 1) ≤ (t.rxp p).gain) ∧ t.isPending 24 = true ∧ (t.rxp p).overT0 = s.now) ∧
  (∀ (s : State) (p : Fin 8), s.Inv → s.coreOn = true → (s.rxp p).cancel = .track → (s.rxp p).allowed < (s.rxp p).gain → (s.rxp p).stepUp = false → s.passedMs (s.rxp p).overT0 ((s.rxp p).cfg.getD 2 100) = true → Completes (.gainRestore p) s fun t =>
    (t.rxp p).gain = (s.rxp p).gain - 1 ∧ (t.rxp p).cancel = .track ∧ (t.rxp p).overT0 = s.now)

/-- The reset guard starts the first poll cycle with the first technology of POLL_ORDER; a ready command that need not
wait goes on the air, and the turn among conflicting lanes passes on; its receive window opens and holds the
cancellers; a reply starts; a false start is discarded and counted; a correct reply to REQA leads to anticollision;
silence after REQA leads to the next technology. -/
def Obligations.ExchangesRun : Prop :=
  (∀ (s : State) (l : Fin 4) (t0 : Nat), s.Inv → s.coreOn = true → (s.lane l).running = true → (s.seq l).guardDone = false → (s.seq l).job = .none → (s.seq l).carrierT0 = some t0 → s.passedUs t0 (s.nat 0x2500_03) = true → s.nat 0x2500_02 % 16 = 0 → (s.zoneTech (s.lane l).zone).testBit 0 = true → Completes (.resetGuardEnd l) s fun t =>
    (t.seq l).guardDone = true ∧ (t.seq l).job = .poll ∧ (t.seq l).step = .aPoll ∧ (t.seq l).stage = .ready) ∧
  (∀ (s : State) (l : Fin 4), s.Inv → s.coreOn = true → s.cmdReady l = true → (s.seq l).deferT = none → s.mustWait l = false → s.deferral l = 0 → Completes (.commandStart l) s fun t =>
    (t.seq l).stage = .sending ∧ (t.seq l).t0 = s.now ∧ (t.seq l).endT = s.now + (s.seq l).exch.cycles (s.vMode l 0) * quantaCarrier ∧ t.rrLane = (if s.contested l then s.rrLane.set (s.lanePrio l) ((l.val + 1) % 4) else s.rrLane)) ∧
  (∀ (s : State) (l : Fin 4), s.Inv → s.coreOn = true → (s.seq l).stage = .sending → (s.seq l).endT + ((s.seq l).exch.window (s.vMode l 3)).1 * quantaCarrier ≤ s.now → Completes (.receiveWindowOpen l) s fun t =>
    (t.seq l).stage = .listening ∧ (∀ p : Fin 8, (s.rxp p).cancel = .track → (t.rxp p).cancel = .hold)) ∧
  (∀ (s : State) (l : Fin 4) (heard : BitVec 16 × List (BitVec 16)), s.Inv → s.coreOn = true → (s.seq l).stage = .listening → s.rxCfg l 3 < heard.1.toNat → Completes (.replyStart l heard) s fun t =>
    (t.seq l).stage = .reply ∧ (t.seq l).replyT = s.now ∧ (t.seq l).late = decide ((s.seq l).endT + ((s.seq l).exch.window (s.vMode l 3)).2.1 * quantaCarrier < s.now)) ∧
  (∀ (s : State) (l : Fin 4), s.Inv → s.coreOn = true → (s.seq l).stage = .reply → (s.seq l).replyT + 2 * (s.seq l).exch.bitCycles (s.vMode l 3) * quantaCarrier ≤ s.now → s.nat 0x2411_03 + 1 < 2 ^ 32 → Completes (.falseStart l) s fun t =>
    (t.seq l).stage = .listening ∧ t.nat 0x2411_03 = s.nat 0x2411_03 + 1) ∧
  (∀ (s : State) (l : Fin 4) (r : Reply), s.Inv → s.coreOn = true → (s.seq l).stage = .reply → (s.seq l).job = .poll → (s.seq l).step = .aPoll → (s.seq l).leave = false → (s.seq l).hostJob = none → (s.seq l).pollJob = false → (s.judge l r).2.1 = .ok → Completes (.replyComplete l r) s fun t =>
    (t.seq l).step = .aAntic ∧ (t.seq l).stage = .ready ∧ (t.seq l).okT0 = s.now ∧ (t.seq l).lastEnd = s.now ∧ (t.seq l).atqa = leNat (replyBody (s.seq l) r)) ∧
  (∀ (s : State) (l : Fin 4) (dens : List (BitVec 16)) (sensed : List Sensed) (rest : List Nat), s.Inv → s.coreOn = true → (s.seq l).stage = .listening → (s.seq l).endT + ((s.seq l).exch.window (s.vMode l 3)).2.2 * quantaCarrier ≤ s.now → (s.seq l).job = .poll → (s.seq l).step = .aPoll → (s.seq l).leave = false → (s.seq l).hostJob = none → (s.seq l).pollJob = false → (s.seq l).order = 1 :: rest → Completes (.noReplyDecision ⟨l, dens, sensed⟩) s fun t =>
    (t.seq l).step = .bPoll ∧ (t.seq l).stage = .ready ∧ (t.seq l).order = rest ∧ (t.seq l).lastEnd = s.now)

/-- A verdict that does not come in time is counted with event 22; a presence check starts; cards that did not answer
leave; an absent hold entry is freed; a host exchange that waits too long ends with TIMEOUT and event 18; an idle
noise measurement smooths the sector of the angle. -/
def Obligations.CardsAndHosts : Prop :=
  (∀ (s : State) (l : Fin 4) (stamp : Nat) (rest : List Nat), s.Inv → s.coreOn = true → (s.seq l).waits = stamp :: rest → s.hfSet l 23 * 2712 ≤ (s.tb64 - stamp) * 100 → s.nat 0x2560_0A + 1 < 2 ^ 32 → Completes (.verdictLate l) s fun t =>
    (t.seq l).waits = rest ∧ t.isPending 22 = true ∧ t.nat 0x2560_0A = s.nat 0x2560_0A + 1) ∧
  (∀ (s : State) (l : Fin 4) (c : Card), s.Inv → s.coreOn = true → s.dueCard l = some c → (s.lane l).running = true → (s.seq l).job = .none → Completes (.presenceCheck l) s fun t =>
    (t.seq l).job = .presence ∧ (t.seq l).cur = c ∧ (t.seq l).stage = .ready) ∧
  (∀ (s : State) (l : Fin 4) (c : Card), s.Inv → s.coreOn = true → (s.lane l).running = true → (s.seq l).stage = .idle → (s.seq l).cards = [c] → s.passedMs c.okT0 (s.nat 0x2501_02) = true → Completes (.presenceTimeout l) s fun t =>
    (t.seq l).cards = [] ∧ (t.seq l).job = .none ∧ (t.lane l).state = .closing) ∧
  (∀ (s : State) (h : Fin 64), s.Inv → s.coreOn = true → (s.holds.getD h {}).state = 2 → s.nat 0x2501_03 * 27120 ≤ s.tb64 - (s.holds.getD h {}).last → Completes (.holdRelease h) s fun t =>
    t.holds.getD h {} = {} ∧ (∀ g : Fin 64, g ≠ h → t.holds.getD g {} = s.holds.getD g {}) ∧ t.od = s.od) ∧
  (∀ (s : State) (l : Fin 4) (sensed : List Sensed) (mode t0 : Nat), s.Inv → s.coreOn = true → (s.seq l).hostJob = some (mode, t0) → s.passedMs t0 (s.nat (hfKey l 6)) = true → (s.seq l).job ≠ .host → Completes (.exchTimeout (l, sensed)) s fun t =>
    (t.seq l).hostJob = none ∧ t.nat (hfKey l 1) = 3 ∧ t.nat (hfKey l 5) = 1 ∧ t.isPending 18 = true) ∧
  (∀ (s : State) (dens : List (BitVec 16)) (p : Fin 8), s.Inv → s.coreOn = true → s.passedMs s.noiseT0 (s.nat 0x2410_07) = true → s.noCarrier = true → s.pinging = false → (s.assigned && s.tagBusy) = false → Completes (.noiseMeasurement dens) s fun t =>
    t.noiseT0 = s.now ∧ t.nat (rxKey p 5) = median16 ((s.noiseProfile p).set (s.angle / 4096) (smooth 8 ((s.noiseProfile p).getD (s.angle / 4096) 0) (dens.getD p 0).toNat)))

/-- A free ping that may start is in progress from now on, with the thresholds that stand now, its occurrence is used up,
and a tracking canceller lends the path; an occurrence that gets no ping is counted and used up, and the eighth in a
row raises event 34, but where the port has come into a lane meanwhile the ping goes on waiting as a lane ping; a due
lane ping is in progress from now on and due no more; a decided ping shows its impedance, is counted and over; a ping
of LEARN counts, and the one that completes the count makes the mean of all the baseline; THRESH_ON reached in the
last of ON_COUNT pings makes the port PRESENT with event 28; DISARM_ABSORB_S passed in DISARMED marks the object for
absorption, and the next free ping's decision makes its impedance the baseline, the port ABSENT, with events 35 and
29. -/
def Obligations.FrondPings : Prop :=
  (∀ (s : State) (p : Fin 8) (extMv : BitVec 8), s.Inv → s.coreOn = true → s.freePingReady p = true → s.lowerPing p = false → Completes (.freePing p extMv) s fun t =>
    (t.frond p).ping = some (s.newPing p false (decide ((s.rxp p).cancel = .track)) (decide ((s.rxp p).cancel ≠ .track) && decide (s.nat 0x2600_0B ≤ extMv.toNat))) ∧ (t.frond p).handled = s.frondOpening p ∧ (t.frond p).state = (s.frond p).state ∧ ((s.rxp p).cancel = .track → (t.rxp p).cancel = .measure)) ∧
  (∀ (s : State) (p : Fin 8), s.Inv → s.coreOn = true → s.skipDue p = true → s.lanePingDue p = false → s.nat (frondKey p 14) + 1 < 2 ^ 32 → Completes (.frondOccurrenceSkip p) s fun t =>
    t.nat (frondKey p 14) = s.nat (frondKey p 14) + 1 ∧ (t.frond p).skips = (s.frond p).skips + 1 ∧ (t.frond p).handled = s.frondOpening p ∧ ((s.frond p).skips = 7 → t.isPending 34 = true)) ∧
  (∀ (s : State) (p : Fin 8), s.Inv → s.coreOn = true → s.skipDue p = true → s.lanePingDue p = true → Completes (.frondOccurrenceSkip p) s fun t =>
    (t.frond p).laneDue = true ∧ (t.frond p).skips = (s.frond p).skips ∧ (t.frond p).handled = s.frondOpening p ∧ t.od = s.od) ∧
  (∀ (s : State) (p : Fin 8), s.Inv → s.coreOn = true → s.lanePingReady p = true → s.lowerPing p = false → Completes (.lanePing p) s fun t =>
    (t.frond p).ping = some (s.newPing p true false false) ∧ (t.frond p).laneDue = false ∧ (t.frond p).handled = s.frondOpening p ∧ ((s.rxp p).cancel = .track → (t.rxp p).cancel = .measure)) ∧
  (∀ (s : State) (p : Fin 8) (z : BitVec 32 × BitVec 32) (sensed : List Sensed) (ping : Ping), s.Inv → s.coreOn = true → (s.frond p).ping = some ping → 52 * 347136 ≤ (s.now - ping.t0) * 100 → s.quietSince ping.t0 = true → ping.ext = false → s.nat (frondKey p 13) + 1 < 2 ^ 32 → Completes (.frondPingDecision p z sensed) s fun t =>
    (t.frond p).ping = none ∧ (t.frond p).skips = 0 ∧ t.oct (frondKey p 18) = leBytesI 4 z.1.toInt ++ leBytesI 4 z.2.toInt ∧ t.nat (frondKey p 13) = s.nat (frondKey p 13) + 1) ∧
  (∀ (s : State) (p : Fin 8) (z : BitVec 32 × BitVec 32) (sensed : List Sensed) (ping : Ping), s.Inv → s.coreOn = true → (s.frond p).ping = some ping → 52 * 347136 ≤ (s.now - ping.t0) * 100 → s.quietSince ping.t0 = true → ping.inLane = false → ping.track = false → ping.ext = false → (s.frond p).state = .learn → (s.frond p).learned + 1 < s.nat 0x2600_0E → Completes (.frondPingDecision p z sensed) s fun t =>
    (t.frond p).state = .learn ∧ (t.frond p).learned = (s.frond p).learned + 1 ∧ (t.frond p).sum = ((s.frond p).sum.1 + z.1.toInt * 1000000, (s.frond p).sum.2 + z.2.toInt * 1000000) ∧ (t.frond p).ping = none) ∧
  (∀ (s : State) (p : Fin 8) (z : BitVec 32 × BitVec 32) (sensed : List Sensed) (ping : Ping), s.Inv → s.coreOn = true → (s.frond p).ping = some ping → 52 * 347136 ≤ (s.now - ping.t0) * 100 → s.quietSince ping.t0 = true → ping.inLane = false → ping.track = false → ping.ext = false → (s.frond p).state = .learn → s.nat 0x2600_0E ≤ (s.frond p).learned + 1 → Completes (.frondPingDecision p z sensed) s fun t =>
    (t.frond p).state = .absent ∧ (t.frond p).base = (((s.frond p).sum.1 + z.1.toInt * 1000000) / ((s.frond p).learned + 1 : Nat), ((s.frond p).sum.2 + z.2.toInt * 1000000) / ((s.frond p).learned + 1 : Nat)) ∧ (t.frond p).ping = none ∧ t.oct (frondKey p 19) = baseBytes (t.frond p).base) ∧
  (∀ (s : State) (p : Fin 8) (z : BitVec 32 × BitVec 32) (sensed : List Sensed) (ping : Ping), s.Inv → s.coreOn = true → (s.frond p).ping = some ping → 52 * 347136 ≤ (s.now - ping.t0) * 100 → s.quietSince ping.t0 = true → ping.inLane = false → ping.track = false → ping.ext = false → (s.frond p).state = .absent → atLeast (z.1.toInt * 1000000 - (s.frond p).base.1, z.2.toInt * 1000000 - (s.frond p).base.2) (s.frond p).base ping.on = true → (z.1.toInt * 1000000, z.2.toInt * 1000000) ≠ (s.frond p).base → s.nat (frondKey p 5) ≤ (s.frond p).onRun + 1 → Completes (.frondPingDecision p z sensed) s fun t =>
    (t.frond p).state = .present ∧ (t.frond p).cls = s.classOf (deciDegrees (Cx.ofInts (z.1.toInt * 1000000 - (s.frond p).base.1, z.2.toInt * 1000000 - (s.frond p).base.2))) ∧ (t.frond p).ping = none ∧ t.isPending 28 = true) ∧
  (∀ (s : State) (p : Fin 8), s.Inv → s.coreOn = true → (s.frond p).state = .disarmed → s.nat 0x2600_0F ≠ 0 → s.passedS (s.frond p).disarmT0 (s.nat 0x2600_0F) = true → Completes (.disarmAbsorb p) s fun t =>
    (t.frond p).absorb = true ∧ (t.frond p).state = .disarmed) ∧
  (∀ (s : State) (p : Fin 8) (z : BitVec 32 × BitVec 32) (sensed : List Sensed) (ping : Ping), s.Inv → s.coreOn = true → (s.frond p).ping = some ping → 52 * 347136 ≤ (s.now - ping.t0) * 100 → s.quietSince ping.t0 = true → ping.inLane = false → ping.track = false → ping.ext = false → (s.frond p).state = .disarmed → (s.frond p).absorb = true → (s.frond p).ref = (z.1.toInt * 1000000 - (s.frond p).base.1, z.2.toInt * 1000000 - (s.frond p).base.2) → Completes (.frondPingDecision p z sensed) s fun t =>
    (t.frond p).state = .absent ∧ (t.frond p).cls = 0 ∧ (t.frond p).base = (z.1.toInt * 1000000, z.2.toInt * 1000000) ∧ t.isPending 35 = true ∧ t.isPending 29 = true)

/-- The field brings the tag from NO FIELD to READY, or to QUIET under a Lichen latch that still holds; losing it leads to
NO FIELD with level OPEN and nothing outstanding; the latch expires; an Inventory that fits is answered with DSFID and
UID; Stay Quiet sets QUIET and the latch without an answer; Select selects; Reset to Ready returns to READY; the
lockout ends with the failure count at 0. -/
def Obligations.TagStates : Prop :=
  (∀ (s : State), s.Inv → s.tag.state = .noField → s.tag.lichen = false → Completes (.tagFieldOn) s fun t =>
    t.tag.state = .ready ∧ t.tag.lichen = false ∧ t.tag.field = true ∧ (s.coreOn = true → t.isPending 36 = true)) ∧
  (∀ (s : State), s.Inv → s.coreRuns = false → s.tag.state = .noField → s.tag.lichen = true → s.passedMs s.tag.lostT0 2000 = false → Completes (.tagFieldOn) s fun t =>
    t.tag.state = .quiet ∧ t.tag.lichen = true) ∧
  (∀ (s : State), s.Inv → s.tag.state ≠ .noField → Completes (.tagFieldLoss) s fun t =>
    t.tag.state = .noField ∧ t.tag.level = .opened ∧ t.tag.nonce = none ∧ t.tag.begun = none ∧ t.tag.lichen = s.tag.lichen ∧ t.tag.lostT0 = s.now) ∧
  (∀ (s : State), s.Inv → s.tag.state = .noField → s.coreRuns = false → s.passedMs s.tag.lostT0 2000 = true → Completes (.lichenLatchExpiry) s fun t =>
    t.tag.lichen = false) ∧
  (∀ (s : State) (r : TagReq) (slots16 : Bool) (mask : List Bool), s.Inv → s.heardReq r = true → r.mode = .all → mask.length ≤ (if slots16 then 60 else 64) → s.maskFits mask = true → Completes (.inventory r none slots16 mask) s fun t =>
    t.tag.reply = some (0x00 :: BitVec.ofNat 8 (s.nat 0x2700_04) :: s.uidAir) ∧ t.tag.state = s.tag.state) ∧
  (∀ (s : State) (r : TagReq) (u : List Byte), s.Inv → r.mode = .addressed u → s.heardReq r = true → Completes (.stayQuiet r) s fun t =>
    t.tag.state = .quiet ∧ t.tag.lichen = true ∧ t.tag.reply = none) ∧
  (∀ (s : State) (r : TagReq) (u : List Byte), s.Inv → r.mode = .addressed u → s.heardReq r = true → Completes (.selectCard r) s fun t =>
    t.tag.state = .selected ∧ t.tag.reply = some [0x00]) ∧
  (∀ (s : State) (r : TagReq) (u : List Byte), s.Inv → r.mode = .addressed u → s.heardReq r = true → Completes (.resetToReady r) s fun t =>
    t.tag.state = .ready ∧ t.tag.reply = some [0x00]) ∧
  (∀ (s : State) (x : Nat), s.Inv → s.tag.lockLeft = some x → s.tagSupplied = true → x ≤ s.now - s.tag.lockT0 → Completes (.tagLockoutEnd) s fun t =>
    t.tag.lockLeft = none ∧ t.nat 0x2720_04 = 0 ∧ t.nat 0x2740_05 = s.nat 0x2740_05)

/-- A plain or extended, single or multiple read of up to 8 blocks whose level is present answers the blocks as R182 makes
them; more than 8 blocks answer 0xA5; blocks past the command's reach 0x10; a level not present 0xA3. System
information, security status and the tag status answer their tables; an unsupported code is answered 0x01 when
addressed. -/
def Obligations.TagReads : Prop :=
  (∀ (s : State) (r : TagReq) (block : BitVec 8), s.Inv → s.heardReq r = true → r.option = false → block.toNat + 1 ≤ 256 → (∀ i < 1, s.mayReadBlock (block.toNat + i) = true) → Completes (.readSingleBlock r block) s fun t =>
    t.tag.reply = some (0x00 :: s.readBlocks (block.toNat) (1)) ∧ t.tag.state = s.tag.state ∧ t.tag.level = s.tag.level) ∧
  (∀ (s : State) (r : TagReq) (block : BitVec 16), s.Inv → s.heardReq r = true → r.option = false → block.toNat + 1 ≤ 992 → (∀ i < 1, s.mayReadBlock (block.toNat + i) = true) → Completes (.extendedReadSingleBlock r block) s fun t =>
    t.tag.reply = some (0x00 :: s.readBlocks (block.toNat) (1)) ∧ t.tag.state = s.tag.state ∧ t.tag.level = s.tag.level) ∧
  (∀ (s : State) (r : TagReq) (first more : BitVec 8), s.Inv → s.heardReq r = true → r.option = false → first.toNat + (more.toNat + 1) ≤ 256 → (more.toNat + 1) ≤ 8 → (∀ i < (more.toNat + 1), s.mayReadBlock (first.toNat + i) = true) → Completes (.readMultipleBlocks r first more) s fun t =>
    t.tag.reply = some (0x00 :: s.readBlocks (first.toNat) ((more.toNat + 1))) ∧ t.tag.state = s.tag.state ∧ t.tag.level = s.tag.level) ∧
  (∀ (s : State) (r : TagReq) (first more : BitVec 16), s.Inv → s.heardReq r = true → r.option = false → first.toNat + (more.toNat + 1) ≤ 992 → (more.toNat + 1) ≤ 8 → (∀ i < (more.toNat + 1), s.mayReadBlock (first.toNat + i) = true) → Completes (.extendedReadMultipleBlocks r first more) s fun t =>
    t.tag.reply = some (0x00 :: s.readBlocks (first.toNat) ((more.toNat + 1))) ∧ t.tag.state = s.tag.state ∧ t.tag.level = s.tag.level) ∧
  (∀ (s : State) (r : TagReq) (first more : BitVec 16), s.Inv → s.heardReq r = true → 8 ≤ more.toNat → Completes (.extendedReadMultipleBlocks r first more) s fun t =>
    t.tag.reply = some [0x01, 0xA5]) ∧
  (∀ (s : State) (r : TagReq) (block : BitVec 16), s.Inv → s.heardReq r = true → 992 ≤ block.toNat → Completes (.extendedReadSingleBlock r block) s fun t =>
    t.tag.reply = some [0x01, 0x10]) ∧
  (∀ (s : State) (r : TagReq) (block : BitVec 8), s.Inv → s.heardReq r = true → s.mayReadBlock block.toNat = false → Completes (.readSingleBlock r block) s fun t =>
    t.tag.reply = some [0x01, 0xA3]) ∧
  (∀ (s : State) (r : TagReq), s.Inv → s.heardReq r = true → Completes (.getSystemInformation r) s fun t =>
    t.tag.reply = some ([0x00, 0x07] ++ s.uidAir ++ [BitVec.ofNat 8 (s.nat 0x2700_04), BitVec.ofNat 8 (s.nat 0x2700_03), 0xFF, 0x1F])) ∧
  (∀ (s : State) (r : TagReq), s.Inv → s.heardReq r = true → Completes (.extendedGetSystemInformation r) s fun t =>
    t.tag.reply = some ([0x00, 0x07] ++ s.uidAir ++ [BitVec.ofNat 8 (s.nat 0x2700_04), BitVec.ofNat 8 (s.nat 0x2700_03), 0xDF, 0x03, 0x1F])) ∧
  (∀ (s : State) (r : TagReq) (first more : BitVec 8), s.Inv → s.heardReq r = true → first.toNat + (more.toNat + 1) ≤ 256 → Completes (.getMultipleBlockSecurityStatus r first more) s fun t =>
    t.tag.reply = some (0x00 :: (List.range (more.toNat + 1)).map fun i => s.blockStatus (first.toNat + i))) ∧
  (∀ (s : State) (r : TagReq) (first more : BitVec 16), s.Inv → s.heardReq r = true → first.toNat + (more.toNat + 1) ≤ 992 → Completes (.extGetMultiBlockSecurityStatus r first more) s fun t =>
    t.tag.reply = some (0x00 :: (List.range (more.toNat + 1)).map fun i => s.blockStatus (first.toNat + i))) ∧
  (∀ (s : State) (r : TagReq) (code : BitVec 8) (u : List Byte), s.Inv → r.mode = .addressed u → s.heardReq r = true → Completes (.tagUnsupportedCommand r code) s fun t =>
    t.tag.reply = some [0x01, 0x01]) ∧
  (∀ (s : State) (r : TagReq) (mfg : BitVec 8), s.Inv → s.heardReq r = true → mfg.toNat = s.nat 0x2700_02 → Completes (.getTagStatus r mfg) s fun t =>
    t.tag.reply = some (0x00 :: s.tagStatus))

/-- A write of 1 to 8 blocks of one writable region at the staging level, with the write gate met, runs as one group: the
blocks hold the data, with the tag's stamp of the role in the header, but for a block that a waiting group which the
field overtakes still writes afterwards; with no group in progress it ends 60 + 24n µs on; every other block is
unchanged, the counter counts and the answer is plain. A gate that is not met answers 0xA4; a level that is not
present 0xA3. A supply lost in S2 or later leaves the group COMMITTED, and ROLL_FORWARD completes it; lost before S2
it leaves the old data. -/
def Obligations.TagWrites : Prop :=
  (∀ (s : State) (r : TagReq) (p : TagPower) (block : BitVec 8) (data : List Byte), s.Inv → s.fieldMayWrite r p 1 block.toNat 1 256 data = true → (s.coreRuns = true ∨ p.loss = .none) → s.nat 0x2740_02 + 1 < 2 ^ 32 → Completes (.writeSingleBlock r p block data) s fun t =>
    t.tag.reply = some [0x00] ∧ t.groupAt (block.toNat) (1) true false = true ∧ (s.groupRuns = false → t.tag.groupTo = s.now + usQuanta (60 + 24 * 1)) ∧ t.tag.commit.seq = s.tag.commit.seq + 1 ∧ t.nat 0x2740_02 = s.nat 0x2740_02 + 1 ∧ (∀ i < 32 * 1, t.storeByte (32 * block.toNat + i) =
      if s.overtakenAt (block.toNat + i / 32) true then s.storeByte (32 * block.toNat + i) else (stampRole block.toNat 1 s.levelRole data).getD i 0) ∧ (∀ a, a < 32 * block.toNat ∨ 32 * block.toNat + 32 * 1 ≤ a → t.storeByte a = s.storeByte a)) ∧
  (∀ (s : State) (r : TagReq) (p : TagPower) (block : BitVec 16) (data : List Byte), s.Inv → s.fieldMayWrite r p 2 block.toNat 1 992 data = true → (s.coreRuns = true ∨ p.loss = .none) → s.nat 0x2740_02 + 1 < 2 ^ 32 → Completes (.extendedWriteSingleBlock r p block data) s fun t =>
    t.tag.reply = some [0x00] ∧ t.groupAt (block.toNat) (1) true false = true ∧ (s.groupRuns = false → t.tag.groupTo = s.now + usQuanta (60 + 24 * 1)) ∧ t.tag.commit.seq = s.tag.commit.seq + 1 ∧ t.nat 0x2740_02 = s.nat 0x2740_02 + 1 ∧ (∀ i < 32 * 1, t.storeByte (32 * block.toNat + i) =
      if s.overtakenAt (block.toNat + i / 32) true then s.storeByte (32 * block.toNat + i) else (stampRole block.toNat 1 s.levelRole data).getD i 0) ∧ (∀ a, a < 32 * block.toNat ∨ 32 * block.toNat + 32 * 1 ≤ a → t.storeByte a = s.storeByte a)) ∧
  (∀ (s : State) (r : TagReq) (p : TagPower) (first more : BitVec 8) (data : List Byte), s.Inv → s.fieldMayWrite r p 2 first.toNat (more.toNat + 1) 256 data = true → (s.coreRuns = true ∨ p.loss = .none) → s.nat 0x2740_02 + 1 < 2 ^ 32 → Completes (.writeMultipleBlocks r p first more data) s fun t =>
    t.tag.reply = some [0x00] ∧ t.groupAt (first.toNat) ((more.toNat + 1)) true false = true ∧ (s.groupRuns = false → t.tag.groupTo = s.now + usQuanta (60 + 24 * (more.toNat + 1))) ∧ t.tag.commit.seq = s.tag.commit.seq + 1 ∧ t.nat 0x2740_02 = s.nat 0x2740_02 + 1 ∧ (∀ i < 32 * (more.toNat + 1), t.storeByte (32 * first.toNat + i) =
      if s.overtakenAt (first.toNat + i / 32) true then s.storeByte (32 * first.toNat + i) else (stampRole first.toNat (more.toNat + 1) s.levelRole data).getD i 0) ∧ (∀ a, a < 32 * first.toNat ∨ 32 * first.toNat + 32 * (more.toNat + 1) ≤ a → t.storeByte a = s.storeByte a)) ∧
  (∀ (s : State) (r : TagReq) (p : TagPower) (first more : BitVec 16) (data : List Byte), s.Inv → s.fieldMayWrite r p 4 first.toNat (more.toNat + 1) 992 data = true → (s.coreRuns = true ∨ p.loss = .none) → s.nat 0x2740_02 + 1 < 2 ^ 32 → Completes (.extendedWriteMultipleBlocks r p first more data) s fun t =>
    t.tag.reply = some [0x00] ∧ t.groupAt (first.toNat) ((more.toNat + 1)) true false = true ∧ (s.groupRuns = false → t.tag.groupTo = s.now + usQuanta (60 + 24 * (more.toNat + 1))) ∧ t.tag.commit.seq = s.tag.commit.seq + 1 ∧ t.nat 0x2740_02 = s.nat 0x2740_02 + 1 ∧ (∀ i < 32 * (more.toNat + 1), t.storeByte (32 * first.toNat + i) =
      if s.overtakenAt (first.toNat + i / 32) true then s.storeByte (32 * first.toNat + i) else (stampRole first.toNat (more.toNat + 1) s.levelRole data).getD i 0) ∧ (∀ a, a < 32 * first.toNat ∨ 32 * first.toNat + 32 * (more.toNat + 1) ≤ a → t.storeByte a = s.storeByte a)) ∧
  (∀ (s : State) (r : TagReq) (p : TagPower) (block : BitVec 16) (data : List Byte), s.Inv → s.heardReq r = true → data.length = 32 → r.option = false → s.stageLevel = true → (regionOf block.toNat).writable = true → block.toNat ≠ 16 → s.holdHeld = false → gateMet p.rail.toNat p.cap.toNat = false → s.nat 0x2740_06 + 1 < 2 ^ 32 → Completes (.extendedWriteSingleBlock r p block data) s fun t =>
    t.tag.reply = some [0x01, 0xA4] ∧ t.nat 0x2740_06 = s.nat 0x2740_06 + 1 ∧ t.store = s.store) ∧
  (∀ (s : State) (r : TagReq) (p : TagPower) (block : BitVec 16) (data : List Byte), s.Inv → s.heardReq r = true → data.length = 32 → r.option = false → s.stageLevel = false → (regionOf block.toNat).writable = true → Completes (.extendedWriteSingleBlock r p block data) s fun t =>
    t.tag.reply = some [0x01, 0xA3] ∧ t.store = s.store) ∧
  (∀ (s : State) (r : TagReq) (p : TagPower) (block : BitVec 16) (data : List Byte), s.Inv → s.fieldMayWrite r p 2 block.toNat 1 992 data = true → s.coreRuns = false → p.loss = .s1 → Completes (.extendedWriteSingleBlock r p block data) s fun t =>
    t.tag.state = .noField ∧ t.tag.commit = s.tag.commit ∧ t.store = s.store) ∧
  (∀ (s : State) (r : TagReq) (p : TagPower) (block : BitVec 16) (data : List Byte), s.Inv → s.fieldMayWrite r p 2 block.toNat 1 992 data = true → s.coreRuns = false → p.loss = .s3 → Completes (.extendedWriteSingleBlock r p block data) s fun t =>
    t.tag.state = .noField ∧ t.tag.commit.committed = true ∧ t.tag.commit.first = block.toNat ∧ t.tag.shadow = stampRole block.toNat 1 s.levelRole data) ∧
  (∀ (s : State) (rail cap : BitVec 16), s.Inv → s.tag.commit.committed = true → s.tag.commit.first < 992 → s.tag.state ≠ .noField → 2600 ≤ rail.toNat → 2350 ≤ cap.toNat → s.nat 0x2740_03 + 1 < 2 ^ 32 → Completes (.rollForward rail cap) s fun t =>
    t.tag.commit.committed = false ∧ t.nat 0x2740_03 = s.nat 0x2740_03 + 1 ∧ t.tag.recovered = (if s.coreOn then s.tag.recovered else true) ∧ (∀ i < s.tag.shadow.length, t.storeByte (32 * s.tag.commit.first + i) = s.tag.shadow.getD i 0))

/-- AFI and DSFID are written as groups of one at SECURED-PASSWORD or above. GET_PWD_NONCE answers a fresh nonce;
PRESENT_PWD with the password under that nonce reaches SECURED-PASSWORD, uses the nonce up and clears the failure
count; a wrong one returns the level to OPEN and counts, and the third starts the 10 s lockout; AUTH_BEGIN answers
RndT for an enabled slot and refuses another; AUTH_FINISH with the right MAC reaches SECURED-AUTH; in lockout they
answer 0xA1; LOGOUT returns to OPEN. -/
def Obligations.TagAuthentication : Prop :=
  (∀ (s : State) (r : TagReq) (p : TagPower) (v : BitVec 8), s.Inv → s.heardReq r = true → r.option = false → s.tag.level ≠ .opened → s.gateError p = none → (s.coreRuns = true ∨ p.loss = .none) → Completes (.writeAfi r p v) s fun t =>
    t.nat 0x2700_03 = v.toNat ∧ t.tag.reply = some [0x00] ∧ t.groupAt 1000 1 true false = true ∧ t.store = s.store) ∧
  (∀ (s : State) (r : TagReq) (p : TagPower) (v : BitVec 8), s.Inv → s.heardReq r = true → r.option = false → s.tag.level ≠ .opened → s.gateError p = none → (s.coreRuns = true ∨ p.loss = .none) → Completes (.writeDsfid r p v) s fun t =>
    t.nat 0x2700_04 = v.toNat ∧ t.tag.reply = some [0x00] ∧ t.groupAt 1001 1 true false = true ∧ t.store = s.store) ∧
  (∀ (s : State) (r : TagReq) (mfg : BitVec 8), s.Inv → s.heardReq r = true → mfg.toNat = s.nat 0x2700_02 → s.tag.lockLeft = none → Completes (.getPwdNonce r mfg) s fun t =>
    t.tag.nonce = some (BitVec.ofNat 32 (leNat s.freshFour)) ∧ t.tag.reply = some (0x00 :: s.freshFour) ∧ t.drawn = s.drawn + 4) ∧
  (∀ (s : State) (r : TagReq) (mfg : BitVec 8) (pn x : BitVec 32), s.Inv → s.heardReq r = true → mfg.toNat = s.nat 0x2700_02 → s.tag.lockLeft = none → s.tag.nonce = some x → s.nat 0x2720_01 ≠ 0 → (pn ^^^ x).toNat = s.nat 0x2720_01 → Completes (.presentPwd r mfg pn) s fun t =>
    t.tag.level = .password ∧ t.tag.nonce = none ∧ t.nat 0x2720_04 = 0 ∧ t.tag.reply = some [0x00]) ∧
  (∀ (s : State) (r : TagReq) (mfg : BitVec 8) (pn x : BitVec 32), s.Inv → s.heardReq r = true → mfg.toNat = s.nat 0x2700_02 → s.tag.lockLeft = none → s.tag.nonce = some x → s.nat 0x2720_01 ≠ 0 → (pn ^^^ x).toNat ≠ s.nat 0x2720_01 → s.nat 0x2720_04 = 2 → s.nat 0x2740_04 + 1 < 2 ^ 32 → s.nat 0x2740_05 + 1 < 2 ^ 32 → Completes (.presentPwd r mfg pn) s fun t =>
    t.tag.level = .opened ∧ t.tag.nonce = none ∧ t.tag.lockLeft = some (usQuanta 10000000) ∧ t.nat 0x2740_04 = s.nat 0x2740_04 + 1 ∧ t.nat 0x2740_05 = s.nat 0x2740_05 + 1 ∧ t.tag.reply = some [0x01, 0xA2]) ∧
  (∀ (s : State) (r : TagReq) (mfg : BitVec 8) (pn : BitVec 32), s.Inv → s.heardReq r = true → mfg.toNat = s.nat 0x2700_02 → s.tag.lockLeft ≠ none → Completes (.presentPwd r mfg pn) s fun t =>
    t.tag.reply = some [0x01, 0xA1] ∧ t.tag.level = s.tag.level ∧ t.nat 0x2720_04 = s.nat 0x2720_04) ∧
  (∀ (s : State) (r : TagReq) (mfg slot : BitVec 8), s.Inv → s.heardReq r = true → mfg.toNat = s.nat 0x2700_02 → s.tag.lockLeft = none → slot.toNat ≤ 1 → noKey (s.oct (0x2720_02 + slot.toNat)) = false → Completes (.authBegin r mfg slot) s fun t =>
    (∃ b, t.tag.begun = some (slot.toNat, b) ∧ t.tag.reply = some (0x00 :: b) ∧ b.length = 8)) ∧
  (∀ (s : State) (r : TagReq) (mfg slot : BitVec 8), s.Inv → s.heardReq r = true → mfg.toNat = s.nat 0x2700_02 → s.tag.lockLeft = none → s.slotSecret slot.toNat = none → Completes (.authBegin r mfg slot) s fun t =>
    t.tag.reply = some [0x01, 0xA3] ∧ t.tag.begun = s.tag.begun) ∧
  (∀ (s : State) (r : TagReq) (mfg : BitVec 8) (rndR macR rndT : List Byte) (slot : Nat) (key : List Byte), s.Inv → s.heardReq r = true → mfg.toNat = s.nat 0x2700_02 → s.tag.lockLeft = none → s.tag.begun = some (slot, rndT) → s.slotSecret slot = some key → macR = authMac key rndT rndR (0x01 :: s.oct 0x2700_01 ++ rndT ++ rndR) → Completes (.authFinish r mfg rndR macR) s fun t =>
    t.tag.level = .auth slot ∧ t.nat 0x2720_04 = 0 ∧ t.tag.reply = some (0x00 :: authMac key rndT rndR (0x02 :: s.oct 0x2700_01 ++ rndR ++ rndT))) ∧
  (∀ (s : State) (r : TagReq) (mfg : BitVec 8), s.Inv → s.heardReq r = true → mfg.toNat = s.nat 0x2700_02 → Completes (.logout r mfg) s fun t =>
    t.tag.level = .opened ∧ t.tag.reply = some [0x00])

/-- Each write that passes R325 is taken with status OK and acts: a learned blanking slot becomes manual; FAULT_CODE 0
starts the immediate series; FIELD_CAP and a test mode are stored; an FIR set waits for its check; a mapping that is
known holds at once, another waits for its check; a mask is stored; SURVEY_CMD requests a survey; TEACH arms;
REF_VECTOR is stored; PAIRS makes the pennant manual; NOTCH is stored. -/
def Obligations.FieldEntryWrites : Prop :=
  (∀ (s : State) (who : Who) (b : Fin 8) (length : Bool) (value : BitVec 16), s.Inv → s.writes who (0x2130_01 + 0x100 * b.val + boolNat length) (leBytes 2 value.toNat) = true → s.nat (0x2130_03 + 0x100 * b.val) = 1 → Completes (.blankSlotWrite who b length value) s fun t =>
    t.status = .ok ∧ t.nat (0x2130_01 + 0x100 * b.val + boolNat length) = value.toNat ∧ t.nat (0x2130_03 + 0x100 * b.val) = 2 ∧ t.nat (0x2130_04 + 0x100 * b.val) = 0) ∧
  (∀ (s : State) (who : Who) (p : Fin 8) (value : BitVec 8), s.Inv → s.writes who (portKey p 2 2) (leBytes 1 value.toNat) = true → (s.port p).state = .fault → Completes (.faultCodeWrite who p value) s fun t =>
    t.status = .ok ∧ (t.port p).series = some (s.now, 0) ∧ (t.port p).state = .fault ∧ t.val (portKey p 2 2) = s.val (portKey p 2 2)) ∧
  (∀ (s : State) (who : Who) (p : Fin 8) (value : BitVec 16), s.Inv → s.writes who (portKey p 1 1) (leBytes 2 value.toNat) = true → (s.port p).state = .off → Completes (.fieldCapWrite who p value) s fun t =>
    t.status = .ok ∧ t.nat (portKey p 1 1) = value.toNat) ∧
  (∀ (s : State) (who : Who) (set : Fin 16) (coef : List Byte), s.Inv → s.writes who (firKey set 1) coef = true → 8 ≤ set.val → Completes (.firSetWrite who set coef) s fun t =>
    t.status = .ok ∧ t.nat (firKey set 2) = 1 ∧ t.val (firKey set 1) = s.val (firKey set 1) ∧ (∃ c ∈ t.fir, c.set = set.val ∧ c.coef = some coef ∧ c.t0 = s.now)) ∧
  (∀ (s : State) (who : Who) (p : Fin 8) (mode : Fin 12) (set : BitVec 8), s.Inv → s.writes who (portKey p 4 (mode.val + 1)) (leBytes 1 set.toNat) = true → s.firKnown set.toNat (mode.val + 1) = true → Completes (.firMapWrite who p mode set) s fun t =>
    t.status = .ok ∧ t.nat (portKey p 4 (mode.val + 1)) = set.toNat) ∧
  (∀ (s : State) (who : Who) (p : Fin 8) (mode : Fin 12) (set : BitVec 8), s.Inv → s.writes who (portKey p 4 (mode.val + 1)) (leBytes 1 set.toNat) = true → s.firKnown set.toNat (mode.val + 1) = false → Completes (.firMapWrite who p mode set) s fun t =>
    t.status = .ok ∧ t.val (portKey p 4 (mode.val + 1)) = s.val (portKey p 4 (mode.val + 1)) ∧ t.nat (firKey set.toNat 2) = 1) ∧
  (∀ (s : State) (who : Who) (mask : List Byte), s.Inv → s.writes who (0x22A0_01) mask = true → Completes (.maskWrite who mask) s fun t =>
    t.status = .ok ∧ t.oct 0x22A0_01 = mask) ∧
  (∀ (s : State) (who : Who) (p : Fin 8) (value : BitVec 8), s.Inv → s.writes who (portKey p 5 1) (leBytes 1 value.toNat) = true → value.toNat ≠ 0 → s.survey.phase = .idle → Completes (.portTestModeWrite who p value) s fun t =>
    t.status = .ok ∧ t.nat (portKey p 5 1) = value.toNat ∧ (t.port p).testT0 = s.now) ∧
  (∀ (s : State) (who : Who) (value : BitVec 8), s.Inv → s.writes who (0x2340_01) (leBytes 1 value.toNat) = true → s.survey.phase = .idle → Completes (.surveyCmd who value) s fun t =>
    t.status = .ok ∧ t.survey.phase = .requested ∧ t.survey.t0 = s.now) ∧
  (∀ (s : State) (who : Who) (z : Fin 16) (value : BitVec 8), s.Inv → s.writes who (zoneKey z 6) (leBytes 1 value.toNat) = true → Completes (.teach who z value) s fun t =>
    t.status = .ok ∧ t.nat (zoneKey z 6) = value.toNat ∧ (t.teach.getD z {}).t0 = s.now ∧ (t.teach.getD z {}).count = 0) ∧
  (∀ (s : State) (who : Who) (z : Fin 16) (v : List Byte), s.Inv → s.writes who (zoneKey z 5) v = true → Completes (.refVectorWrite who z v) s fun t =>
    t.status = .ok ∧ t.oct (zoneKey z 5) = v) ∧
  (∀ (s : State) (who : Who) (n : Fin 64) (pairs : List Byte), s.Inv → s.writes who (penKey n 7) pairs = true → Completes (.pairsWrite who n pairs) s fun t =>
    t.status = .ok ∧ t.nat (penKey n 3) = 2) ∧
  (∀ (s : State) (who : Who) (x : Fin 8) (high : Bool) (value : BitVec 16), s.Inv → s.writes who (0x3208_01 + 0x100 * x.val + boolNat high) (leBytes 2 value.toNat) = true → Completes (.notchWrite who x high value) s fun t =>
    t.status = .ok ∧ t.nat (0x3208_01 + 0x100 * x.val + boolNat high) = value.toNat)

/-- EXCH_CMD runs or ends with its status; BASE_RESET sends the port to LEARN; the ping geometry is stored; STORE_CMD
reads and writes blocks; HOLD is taken at the boundary of the group in progress, behind a field group at its end, and
released; the match-table commands insert, delete, look up and clear; a window write is stored; compare channels arm;
legacy counters load; a test emission starts. -/
def Obligations.EngineEntryWrites : Prop :=
  (∀ (s : State) (who : Who) (l : Fin 4), s.Inv → s.writes who (hfKey l 1) [0x01] = true → (s.lane l).running = false → Completes (.hostExchange who l) s fun t =>
    t.status = .ok ∧ t.nat (hfKey l 5) = 11 ∧ t.nat (hfKey l 1) = 3) ∧
  (∀ (s : State) (who : Who) (l : Fin 4) (c : Card), s.Inv → s.writes who (hfKey l 1) [0x01] = true → (s.lane l).running = true → (s.lane l).txAbort = false → s.nat (hfKey l 2) < 2 → s.hostCard l (s.nat (hfKey l 2)) = some c → (s.oct (hfKey l 3)).length ≤ 60 → (s.seq l).guardDone = true → (s.seq l).job = .none → (s.seq l).stage = .idle → (s.seq l).leave = false → Completes (.hostExchange who l) s fun t =>
    t.status = .ok ∧ (t.seq l).job = .host ∧ (t.seq l).step = .raw ∧ (t.seq l).stage = .ready ∧ (t.seq l).cur = c ∧ (t.seq l).hostTx = s.oct (hfKey l 3) ∧ (t.seq l).hostJob = some (s.nat (hfKey l 2), s.now) ∧ t.nat (hfKey l 1) = 1) ∧
  (∀ (s : State) (who : Who) (l : Fin 4) (c : Card), s.Inv → s.writes who (hfKey l 1) [0x01] = true → (s.lane l).running = true → (s.lane l).txAbort = false → s.hostCard l (s.nat (hfKey l 2)) = some c → s.inExchange l = true → Completes (.hostExchange who l) s fun t =>
    t.status = .ok ∧ (t.seq l).hostJob = some (s.nat (hfKey l 2), s.now) ∧ (t.seq l).job = (s.seq l).job ∧ (t.seq l).stage = (s.seq l).stage ∧ t.nat (hfKey l 1) = 1) ∧
  (∀ (s : State) (who : Who) (l : Fin 4), s.Inv → s.writes who (hfKey l 1) [0x02] = true → (s.lane l).state = .idle → s.nat (hfKey l 7) < 16 → s.nat (zoneKey (s.nat (hfKey l 7)) 1) ≠ 0xFF → s.requests = [] → s.survey.phase = .idle → Completes (.pollRequest who l) s fun t =>
    t.status = .ok ∧ t.requests = [{ zone := s.nat (hfKey l 7), lane := some l.val, t0 := s.now * 10 / 347136 }]) ∧
  (∀ (s : State) (who : Who) (p : Fin 8) (value : BitVec 8), s.Inv → s.writes who (frondKey p 0x14) (leBytes 1 value.toNat) = true → (s.frond p).state ≠ .off → value.toNat = 1 → Completes (.baseReset who p value) s fun t =>
    t.status = .ok ∧ (t.frond p).state = .learn ∧ (t.frond p).cls = 0 ∧ (t.frond p).learned = 0) ∧
  (∀ (s : State) (who : Who) (item : Fin 4) (value : BitVec 16), s.Inv → s.writes who (0x2600_03 + item.val) (leBytes 2 value.toNat) = true → Completes (.frondConfigWrite who none item value) s fun t =>
    t.status = .ok ∧ t.nat (0x2600_03 + item.val) = value.toNat) ∧
  (∀ (s : State) (who : Who) (p : Fin 8) (item : Fin 4) (value : BitVec 16), s.Inv → s.writes who (frondKey p 1) (leBytes 1 value.toNat) = true → Completes (.frondConfigWrite who (some p) item value) s fun t =>
    t.status = .ok ∧ t.nat (frondKey p 1) = value.toNat % 256) ∧
  (∀ (s : State) (who : Who), s.Inv → s.writes who (0x2730_04) [0x01] = true → oneRegion (s.nat 0x2730_01) (s.nat 0x2730_02) = true → Completes (.storeRead who) s fun t =>
    t.status = .ok ∧ t.oct 0x2730_03 = s.readBlocks (s.nat 0x2730_01) (s.nat 0x2730_02) ∧ t.nat 0x2730_05 = 0 ∧ t.nat 0x2730_04 = 2 ∧ t.store = s.store) ∧
  (∀ (s : State) (who : Who), s.Inv → s.writes who (0x2730_04) [0x02] = true → oneRegion (s.nat 0x2730_01) (s.nat 0x2730_02) = true → (s.oct 0x2730_03).length = 32 * s.nat 0x2730_02 → s.nat 0x2730_01 ≠ 16 → (regionOf (s.nat 0x2730_01)).writable = true → roleCode (s.roleOf who) ≠ 0 → s.fieldGroup = false → s.tag.commit.committed = false → Completes (.storeWriteGroup who) s fun t =>
    t.status = .ok ∧ t.nat 0x2730_05 = 0 ∧ t.groupAt (s.nat 0x2730_01) (s.nat 0x2730_02) false true = true ∧ (s.groupRuns = false → t.tag.groupTo = s.now + usQuanta (60 + 24 * s.nat 0x2730_02)) ∧ (∀ i < 32 * s.nat 0x2730_02, t.storeByte (32 * s.nat 0x2730_01 + i) =
      if s.overtakenAt (s.nat 0x2730_01 + i / 32) false then s.storeByte (32 * s.nat 0x2730_01 + i) else (s.oct 0x2730_03).getD i 0)) ∧
  (∀ (s : State) (who : Who), s.Inv → s.writes who (0x2701_04) [0x01] = true → s.tag.hold = none → s.fieldGroup = false → Completes (.holdWrite who 1) s fun t =>
    t.status = .ok ∧ t.tag.hold = some s.boundary) ∧
  (∀ (s : State) (who : Who), s.Inv → s.writes who (0x2701_04) [0x01] = true → s.tag.hold = none → s.fieldGroup = true → Completes (.holdWrite who 1) s fun t =>
    t.status = .ok ∧ t.tag.hold = some s.tag.fieldTo) ∧
  (∀ (s : State) (who : Who), s.Inv → s.writes who (0x2701_04) [0x00] = true → Completes (.holdWrite who 0) s fun t =>
    t.status = .ok ∧ t.tag.hold = none) ∧
  (∀ (s : State) (who : Who) (e : Nat), s.Inv → s.writes who (0x2810_01) [0x01] = true → s.findKey (s.nat 0x2810_02) (keyOf (s.oct 0x2810_03)) = some e → s.roleOf who = .maker → Completes (.tableInsert who) s fun t =>
    t.status = .ok ∧ t.nat 0x2810_05 = 0 ∧ t.nat 0x2810_06 = e ∧ t.nat 0x2810_01 = 2 ∧ t.slotBits e = keyOf (s.oct 0x2810_03) * 2 ^ 48 + s.nat 0x2810_02 * 2 ^ 44 + s.nat 0x2810_04 % 2 ^ 44 ∧ t.isPending 46 = true) ∧
  (∀ (s : State) (who : Who) (e : Nat), s.Inv → s.writes who (0x2810_01) [0x02] = true → s.findKey (s.nat 0x2810_02) (keyOf (s.oct 0x2810_03)) = some e → s.roleOf who = .maker → Completes (.tableDelete who) s fun t =>
    t.status = .ok ∧ t.nat 0x2810_05 = 0 ∧ t.nat 0x2810_06 = e ∧ t.nat 0x2810_01 = 2 ∧ t.slotBits e = 0 ∧ t.isPending 46 = true) ∧
  (∀ (s : State) (who : Who), s.Inv → s.writes who (0x2810_01) [0x03] = true → s.findKey (s.nat 0x2810_02) (keyOf (s.oct 0x2810_03)) = none → Completes (.tableLookup who) s fun t =>
    t.status = .ok ∧ t.nat 0x2810_05 = 2 ∧ t.nat 0x2810_06 = 0x3FFF ∧ t.nat 0x2810_07 = 0 ∧ t.nat 0x2810_01 = 2) ∧
  (∀ (s : State) (who : Who), s.Inv → s.writes who (0x2810_01) [0x04] = true → s.roleOf who ≠ .operator → Completes (.tableClearAll who) s fun t =>
    t.status = .ok ∧ t.nat 0x2810_05 = 0 ∧ t.nat 0x2810_01 = 2 ∧ t.isPending 46 = true ∧ (∀ e : Fin 16384, t.slotFree e = true)) ∧
  (∀ (s : State) (who : Who), s.Inv → s.writes who (0x2810_01) [0x04] = true → s.roleOf who = .operator → Completes (.tableClearAll who) s fun t =>
    t.status = .ok ∧ t.nat 0x2810_05 = 3 ∧ (∀ e : Fin 16384, t.slotBits e = s.slotBits e)) ∧
  (∀ (s : State) (who : Who) (e : Fin 16384) (entry : List Byte), s.Inv → s.writes who (slotKey e) entry = true → Completes (.tableWindowWrite who e entry) s fun t =>
    t.status = .ok ∧ t.oct (slotKey e) = leBytes 16 (entryClean (leNat entry)) ∧ t.isPending 46 = true) ∧
  (∀ (s : State) (who : Who) (n : Fin 16) (value : BitVec 64), s.Inv → s.writes who (cmpKey n 2) (leBytes 8 value.toNat) = true → Completes (.compareValueWrite who n value) s fun t =>
    t.status = .ok ∧ t.nat (cmpKey n 2) = value.toNat % 2 ^ 48 ∧ t.bit (cmpKey n 4) 0 = true ∧ t.tb.cmpW.getD n 0 = s.tb64) ∧
  (∀ (s : State) (who : Who) (n : Fin 16) (value : BitVec 8), s.Inv → s.writes who (cmpKey n 1) (leBytes 1 value.toNat) = true → value.getLsbD 0 = false → s.bit (cmpKey n 4) 0 = true → Completes (.compareCtrlWrite who n value) s fun t =>
    t.status = .ok ∧ t.bit (cmpKey n 4) 0 = false ∧ t.nat (cmpKey n 1) = value.toNat % 8) ∧
  (∀ (s : State) (who : Who) (i : Fin 4) (value : BitVec 16), s.Inv → s.writes who (lcKey i 3) (leBytes 2 value.toNat) = true → Completes (.lcCountWrite who i value) s fun t =>
    t.status = .ok ∧ t.nat (lcKey i 3) = value.toNat) ∧
  (∀ (s : State) (who : Who) (i : Fin 4) (value : BitVec 8), s.Inv → s.writes who (lcKey i 2) (leBytes 1 value.toNat) = true → Completes (.lcPrescaleWrite who i false value) s fun t =>
    t.status = .ok ∧ t.nat (lcKey i 2) = value.toNat ∧ t.tb.lcPre.getD i 0 = 0) ∧
  (∀ (s : State) (who : Who) (i : Fin 4) (value : BitVec 8), s.Inv → s.writes who (lcKey i 1) (leBytes 1 value.toNat) = true → s.bit (lcKey i 1) 0 = false → value.getLsbD 0 = true → Completes (.lcPrescaleWrite who i true value) s fun t =>
    t.status = .ok ∧ t.nat (lcKey i 1) = value.toNat % 8 ∧ t.tb.lcPre.getD i 0 = 0) ∧
  (∀ (s : State) (who : Who) (value : BitVec 8), s.Inv → s.writes who (0x3000_0C) (leBytes 1 value.toNat) = true → value.toNat ≠ 0 → s.testRange = none → s.nat 0x3020_05 + 1 < 2 ^ 32 → Completes (.radioTestModeWrite who value) s fun t =>
    t.status = .ok ∧ t.nat 0x3000_0C = 0 ∧ t.nat 0x3020_05 = s.nat 0x3020_05 + 1 ∧ t.isPending 74 = true) ∧
  (∀ (s : State) (who : Who) (value : BitVec 8) (r : Nat), s.Inv → s.writes who (0x3000_0C) (leBytes 1 value.toNat) = true → value.toNat ≠ 0 → s.testRange = some r → s.radio.test = none → s.radio.state = .sleep → s.radio.move = none → s.radio.cur = none → s.radio.held = none → s.radio.rx = none → s.radio.reversal = none → Completes (.radioTestModeWrite who value) s fun t =>
    t.status = .ok ∧ t.nat 0x3000_0C = value.toNat ∧ t.radio.test = some { mode := value.toNat } ∧ t.radio.move = some { no := 1, dest := .standby, t0 := s.now, dur := usQuanta 420 })

/-- A claim to operator is taken, uses the nonce up and clears the failures; an unprovisioned maker claim is accepted; a
key is stored and a first maker key sets PROVISIONED; TID_RESET clears TID_LAST; ANNOTATE adds a record; AUD_ACK is
stored; ERASE and VERIFY run; ACTIVATE, CONFIRM and REVERT name their slot; a chunk advances FW_OFFSET; ATTEST_CMD
starts; test access is entered. -/
def Obligations.SystemEntryWrites : Prop :=
  (∀ (s : State) (who : Who) (x : Sess) (claim : List Byte), s.Inv → s.writes who (0x1800_03) claim = true → sessOf? who = some x → uAt claim 0 1 = 0 → Completes (.roleClaim who claim) s fun t =>
    t.status = .ok ∧ (t.session x).role = .operator ∧ (t.session x).fails = 0 ∧ (t.session x).nonce = none) ∧
  (∀ (s : State) (who : Who) (x : Sess) (claim : List Byte), s.Inv → s.writes who (0x1800_03) claim = true → sessOf? who = some x → uAt claim 0 1 = 2 → s.unprovisioned = true → Completes (.roleClaim who claim) s fun t =>
    t.status = .ok ∧ (t.session x).role = .maker ∧ (t.session x).fails = 0 ∧ (t.session x).nonce = none) ∧
  (∀ (s : State) (who : Who) (key : Fin 8) (value : List Byte), s.Inv → s.writes who (keyEntry key) value = true → key.val ≠ 5 → Completes (.keyWrite who key value) s fun t =>
    t.status = .ok ∧ t.oct (keyEntry key) = value ∧ (key.val = 1 → noKey value = false → t.flag 0x1812_02 = true)) ∧
  (∀ (s : State) (who : Who) (value : List Byte), s.Inv → s.writes who (0x2720_01) value = true → Completes (.keyWrite who 5 value) s fun t =>
    t.status = .ok ∧ t.nat 0x2720_01 = leNat value) ∧
  (∀ (s : State) (who : Who) (n : Fin 64) (value : BitVec 8), s.Inv → s.writes who (0x1820_02 + 0x100 * n.val) (leBytes 1 value.toNat) = true → Completes (.tidReset who n value) s fun t =>
    t.status = .ok ∧ t.nat (0x1820_01 + 0x100 * n.val) = 0 ∧ t.tidSeen.getLsbD n.val = false) ∧
  (∀ (s : State) (who : Who) (note : List Byte), s.Inv → s.writes who (0x1902_01) note = true → s.nat 0x1900_01 + 1 < 2 ^ 32 → Completes (.annotate who note) s fun t =>
    t.status = .ok ∧ t.nat 0x1900_01 = s.nat 0x1900_01 + 1 ∧ t.audit.length = min 512 (s.audit.length + 1)) ∧
  (∀ (s : State) (who : Who) (value : BitVec 32), s.Inv → s.writes who (0x1900_02) (leBytes 4 value.toNat) = true → Completes (.audAckWrite who value) s fun t =>
    t.status = .ok ∧ t.nat 0x1900_02 = value.toNat) ∧
  (∀ (s : State) (who : Who), s.Inv → s.writes who (0x1A10_01) [0x01] = true → Completes (.erase who) s fun t =>
    t.status = .ok ∧ t.firmware.busy = some (1, s.now) ∧ t.nat 0x1A10_01 = 1) ∧
  (∀ (s : State) (who : Who), s.Inv → s.writes who (0x1A10_01) [0x02] = true → Completes (.verifyImage who) s fun t =>
    t.status = .ok ∧ t.firmware.busy = some (2, s.now) ∧ t.nat 0x1A10_01 = 1) ∧
  (∀ (s : State) (who : Who), s.Inv → s.writes who (0x1A10_01) [0x03] = true → (s.image s.otherSlot).st = 2 → Completes (.activate who) s fun t =>
    t.status = .ok ∧ t.nat 0x1A10_06 = s.otherSlot ∧ t.flag 0x1A10_07 = true ∧ t.nat 0x1A10_01 = 2 ∧ t.nat 0x1A10_04 = 0 ∧ t.isPending 93 = true) ∧
  (∀ (s : State) (who : Who), s.Inv → s.writes who (0x1A10_01) [0x04] = true → Completes (.confirm who) s fun t =>
    t.status = .ok ∧ t.flag 0x1A10_07 = false ∧ t.nat 0x1A10_01 = 2 ∧ t.firmware.tried = false ∧ s.nat 0x1A10_09 ≤ t.nat 0x1A10_09) ∧
  (∀ (s : State) (who : Who), s.Inv → s.writes who (0x1A10_01) [0x05] = true → (s.image s.otherSlot).st = 2 → Completes (.revert who) s fun t =>
    t.status = .ok ∧ t.nat 0x1A10_06 = s.otherSlot ∧ t.flag 0x1A10_07 = false ∧ t.nat 0x1A10_01 = 2 ∧ t.nat 0x1A10_04 = 0) ∧
  (∀ (s : State) (who : Who) (chunk : List Byte), s.Inv → s.writes who (0x1A10_03) chunk = true → Completes (.fwChunkWrite who chunk) s fun t =>
    t.status = .ok ∧ t.nat 0x1A10_02 = s.nat 0x1A10_02 + chunk.length ∧ (t.image s.otherSlot).bytes = splice (s.image s.otherSlot).bytes (s.nat 0x1A10_02) chunk) ∧
  (∀ (s : State) (who : Who) (value : BitVec 8), s.Inv → s.writes who (0x1A20_02) (leBytes 1 value.toNat) = true → Completes (.attestCmd who value) s fun t =>
    t.status = .ok ∧ t.attestT0 = some s.now ∧ t.nat 0x1A20_02 = 1) ∧
  (∀ (s : State) (who : Who) (value : BitVec 32), s.Inv → s.writes who (0x1A40_01) (leBytes 4 value.toNat) = true → Completes (.testAccess who value) s fun t =>
    t.status = .ok ∧ t.testAccess = true ∧ t.testEntered = true ∧ t.flag 0x1812_03 = true ∧ (t.session .spi).nonce = none ∧ (t.session .uart).nonce = none ∧ t.isPending 93 = true)

/-- CAL_REQUEST marks blocks pending; the reset code resets the core domain and leaves the store but for the identity
blocks; restore code 1 also sets the stored entries to defaults; SLEEP_CMD 1 is taken when idle and counted when not,
and 0 takes it back and ends a standby; ROUTE, LINE_MODE and DIR are stored; a pad's OUT drives it and ends its rule
pulse, and so does a write of GP_OUT for every pad. -/
def Obligations.ModeEntryWrites : Prop :=
  (∀ (s : State) (who : Who) (value : BitVec 16), s.Inv → s.writes who (0x3500_01) (leBytes 2 value.toNat) = true → Completes (.calRequest who value) s fun t =>
    t.status = .ok ∧ (∀ b : Fin 10, value.getLsbD b = true → t.calPending b = true)) ∧
  (∀ (s : State) (who : Who) (value : BitVec 32), s.Inv → s.writes who (0x3802_01) (leBytes 4 value.toNat) = true → Completes (.softReset who value) s fun t =>
    t.status = .ok ∧ t.nat 0x3801_01 = 5 ∧ t.ma.state = .freeRun ∧ t.ma.acc = 0 ∧ t.startT0 = s.now ∧ (t.phase = .gate ∨ t.phase = .recovery) ∧ t.halted = false ∧ t.testAccess = false ∧ (∀ p : Fin 8, (t.port p).state = .off) ∧ t.flag 0x1812_03 = s.flag 0x1812_03 ∧ (∀ a, 128 ≤ a → t.storeByte a = s.storeByte a)) ∧
  (∀ (s : State) (who : Who) (value : BitVec 32), s.Inv → s.writes who (0x3803_01) (leBytes 4 value.toNat) = true → Completes (.restoreDefaults who value) s fun t =>
    t.status = .ok ∧ t.nat 0x3801_01 = 5 ∧ t.ma.state = .freeRun ∧ t.nat 0x2100_01 = 5000 ∧ (t.phase = .gate ∨ t.phase = .recovery)) ∧
  (∀ (s : State) (who : Who) (value : BitVec 8), s.Inv → s.writes who (0x3800_03) (leBytes 1 value.toNat) = true → value.toNat = 1 → s.idle = false → s.nat 0x3801_07 + 1 < 2 ^ 32 → Completes (.sleepCmd who value) s fun t =>
    t.status = .ok ∧ t.nat 0x3800_03 = 2 ∧ t.nat 0x3801_07 = s.nat 0x3801_07 + 1 ∧ t.power = s.power) ∧
  (∀ (s : State) (who : Who) (value : BitVec 8), s.Inv → s.writes who (0x3800_03) (leBytes 1 value.toNat) = true → value.toNat = 1 → s.idle = true → s.power = .active → Completes (.sleepCmd who value) s fun t =>
    t.status = .ok ∧ t.nat 0x3800_03 = 1 ∧ t.nat 0x3801_07 = s.nat 0x3801_07 ∧ t.power = .active) ∧
  (∀ (s : State) (who : Who) (e : Fin 96) (value : BitVec 8), s.Inv → s.writes who (0x3610_01 + e.val) (leBytes 1 value.toNat) = true → Completes (.routeWrite who e value) s fun t =>
    t.status = .ok ∧ t.nat (0x3610_01 + e.val) = value.toNat % 16) ∧
  (∀ (s : State) (who : Who) (l : Fin 4) (value : BitVec 8), s.Inv → s.writes who (0x3602_01 + l.val) (leBytes 1 value.toNat) = true → Completes (.lineModeWrite who l value) s fun t =>
    t.status = .ok ∧ t.nat (0x3602_01 + l.val) = value.toNat % 16) ∧
  (∀ (s : State) (who : Who) (n : Fin 16) (value : BitVec 16), s.Inv → s.writes who (padKey n 4) (leBytes 1 value.toNat) = true → value.toNat < 2 → Completes (.gpOutWrite who (some n) value) s fun t =>
    t.status = .ok ∧ t.flag (padKey n 4) = (value = 1) ∧ t.pulses.getD n none = none ∧ (s.padDir n = 1 → t.flag (padKey n 5) = (value = 1))) ∧
  (∀ (s : State) (who : Who) (value : BitVec 16), s.Inv → s.writes who (0x3710_02) (leBytes 2 value.toNat) = true → Completes (.gpOutWrite who none value) s fun t =>
    t.status = .ok ∧ (∀ n : Fin 16, t.flag (padKey n 4) = value.getLsbD n ∧ t.pulses.getD n none = none)) ∧
  (∀ (s : State) (who : Who) (value : BitVec 8), s.Inv → s.writes who (0x3800_03) (leBytes 1 value.toNat) = true → value.toNat = 0 → Completes (.sleepCmd who value) s fun t =>
    t.status = .ok ∧ t.nat 0x3800_03 = 0 ∧ t.power = (if s.inStandby then .active else s.power)) ∧
  (∀ (s : State) (who : Who) (n : Fin 16) (value : BitVec 8), s.Inv → s.writes who (padKey n 1) (leBytes 1 value.toNat) = true → Completes (.gpDirWrite who n value) s fun t =>
    t.status = .ok ∧ t.padDir n = value.toNat ∧ (value.toNat = 1 → t.flag (padKey n 5) = s.flag (padKey n 4)) ∧ (value.toNat = 0 → t.pulses.getD n none = none))

/-- The loss of the carrying source with the other present starts a switchover; with no other it starts ride-through on
the store; a source that comes during ride-through ends it; the preferred source returns after 1 s; a switchover
completes; the store's level sets E and PWR_GOOD with its hysteresis; E of 0 on the store shuts down; the rail limits,
faults and retries. -/
def Obligations.SupplyStates : Prop :=
  (∀ (s : State), s.Inv → s.coreOn = true → s.supply.source = .mains → s.supply.mains = true → s.supply.aux = true → s.nat 0x2000_0E + 1 < 2 ^ 32 → Completes (.sourceLoss false) s fun t =>
    t.supply.state = .switchover ∧ t.supply.source = .aux ∧ t.supply.mains = false ∧ t.supply.swT0 = s.now ∧ t.nat 0x2000_0E = s.nat 0x2000_0E + 1 ∧ t.isPending 94 = true) ∧
  (∀ (s : State), s.Inv → s.coreOn = true → s.supply.source = .mains → s.supply.mains = true → s.supply.aux = false → Completes (.sourceLoss false) s fun t =>
    t.supply.state = .rideThrough ∧ t.supply.source = .store ∧ t.supply.mains = false ∧ t.supply.rideT0 = s.now ∧ t.isPending 94 = true) ∧
  (∀ (s : State) (aux : Bool), s.Inv → s.coreOn = true → s.supply.state = .rideThrough → s.sourcePresent (if aux then .aux else .mains) = false → Completes (.sourcePresence aux) s fun t =>
    t.supply.state = .normal ∧ t.supply.source = (if aux then .aux else .mains) ∧ t.isPending 94 = true ∧ t.nat 0x2000_0C = min 65535 (s.sinceUs s.supply.rideT0 / 1000)) ∧
  (∀ (s : State), s.Inv → s.coreOn = true → s.supply.state = .normal → s.supply.source = otherSource s.preferred → s.sourcePresent s.preferred = true → s.passedS (s.presentT0 s.preferred) 1 = true → Completes (.preferredSourceReturn) s fun t =>
    t.supply.state = .switchover ∧ t.supply.source = s.preferred ∧ t.isPending 94 = true) ∧
  (∀ (s : State), s.Inv → s.supply.state = .switchover → Completes (.switchoverComplete) s fun t =>
    t.supply.state = .normal ∧ t.supply.source = s.supply.source) ∧
  (∀ (s : State) (mv : BitVec 16), s.Inv → s.coreOn = true → s.phase = .service → s.supply.state = .normal → s.supply.pwrGood = false → s.storeMay mv.toNat = true → 6000000000 ≤ storeE mv.toNat → Completes (.storeLevelCrossing mv) s fun t =>
    t.supply.pwrGood = true ∧ t.nat 0x2000_08 = mv.toNat ∧ t.isPending 94 = true) ∧
  (∀ (s : State) (mv : BitVec 16), s.Inv → s.phase = .service → s.coreOn = true → s.supply.pwrGood = true → s.storeMay mv.toNat = true → 4000000000 ≤ storeE mv.toNat → s.supply.state = .normal → Completes (.storeLevelCrossing mv) s fun t =>
    t.supply.pwrGood = true ∧ t.supply.energy = storeE mv.toNat ∧ t.int 0x2000_09 = clampI (-32768) 32767 (storeE mv.toNat / 100000000)) ∧
  (∀ (s : State), s.Inv → s.phase ≠ .off → s.supply.source = .store → s.supply.energy ≤ 0 → Completes (.shutdown) s fun t =>
    t.phase = .off ∧ t.supply.state = .shutdown ∧ t.supply.pwrGood = false ∧ t.hal.held = [] ∧ (s.statusChanged = false → t.store = s.store) ∧ t.audit = s.audit ∧ (∀ p : Fin 8, (t.port p).state = .off) ∧ t.radio.savedBins = s.radio.bins) ∧
  (∀ (s : State), s.Inv → s.supply.vout = .on → Completes (.voutCurrentLimit true) s fun t =>
    t.supply.vout = .limiting ∧ t.supply.voutT0 = s.now) ∧
  (∀ (s : State) (low : Bool), s.Inv → s.coreOn = true → s.phase = .service → s.supply.vout = .limiting → s.passedMs s.supply.voutT0 100 = true → s.nat 0x2001_05 + 1 < 2 ^ 32 → Completes (.voutFault low) s fun t =>
    t.supply.vout = .fault ∧ t.supply.voutT0 = s.now ∧ t.nat 0x2001_05 = s.nat 0x2001_05 + 1 ∧ t.held .vout = 0 ∧ t.isPending 94 = true) ∧
  (∀ (s : State), s.Inv → s.supply.vout = .fault → s.passedS s.supply.voutT0 1 = true → s.nat 0x2001_01 = 0 → Completes (.voutRetry) s fun t =>
    t.supply.vout = .off ∧ t.held .vout = 0) ∧
  (∀ (s : State), s.Inv → s.phase = .service → s.power = .active → s.supply.vout = .fault → s.passedS s.supply.voutT0 1 = true → s.nat 0x2001_01 ≠ 0 → s.held .vout = 0 → s.claimOf .vout = none → 0 < s.nat 0x2001_02 → s.nat 0x2001_02 ≤ s.claimMax .vout → Completes (.voutRetry) s fun t =>
    t.supply.vout = .off ∧ (t.claimOf .vout).map Claim.mw = some (s.nat 0x2001_02))

/-- A claim that could ever fit waits and one that never could is refused with SIZE and counted; a tick grants a lone
claim that fits, whole; a release frees; at a T_hot of at most 100 °C and no dissipation excess the ceiling is
untouched, and from 125 °C on it is 0, while no grants are held. -/
def Obligations.HalyardServes : Prop :=
  (∀ (s : State) (who : Fin 13) (mw : BitVec 16) (prio : Fin 8), s.Inv → s.coreOn = true → s.claimMax (claimantOf who) < s.held (claimantOf who) + (mw.toNat + 9) / 10 * 10 → s.nat (0x2012_01 + (claimantOf who).cls) + 1 < 2 ^ 32 → Completes (.halyardClaim who mw prio none) s fun t =>
    t.answerTo (claimantOf who) = some .size ∧ t.nat (0x2012_01 + (claimantOf who).cls) = s.nat (0x2012_01 + (claimantOf who).cls) + 1 ∧ t.held (claimantOf who) = s.held (claimantOf who)) ∧
  (∀ (s : State) (who : Fin 13) (mw : BitVec 16) (prio : Fin 8), s.Inv → s.coreOn = true → s.held (claimantOf who) + (mw.toNat + 9) / 10 * 10 ≤ s.claimMax (claimantOf who) → ((claimantOf who).isPl = true → s.noLine = false) → s.hal.claims = [] → Completes (.halyardClaim who mw prio none) s fun t =>
    t.answerTo (claimantOf who) = some .waiting ∧ t.hal.claims = [{ who := claimantOf who, mw := (mw.toNat + 9) / 10 * 10, prio := prio, t0 := s.now, deadline := none }]) ∧
  (∀ (s : State) (mw : Nat), s.Inv → s.coreOn = true → s.tickDue = true → s.hal.claims = [{ who := .radio, mw := mw, prio := 0, t0 := s.now, deadline := none }] → s.hal.held = [] → s.supply.state = .normal → s.power = .active → s.radio.state ≠ .rx → s.radio.state ≠ .tx → s.radio.move = none → s.radio.air = none → s.radio.reversal = none → s.radio.cur = none → s.radio.held = none → s.radio.test = none → s.hal.bursts = [] → s.flag 0x2010_02 = false → s.int 0x2010_09 < 1250 → 7500 ≤ s.nat 0x2010_07 → 7500 ≤ 38 * s.storeFine / 100000000 → s.coreReserve + mw ≤ 7500 → 0 < mw → Completes (.halyardTick) s fun t =>
    t.held .radio = mw ∧ t.answerTo .radio = some .granted ∧ t.hal.tick = s.hal.tick + 1) ∧
  (∀ (s : State) (who : Fin 13) (keep : BitVec 16), s.Inv → s.coreOn = true → keep.toNat < s.held (claimantOf who) → Completes (.halyardRelease who keep) s fun t =>
    t.held (claimantOf who) = keep.toNat ∧ t.hal.claims = s.hal.claims) ∧
  (∀ (s : State) (input : BitVec 16) (m : Outputs), s.Inv → s.coreOn = true → s.passedMs s.hal.dissT0 1 = true → 1250 ≤ s.hottest → s.hal.held = [] → Completes (.thermalUpdate input m) s fun t =>
    t.nat 0x2010_07 = 0 ∧ t.int 0x2010_09 = s.hottest ∧ t.hal.dissT0 = s.now ∧ t.nat 0x2000_07 = input.toNat) ∧
  (∀ (s : State) (input : BitVec 16) (m : Outputs), s.Inv → s.coreOn = true → s.passedMs s.hal.dissT0 1 = true → s.hottest ≤ 1000 → s.hal.average (lossOf input m) ≤ 3200 → s.nat 0x2010_07 = 7500 → Completes (.thermalUpdate input m) s fun t =>
    t.nat 0x2010_07 = 7500 ∧ t.int 0x2010_09 = s.hottest ∧ t.nat 0x2010_08 = s.hal.average (lossOf input m))

/-- A word opens or extends the host's bunting; COMMIT pushes it to its queue's tail with its producer and stamp; ABORT
releases it; a pop gives HDR0 and makes it current; QUE_DROP ends the current one; a push to a queue at DEPTH_MAX is
refused and counted; a hardware pop takes the head, first in, first out, one of the host's queue makes it current; a
consumer's pop in the clock of a COMMIT comes first; a party that may not push or pop is counted; FREE_MIN is reloaded
by its read. -/
def Obligations.PoolMovesBuntings : Prop :=
  (∀ (s : State) (w : BitVec 32), s.Inv → s.coreOn = true → s.mayPush s.pushQ 0 = true → s.openBytes s.pushQ 0 = none → s.mayAllocate s.pushQ = true → 1 ≤ s.nat (qKey s.pushQ 8) → Completes (.queuePushWord w) s fun t =>
    t.openBytes s.pushQ 0 = some (leBytes 4 w.toNat) ∧ t.pool.pushStat = 0) ∧
  (∀ (s : State) (tail : Fin 4) (pop : Bool) (b : List Byte), s.Inv → s.coreOn = true → s.mayPush s.pushQ 0 = true → s.openBytes s.pushQ 0 = some b → (pop && !s.mayPop s.pushQ 0) = false → (s.queue s.pushQ).items.length < s.nat (qKey s.pushQ 3) → Completes (.commitBunting (tail, pop)) s fun t =>
    (t.queue s.pushQ).items = (s.queue s.pushQ).items ++ [{ data := b.take (b.length - if tail.val = 0 then 0 else 4 - tail.val), producer := 0, stamp := s.tb64, key := s.pool.key }] ∧ t.openBytes s.pushQ 0 = none ∧ t.pool.pushStat = 0) ∧
  (∀ (s : State) (tail : Fin 4) (b : List Byte) (h : Bunting) (rest : List Bunting), s.Inv → s.coreOn = true → s.mayPush s.pushQ 0 = true → s.openBytes s.pushQ 0 = some b → s.mayPop s.pushQ 0 = false → (s.queue s.pushQ).items = h :: rest → rest.length < s.nat (qKey s.pushQ 3) → Completes (.commitBunting (tail, true)) s fun t =>
    (t.queue s.pushQ).items = rest ++ [{ data := b.take (b.length - if tail.val = 0 then 0 else 4 - tail.val), producer := 0, stamp := s.tb64, key := s.pool.key }] ∧ t.out = h.heard ∧ t.pool.pushStat = 0) ∧
  (∀ (s : State), s.Inv → s.coreOn = true → s.mayPush s.pushQ 0 = true → Completes (.abortBunting) s fun t =>
    t.openBytes s.pushQ 0 = none ∧ t.pool.pushStat = 0 ∧ (t.queue s.pushQ).items = (s.queue s.pushQ).items) ∧
  (∀ (s : State) (b : Bunting) (rest : List Bunting), s.Inv → s.coreOn = true → s.mayPop s.popQ 0 = true → (s.queue s.popQ).current = none → (s.queue s.popQ).items = b :: rest → b.corrupt = false → Completes (.queuePopRead) s fun t =>
    t.out = .num (hdr0 b) ∧ (t.queue s.popQ).current = some b ∧ (t.queue s.popQ).items = rest ∧ t.pool.popStat = 0) ∧
  (∀ (s : State) (b : Bunting), s.Inv → s.coreOn = true → (s.queue s.popQ).current = some b → s.nat (qKey s.popQ 15) + 1 < 2 ^ 32 → Completes (.queDrop) s fun t =>
    (t.queue s.popQ).current = none ∧ t.nat (qKey s.popQ 15) = s.nat (qKey s.popQ 15) + 1) ∧
  (∀ (s : State) (q : Fin 32) (who : Fin 8) (data : List Byte), s.Inv → s.coreOn = true → s.mayPush q who = true → s.openBytes q who = none → data ≠ [] → data.length ≤ 128 → s.mayAllocate q = true → 1 ≤ s.nat (qKey q 8) → (s.queue q).items.length < s.nat (qKey q 3) → Completes (.hardwarePush q who data false) s fun t =>
    (t.queue q).items = (s.queue q).items ++ [{ data := data, producer := who, stamp := s.tb64, key := s.pool.key }]) ∧
  (∀ (s : State) (q : Fin 32) (who : Fin 8) (data : List Byte), s.Inv → s.coreOn = true → s.mayPush q who = true → s.openBytes q who = none → data ≠ [] → data.length ≤ 128 → s.mayAllocate q = true → 1 ≤ s.nat (qKey q 8) → s.nat (qKey q 3) ≤ (s.queue q).items.length → s.nat (qKey q 13) + 1 < 2 ^ 32 → Completes (.hardwarePush q who data false) s fun t =>
    (t.queue q).items = (s.queue q).items ∧ t.nat (qKey q 13) = s.nat (qKey q 13) + 1 ∧ (t.queue q).overflow = true) ∧
  (∀ (s : State) (q : Fin 32) (who : Fin 8), s.Inv → s.coreOn = true → s.mayPop q who = false → s.nat 0x2900_08 + 1 < 2 ^ 32 → Completes (.hardwarePop q who) s fun t =>
    t.nat 0x2900_08 = s.nat 0x2900_08 + 1 ∧ t.pool = s.pool) ∧
  (∀ (s : State) (q : Fin 32) (who : Fin 8) (b : Bunting) (rest : List Bunting), s.Inv → s.coreOn = true → s.mayPop q who = true → s.mayPop q 0 = false → (s.queue q).items = b :: rest → b.corrupt = false → Completes (.hardwarePop q who) s fun t =>
    t.out = .oct b.data ∧ (t.queue q).items = rest) ∧
  (∀ (s : State) (q : Fin 32) (who : Fin 8) (b : Bunting) (rest : List Bunting), s.Inv → s.coreOn = true → s.mayPop q who = true → s.mayPop q 0 = true → (s.queue q).current = none → (s.queue q).items = b :: rest → b.corrupt = false → Completes (.hardwarePop q who) s fun t =>
    t.out = .num (hdr0 b) ∧ (t.queue q).current = some b ∧ (t.queue q).items = rest ∧ t.pool.popStat = 0) ∧
  (∀ (s : State), s.Inv → s.coreOn = true → Completes (.poolFreeMinRead) s fun t =>
    t.out = .num (s.pool.freeMin * 2 ^ 16 + s.poolFree) ∧ t.pool.freeMin = s.poolFree)

/-- TB at 2^48 - 1 wraps to 0 and TB_EPOCH advances, with event 65; a read of FW_TB_LO latches the upper word for its
session; a powered second counts; an armed channel whose VALUE is reached fires once; a capture edge at a pad lands
its stamp, FULL and event 62, or waits for the tick's end where FULL is 1; reading VALUE returns it and clears FULL,
and one in the tick of a waiting edge comes before it, so that the edge lands with no overrun; a legacy counter wraps
to 0 with OVF. -/
def Obligations.TimeBaseRuns : Prop :=
  (∀ (s : State), s.Inv → s.coreOn = true → s.tb.tb = BitVec.allOnes 48 → s.frozen = false → Completes (.tbWrap) s fun t =>
    t.tb.tb = 0 ∧ t.tb.epoch = s.tb.epoch + 1 ∧ t.isPending 65 = true) ∧
  (∀ (s : State) (sess : Sess), s.Inv → s.coreOn = true → Completes (.tbLoRead sess) s fun t =>
    t.out = .num ((s.tb64 % 2 ^ 32 : Nat) : Int) ∧ t.tbHi sess = s.tb64 / 2 ^ 32 ∧ t.tb.tb = s.tb.tb) ∧
  (∀ (s : State), s.Inv → s.coreOn = true → s.tb.secTicks = 27_119_999 → s.nat 0x2A01_01 + 1 < 2 ^ 32 → Completes (.poweredSecond) s fun t =>
    t.tb.secTicks = 0 ∧ t.nat 0x2A01_01 = s.nat 0x2A01_01 + 1 ∧ t.radio.savedBins = s.radio.bins) ∧
  (∀ (s : State) (n : Fin 16), s.Inv → s.coreOn = true → s.cmpDue n = true → s.bit (cmpKey n 1) 2 = false → s.nat (cmpKey n 5) + 1 < 2 ^ 32 → Completes (.compareFire n) s fun t =>
    t.bit (cmpKey n 4) 0 = false ∧ t.bit (cmpKey n 4) 1 = true ∧ t.nat (cmpKey n 5) = s.nat (cmpKey n 5) + 1 ∧ (s.bit (cmpKey n 1) 1 = true → t.isPending 60 = true) ∧ t.cmpDue n = false) ∧
  (∀ (s : State) (n : Fin 16), s.Inv → s.coreOn = true → s.cmpDue n = true → s.bit (cmpKey n 1) 2 = true → s.nat (cmpKey n 3) ≠ 0 → s.nat (cmpKey n 3) < 2 ^ 47 → s.nat (cmpKey n 2) < 2 ^ 48 → Completes (.compareFire n) s fun t =>
    t.bit (cmpKey n 4) 0 = true ∧ t.bit (cmpKey n 4) 1 = true ∧ t.nat (cmpKey n 2) = (s.nat (cmpKey n 2) + periodsTo (s.cmpFireTick n) (s.nat (cmpKey n 2)) (s.nat (cmpKey n 3)) * s.nat (cmpKey n 3)) % 2 ^ 48) ∧
  (∀ (s : State) (c : Fin 8) (rising : Bool) (off : Fin 3), s.Inv → s.coreOn = true → s.capTakes c rising = true → s.nat (capKey c 1) ≤ 17 → s.bit (capKey c 4) 0 = false → s.nat (capKey c 5) + 1 < 2 ^ 32 → Completes (.captureEdge c rising off) s fun t =>
    t.nat (capKey c 3) = s.capStamp (1 + off) ∧ t.bit (capKey c 4) 0 = true ∧ t.nat (capKey c 5) = s.nat (capKey c 5) + 1 ∧ t.isPending 62 = true) ∧
  (∀ (s : State) (c : Fin 8) (rising : Bool) (off : Fin 3), s.Inv → s.coreOn = true → s.capTakes c rising = true → s.nat (capKey c 1) ≤ 17 → s.bit (capKey c 4) 0 = true → s.tb.capHeld = [] → Completes (.captureEdge c rising off) s fun t =>
    t.tb.capHeld = [(c.val, s.capStamp (1 + off))] ∧ t.nat (capKey c 3) = s.nat (capKey c 3) ∧ t.bit (capKey c 4) 1 = s.bit (capKey c 4) 1) ∧
  (∀ (s : State) (who : Who) (c : Fin 8), s.Inv → s.phase = .service → s.serves who = true → s.halted = false → s.tb.capHeld.find? (fun x => x.1 = c.val) = none → s.tb.capOld.find? (fun x => x.1 = c.val) = none → Completes (.captureValueRead who c) s fun t =>
    t.bit (capKey c 4) 0 = false ∧ t.status = .ok ∧ t.out = .oct (leBytes 8 (s.nat (capKey c 3))) ∧ t.nat (capKey c 3) = s.nat (capKey c 3)) ∧
  (∀ (s : State) (who : Who) (c : Fin 8) (x : Nat × Nat), s.Inv → s.phase = .service → s.serves who = true → s.halted = false → s.tb.capHeld.find? (fun x => x.1 = c.val) = some x → Completes (.captureValueRead who c) s fun t =>
    t.bit (capKey c 4) 0 = true ∧ t.bit (capKey c 4) 1 = s.bit (capKey c 4) 1 ∧ t.out = .oct (leBytes 8 (s.nat (capKey c 3))) ∧ t.nat (capKey c 3) = x.2) ∧
  (∀ (s : State) (i : Fin 4), s.Inv → s.coreOn = true → s.lcDue i = true → s.tb.lcLoaded.getLsbD i = false → s.nat (lcKey i 3) = 0xFFFF → s.frozen = false → Completes (.lcOverflow i) s fun t =>
    t.nat (lcKey i 3) = 0 ∧ t.nat (lcKey i 4) = 1 ∧ (s.bit (lcKey i 1) 1 = true → t.isPending 64 = true)) ∧
  (∀ (s : State) (who : Who), s.Inv → s.phase = .service → s.serves who = true → s.halted = false → Completes (.angleRead who) s fun t =>
    t.status = .ok ∧ t.ma.acc = s.ma.acc ∧ t.readCycle who = s.ma.cycle.toNat) ∧
  (∀ (s : State), s.Inv → s.coreOn = true → Completes (.maStatRead) s fun t =>
    t.ma.stepped = false ∧ t.ma.state = s.ma.state ∧ t.ma.acc = s.ma.acc)

/-- A completed transition to STANDBY rests there; one to TX puts the frame in preparation on the air for its length; an
untimed frame taken from queue 5 is in preparation and a sleeping radio wakes; a held frame whose START is 18 or 22 us
away begins its transition to TX, for which a reception is abandoned, and at its end it goes on the air; one that can
no longer start ends with DEADLINE; a frame's last symbol counts it, raises event 73 and ramps the PA down; a
calibration enters CAL for 160 us; a loss of lock counts and falls to SLEEP. -/
def Obligations.RadioMovesAndSends : Prop :=
  (∀ (s : State) (m : RadioMove), s.Inv → s.coreOn = true → s.radio.move = some m → m.t0 + m.dur ≤ s.now → m.ramp = false → m.no ≠ 13 → m.no ≠ 2 → m.no ≠ 9 → m.dest = .standby → s.radio.goal = .standby → s.radio.cur = none → s.radio.held = none → s.radio.test = none → s.radio.air = none → s.radio.rx = none → s.radio.reversal = none → s.link.wakeHold = none → Completes (.radioTransitionComplete) s fun t =>
    t.radio.state = .standby ∧ t.radio.move = none ∧ t.radio.channel = s.radio.channel) ∧
  (∀ (s : State) (m : RadioMove) (f : RadioFrame), s.Inv → s.coreOn = true → s.radio.move = some m → m.t0 + m.dur ≤ s.now → m.ramp = false → m.no ≠ 13 → m.dest = .tx → m.timed = false → s.radio.cur = some f → s.radio.test = none → Completes (.radioTransitionComplete) s fun t =>
    t.radio.state = .tx ∧ t.radio.move = none ∧ t.radio.cur = none ∧ t.radio.air = some (f, s.now, s.airQuanta ⟨f.rate, f.coding⟩ f.psdu.length) ∧ t.radio.bits = s.frameOnAir ⟨f.rate, f.coding⟩ f.psdu) ∧
  (∀ (s : State) (b : Bunting), s.Inv → s.coreOn = true → (s.queue 5).items = [b] → b.corrupt = false → s.radioReady = true → ((s.pop 5).1.radioFrame b).timed = false → (s.pop 5).1.frameRefused ((s.pop 5).1.radioFrame b) = none → s.radio.state = .sleep → s.radio.move = none → s.radio.held = none → s.radio.rx = none → s.radio.reversal = none → Completes (.radioTxFrame) s fun t =>
    (t.queue 5).items = [] ∧ t.radio.cur = some ((s.pop 5).1.radioFrame b) ∧ t.radio.move = some { no := 1, dest := .standby, t0 := s.now, dur := usQuanta 420 }) ∧
  (∀ (s : State) (f : RadioFrame), s.Inv → s.coreOn = true → s.radio.held = some f → s.heldMay = true → Completes (.radioTimedStart) s fun t =>
    t.radio.move = some { no := if s.radio.state = .rx then 5 else 4, dest := .tx, t0 := s.now, dur := usQuanta s.leadUs, timed := true } ∧ t.radio.held = some f ∧ t.radio.rx = none) ∧
  (∀ (s : State) (m : RadioMove) (f : RadioFrame), s.Inv → s.coreOn = true → s.radio.move = some m → m.timed = true → m.t0 + m.dur ≤ s.now → m.ramp = false → m.no ≠ 13 → m.dest = .tx → s.radio.held = some f → s.radio.test = none → Completes (.radioTimedStart) s fun t =>
    t.radio.state = .tx ∧ t.radio.move = none ∧ t.radio.held = s.radio.later.head? ∧ t.radio.air = some (f, s.now, s.airQuanta ⟨f.rate, f.coding⟩ f.psdu.length) ∧ t.radio.bits = s.frameOnAir ⟨f.rate, f.coding⟩ f.psdu) ∧
  (∀ (s : State) (f : RadioFrame), s.Inv → s.coreOn = true → s.radio.held = some f → s.radio.later = [] → s.timedMissed f = true → s.link.msgs = [] → s.nat 0x3020_03 + 1 < 2 ^ 32 → Completes (.radioDeadline) s fun t =>
    t.radio.held = none ∧ t.nat 0x3020_03 = s.nat 0x3020_03 + 1 ∧ t.isPending 74 = true) ∧
  (∀ (s : State) (f : RadioFrame) (t0 dur : Nat), s.Inv → s.coreOn = true → s.radio.air = some (f, t0, dur) → t0 + dur ≤ s.now → s.link.msgs = [] → s.radio.cur = none → (s.queue 5).items = [] → s.nat 0x3020_01 + 1 < 2 ^ 32 → Completes (.radioTxEnd) s fun t =>
    t.radio.air = none ∧ t.nat 0x3020_01 = s.nat 0x3020_01 + 1 ∧ t.isPending 73 = true ∧ (t.radio.move.map RadioMove.ramp) = some true ∧ t.int 0x3002_01 = f.power) ∧
  (∀ (s : State), s.Inv → s.coreOn = true → s.synthCalReady = true → Completes (.synthCalibration) s fun t =>
    t.radio.state = .cal ∧ t.radio.move = some { no := 13, dest := .synth, t0 := s.now, dur := usQuanta 160 }) ∧
  (∀ (s : State), s.Inv → s.coreOn = true → s.radio.state = .rx → s.radio.air = none → s.radio.cur = none → s.nat 0x3020_09 + 1 < 2 ^ 32 → Completes (.synthUnlock) s fun t =>
    t.nat 0x3020_09 = s.nat 0x3020_09 + 1 ∧ t.isPending 78 = true ∧ t.radio.rx = none ∧ t.radio.move = some { no := 14, dest := .sleep, t0 := s.now, dur := usQuanta 20 })

/-- A preamble within the rate limit starts a reception on the fixed aerial; a stronger one captures, with event 75; a
reception without a sync word ends; a frame whose header check fails is counted; a correct one is delivered to queue 7
with event 72; a due sniff wakes the radio; a duty bin advances; a test ends; a noise measurement restarts its count;
an LDPC hold that has passed tries the convolutional code. -/
def Obligations.RadioReceives : Prop :=
  (∀ (s : State) (a1 b1 a2 b2 : BitVec 16) (early : Option Bool) (rssi : BitVec 16) (rate : BitVec 8), s.Inv → s.coreOn = true → s.rxListening = true → s.radio.rx = none → s.radio.sniff = none → rate.toInt.natAbs ≤ 20 → s.radio.rxPin = none → s.nat 0x3000_06 ≠ 0 → Completes (.radioPreambleDetect a1 b1 a2 b2 early rssi rate) s fun t =>
    t.radio.rx = some { t0 := s.now, aerial := s.nat 0x3000_06, rssi := rssi.toInt, rate := rate.toInt, ret := s.nat 0x3000_03, capture := s.nat 0x3000_09, sync := s.nat 0x3100_03, tol := s.nat 0x3100_04, tolerant := s.flag 0x3100_05, iterMax := s.nat 0x3100_06 }) ∧
  (∀ (s : State) (a1 b1 a2 b2 : BitVec 16) (early : Option Bool) (rssi : BitVec 16) (rate : BitVec 8) (mean : BitVec 16), s.Inv → s.coreOn = true → s.rxListening = true → s.captures mean.toInt rssi.toInt = true → s.radio.sniff = none → rate.toInt.natAbs ≤ 20 → s.radio.rxPin = none → s.nat 0x3000_06 ≠ 0 → s.nat 0x3020_07 + 1 < 2 ^ 32 → Completes (.rxCapture a1 b1 a2 b2 early rssi rate mean) s fun t =>
    t.radio.rx = some { t0 := s.now, aerial := s.nat 0x3000_06, rssi := rssi.toInt, rate := rate.toInt, ret := s.nat 0x3000_03, capture := s.nat 0x3000_09, sync := s.nat 0x3100_03, tol := s.nat 0x3100_04, tolerant := s.flag 0x3100_05, iterMax := s.nat 0x3100_06 } ∧ t.nat 0x3020_07 = s.nat 0x3020_07 + 1 ∧ t.isPending 75 = true) ∧
  (∀ (s : State) (r : RadioRx) (sync : BitVec 32) (header payload : List (BitVec 4)) (ago : BitVec 32) (off : Fin 5) (rssi freq : BitVec 16) (quality rate : BitVec 8) (heard : Bool), s.Inv → s.coreOn = true → s.radio.rx = some r → syncFound r.sync r.tol sync = false → s.radio.cur = none → s.radio.held = none → Completes (.radioRxFrame sync header payload ago off rssi freq quality rate heard) s fun t =>
    t.radio.rx = none ∧ t.radio.sniff = none ∧ t.pool = s.pool) ∧
  (∀ (s : State) (r : RadioRx) (sync : BitVec 32) (header payload : List (BitVec 4)) (ago : BitVec 32) (off : Fin 5) (rssi freq : BitVec 16) (quality rate : BitVec 8) (heard : Bool), s.Inv → s.coreOn = true → s.radio.rx = some r → syncFound r.sync r.tol sync = true → s.radio.cur = none → s.radio.held = none → checkHeader (headerDecode header) = .bad → s.nat 0x3160_02 + 1 < 2 ^ 32 → Completes (.radioRxFrame sync header payload ago off rssi freq quality rate heard) s fun t =>
    t.radio.rx = none ∧ t.nat 0x3160_02 = s.nat 0x3160_02 + 1 ∧ t.pool = s.pool) ∧
  (∀ (s : State) (r : RadioRx) (sync : BitVec 32) (header payload : List (BitVec 4)) (psdu : List Byte) (m : RfMode) (len : Nat) (ago : BitVec 32) (off : Fin 5) (rssi freq : BitVec 16) (quality rate : BitVec 8) (heard : Bool), s.Inv → s.coreOn = true → s.radio.rx = some r → syncFound r.sync r.tol sync = true → checkHeader (headerDecode header) = .good m len → rate.toInt.natAbs ≤ 20 → checkPayload len (payloadDecode m len r.iterMax payload).bits = some psdu → psdu.length ≤ 112 → s.openBytes 7 3 = none → s.mayAllocate 7 = true → 1 ≤ s.nat (qKey 7 8) → (s.queue 7).items.length < s.nat (qKey 7 3) → Completes (.radioRxFrame sync header payload ago off rssi freq quality rate heard) s fun t =>
    t.radio.rx = none ∧ t.isPending 72 = true ∧ (t.queue 7).items.length = (s.queue 7).items.length + 1 ∧ ((t.queue 7).items.getLast?.map fun b => b.data.drop 16) = some psdu ∧ t.nat 0x3002_02 = r.aerial ∧ t.int 0x3002_03 = rssi.toInt) ∧
  (∀ (s : State), s.Inv → s.coreOn = true → s.sniffDue = true → s.radio.state = .sleep → s.radio.move = none → s.radio.air = none → s.radio.rx = none → s.radio.reversal = none → s.radio.test = none → s.radio.cur = none → s.radio.held = none → Completes (.sniffWake) s fun t =>
    t.radio.sniff = some s.now ∧ t.radio.sniffT0 = s.now ∧ t.radio.move = some { no := 1, dest := .standby, t0 := s.now, dur := usQuanta 420 }) ∧
  (∀ (s : State) (t0 : Nat), s.Inv → s.coreOn = true → s.radio.sniff = some t0 → s.rxListening = true → s.radio.rx = none → s.passedUs t0 (s.nat 0x3000_0B) = true → s.power = .networked → s.link.wakeHold = none → s.radio.air = none → s.radio.cur = none → s.radio.held = none → s.radio.reversal = none → Completes (.sniffListenEnd) s fun t =>
    t.radio.sniff = none ∧ t.radio.move = some { no := 8, dest := .synth, t0 := s.now, dur := usQuanta 2 }) ∧
  (∀ (s : State), s.Inv → s.coreOn = true → s.radio.binS + 60 ≤ s.nat 0x2A01_01 → Completes (.dutyBinAdvance) s fun t =>
    t.radio.binS = s.radio.binS + 60 * ((s.nat 0x2A01_01 - s.radio.binS) / 60) ∧ (∀ r : Fin 8, (t.radio.bins.getD r []).length ≤ 60)) ∧
  (∀ (s : State) (x : RadioTest), s.Inv → s.coreOn = true → s.radio.test = some x → x.on = true → quantaSecond * s.nat 0x3000_0E ≤ x.spent + (s.now - x.t0) → Completes (.radioTestTimeEnd) s fun t =>
    t.radio.test = none ∧ t.nat 0x3000_0C = 0) ∧
  (∀ (s : State) (a b : BitVec 16), s.Inv → s.coreOn = true → s.rxListening = true → s.radio.rx = none → usQuanta (1000 * s.nat 0x3100_09) ≤ s.rxSpent → usQuanta 1000 ≤ s.radio.quiet + s.sinceOpt s.radio.quietT0 → Completes (.radioNoiseMeasurement a b) s fun t =>
    t.radio.rxTime = 0 ∧ t.radio.rxT0 = some s.now ∧ t.radio.quiet = 0) ∧
  (∀ (s : State) (n : Fin 64) (x : Nat), s.Inv → s.coreOn = true → s.nat (radioKey (n.val + 1) 2) = 0 → s.nat (radioKey (n.val + 1) 3) = 2 → s.radio.ldpcT0.getD n none = some x → x + s.nat 0x3100_08 ≤ s.nat 0x2A01_01 → s.radio.ldpcT0.length = 64 → Completes (.ldpcHoldExpiry n) s fun t =>
    t.nat (radioKey (n.val + 1) 3) = 1 ∧ t.radio.trial.getLsbD n = true ∧ t.radio.ldpcT0.getD n none = none)

/-- An untimed frame is taken from queue 6 and waits; a timed one is held; the waiting frame goes on the line with its
grant once it may start, and a held one at its START; one past START + LATE_US ends with DEADLINE; the last slot ends
a frame, counts it with its null slots and raises event 81; a set that is due is issued with the next id, a report and
event 83; the loss of the line raises event 84, and a frame on it ends with NO_LINE; a calibration begins its outage. -/
def Obligations.PowerlineSends : Prop :=
  (∀ (s : State) (b : Bunting), s.Inv → s.coreOn = true → (s.queue 6).items = [b] → b.corrupt = false → (plFrameOf b).timed = false → (s.pop 6).1.plBarred (plFrameOf b) = none → s.pl.cur = none → s.pl.reports = [] → s.pl.rx ≠ none → s.power ≠ .deep → Completes (.plTxFrame) s fun t =>
    (t.queue 6).items = [] ∧ t.pl.cur = some (plFrameOf b) ∧ t.pl.wait.isSome = true ∧ t.pl.held = s.pl.held) ∧
  (∀ (s : State) (b : Bunting), s.Inv → s.coreOn = true → (s.queue 6).items = [b] → b.corrupt = false → (plFrameOf b).timed = true → (s.pop 6).1.plBarred (plFrameOf b) = none → s.pl.held = none → s.pl.cur = none → s.power ≠ .deep → Completes (.plTxFrame) s fun t =>
    (t.queue 6).items = [] ∧ t.pl.held = some (plFrameOf b) ∧ t.pl.cur = none) ∧
  (∀ (s : State) (f : PlFrame) (sl : PlSlots), s.Inv → s.coreOn = true → s.pl.cur = some f → s.pl.reports = [] → (s.queue 6).items = [] → s.plReady = true → s.plHeldClaims f = false → s.plBarred f = none → s.plClaim ≤ s.held f.who → s.plSlots s.band (s.plMap f) f.psdu.length s.angle = some sl → s.power ≠ .deep → Completes (.plTxFrame) s fun t =>
    t.pl.cur = none ∧ t.pl.air = some ({ f with claimed := true }, s.now, s.band.frame sl * quantaTick) ∧ t.pl.map = (s.plMap f).id ∧ t.pl.slots = sl) ∧
  (∀ (s : State) (f : PlFrame) (sl : PlSlots), s.Inv → s.coreOn = true → s.pl.held = some f → s.pl.rx = none → s.ticksTo f.start ≤ 0 → 0 ≤ s.ticksTo f.start + (f.late * 2712 / 100 : Nat) → s.plClaim ≤ s.held f.who → s.plMayStart = true → s.plSlots s.band (s.plMap f) f.psdu.length s.angle = some sl → s.plBarred f = none → Completes (.plTimedStart) s fun t =>
    t.pl.held = none ∧ t.pl.air = some ({ f with claimed := true }, s.now, s.band.frame sl * quantaTick) ∧ t.pl.slots = sl) ∧
  (∀ (s : State) (f : PlFrame), s.Inv → s.coreOn = true → s.pl.held = some f → f.key = none → s.ticksTo f.start + (f.late * 2712 / 100 : Nat) < 0 → s.nat 0x3220_05 + 1 < 2 ^ 32 → Completes (.plTimedStart) s fun t =>
    t.pl.held = none ∧ t.pl.air = s.pl.air ∧ t.nat 0x3220_05 = s.nat 0x3220_05 + 1 ∧ t.isPending 82 = true) ∧
  (∀ (s : State) (f : PlFrame) (t0 dur : Nat), s.Inv → s.coreOn = true → s.pl.air = some (f, t0, dur) → t0 + dur ≤ s.now → f.key = none → f.claimed = true → f.report = false → s.nat 0x3220_01 + 1 < 2 ^ 32 → s.nat 0x3220_09 + (s.pl.slots.filter (·.isNone)).length < 2 ^ 32 → Completes (.plTxEnd) s fun t =>
    t.pl.air = none ∧ t.pl.slots = [] ∧ t.pl.quietT0 = s.now ∧ t.nat 0x3220_01 = s.nat 0x3220_01 + 1 ∧ t.nat 0x3220_09 = s.nat 0x3220_09 + (s.pl.slots.filter (·.isNone)).length ∧ t.isPending 81 = true ∧ t.held f.who = 0) ∧
  (∀ (s : State) (n : Fin 64), s.Inv → s.coreOn = true → s.mapDue (n.val + 1) = true → Completes (.tonemapIssue n) s fun t =>
    t.nat (plPeerKey (n.val + 1) 6) = s.nat (plPeerKey (n.val + 1) 6) % 7 + 1 ∧ t.oct (plPeerKey (n.val + 1) 5) = s.mapSet (n.val + 1) ∧ t.pl.reports = s.pl.reports.filter (· ≠ n.val + 1) ++ [n.val + 1] ∧ t.isPending 83 = true ∧ (t.plPeer (n.val + 1)).offset = meanAngle (s.plPeer (n.val + 1)).diffs ∧ (t.plPeer (n.val + 1)).asked = false) ∧
  (∀ (s : State) (vrms : BitVec 16), s.Inv → s.coreOn = true → vrms.toNat < 750 → s.nat 0x3200_0B = 1 → s.pl.air = none → s.pl.cur = none → s.pl.held = none → Completes (.lineStateChange vrms) s fun t =>
    t.nat 0x2000_04 = vrms.toNat ∧ t.nat 0x3200_0B = 0 ∧ t.pl.rx = none ∧ t.isPending 84 = true) ∧
  (∀ (s : State) (vrms : BitVec 16) (f : PlFrame) (t0 dur : Nat), s.Inv → s.coreOn = true → vrms.toNat < 750 → s.nat 0x3200_0B = 1 → s.pl.air = some (f, t0, dur) → f.key = none → s.pl.cur = none → s.pl.held = none → s.nat 0x3220_06 + 1 < 2 ^ 32 → Completes (.lineStateChange vrms) s fun t =>
    t.nat 0x3200_0B = 0 ∧ t.pl.air = none ∧ t.pl.slots = [] ∧ t.nat 0x3220_06 = s.nat 0x3220_06 + 1 ∧ t.isPending 82 = true ∧ t.isPending 84 = true) ∧
  (∀ (s : State) (vrms : BitVec 16), s.Inv → s.coreOn = true → 750 ≤ vrms.toNat → s.nat 0x3200_0B = 0 → Completes (.lineStateChange vrms) s fun t =>
    t.nat 0x2000_04 = vrms.toNat ∧ t.nat 0x3200_0B = 1 ∧ t.isPending 84 = true) ∧
  (∀ (s : State), s.Inv → s.coreOn = true → s.plCalReady = true → Completes (.plCalibration) s fun t =>
    t.pl.outage = some s.now ∧ t.od = s.od.canon)

/-- A preamble starts a reception; a header that fails its check is counted; a frame for another node under a set tells of
its sender and is dropped; a correct data frame goes to queue 8 with event 80 and what it tells of its sender is kept;
a noise measurement restarts its period. -/
def Obligations.PowerlineReceives : Prop :=
  (∀ (s : State) (ago : BitVec 32), s.Inv → s.plListening = true → s.pl.rx = none → Completes (.plPreambleDetect ago) s fun t =>
    t.pl.rx = some (s.tb64 - ago.toNat) ∧ t.pl.quietT0 = s.now) ∧
  (∀ (s : State) (stamp : Nat) (header : BitVec 64) (data : List Byte) (pilots : List (BitVec 16)) (mean level : BitVec 16) (snr : BitVec 8) (signal : List Byte) (angle : BitVec 16), s.Inv → s.coreOn = true → s.pl.rx = some stamp → plCheck header.toNat = none → s.nat 0x3220_03 + 1 < 2 ^ 32 → Completes (.plRxFrame header data pilots mean level snr signal angle) s fun t =>
    t.pl.rx = none ∧ t.pl.quietT0 = s.now ∧ t.nat 0x3220_03 = s.nat 0x3220_03 + 1 ∧ t.pool = s.pool) ∧
  (∀ (s : State) (stamp : Nat) (h : PlHead) (header : BitVec 64) (data : List Byte) (pilots : List (BitVec 16)) (mean level : BitVec 16) (snr : BitVec 8) (signal : List Byte) (angle : BitVec 16), s.Inv → s.coreOn = true → s.pl.rx = some stamp → plCheck header.toNat = some h → h.map ≠ 0 → h.dst ≠ s.ownNode → Completes (.plRxFrame header data pilots mean level snr signal angle) s fun t =>
    t.pl.rx = none ∧ t.pl.quietT0 = s.now ∧ t.pool = s.pool ∧ t.oct (plPeerKey h.src 7) = ((s.plPeer h.src).heard signal).signal) ∧
  (∀ (s : State) (stamp : Nat) (h : PlHead) (psdu : List Byte) (header : BitVec 64) (data : List Byte) (pilots : List (BitVec 16)) (mean level : BitVec 16) (snr : BitVec 8) (signal : List Byte) (angle : BitVec 16), s.Inv → s.coreOn = true → s.pl.rx = some stamp → plCheck header.toNat = some h → h.map = 0 → h.type = 0 → nullRun 0 (pilots.map fun e => decide (8 * e.toNat < mean.toNat)) = false → checkPayload h.len (bitsLsb data) = some psdu → psdu.length ≤ 112 → s.openBytes 8 4 = none → s.mayAllocate 8 = true → 1 ≤ s.nat (qKey 8 8) → (s.queue 8).items.length < s.nat (qKey 8 3) → s.nat 0x3220_02 + 1 < 2 ^ 32 → Completes (.plRxFrame header data pilots mean level snr signal angle) s fun t =>
    t.pl.rx = none ∧ t.isPending 80 = true ∧ t.nat 0x3220_02 = s.nat 0x3220_02 + 1 ∧ (t.queue 8).items.length = (s.queue 8).items.length + 1 ∧ ((t.queue 8).items.getLast?.map fun b => b.data.drop 16) = some psdu ∧ t.oct (plPeerKey h.src 7) = ((s.plPeer h.src).heard signal).signal) ∧
  (∀ (s : State) (levels : List Byte), s.Inv → s.plListening = true → s.pl.rx = none → s.ma.state = .locked → s.passedMs s.pl.noiseT0 (s.nat 0x3200_0A) = true → s.pl.noise.length = 6 → Completes (.plNoiseMeasurement levels) s fun t =>
    t.pl.noiseT0 = s.now ∧ (t.oct (0x3210_01 + plRegion s.angle)).length = levels.length ∧ ∀ r : Fin 6, r.val ≠ plRegion s.angle → t.val (0x3210_01 + r.val) = s.val (0x3210_01 + r.val))

/-- A queue-0 message that fails its check goes no further; one that passes takes the next SEQ, is counted and goes to its
transmit queue; a frame of another segment is dropped and counted; a fresh frame for the host goes to queue 1 and
moves the window; a duplicate is counted and goes nowhere; an acknowledgement delivers the message it names; a copy
whose wait is over waits for its next repetition, or ends with the last one; a repetition goes to its queue and is
counted, or the copy ends when TMO/2 would not hold it. -/
def Obligations.DravlinkMessages : Prop :=
  (∀ (s : State) (b : Bunting), s.Inv → s.coreOn = true → s.linkOn = true → s.link.msgs.length < 16 → (s.queue 4).items = [] → (s.queue 2).items = [] → s.link.waiting = [] → (s.queue 0).items = [b] → b.corrupt = false → (s.pop 0).1.hostCheck b.data ≠ .ok → s.bridged = false → Completes (.messageHandover) s fun t =>
    (t.queue 0).items = [] ∧ t.link = s.link ∧ t.txSeq = s.txSeq ∧ t.nat 0x1020_01 = s.nat 0x1020_01) ∧
  (∀ (s : State) (b : Bunting), s.Inv → s.coreOn = true → s.linkOn = true → s.link.msgs = [] → (s.queue 4).items = [] → (s.queue 2).items = [] → s.link.waiting = [] → (s.queue 0).items = [b] → b.corrupt = false → uAt b.data 0 1 = 5 → uAt b.data 1 1 ≠ 0 → (s.pop 0).1.hostCheck b.data = .ok → s.sendMode 5 = 3 → s.sleepy (uAt b.data 1 1) = false → s.pathUp (uAt b.data 1 1) false = true → b.data.length ≤ 100 → s.openBytes 5 5 = none → (s.pop 0).1.mayAllocate 5 = true → 1 ≤ s.nat (qKey 5 8) → (s.queue 5).items.length < s.nat (qKey 5 3) → s.nat 0x1020_01 + 1 < 2 ^ 32 → Completes (.messageHandover) s fun t =>
    (t.queue 0).items = [] ∧ t.txSeq = (s.txSeq + 1) % 65536 ∧ t.nat 0x1020_01 = s.nat 0x1020_01 + 1 ∧ (t.link.msgs.map fun m => (m.cls, m.dst, m.seq, m.payload)) = [(5, uAt b.data 1 1, s.txSeq, b.data.drop 8)] ∧ (t.queue 5).items.length = (s.queue 5).items.length + 1) ∧
  (∀ (s : State) (b : Bunting) (f : DlFrame), s.Inv → s.coreOn = true → s.linkOn = true → (s.queue 7).items = [b] → b.corrupt = false → dlFrame (b.data.drop 16) = some f → f.cls ≠ 0 → f.seg ≠ s.nat 0x1010_02 → s.nat 0x1020_0D + 1 < 2 ^ 32 → Completes (.dravlinkFrameReceive false) s fun t =>
    (t.queue 7).items = [] ∧ t.nat 0x1020_0D = s.nat 0x1020_0D + 1 ∧ t.link = s.link ∧ (t.queue 1).items = (s.queue 1).items) ∧
  (∀ (s : State) (b : Bunting) (f : DlFrame), s.Inv → s.coreOn = true → s.linkOn = true → (s.queue 7).items = [b] → b.corrupt = false → dlFrame (b.data.drop 16) = some f → f.seg = s.nat 0x1010_02 → f.dst = s.ownNode → f.src ≠ s.ownNode → isNode f.src = true → f.cls = 3 → f.ackreq = false → f.resync = false → f.head = false → s.power ≠ .networked → 1 ≤ (f.seq + 65536 - s.nat (peerKey f.src 5)) % 65536 → (f.seq + 65536 - s.nat (peerKey f.src 5)) % 65536 < 32768 → s.bridged = false → f.payload.length ≤ 112 → s.openBytes 1 5 = none → (s.pop 7).1.mayAllocate 1 = true → 1 ≤ s.nat (qKey 1 8) → (s.queue 1).items.length < s.nat (qKey 1 3) → s.pathUp f.src false = true → Completes (.dravlinkFrameReceive false) s fun t =>
    (t.queue 7).items = [] ∧ t.nat (peerKey f.src 5) = f.seq ∧ t.nat (peerKey f.src 4) = s.nat 0x2A01_01 ∧ t.flag (peerKey f.src 3) = f.sleepy ∧ (t.queue 1).items.length = (s.queue 1).items.length + 1 ∧ ((t.queue 1).items.getLast?.map fun x => x.data.drop 8) = some f.payload) ∧
  (∀ (s : State) (b : Bunting) (f : DlFrame), s.Inv → s.coreOn = true → s.linkOn = true → (s.queue 7).items = [b] → b.corrupt = false → dlFrame (b.data.drop 16) = some f → f.seg = s.nat 0x1010_02 → f.dst = s.ownNode → f.src ≠ s.ownNode → isNode f.src = true → f.cls = 3 → f.ackreq = false → f.resync = false → f.head = false → s.power ≠ .networked → f.seq = s.nat (peerKey f.src 5) → (s.peer f.src).map.getLsbD 0 = true → s.nat 0x1020_06 + 1 < 2 ^ 32 → s.pathUp f.src false = true → Completes (.dravlinkFrameReceive false) s fun t =>
    (t.queue 7).items = [] ∧ t.nat 0x1020_06 = s.nat 0x1020_06 + 1 ∧ (t.queue 1).items = (s.queue 1).items ∧ t.nat (peerKey f.src 5) = s.nat (peerKey f.src 5)) ∧
  (∀ (s : State) (b : Bunting) (f : DlFrame) (m : Msg), s.Inv → s.coreOn = true → s.linkOn = true → (s.queue 7).items = [b] → b.corrupt = false → dlFrame (b.data.drop 16) = some f → f.seg = s.nat 0x1010_02 → f.dst = s.ownNode → f.src ≠ s.ownNode → isNode f.src = true → f.cls = 0 → f.head = false → s.link.msgs = [m] → m.dst = f.src → m.seq = f.seq → m.source = .rule → m.resync = false → (3 ≤ m.cls && s.passedMs m.t0 m.tmo) = false → (m.copy? false).any Copy.conv = true → s.nat 0x1020_02 + 1 < 2 ^ 32 → Completes (.ackReceived false) s fun t =>
    (t.queue 7).items = [] ∧ t.link.msgs = [] ∧ t.nat 0x1020_02 = s.nat 0x1020_02 + 1 ∧ t.nat (radioKey f.src 4) = 0) ∧
  (∀ (s : State) (m : Msg) (c : Copy), s.Inv → s.coreOn = true → s.link.msgs = [m] → m.copies = [c] → c.pl = true → c.stage = .ackWait → c.t0 + c.dur ≤ s.now → c.tries < 1 + m.set.retries → Completes (.ackWaitExpiry 0 true) s fun t =>
    (t.link.msgs.map fun m => m.copies.map fun c => (c.stage, c.t0, c.tries)) = [[(CopyStage.gap, s.now, c.tries)]] ∧ t.pool = s.pool) ∧
  (∀ (s : State) (m : Msg) (c : Copy), s.Inv → s.coreOn = true → s.link.msgs = [m] → m.copies = [c] → c.pl = true → c.stage = .ackWait → c.t0 + c.dur ≤ s.now → 1 + m.set.retries ≤ c.tries → c.sent = true → m.cls = 3 → m.dst ≠ 0 → Completes (.ackWaitExpiry 0 true) s fun t =>
    (t.link.msgs.map fun m => m.copies.map (·.stage)) = [[CopyStage.ended]] ∧ t.pool = s.pool) ∧
  (∀ (s : State) (m : Msg) (c : Copy), s.Inv → s.coreOn = true → s.link.msgs = [m] → m.copies = [c] → c.pl = false → c.stage = .gap → c.t0 + c.dur ≤ s.now → m.cls = 3 → m.payload.length ≤ 90 → s.now + s.msgAir m false + s.ackWait m.set m.dst false ≤ m.bound + usQuanta (500 * m.tmo) → s.openBytes 5 5 = none → s.mayAllocate 5 = true → 1 ≤ s.nat (qKey 5 8) → (s.queue 5).items.length < s.nat (qKey 5 3) → s.nat 0x1020_04 + 1 < 2 ^ 32 → Completes (.retryHandover 0 false) s fun t =>
    (t.link.msgs.map fun m => m.copies.map fun c => (c.stage, c.t0, c.tries)) = [[(CopyStage.queued, s.now, c.tries + 1)]] ∧ (t.queue 5).items.length = (s.queue 5).items.length + 1 ∧ t.nat 0x1020_04 = s.nat 0x1020_04 + 1) ∧
  (∀ (s : State) (m : Msg) (c : Copy), s.Inv → s.coreOn = true → s.link.msgs = [m] → m.copies = [c] → c.pl = false → c.stage = .gap → c.t0 + c.dur ≤ s.now → c.sent = true → m.cls = 3 → m.dst ≠ 0 → m.bound + usQuanta (500 * m.tmo) < s.now + s.msgAir m false + s.ackWait m.set m.dst false → Completes (.retryHandover 0 false) s fun t =>
    (t.link.msgs.map fun m => m.copies.map (·.stage)) = [[CopyStage.ended]] ∧ t.pool = s.pool ∧ t.nat 0x1020_04 = s.nat 0x1020_04)

/-- A transaction that outlasts its timeout ends with TIMEOUT, counted, with event 88; a message of class 3 likewise; a
repeated request is answered from the cache; a request whose AUTH fails is answered AUTH and executes nothing; a read
that passes is answered with its status and value and joins the cache; a cache entry expires; RESYNC ends after 10 s;
an addressed WAKE holds the radio no longer than announced. -/
def Obligations.DravlinkTransactions : Prop :=
  (∀ (s : State) (x : Txn), s.Inv → s.coreOn = true → s.link.txns = [x] → s.link.msgs = [] → x.source = .access .spi → s.passedMs x.t0 x.tmo = true → s.nat 0x1020_0A + 1 < 2 ^ 32 → Completes (.transactionTimeout true 0) s fun t =>
    t.link.txns = [] ∧ (t.session .spi).stat = 3 ∧ (t.session .spi).code = 11 ∧ (t.session .spi).len = 0 ∧ t.nat 0x1020_0A = s.nat 0x1020_0A + 1 ∧ t.isPending 88 = true ∧ t.isPending 86 = true) ∧
  (∀ (s : State) (m : Msg), s.Inv → s.coreOn = true → s.link.msgs = [m] → m.cls = 3 → m.dst ≠ 0 → m.source = .rule → s.passedMs m.t0 m.tmo = true → s.nat 0x1020_0A + 1 < 2 ^ 32 → s.nat 0x1020_03 + 1 < 2 ^ 32 → Completes (.transactionTimeout false 0) s fun t =>
    t.link.msgs = [] ∧ t.nat 0x1020_0A = s.nat 0x1020_0A + 1 ∧ t.nat 0x1020_03 = s.nat 0x1020_03 + 1 ∧ t.isPending 88 = true ∧ t.pool = s.pool) ∧
  (∀ (s : State) (b : Bunting) (f : DlFrame) (c : Cached), s.Inv → s.phase = .service → s.halted = false → s.power ≠ .sleep → s.actionWaits = false → (s.queue 3).items = [b] → b.corrupt = false → dlFrame b.data = some f → 18 ≤ f.payload.length → s.link.cache.find? (fun c => c.src = f.src && c.tid = uAt f.payload 0 2 && decide (0 < s.cacheLeft c)) = some c → s.nat 0x1020_0B + 1 < 2 ^ 32 → c.reply.length ≤ 128 → s.openBytes 4 1 = none → ((s.pop 3).1).mayAllocate 4 = true → 1 ≤ s.nat (qKey 4 8) → (s.queue 4).items.length < s.nat (qKey 4 3) → Completes (.dravlinkOdRequest) s fun t =>
    (t.queue 3).items = [] ∧ t.nat 0x1020_0B = s.nat 0x1020_0B + 1 ∧ (t.queue 4).items.length = (s.queue 4).items.length + 1 ∧ ((t.queue 4).items.getLast?.map (·.data)) = some c.reply ∧ t.link.cache = s.link.cache) ∧
  (∀ (s : State) (b : Bunting) (f : DlFrame), s.Inv → s.phase = .service → s.halted = false → s.power ≠ .sleep → s.actionWaits = false → (s.queue 3).items = [b] → b.corrupt = false → dlFrame b.data = some f → 18 ≤ f.payload.length → s.link.cache = [] → 2 < uAt f.payload 3 1 → s.nat 0x1020_0C + 1 < 2 ^ 32 → s.openBytes 4 1 = none → ((s.pop 3).1).mayAllocate 4 = true → 1 ≤ s.nat (qKey 4 8) → (s.queue 4).items.length < s.nat (qKey 4 3) → Completes (.dravlinkOdRequest) s fun t =>
    (t.queue 3).items = [] ∧ t.nat 0x1020_0C = s.nat 0x1020_0C + 1 ∧ (t.queue 4).items.length = (s.queue 4).items.length + 1 ∧ ((t.queue 4).items.getLast?.map fun x => uAt x.data 2 1) = some 10 ∧ t.link.cache = []) ∧
  (∀ (s : State) (b : Bunting) (f : DlFrame), s.Inv → s.phase = .service → s.halted = false → s.power ≠ .sleep → s.actionWaits = false → (s.queue 3).items = [b] → b.corrupt = false → dlFrame b.data = some f → 18 ≤ f.payload.length → s.link.cache = [] → uAt f.payload 3 1 = 0 → uAt f.payload 2 1 = 1 → noKey (s.segKey .operator) = true → ((s.pop 3).1.odRead (.remote f.src .operator) (uAt f.payload 6 2 * 256 + uAt f.payload 8 1)).2.2.length ≤ 100 → s.openBytes 4 1 = none → ((s.pop 3).1).mayAllocate 4 = true → 1 ≤ s.nat (qKey 4 8) → (s.queue 4).items.length < s.nat (qKey 4 3) → Completes (.dravlinkOdRequest) s fun t =>
    (t.queue 3).items = [] ∧ (t.queue 4).items.length = (s.queue 4).items.length + 1 ∧ (t.link.cache.map fun c => (c.src, c.tid)) = [(f.src, uAt f.payload 0 2)] ∧ ((t.queue 4).items.getLast?.map fun x => (uAt x.data 2 1, x.data.drop 18)) = some (let r := (s.pop 3).1.odRead (.remote f.src .operator) (uAt f.payload 6 2 * 256 + uAt f.payload 8 1); (r.2.1.code, r.2.2.drop (32 * uAt f.payload 5 1)))) ∧
  (∀ (s : State) (i : Fin 64) (c : Cached), s.Inv → s.coreOn = true → s.link.cache[i.val]? = some c → s.passedMs c.t0 c.tmo = true → Completes (.replyCacheExpiry i) s fun t =>
    t.link.cache = s.link.cache.eraseIdx i ∧ t.pool = s.pool) ∧
  (∀ (s : State), s.Inv → s.coreOn = true → s.link.running = true → s.link.resyncAll = true → s.passedS s.link.t0 10 = true → Completes (.resyncEnd) s fun t =>
    t.link.resyncAll = false ∧ t.link.peers = s.link.peers) ∧
  (∀ (s : State) (t0 d : Nat), s.Inv → s.coreOn = true → s.link.wakeHold = some (t0, d) → t0 + d ≤ s.now → s.power ≠ .networked → s.radio.goal = .standby → s.radio.state = .standby → s.radio.move = none → s.radio.cur = none → s.radio.held = none → s.radio.air = none → s.radio.rx = none → s.radio.reversal = none → s.radio.test = none → s.radio.sniff = none → Completes (.wakeHoldEnd) s fun t =>
    t.link.wakeHold = none ∧ t.radio.state = .standby)

/-- A fast-register read frame answers the status byte, a turnaround byte and the register, and is counted, and SPI_RDY is
low for no more than 1 µs after it; a write frame of one word writes it; while the module is not ready MISO stays high
and the frame is an error; a maker-service frame on the UART is answered with the status byte and the register between
delimiters, with its check bytes; one whose CRC_B fails is counted and not answered; with UART_MODE 0 no more happens
than that a frame wakes a module in standby. -/
def Obligations.HostFrames : Prop :=
  (∀ (s : State) (a : Fin 8) (x0 x1 x2 x3 x4 : Byte), s.Inv → s.spiReady = true → s.nat 0x1001_03 + 1 < 2 ^ 32 → Completes (.spiFrame [BitVec.ofNat 8 (0x80 + a.val), x0, x1, x2, x3, x4] 0) s fun t =>
    t.out = .oct ([s.hostWakes.statusByte .spi, 0] ++ (leBytes 4 (s.hostWakes.fastIdentity a)).reverse) ∧ s.now ≤ (t.session .spi).readyT ∧ (t.session .spi).readyT ≤ s.now + usQuanta 1 ∧ t.status = .ok ∧ t.nat 0x1001_03 = s.nat 0x1001_03 + 1 ∧ t.nat 0x1001_04 = s.nat 0x1001_04 ∧ (t.session .spi).frameT0 = s.now) ∧
  (∀ (s : State) (b3 b2 b1 b0 : Byte), s.Inv → s.spiReady = true → s.nat 0x1001_03 + 1 < 2 ^ 32 → Completes (.spiFrame [0x10, b3, b2, b1, b0] 0) s fun t =>
    (t.session .spi).addr.toNat = leNat [b0, b1, b2, b3] ∧ (t.session .spi).ptr = 0 ∧ t.nat 0x1001_03 = s.nat 0x1001_03 + 1 ∧ t.nat 0x1001_04 = s.nat 0x1001_04 ∧ t.out = .oct (s.hostWakes.statusByte .spi :: zeroBytes 4)) ∧
  (∀ (s : State) (sent : List Byte) (extra : Fin 8), s.Inv → s.coreOn = true → s.spiReady = false → s.nat 0x1001_04 + 1 < 2 ^ 32 → Completes (.spiFrame sent extra) s fun t =>
    t.out = .oct (List.replicate sent.length 0xFF) ∧ t.nat 0x1001_04 = s.nat 0x1001_04 + 1 ∧ t.session .uart = s.session .uart ∧ t.session .spi = { s.session .spi with readyT := (t.session .spi).readyT }) ∧
  (∀ (s : State) (line c : List Byte) (a : Fin 8) (x : List Byte), s.Inv → s.phase = .service → s.power ≠ .sleep → s.nat 0x1001_01 = 2 → unstuff line = c ++ checkBytes 1 c → (checkBytes 1 c).length = 2 → c = BitVec.ofNat 8 (0x80 + a.val) :: x → x.length = 5 → Completes (.uartFrame line) s fun t =>
    t.out = .oct (uartLine ([s.hostWakes.statusByte .uart] ++ (leBytes 4 (s.hostWakes.fastIdentity a)).reverse)) ∧ t.nat 0x1001_05 = s.nat 0x1001_05 ∧ (t.session .uart).frameT0 = s.now) ∧
  (∀ (s : State) (line : List Byte), s.Inv → s.phase = .service → s.power ≠ .sleep → s.nat 0x1001_01 ≠ 0 → uartGood (unstuff line) = false → s.nat 0x1001_05 + 1 < 2 ^ 32 → Completes (.uartFrame line) s fun t =>
    t.nat 0x1001_05 = s.nat 0x1001_05 + 1 ∧ t.out = s.out ∧ t.pool = s.hostWakes.pool) ∧
  (∀ (s : State) (line : List Byte), s.Inv → s.phase ≠ .recovery → s.nat 0x1001_01 = 0 → Completes (.uartFrame line) s fun t =>
    t = s.finish (if s.phase = .service ∧ s.power ≠ .sleep then s.hostWakes else s))

/-- A write of FW_OD_ADDR sets the address and the pointer to word 0; FW_OD_DATA is written and read at the pointer, which
moves on; a command while one runs is rejected with no other effect; a local read and a local write end with the
status of the access, its code and its length; an abort ends a remote request with ABORTED and has no effect on
anything else; an entry with no row of its own is written through the same checks. -/
def Obligations.DictionaryRegisters : Prop :=
  (∀ (s : State) (sess : Sess) (w : BitVec 32), s.Inv → s.reads sess = true → Completes (.odAddrWrite sess w) s fun t =>
    (t.session sess).addr = w ∧ (t.session sess).ptr = 0 ∧ t.od = s.od.canon) ∧
  (∀ (s : State) (sess : Sess) (w : BitVec 32), s.Inv → s.reads sess = true → (s.session sess).ptr < 64 → Completes (.odDataAccess sess (some w)) s fun t =>
    (t.session sess).ptr = (s.session sess).ptr + 1 ∧ slice (t.session sess).buf (4 * (s.session sess).ptr) 4 = leBytes 4 w.toNat ∧ t.od = s.od.canon) ∧
  (∀ (s : State) (sess : Sess), s.Inv → s.reads sess = true → Completes (.odDataAccess sess none) s fun t =>
    t.out = .num (s.session sess).word ∧ (t.session sess).ptr = (s.session sess).ptr + 1 ∧ (t.session sess).buf = (s.session sess).buf) ∧
  (∀ (s : State) (sess : Sess) (ofs : BitVec 8), s.Inv → s.reads sess = true → (s.session sess).stat = 1 → Completes (.odRead sess ofs) s fun t =>
    (t.session sess).rejected = true ∧ (t.session sess).stat = 1 ∧ (t.session sess).addr = (s.session sess).addr ∧ t.od = s.od.canon) ∧
  (∀ (s : State) (sess : Sess) (ofs : BitVec 8), s.Inv → s.reads sess = true → s.phase = .service → s.halted = false → (s.session sess).stat ≠ 1 → s.localNode (s.session sess).node = true → Completes (.odRead sess ofs) s fun t =>
    t.status = (s.odRead (whoOf sess) (s.session sess).key).2.1 ∧ (t.session sess).code = (s.odRead (whoOf sess) (s.session sess).key).2.1.code ∧ (t.session sess).len = (s.odRead (whoOf sess) (s.session sess).key).2.2.length ∧ (t.session sess).ptr = 0 ∧ (t.session sess).stat = if t.status = .ok then 2 else 3) ∧
  (∀ (s : State) (sess : Sess) (len : BitVec 16), s.Inv → s.reads sess = true → (s.session sess).stat = 1 → Completes (.odWrite (.command sess len)) s fun t =>
    (t.session sess).rejected = true ∧ (t.session sess).stat = 1 ∧ t.od = s.od.canon) ∧
  (∀ (s : State) (sess : Sess) (len : BitVec 16), s.Inv → s.reads sess = true → s.halted = false → s.phase = .service → (s.session sess).stat ≠ 1 → s.localNode (s.session sess).node = true → len.toNat ≤ 256 → s.odWriteStatus (whoOf sess) (s.session sess).key (slice (s.session sess).buf 0 len.toNat) ≠ .ok → Completes (.odWrite (.command sess len)) s fun t =>
    t.status = s.odWriteStatus (whoOf sess) (s.session sess).key (slice (s.session sess).buf 0 len.toNat) ∧ (t.session sess).stat = 3 ∧ (t.session sess).code = t.status.code ∧ (t.session sess).len = 0) ∧
  (∀ (s : State) (who : Who) (sub value : BitVec 8), s.Inv → s.writes who (0x1010_01) (leBytes 1 value.toNat) = true → sub = 1 → Completes (.odWrite (.entry who 0x1010 sub (leBytes 1 value.toNat))) s fun t =>
    t.status = .ok ∧ t.nat 0x1010_01 = value.toNat) ∧
  (∀ (s : State) (sess : Sess), s.Inv → s.reads sess = true → s.remoteRuns sess = true → Completes (.odAbort sess) s fun t =>
    (t.session sess).stat = 3 ∧ (t.session sess).code = 14 ∧ t.isPending 86 = true ∧ t.remoteRuns sess = false) ∧
  (∀ (s : State) (sess : Sess), s.Inv → s.reads sess = true → s.remoteRuns sess = false → Completes (.odAbort sess) s fun t =>
    t = s.finish s) ∧
  (∀ (s : State) (sess : Sess) (word : Fin 64) (w : BitVec 32), s.Inv → s.reads sess = true → fastGuarded word = true → s.nat 0x1001_04 + 1 < 2 ^ 32 → Completes (.fastRegisterWrite sess word w) s fun t =>
    t.nat 0x1001_04 = s.nat 0x1001_04 + 1 ∧ t.sessions = s.sessions ∧ t.pool = s.pool) ∧
  (∀ (s : State) (sess : Sess) (w : BitVec 32), s.Inv → s.reads sess = true → Completes (.fastRegisterWrite sess 16 w) s fun t =>
    (t.session sess).addr = w ∧ (t.session sess).ptr = 0 ∧ t.nat 0x1001_04 = s.nat 0x1001_04) ∧
  (∀ (s : State) (sess : Sess) (w : BitVec 32), s.Inv → s.reads sess = true → Completes (.fastRegisterWrite sess 32 w) s fun t =>
    t.pool.sel = w &&& 0x1F1F ∧ t.od = s.od.canon)

/-- A read of ROLE_NONCE answers 16 fresh bytes, issued to the session that reads; a lockout ends after 10 s; an idle
session falls to operator; an erase leaves the inactive slot empty and FW_OFFSET at 0; a verify leaves it valid or
invalid with the status of its check; a trial that is not confirmed resets the core with cause 3 and returns to the
previous slot, confirmed; an attestation completes with its body and signature. -/
def Obligations.SecurityTimersAndFirmware : Prop :=
  (∀ (s : State) (sess : Sess), s.Inv → s.serves (whoOf sess) = true → s.phase = .service → s.halted = false → Completes (.roleNonce sess) s fun t =>
    t.status = .ok ∧ t.out = .oct (s.randomBytes 16).1 ∧ (t.session sess).nonce = some ((s.randomBytes 16).1, s.now) ∧ t.drawn = s.drawn + 16) ∧
  (∀ (s : State) (sess : Sess) (t0 : Nat), s.Inv → s.powered = true → (s.session sess).lockT0 = some t0 → s.passedS t0 10 = true → Completes (.claimLockoutEnd sess) s fun t =>
    (t.session sess).lockT0 = none ∧ (t.session sess).fails = 0 ∧ (t.session sess).role = (s.session sess).role ∧ t.od = s.od.canon) ∧
  (∀ (s : State) (sess : Sess), s.Inv → s.powered = true → s.phase ≠ .recovery → s.nat 0x1800_04 ≠ 0 → s.passedS (s.session sess).frameT0 (s.nat 0x1800_04) = true → Completes (.roleIdleExpiry sess) s fun t =>
    (t.session sess).role = .operator ∧ (t.session sess).frameT0 = (s.session sess).frameT0 ∧ t.od = s.od.canon) ∧
  (∀ (s : State) (t0 : Nat), s.Inv → s.powered = true → s.firmware.busy = some (1, t0) → s.otherSlot < 2 → Completes (.fwCmdComplete false) s fun t =>
    t.firmware.busy = none ∧ (t.image s.otherSlot).st = 1 ∧ (t.image s.otherSlot).data = some [] ∧ t.nat 0x1A10_02 = 0 ∧ t.nat 0x1A10_04 = 0 ∧ t.nat 0x1A10_01 = 2 ∧ t.isPending 93 = true) ∧
  (∀ (s : State) (t0 : Nat), s.Inv → s.powered = true → s.firmware.busy = some (2, t0) → s.otherSlot < 2 → (s.image s.otherSlot).st ≠ 0 → Completes (.fwCmdComplete false) s fun t =>
    t.firmware.busy = none ∧ (t.image s.otherSlot).st = (if s.imageCheck (s.image s.otherSlot).bytes = 0 then 2 else 3) ∧ t.nat 0x1A10_04 = s.imageCheck (s.image s.otherSlot).bytes ∧ t.isPending 93 = true) ∧
  (∀ (s : State), s.Inv → s.coreOn = true → s.inTrial = true → s.passedS s.firmware.trialT0 (s.nat 0x1A10_08) = true → s.firmware.running < 2 → s.slotStarts (1 - s.firmware.running) = true → Completes (.fwTrialExpiry) s fun t =>
    t.phase = .gate ∧ t.nat 0x3801_01 = 3 ∧ t.firmware.running = 1 - s.firmware.running ∧ t.nat 0x1A10_06 = 1 - s.firmware.running ∧ t.flag 0x1A10_07 = false ∧ t.isPending 93 = true) ∧
  (∀ (s : State), s.Inv → s.coreOn = true → s.attestT0 ≠ none → Completes (.attestationComplete) s fun t =>
    t.attestT0 = none ∧ t.nat 0x1A20_02 = 2 ∧ t.oct 0x1A20_03 = s.attestBody ∧ t.oct 0x1A20_04 = slice (Config.identitySign (Config.sha512 s.attestBody)) 0 64)

/-- STAGE_APPLY with the header's SEQ makes STATE 2 and is answered; with another it is answered 0x12 and nothing changes;
a set whose SEQ has been applied ends with RESULT 8; one that parses wrongly ends with its RESULT and STATE 5; one
whose records all pass is written and ends with RESULT 1, STATE 4 and its SEQ applied; the status blocks are written
as blocks 4 and 5; HOLD ends after HOLD_MAX_MS with event 43; port 0 returns to service. -/
def Obligations.StoreAndTagWork : Prop :=
  (∀ (s : State) (r : TagReq) (p : TagPower) (mfg : BitVec 8) (seq : BitVec 32), s.Inv → s.heardReq r = true → mfg.toNat = s.nat 0x2700_02 → r.option = false → s.stageLevel = true → seq.toNat = s.stageSeq → s.stageState = 1 → s.gateError p = none → s.overtakenAt 16 true = false → p.loss = .none → s.nat 0x2740_02 + 1 < 2 ^ 32 → Completes (.stageApply r p mfg seq) s fun t =>
    t.stageState = 2 ∧ t.stageRole = s.levelRole % 256 ∧ t.stageSeq = s.stageSeq ∧ t.tag.reply = some [0x00] ∧ t.nat 0x2740_02 = s.nat 0x2740_02 + 1 ∧ t.groupAt 16 1 true false = true) ∧
  (∀ (s : State) (r : TagReq) (p : TagPower) (mfg : BitVec 8) (seq : BitVec 32), s.Inv → s.heardReq r = true → mfg.toNat = s.nat 0x2700_02 → r.option = false → s.stageLevel = true → seq.toNat ≠ s.stageSeq → Completes (.stageApply r p mfg seq) s fun t =>
    t.tag.reply = some [0x01, 0x12] ∧ t.store = s.store) ∧
  (∀ (s : State), s.Inv → s.phase = .service → s.power ≠ .sleep → s.halted = false → s.tag.stageDue = true → s.actionWaits = false → (s.queue 3).items = [] → s.tag.commit.committed = false → s.stageAllowed = true → s.stageSeq = s.nat 0x2710_06 → Completes (.stagedSetApply) s fun t =>
    t.tag.stageDue = false ∧ t.stageState = 4 ∧ t.nat 0x2710_04 = 8 ∧ t.nat 0x2710_06 = s.nat 0x2710_06 ∧ t.isPending 41 = true) ∧
  (∀ (s : State), s.Inv → s.phase = .service → s.power ≠ .sleep → s.halted = false → s.tag.stageDue = true → s.actionWaits = false → (s.queue 3).items = [] → s.tag.commit.committed = false → s.stageAllowed = true → s.stageSeq ≠ s.nat 0x2710_06 → 1 ≤ s.stageRole → s.stageRole ≤ 2 → (s.setStageState 3).stagedRecords.2 ≠ 0 → Completes (.stagedSetApply) s fun t =>
    t.tag.stageDue = false ∧ t.stageState = 5 ∧ t.nat 0x2710_04 = (s.setStageState 3).stagedRecords.2 ∧ t.nat 0x2710_06 = s.nat 0x2710_06 ∧ t.isPending 41 = true) ∧
  (∀ (s : State), s.Inv → s.phase = .service → s.power ≠ .sleep → s.halted = false → s.tag.stageDue = true → s.actionWaits = false → (s.queue 3).items = [] → s.tag.commit.committed = false → s.stageAllowed = true → s.stageSeq ≠ s.nat 0x2710_06 → 1 ≤ s.stageRole → s.stageRole ≤ 2 → (s.setStageState 3).stagedRecords.2 = 0 → (((s.updTag fun t => { t with stageDue := false }).setStageState 3).firstBadRecord (.staged (roleOfCode s.stageRole)) (s.setStageState 3).stagedRecords.1) = none → (((s.updTag fun t => { t with stageDue := false }).setStageState 3).writeRecords (.staged (roleOfCode s.stageRole)) (s.setStageState 3).stagedRecords.1).phase = .service → (((s.updTag fun t => { t with stageDue := false }).setStageState 3).writeRecords (.staged (roleOfCode s.stageRole)) (s.setStageState 3).stagedRecords.1).power ≠ .sleep → Completes (.stagedSetApply) s fun t =>
    t.stageState = 4 ∧ t.nat 0x2710_04 = 1 ∧ t.nat 0x2710_05 = 0xFFFF ∧ t.nat 0x2710_06 = s.stageSeq ∧ t.isPending 41 = true) ∧
  (∀ (s : State), s.Inv → s.coreOn = true → s.statusChanged = true → s.passedS s.tag.statusT0 1 = true → s.groupRuns = false → s.tag.commit.committed = false → Completes (.statusBlockWrite) s fun t =>
    t.homeBlock 4 ++ t.homeBlock 5 = s.statusBlocks ∧ t.tag.statusT0 = s.now ∧ (t.tag.lastGroup.first, t.tag.lastGroup.n, t.tag.lastGroup.field) = (4, 2, false)) ∧
  (∀ (s : State), s.Inv → s.powered = true → s.holdExpired = true → Completes (.holdMaxExpiry) s fun t =>
    t.tag.hold = none ∧ t.isPending 43 = true ∧ t.store = s.store) ∧
  (∀ (s : State), s.Inv → s.coreOn = true → s.assigned = true → s.nat 0x2701_01 ≠ 2 → s.tag.field = false → s.passedMs s.tag.fieldT0 (s.nat 0x2701_02) = true → s.tagBusy = false → Completes (.port0Release) s fun t =>
    t.assigned = false ∧ t.isPending 43 = true ∧ t.tag = s.tag)

/-- A waiting lookup is answered and counted, with event 44 on MATCH and 45 otherwise; a trigger that no rule matches is
used up; with RULES_ON 0 it is discarded and counted; a matching rule is counted and its action taken; a due scene
step is taken and the next one is timed from it; the last one ends the scene with event 50; a rule pulse ends and OUT
is restored. -/
def Obligations.RulesAndScenes : Prop :=
  (∀ (s : State) (x : Lookup), s.Inv → s.coreOn = true → s.nextLookup = some x → x.lane = none → s.nat 0x2800_02 + 1 < 2 ^ 32 → Completes (.verdictReady) s fun t =>
    t.lookups = s.lookups.erase x ∧ t.nat 0x2800_02 = s.nat 0x2800_02 + 1) ∧
  (∀ (s : State) (x : Lookup) (l : Nat) (v : Verdict), s.Inv → s.coreOn = true → s.nextLookup = some x → x.lane = some l → s.verdictOf (recordKeytype x.record) (keyOf ((x.record.drop 2).take 10)) (some (x.record.getD 13 0).toNat) = v → s.nat 0x2800_02 + 1 < 2 ^ 32 → Completes (.verdictReady) s fun t =>
    t.lookups = s.lookups.erase x ∧ t.nat 0x2800_02 = s.nat 0x2800_02 + 1 ∧ t.isPending (if v.code = 1 then 44 else 45) = true) ∧
  (∀ (s : State) (tr : Trigger) (rest : List Trigger), s.Inv → s.coreOn = true → s.triggers = tr :: rest → s.flag 0x2820_01 = false → s.nat 0x2820_03 + 1 < 2 ^ 32 → Completes (.ruleTrigger) s fun t =>
    t.triggers = rest ∧ t.nat 0x2820_03 = s.nat 0x2820_03 + 1 ∧ t.scenes = s.scenes) ∧
  (∀ (s : State) (tr : Trigger) (rest : List Trigger), s.Inv → s.coreOn = true → s.triggers = tr :: rest → s.flag 0x2820_01 = true → (∀ r ∈ s.enabledRules, triggerMatches r.trigger tr = false) → Completes (.ruleTrigger) s fun t =>
    t.triggers = rest ∧ t.od = s.od.canon ∧ t.pool = s.pool ∧ t.scenes = s.scenes) ∧
  (∀ (s : State) (tr : Trigger) (r : Rule), s.Inv → s.coreOn = true → s.triggers = [tr] → s.flag 0x2820_01 = true → s.enabledRules = [r] → triggerMatches r.trigger tr = true → r.zoneFits tr = true → tr.ofCard = false → r.condOp = 0 → r.action = 5 → s.nat (ruleKey r.number 15) + 1 < 2 ^ 32 → Completes (.ruleTrigger) s fun t =>
    t.nat 0x2820_07 = r.arg ∧ t.isPending 48 = true ∧ t.nat (ruleKey r.number 15) = s.nat (ruleKey r.number 15) + 1 ∧ t.causeLevel = 0) ∧
  (∀ (s : State) (n : Fin 256) (x : Scene) (b b2 : List Byte), s.Inv → s.coreOn = true → s.scenes = [x] → x.scene = n.val → s.sceneDue x = true → sceneStepAt x.steps x.next = some b → uAt b 0 1 = 4 → uAt b 1 1 ≠ x.scene → sceneStepAt x.steps (x.next + 1) = some b2 → Completes (.sceneStep n) s fun t =>
    t.scenes = [{ x with next := x.next + 1, t0 := s.tb64 }] ∧ t.od = s.od.canon ∧ t.causeLevel = 0) ∧
  (∀ (s : State) (n : Fin 256) (x : Scene) (b : List Byte), s.Inv → s.coreOn = true → s.scenes = [x] → x.scene = n.val → s.sceneDue x = true → sceneStepAt x.steps x.next = some b → uAt b 0 1 = 4 → uAt b 1 1 ≠ x.scene → sceneStepAt x.steps (x.next + 1) = none → Completes (.sceneStep n) s fun t =>
    t.scenes = [] ∧ t.isPending 50 = true) ∧
  (∀ (s : State) (n : Fin 16) (x : Pulse), s.Inv → s.coreOn = true → s.pulses.getD n none = some x → x.t0 + x.ms * 27120 ≤ s.tb64 → Completes (.gpioPulseEnd n) s fun t =>
    t.pulses.getD n none = none ∧ t.padOut n = x.back ∧ ∀ m : Fin 16, m ≠ n → t.padOut m = s.padOut m)

/-- A regular slice starts when its period has passed; a slice that completes is counted and its group's run of pre-
emptions returns to 0; one pre-empted by an access to the memory under test is counted; a finding in a memory group is
recorded and repaired from a spare with events 90 and 91; a first correction is counted; an uncorrectable error is
counted and recorded; a sensor reading is stored; a port calibration begins its outage; one that settled stores its
offsets and one that did not sends the port to FAULT code 5, both with event 92; a powerline calibration ends; a
deferred request is marked once. -/
def Obligations.SelfTestAndCalibration : Prop :=
  (∀ (s : State) (x : Slice), s.Inv → s.coreOn = true → s.slicesRun = true → s.sliceDue = true → s.nextSlice = some x → s.sliceBarred x = false → x.escalated = false → Completes (.selfTestSlice .start) s fun t =>
    t.st.run = some x ∧ t.st.t0 = s.tb64 ∧ t.od = s.od.canon) ∧
  (∀ (s : State) (x : Slice), s.Inv → s.coreOn = true → s.st.run = some x → x.group ≠ 6 → x.escalated = false → s.st.faulty = [] → s.nat (groupKey x.group 2) = 0 → s.nat 0x3401_01 + 1 < 2 ^ 32 → x.group < 11 → Completes (.selfTestSlice .passed) s fun t =>
    t.st.run = none ∧ t.nat 0x3401_01 = s.nat 0x3401_01 + 1 ∧ t.nat (groupKey x.group 1) = 0) ∧
  (∀ (s : State) (x : Slice), s.Inv → s.coreOn = true → s.st.run = some x → x.escalated = false → s.nat (groupKey x.group 1) < 7 → x.group = 1 ∨ x.group = 2 ∨ x.group = 4 → s.nat 0x3401_02 + 1 < 2 ^ 32 → Completes (.selfTestSlice .preempted) s fun t =>
    t.st.run = none ∧ t.nat 0x3401_02 = s.nat 0x3401_02 + 1 ∧ t.nat (groupKey x.group 1) = s.nat (groupKey x.group 1) + 1 ∧ t.st.escalated = s.st.escalated) ∧
  (∀ (s : State) (x : Slice) (unit : BitVec 8) (kind : Fin 10) (addr : BitVec 32) (bit : BitVec 8), s.Inv → s.coreOn = true → s.st.run = some x → x.group = 1 → x.escalated = false → x.targeted = false → s.sparesUsed 1 (x.index / 8) < 8 → s.nat (groupKey 1 2) = 0 → s.nat 0x3401_05 + 1 < 2 ^ 32 → s.nat 0x3401_06 + 1 < 2 ^ 32 → Completes (.selfTestSlice (.found unit kind addr bit 0)) s fun t =>
    t.st.run = none ∧ t.nat 0x3401_05 = s.nat 0x3401_05 + 1 ∧ t.nat 0x3401_06 = s.nat 0x3401_06 + 1 ∧ t.sparesUsed 1 (x.index / 8) = s.sparesUsed 1 (x.index / 8) + 1 ∧ t.isPending 90 = true ∧ t.isPending 91 = true) ∧
  (∀ (s : State) (g : Fin 6) (index unit : BitVec 8) (addr : BitVec 32) (bit : BitVec 8), s.Inv → s.coreOn = true → s.st.ecc.find? (fun x => x.1 = g.val && x.2.1 = addr.toNat) = none → s.nat 0x3401_07 + 1 < 2 ^ 32 → Completes (.eccCorrection g index unit addr bit false none) s fun t =>
    t.nat 0x3401_07 = s.nat 0x3401_07 + 1 ∧ t.st.ecc = (g.val, addr.toNat, s.nat 0x2A01_01) :: s.st.ecc ∧ t.nat 0x3401_05 = s.nat 0x3401_05) ∧
  (∀ (s : State) (g : Fin 6) (index unit : BitVec 8) (addr : BitVec 32) (bit : BitVec 8), s.Inv → s.coreOn = true → s.nat 0x3401_08 + 1 < 2 ^ 32 → s.nat 0x3401_05 + 1 < 2 ^ 32 → Completes (.eccCorrection g index unit addr bit true none) s fun t =>
    t.nat 0x3401_08 = s.nat 0x3401_08 + 1 ∧ t.nat 0x3401_05 = s.nat 0x3401_05 + 1 ∧ t.isPending 90 = true) ∧
  (∀ (s : State) (t0 t1 t2 t3 t4 t5 : BitVec 16), s.Inv → s.coreOn = true → s.passedMs s.cal.sensorT0 100 = true → Completes (.sensorRead t0 t1 t2 t3 t4 t5) s fun t =>
    t.int 0x3501_01 = t0.toInt ∧ t.int 0x3501_02 = t1.toInt ∧ t.int 0x3501_03 = t2.toInt ∧ t.int 0x3501_04 = t3.toInt ∧ t.int 0x3501_05 = t4.toInt ∧ t.int 0x3501_06 = t5.toInt ∧ t.cal.sensorT0 = s.now) ∧
  (∀ (s : State) (p : Fin 8), s.Inv → s.portCalReady p = true → (s.port p).comps = [] → s.openLanes = [] → Completes (.calibrationStart p) s fun t =>
    t.cal.run = some (p.val, s.now) ∧ (t.port p).outage = true) ∧
  (∀ (s : State) (p t0 : Nat) (dg dp rg rp cre cim : BitVec 16), s.Inv → s.coreOn = true → s.cal.run = some (p, t0) → p < 8 → s.passedUs t0 1400 = true → (s.port p).comps = [] → (s.port p).state = .off → s.openLanes = [] → s.nat (calKey p 4) + 1 < 2 ^ 32 → Completes (.calibrationComplete false dg dp rg rp cre cim false) s fun t =>
    t.cal.run = none ∧ (t.port p).outage = false ∧ (t.port p).state = .fault ∧ t.nat (portKey p 2 2) = 5 ∧ t.nat (calKey p 3) = 2 ∧ t.nat (calKey p 4) = s.nat (calKey p 4) + 1 ∧ t.calPending p = false ∧ t.isPending 92 = true ∧ t.val (calKey p 5) = s.val (calKey p 5)) ∧
  (∀ (s : State) (p t0 : Nat) (dg dp rg rp cre cim : BitVec 16), s.Inv → s.coreOn = true → s.cal.run = some (p, t0) → p < 8 → s.passedUs t0 1400 = true → offsetsHold (s.newOffsets p [dg.toInt, dp.toInt, rg.toInt, rp.toInt]) = true → s.openLanes = [] → s.nat (calKey p 4) + 1 < 2 ^ 32 → Completes (.calibrationComplete false dg dp rg rp cre cim true) s fun t =>
    t.cal.run = none ∧ (t.port p).outage = false ∧ t.nat (calKey p 3) = 0 ∧ t.nat (calKey p 4) = s.nat (calKey p 4) + 1 ∧ t.calPending p = false ∧ t.isPending 92 = true ∧ t.oct (calKey p 5) = (s.newOffsets p [dg.toInt, dp.toInt, rg.toInt, rp.toInt]).flatMap (leBytesI 2) ∧ t.survey.phase ≠ .idle) ∧
  (∀ (s : State) (t0 : Nat) (dg dp rg rp cre cim : BitVec 16) (settled : Bool), s.Inv → s.coreOn = true → s.pl.outage = some t0 → s.passedUs t0 3000 = true → s.nat (calKey 9 4) + 1 < 2 ^ 32 → Completes (.calibrationComplete true dg dp rg rp cre cim settled) s fun t =>
    t.pl.outage = none ∧ t.pl.calFailed = !settled ∧ t.nat (calKey 9 3) = (if settled then 0 else 2) ∧ t.nat (calKey 9 4) = s.nat (calKey 9 4) + 1 ∧ t.isPending 92 = true) ∧
  (∀ (s : State) (b : Fin 10), s.Inv → s.coreOn = true → s.calPending b = true → s.cal.limitGiven.getLsbD b = false → s.calForced b = true → Completes (.calDeferralLimit b) s fun t =>
    t.cal.limitGiven.getLsbD b = true ∧ t.isPending 92 = true ∧ t.calPending b = true)

/-- CORE_START with a source that carries the bus restarts TB, counts the power cycle and leaves the image of BOOT_SLOT
running at the start gate with cause 0; RST_N and the watchdog do so with causes 1 and 2; the sessions, the queues and
Dravlink begin anew, and the store stays but for blocks 0 to 3, which then hold the module's identity (R350; not while
a group is still to be rolled forward, log 83); without a startable image the ROM recovers with the maker service; the
start gate passes to the survey of start-up, that to the finish, and that to service with Dravlink running. -/
def Obligations.StartsAndResets : Prop :=
  (∀ (s : State), s.Inv → s.phase = .off → s.supply.source ≠ .store → s.supply.returned = false → s.flag 0x1A10_07 = false → s.nat 0x1A10_06 < 2 → s.slotStarts (s.nat 0x1A10_06) = true → s.tag.recovered = false → s.nat 0x2A01_02 + 1 < 2 ^ 32 → Completes (.coreStart) s fun t =>
    t.phase = .gate ∧ t.power = .active ∧ t.nat 0x2A01_02 = s.nat 0x2A01_02 + 1 ∧ t.nat 0x2A01_03 = s.nat 0x2A01_01 ∧ t.firmware.running = s.nat 0x1A10_06 ∧ t.sessions = [{}, {}] ∧ (t.assigned = false → t.triggers = []) ∧ t.pool = {} ∧ t.link = {} ∧ t.halted = false ∧ t.nat 0x3801_01 = 0 ∧ t.tb.tb = 0 ∧ t.tb.epoch = 0 ∧ t.supply.state = .normal ∧ (∀ a, 128 ≤ a → t.storeByte a = s.storeByte a) ∧ (s.tag.commit.committed = false → t.identityHeld = t.identityBlocks)) ∧
  (∀ (s : State), s.Inv → s.phase = .off → s.supply.source ≠ .store → s.slotOrder.find? s.slotStarts = none → s.firmware.busy = none → Completes (.coreStart) s fun t =>
    t.phase = .recovery ∧ (t.session .uart).role = .maker ∧ (t.session .spi).role = .operator ∧ t.store = s.store) ∧
  (∀ (s : State), s.Inv → s.powered = true → s.flag 0x1A10_07 = false → s.nat 0x1A10_06 < 2 → s.slotStarts (s.nat 0x1A10_06) = true → s.tag.recovered = false → s.nat 0x2A01_02 + 1 < 2 ^ 32 → Completes (.rstN) s fun t =>
    t.phase = .gate ∧ t.power = .active ∧ t.nat 0x2A01_02 = s.nat 0x2A01_02 + 1 ∧ t.nat 0x2A01_03 = s.nat 0x2A01_01 ∧ t.firmware.running = s.nat 0x1A10_06 ∧ t.sessions = [{}, {}] ∧ (t.assigned = false → t.triggers = []) ∧ t.pool = {} ∧ t.link = {} ∧ t.halted = false ∧ t.nat 0x3801_01 = 1 ∧ t.flag 0x1812_03 = s.flag 0x1812_03 ∧ (∀ a, 128 ≤ a → t.storeByte a = s.storeByte a) ∧ (s.tag.commit.committed = false → t.identityHeld = t.identityBlocks)) ∧
  (∀ (s : State), s.Inv → s.powered = true → s.power ≠ .sleep → s.halted = false → s.flag 0x1A10_07 = false → s.nat 0x1A10_06 < 2 → s.slotStarts (s.nat 0x1A10_06) = true → s.tag.recovered = false → s.nat 0x2A01_02 + 1 < 2 ^ 32 → Completes (.watchdogExpiry) s fun t =>
    t.phase = .gate ∧ t.power = .active ∧ t.nat 0x2A01_02 = s.nat 0x2A01_02 + 1 ∧ t.nat 0x2A01_03 = s.nat 0x2A01_01 ∧ t.firmware.running = s.nat 0x1A10_06 ∧ t.sessions = [{}, {}] ∧ (t.assigned = false → t.triggers = []) ∧ t.pool = {} ∧ t.link = {} ∧ t.halted = false ∧ t.nat 0x3801_01 = 2 ∧ (∀ a, 128 ≤ a → t.storeByte a = s.storeByte a) ∧ (s.tag.commit.committed = false → t.identityHeld = t.identityBlocks)) ∧
  (∀ (s : State) (m : StartMeasure), s.Inv → s.gateMetNow = true → Completes (.startGate m) s fun t =>
    t.phase = .survey ∧ t.survey.phase = .requested ∧ t.gateT0 = s.now + usQuanta 31000 ∧ t.nat 0x3801_04 = min 65535 (s.sinceUs s.gateT0 / 100)) ∧
  (∀ (s : State), s.Inv → s.phase = .survey → s.surveyMayStart = false → s.passedMs s.gateT0 10 = true → s.survey.phase ≠ .driving → Completes (.startupSurvey) s fun t =>
    t.phase = .finish ∧ t.survey.phase ≠ .driving ∧ t.survey.phase ≠ .idle) ∧
  (∀ (s : State), s.Inv → s.phase = .survey → s.gateT0 ≤ s.now → s.surveyMayStart = true → Completes (.startupSurvey) s fun t =>
    t.phase = .finish ∧ t.survey.phase = .driving ∧ t.survey.t0 = s.now) ∧
  (∀ (s : State), s.Inv → s.readyDue = true → s.nat 0x2701_01 ≠ 2 → Completes (.readyForService) s fun t =>
    t.phase = .service ∧ t.link.running = true ∧ t.link.t0 = s.now ∧ t.link.resyncAll = true ∧ t.nat 0x3801_03 = min 65535 (s.sinceUs s.startT0 / 100) ∧ t.link.msgs = [])

/-- An idle module enters the standby that STANDBY_TARGET names, counted, with the radio at rest; a wake cause brings it
back with its code; a requested SLEEP begins, counted; a wake source or the time limit ends it, TB made up for the
slow clocks and event 66 raised, with its LAST_WAKE code; a debug halt starts only with test access; FREEZE raises
event 67 at its start and end, and without FREEZE no entry changes. -/
def Obligations.StandbySleepAndHalt : Prop :=
  (∀ (s : State), s.Inv → s.phase = .service → s.power = .active → s.nat 0x3800_01 ≠ 0 → s.idle = true → s.passedMs s.idleT0 (s.nat 0x3800_02) = true → s.nat 0x3801_05 + 1 < 2 ^ 32 → Completes (.standbyEntry) s fun t =>
    t.power = (if s.nat 0x3800_01 = 1 then .networked else .deep) ∧ t.nat 0x3801_05 = s.nat 0x3801_05 + 1 ∧ ∀ p : Fin 8, (t.rxp p).cancel = .off ∧ t.radio.goal = .sleep) ∧
  (∀ (s : State) (c : WakeCause) (code : Nat), s.Inv → s.phase = .service → s.inStandby = true → s.wakeCode c = some code → Completes (.standbyWake c) s fun t =>
    t.power = .active ∧ t.nat 0x3801_08 = code ∧ t.idleT0 = s.now) ∧
  (∀ (s : State), s.Inv → s.phase = .service → s.power ≠ .sleep → s.nat 0x3800_03 = 1 → s.idleInside = true → s.groupRuns = false → s.radioRests = true → s.nat 0x3801_06 + 1 < 2 ^ 32 → Completes (.sleepEntry) s fun t =>
    t.power = .sleep ∧ t.nat 0x3800_03 = 0 ∧ t.nat 0x3801_06 = s.nat 0x3801_06 + 1 ∧ t.tb.slow = 0 ∧ t.radio.state = .sleep ∧ ∀ p : Fin 8, (t.rxp p).cancel = .off) ∧
  (∀ (s : State) (c : SleepCause) (code : Nat), s.Inv → s.phase = .service → s.power = .sleep → s.sleepCode c = some code → s.tb.tb.toNat + (makeUp s.tb.slow s.tb.frac).1 < 2 ^ 48 → Completes (.sleepWake c) s fun t =>
    t.power = .active ∧ t.nat 0x3801_08 = code ∧ t.tb.tb.toNat = s.tb.tb.toNat + (makeUp s.tb.slow s.tb.frac).1 ∧ t.tb.frac = (makeUp s.tb.slow s.tb.frac).2 ∧ t.nat 0x2A01_06 = (makeUp s.tb.slow s.tb.frac).1 ∧ t.isPending 66 = true ∧ t.ma.state = .freeRun) ∧
  (∀ (s : State), s.Inv → s.phase = .service → s.power = .sleep → 2 ^ 37 ≤ s.tb.slow → s.tb.tb.toNat + (makeUp s.tb.slow s.tb.frac).1 < 2 ^ 48 → Completes (.sleepLimit) s fun t =>
    t.power = .active ∧ t.nat 0x3801_08 = 9 ∧ t.tb.tb.toNat = s.tb.tb.toNat + (makeUp s.tb.slow s.tb.frac).1 ∧ t.isPending 66 = true) ∧
  (∀ (s : State), s.Inv → s.coreOn = true → s.testAccess = true → s.halted = false → Completes (.debugHaltEntry) s fun t =>
    t.halted = true ∧ t.haltSeen = true ∧ (s.flag 0x2A01_04 = false → t.od = s.od.canon) ∧ (s.flag 0x2A01_04 = true → t.isPending 67 = true)) ∧
  (∀ (s : State), s.Inv → s.coreOn = true → s.halted = true → s.waits = [] → s.bridged = false → Completes (.debugHaltExit) s fun t =>
    t.halted = false ∧ t.haltSeen = s.haltSeen ∧ (s.flag 0x2A01_04 = false → t.od = s.od.canon) ∧ (s.flag 0x2A01_04 = true → t.isPending 67 = true))

/-- Writing 1 clears a pending bit and no other, and one that is raised in the same fabric clock stays pending; a word of
enables is stored; a pulse that has lasted PULSE_US ends and rests, and after 1 us an owed pulse is given; an accepted
edge at an input pad shows in IN and offers its trigger. -/
def Obligations.EventsAndPads : Prop :=
  (∀ (s : State) (word : Fin 3) (bits : BitVec 32), s.Inv → s.coreOn = true → Completes (.eventClear word bits) s fun t =>
    t.nat (0x3600_01 + word) = s.pendingAfter word bits ∧ (s.raisedNow = [] → t.nat (0x3600_01 + word) = (BitVec.ofNat 32 (s.nat (0x3600_01 + word)) &&& ~~~ bits).toNat ∧ t.lines = s.lines) ∧ ∀ w : Fin 3, w ≠ word → t.nat (0x3600_01 + w.val) = s.nat (0x3600_01 + w.val)) ∧
  (∀ (s : State) (e : Fin 96) (bits : BitVec 32), s.Inv → s.coreOn = true → s.isPending e = true → s.raisedNow.any (fun x => x.1 = e.val) = true → Completes (.eventClear ⟨e.val / 32, by omega⟩ bits) s fun t =>
    t.isPending e = true) ∧
  (∀ (s : State) (word : Fin 3) (bits : BitVec 32), s.Inv → s.coreOn = true → Completes (.eventEnableWrite word bits) s fun t =>
    t.nat (0x3601_01 + word) = bits.toNat ∧ ∀ w : Fin 3, t.nat (0x3600_01 + w.val) = s.nat (0x3600_01 + w.val)) ∧
  (∀ (s : State) (l : Fin 4), s.Inv → s.coreOn = true → (s.lines.getD l {}).phase = .pulse → s.passedUs (s.lines.getD l {}).t0 (s.nat (0x3603_01 + l.val)) = true → Completes (.irqPulseEnd l) s fun t =>
    (t.lines.getD l {}).phase = .gap ∧ (t.lines.getD l {}).t0 = s.now ∧ (t.lines.getD l {}).owed = (s.lines.getD l {}).owed) ∧
  (∀ (s : State) (l : Fin 4), s.Inv → s.coreOn = true → (s.lines.getD l {}).phase = .gap → s.passedUs (s.lines.getD l {}).t0 1 = true → Completes (.irqPulseEnd l) s fun t =>
    (t.lines.getD l {}).phase = (if (s.lines.getD l {}).owed then .pulse else .idle) ∧ (t.lines.getD l {}).owed = false) ∧
  (∀ (s : State) (n : Fin 16) (rising : Bool), s.Inv → s.coreOn = true → s.padDir n = 0 → s.flag (padKey n 5) ≠ rising → s.flag 0x2820_01 = true → s.triggers = [] → s.causeLevel = 0 → ∀ c : Fin 8, s.nat (capKey c 1) ≠ n.val + 1 → Completes (.gpInputEdge n rising) s fun t =>
    t.flag (padKey n 5) = rising ∧ ((List.range 3).any fun i => decide (t.triggers = [s.gpioTrigger n rising (i + 1)])) = true) ∧
  (∀ (s : State) (n : Fin 16) (rising : Bool), s.Inv → s.coreOn = true → s.padDir n = 2 → s.padOut n = true → s.flag (padKey n 5) ≠ rising → Completes (.gpInputEdge n rising) s fun t =>
    t.flag (padKey n 5) = rising ∧ t.triggers = s.triggers)

/-- Crossings, windows, wraps, half-cycles, learning passes, MA_SYNC pulses and a read of FW_MA_STAT change the angle's
own state and entries, raise events, may land a capture, and may mark a reply in progress as run through blanking, and
nothing else. A tick of the clocks moves time, TB, the angle and the legacy counters, may mark a reply in progress as
run through blanking, and stores powered time and the duty bins, and nothing else. A burgee occurrence may also give a
service request and change Frond's state, and changes nothing more. -/
def Obligations.MainsFrame : Prop :=
  (∀ (c : Instr) (s t : State), s.Inv → tickCommand c = true → exec c s = .next t → 
    s.sameField t ∧ s.sameReceive t ∧ s.sameTag t ∧ s.samePower t ∧ t.hal = s.hal ∧ s.sameSecurity t ∧ s.sameModes t ∧
    s.sameWork t ∧ t.pool = s.pool ∧ s.sameSaved t ∧ t.pl = s.pl ∧ t.link = s.link ∧ t.txSeq = s.txSeq ∧ t.holds = s.holds ∧ t.firstPoll = s.firstPoll ∧ t.lookups = s.lookups ∧ t.fronds = s.fronds ∧ t.wakes = s.wakes ∧ ((∀ x ∈ s.seqs, x.stage ≠ .reply) → t.seqs = s.seqs) ∧ s.sameEntries t fun k => eventEntry k || mainsEntry k || capEntry k || atIndex 0x2A01 0x2A01 k || atIndex 0x2A40 0x2A43 k) ∧
  (∀ (c : Instr) (s t : State), s.Inv → mainsCommand c = true → exec c s = .next t → 
    s.sameField t ∧ s.sameReceive t ∧ s.sameLinks t ∧ s.sameTag t ∧ s.samePower t ∧ t.hal = s.hal ∧ s.sameSecurity t ∧
    s.sameModes t ∧ s.sameWork t ∧ t.pool = s.pool ∧ s.sameClock t ∧ t.holds = s.holds ∧ t.firstPoll = s.firstPoll ∧ t.lookups = s.lookups ∧ t.fronds = s.fronds ∧ t.wakes = s.wakes ∧ ((∀ x ∈ s.seqs, x.stage ≠ .reply) → t.seqs = s.seqs) ∧ s.sameEntries t fun k => eventEntry k || mainsEntry k || capEntry k) ∧
  (∀ (w : Fin 32) (half : Bool) (s t : State), s.Inv → exec (.burgeeOccurrence w half) s = .next t → 
    s.sameTime t ∧ s.sameReceive t ∧ s.sameLinks t ∧ s.sameTag t ∧ s.samePower t ∧ t.hal = s.hal ∧ s.sameSecurity t ∧
    s.sameModes t ∧ s.sameWork t ∧ t.pool = s.pool ∧ t.ports = s.ports ∧ t.lanes = s.lanes ∧ t.pennants = s.pennants ∧ t.seqs = s.seqs ∧ t.holds = s.holds ∧ s.sameEntries t fun k => eventEntry k || mainsEntry k || engineEntry k)

/-- Ramps, faults, checks, rechecks, the FIR check, the survey and the steps of lanes leave time, radio, powerline link,
Dravlink, the tag and its store, the supply, security, the modes, calibration, scenes and pads as they are, and every
dictionary entry below index 2000 (identity, Dravlink, roles, keys, audit, firmware), but for entries whose write
waited for a lane. -/
def Obligations.PortFrame : Prop :=
  (∀ (c : Instr) (s t : State), s.Inv → portCommand c = true → exec c s = .next t → 
    s.sameLinks t ∧ s.sameTag t ∧ s.samePower t ∧ s.sameSecurity t ∧ s.sameModes t ∧ s.sameClock t ∧ t.noiseT0 = s.noiseT0 ∧
    t.wakes = s.wakes ∧ t.cal = s.cal ∧ t.scenes = s.scenes ∧ t.pulses = s.pulses ∧ s.sameEntries t fun k => decide (0x2000 ≤ k / 256) || s.deferred.any fun x => x.1 = k)

/-- Acquisition, loss of suppression, the canceller's rest, overload, gain and noise measurement change the receive paths,
mark an overloaded exchange, and write the receive paths' readings; they leave everything else, but that a canceller
that starts ends a self-test slice on its path, and that a noise measurement may count for a learning pass of the
mains angle. -/
def Obligations.ReceivePathFrame : Prop :=
  (∀ (c : Instr) (s t : State), s.Inv → receiveCommand c = true → exec c s = .next t → 
    s.sameTime t ∧ s.sameField t ∧ s.sameLinks t ∧ s.sameTag t ∧ s.samePower t ∧ t.hal = s.hal ∧ s.sameSecurity t ∧
    s.sameModes t ∧ t.pool = s.pool ∧ s.sameButNoise t ∧ t.holds = s.holds ∧ t.firstPoll = s.firstPoll ∧ t.lookups = s.lookups ∧ t.fronds = s.fronds ∧ t.wakes = s.wakes ∧ s.sameEntries t fun k => eventEntry k || sliceEntry k || atIndex 0x2400 0x2407 k)

/-- The steps of the protocol engine's exchanges and of Frond's pings leave time, radio, powerline link, Dravlink, the tag
and its store, the supply, security, the modes, calibration, scenes and pads as they are, and every dictionary entry
below index 2000 (identity, Dravlink, roles, keys, audit, firmware). The steps that end nothing and open nothing
change only their own readings. The start of a ping changes Frond and the receive path, and ends a self-test slice on
its port. The decision of a ping may besides assign port 0 to the tag. -/
def Obligations.EngineFrame : Prop :=
  (∀ (c : Instr) (s t : State), s.Inv → engineCommand c = true → exec c s = .next t → 
    s.sameLinks t ∧ s.sameTag t ∧ s.samePower t ∧ s.sameSecurity t ∧ s.sameModes t ∧ s.sameClock t ∧ t.wakes = s.wakes ∧
    t.cal = s.cal ∧ t.scenes = s.scenes ∧ t.pulses = s.pulses ∧ s.sameEntries t fun k => decide (0x2000 ≤ k / 256)) ∧
  (∀ (c : Instr) (s t : State), s.Inv → quietCommand c = true → exec c s = .next t → 
    t.ma = s.ma ∧ s.sameTime t ∧ s.sameReceive t ∧ s.sameLinks t ∧ s.sameTag t ∧ s.samePower t ∧ t.hal = s.hal ∧
    s.sameSecurity t ∧ s.sameModes t ∧ s.sameWork t ∧ t.pool = s.pool ∧ t.ports = s.ports ∧ t.pennants = s.pennants ∧ t.requests = s.requests ∧ s.sameEntries t fun k => eventEntry k || portEntry k || engineEntry k) ∧
  (∀ (c : Instr) (s t : State), s.Inv → startsPing c = true → exec c s = .next t → 
    s.sameTime t ∧ s.sameField t ∧ s.sameLinks t ∧ s.sameTag t ∧ s.samePower t ∧ t.hal = s.hal ∧ s.sameSecurity t ∧
    s.sameModes t ∧ t.pool = s.pool ∧ s.sameButSlice t ∧ t.seqs = s.seqs ∧ t.holds = s.holds ∧ t.firstPoll = s.firstPoll ∧ t.lookups = s.lookups ∧ t.wakes = s.wakes ∧ t.noiseT0 = s.noiseT0 ∧ s.sameEntries t fun k => eventEntry k || sliceEntry k || engineEntry k) ∧
  (∀ (p : Fin 8) (z : BitVec 32 × BitVec 32) (sensed : List Sensed) (s t : State), s.Inv → exec (.frondPingDecision p z sensed) s = .next t → 
    t.ma = s.ma ∧ s.sameLinks t ∧ s.samePower t ∧ s.sameSecurity t ∧ s.sameModes t ∧ s.sameWork t ∧ t.pool = s.pool ∧
    s.sameClock t ∧ t.store = s.store ∧ t.tag.state = s.tag.state ∧ t.tag.level = s.tag.level ∧ t.holds = s.holds ∧ t.lookups = s.lookups ∧ s.sameEntries t fun k => decide (0x2000 ≤ k / 256))

/-- A request to the commissioning tag changes the tag's own state, its counters and failure count, AFI and DSFID with
their audit record, and raises events, and an access to the store ends a self-test slice on it; one that writes no
block leaves every byte of the store. A block write or STAGE_APPLY leaves every byte outside the blocks that its
operands name, whatever becomes of its supply. -/
def Obligations.TagFrame : Prop :=
  (∀ (c : Instr) (s t : State), s.Inv → tagQuiet c = true → exec c s = .next t → 
    s.sameTime t ∧ s.sameField t ∧ s.sameEngine t ∧ s.sameReceive t ∧ s.sameLinks t ∧ s.samePower t ∧ t.hal = s.hal ∧
    s.sameModes t ∧ t.pool = s.pool ∧ s.sameButSlice t ∧ t.sessions = s.sessions ∧ t.firmware = s.firmware ∧ t.tidSeen = s.tidSeen ∧ t.attestT0 = s.attestT0 ∧ t.testAccess = s.testAccess ∧ t.testEntered = s.testEntered ∧ t.store = s.store ∧ s.sameEntries t fun k => eventEntry k || sliceEntry k || tagEntry k || auditEntry k) ∧
  (∀ (c : Instr) (s t : State) (b n : Nat), s.Inv → blocksWritten c = some (b, n) → exec c s = .next t → 
    s.sameTime t ∧ s.sameField t ∧ s.sameEngine t ∧ s.sameReceive t ∧ s.sameLinks t ∧ s.samePower t ∧ t.hal = s.hal ∧
    s.sameModes t ∧ t.pool = s.pool ∧ s.sameButSlice t ∧ t.sessions = s.sessions ∧ t.firmware = s.firmware ∧ t.tidSeen = s.tidSeen ∧ t.attestT0 = s.attestT0 ∧ t.testAccess = s.testAccess ∧ t.testEntered = s.testEntered ∧ t.audit = s.audit ∧ (∀ a, a < 32 * b ∨ 32 * (b + n) ≤ a → t.storeByte a = s.storeByte a) ∧ s.sameEntries t fun k => eventEntry k || sliceEntry k || tagEntry k)

/-- Losses, returns and levels of the sources, VOUT_3V3 and claims of Halyard change the supply and Halyard, their
readings and events; only a source's loss touches the tag domain, by writing its status blocks, which ends a self-test
slice on the store. -/
def Obligations.SupplyFrame : Prop :=
  (∀ (c : Instr) (s t : State), s.Inv → supplyCommand c = true → exec c s = .next t → 
    s.sameTime t ∧ s.sameField t ∧ s.sameEngine t ∧ s.sameReceive t ∧ s.sameLinks t ∧ s.sameSecurity t ∧ s.sameModes t ∧
    t.pool = s.pool ∧ s.sameButSlice t ∧ t.power = s.power ∧ t.wakeDue = s.wakeDue ∧ ((∀ aux, c ≠ .sourceLoss aux) → s.sameTag t) ∧ s.sameEntries t fun k => eventEntry k || sliceEntry k || (0x2000_08 ≤ k && k ≤ 0x2000_0E) || k = 0x2001_05 || atIndex 0x2012 0x2013 k)

/-- Pushes, commits, aborts, pops and drops change the pool, its readings and its queues' counters and events, end a self-
test slice on the pool, and change nothing else. -/
def Obligations.PoolFrame : Prop :=
  (∀ (c : Instr) (s t : State), s.Inv → poolCommand c = true → exec c s = .next t → 
    s.sameTime t ∧ s.sameField t ∧ s.sameEngine t ∧ s.sameReceive t ∧ s.sameLinks t ∧ s.sameTag t ∧ s.samePower t ∧
    t.hal = s.hal ∧ s.sameSecurity t ∧ s.sameModes t ∧ s.sameButSlice t ∧ t.status = s.status ∧ s.sameEntries t fun k => eventEntry k || sliceEntry k || poolEntry k)

/-- What happens in the radio, the powerline link and Dravlink leaves the mains angle, time, TB, ports, lanes, exchanges,
receive paths, the tag and its store, the sources, the audit ring, firmware, the modes, self-test and scenes as they
are, and every entry of identity, ports and Dravlink's configuration (OD 1000, 1001, 1010 and 1011); they may end a
self-test slice on radio, link or pool, and a noise measurement may count for a learning pass. The steps that end no
frame and deliver nothing change only their own state and readings. -/
def Obligations.LinkFrame : Prop :=
  (∀ (c : Instr) (s t : State), s.Inv → linkCommand c = true → exec c s = .next t → 
    s.sameField t ∧ s.sameEngine t ∧ s.sameReceive t ∧ s.sameTag t ∧ s.samePower t ∧ s.sameModes t ∧ s.sameClock t ∧
    s.sameButNoise t ∧ t.audit = s.audit ∧ t.firmware = s.firmware ∧ t.tidSeen = s.tidSeen ∧ t.attestT0 = s.attestT0 ∧ t.testAccess = s.testAccess ∧ t.testEntered = s.testEntered ∧ s.sameEntries t fun k => atIndex 0x1020 0x1020 k || decide (0x1100 ≤ k / 256)) ∧
  (∀ (c : Instr) (s t : State), s.Inv → quietLink c = true → exec c s = .next t → 
    s.sameField t ∧ s.sameEngine t ∧ s.sameReceive t ∧ s.sameTag t ∧ s.samePower t ∧ t.hal = s.hal ∧ s.sameSecurity t ∧
    s.sameModes t ∧ t.pool = s.pool ∧ s.sameClock t ∧ s.sameButNoise t ∧ t.link.msgs = s.link.msgs ∧ t.txSeq = s.txSeq ∧ s.sameEntries t fun k => eventEntry k || sliceEntry k || linkEntry k || capEntry k)

/-- The time base's events and reads, the dictionary registers, lockouts, idle sessions, firmware and attestation ends,
ECC corrections, sensors, debug-halt entry, event clears and enables, lines and pads leave the angle, ports, lanes,
exchanges, receive paths, powerline link, Dravlink, tag, store, supply, audit ring, test access and scenes as they
are. -/
def Obligations.TimerFrame : Prop :=
  (∀ (c : Instr) (s t : State), s.Inv → timerCommand c = true → exec c s = .next t → 
    t.ma = s.ma ∧ s.sameField t ∧ s.sameEngine t ∧ s.sameReceive t ∧ s.sameTag t ∧ s.samePower t ∧ t.hal = s.hal ∧
    t.now = s.now ∧ t.pl = s.pl ∧ t.link = s.link ∧ t.txSeq = s.txSeq ∧ t.audit = s.audit ∧ t.tidSeen = s.tidSeen ∧ t.testAccess = s.testAccess ∧ t.testEntered = s.testEntered ∧ t.phase = s.phase ∧ t.startT0 = s.startT0 ∧ t.idleT0 = s.idleT0 ∧ t.waits = s.waits ∧ t.scenes = s.scenes ∧ s.sameEntries t fun k => eventEntry k || atIndex 0x3601 0x3601 k || k = 0x1812_04 || atIndex 0x1A10 0x1A20 k || atIndex 0x2A01 0x2A43 k || poolEntry k || testEntry k || atIndex 0x3500 0x3519 k || atIndex 0x3700 0x370F k)

/-- Self-test, calibration, the later steps of a start and the changes of the power state leave every byte of the
commissioning store, the audit ring, firmware, peers' TIDs, attestation, test access, debug halt, TX_SEQ, the waiting
accesses, scenes and pad pulses as they are, and every entry of identity, ports and Dravlink's configuration (OD 1000,
1001, 1010 and 1011). -/
def Obligations.ModeFrame : Prop :=
  (∀ (c : Instr) (s t : State), s.Inv → modeCommand c = true → exec c s = .next t → 
    t.store = s.store ∧ t.audit = s.audit ∧ t.firmware = s.firmware ∧ t.tidSeen = s.tidSeen ∧ t.attestT0 = s.attestT0 ∧ t.testAccess = s.testAccess ∧ t.testEntered = s.testEntered ∧
    t.halted = s.halted ∧ t.haltSeen = s.haltSeen ∧ t.txSeq = s.txSeq ∧ t.startT0 = s.startT0 ∧ t.waits = s.waits ∧ t.scenes = s.scenes ∧ t.pulses = s.pulses ∧ s.sameEntries t fun k => atIndex 0x1020 0x1020 k || decide (0x1100 ≤ k / 256))

/-- A refused write of an entry answers the status of its first failing check and changes no entry but the counters of
refusals: the entry keeps its value (R325). A write of a security entry, of the match table, or of a timer, event
route, line mode or pad changes its own chapter's state and entries and makes its audit record, and nothing else; a
write of the match table first serves the lookups that wait, and ends a self-test slice on the table. -/
def Obligations.EntryWriteFrame : Prop :=
  (∀ (c : Instr) (who : Who) (e : Nat) (b : List Byte) (s t : State), entryWrite c = some (who, e, b) → s.Inv → s.serves who = true → s.halted = false → s.recoveryBars e = false → s.odWriteStatus who e b ≠ .ok → exec c s = .next t → 
    t.status = s.odWriteStatus who e b ∧ t.val e = s.val e ∧ t.out = s.out ∧ (e ≠ 0x1800_03 → s.sameSecurity t) ∧ t.ma = s.ma ∧ s.sameTime t ∧ s.sameField t ∧
    s.sameEngine t ∧ s.sameReceive t ∧ s.sameLinks t ∧ s.sameTag t ∧ s.samePower t ∧ t.hal = s.hal ∧ s.sameModes t ∧ s.sameWork t ∧ t.pool = s.pool ∧ s.sameEntries t fun k => eventEntry k || auditEntry k || k = 0x2101_07 || k = 0x22A1_02) ∧
  (∀ (c : Instr) (s t : State), s.Inv → s.halted = false → securityWrite c = true → exec c s = .next t → 
    t.ma = s.ma ∧ s.sameTime t ∧ s.sameField t ∧ s.sameEngine t ∧ s.sameReceive t ∧ s.sameLinks t ∧ s.sameTag t ∧
    s.samePower t ∧ t.hal = s.hal ∧ s.sameModes t ∧ s.sameWork t ∧ t.pool = s.pool ∧ s.sameEntries t fun k => eventEntry k || atIndex 0x1800 0x1A40 k || (entryWrite c).any (fun w => w.2.1 = k)) ∧
  (∀ (c : Instr) (s t : State), s.Inv → s.halted = false → tableWrite c = true → exec c s = .next t → 
    s.sameTime t ∧ s.sameField t ∧ s.sameReceive t ∧ s.sameLinks t ∧ s.sameTag t ∧ s.samePower t ∧ t.hal = s.hal ∧
    s.sameModes t ∧ t.pool = s.pool ∧ s.sameButSlice t ∧ t.holds = s.holds ∧ t.firstPoll = s.firstPoll ∧ t.fronds = s.fronds ∧ t.wakes = s.wakes ∧ (s.lookups = [] → t.seqs = s.seqs) ∧ t.sessions = s.sessions ∧ t.firmware = s.firmware ∧ s.sameEntries t fun k => eventEntry k || sliceEntry k || auditEntry k || atIndex 0x2800 0x2811 k || atIndex 0x6000 0x7FFF k) ∧
  (∀ (c : Instr) (s t : State), s.Inv → s.halted = false → timerWrite c = true → exec c s = .next t → 
    t.ma = s.ma ∧ s.sameField t ∧ s.sameEngine t ∧ s.sameReceive t ∧ s.sameLinks t ∧ s.sameTag t ∧ s.samePower t ∧
    t.hal = s.hal ∧ s.sameModes t ∧ t.pool = s.pool ∧ t.now = s.now ∧ t.sessions = s.sessions ∧ t.firmware = s.firmware ∧ t.st = s.st ∧ t.cal = s.cal ∧ t.scenes = s.scenes ∧ s.sameEntries t fun k => eventEntry k || auditEntry k || atIndex 0x2A10 0x2A1F k || atIndex 0x2A40 0x2A43 k || atIndex 0x3602 0x3602 k || atIndex 0x3610 0x3610 k || atIndex 0x3700 0x3710 k)

/-- Every command but a reader's writes, STAGE_APPLY, ROLL_FORWARD, the staged set, the status blocks, a source's loss,
shutdown, the host's STORE_CMD 2, the starts of an image, and what can reach these through the dictionary leaves every
byte of the store as it is. -/
def Obligations.StoreFrame : Prop :=
  ∀ (c : Instr) (s t : State), s.Inv → keepsStore c = true → exec c s = .next t → ∀ a, t.storeByte a = s.storeByte a

/-- A pop of an empty queue by a party that may pop it, from the host's port with no current bunting or by the hardware,
returns EMPTY (the host reads status 1 and 0, another reader nothing), increments the queue's UNDERFLOWS, sets its
sticky UNDERFLOW flag, and raises event 56 exactly where bit 4 of the queue's EVENT_MASK allows it. -/
def Obligations.PopOfEmptyQueueUnderflows : Prop :=
  (∀ (s : State), s.Inv → s.coreOn = true → s.mayPop s.popQ 0 = true → (s.queue s.popQ).current = none → (s.queue s.popQ).items = [] → s.nat (qKey s.popQ 14) + 1 < 2 ^ 32 → s.nat 0x3620_39 + 1 < 2 ^ 32 → Completes (.queuePopRead) s fun t =>
    t.pool.popStat = 1 ∧ t.out = .num 0 ∧ t.nat (qKey s.popQ 14) = s.nat (qKey s.popQ 14) + 1 ∧ (t.queue s.popQ).underflow = true ∧ (t.queue s.popQ).items = [] ∧ t.isPending 56 = (s.isPending 56 || s.bit (qKey s.popQ 10) 4) ∧ t.nat 0x3620_39 = s.nat 0x3620_39 + (if s.bit (qKey s.popQ 10) 4 then 1 else 0)) ∧
  (∀ (s : State) (q : Fin 32) (who : Fin 8), s.Inv → s.coreOn = true → s.mayPop q who = true → (s.mayPop q 0 = true → (s.queue q).current = none) → (s.queue q).items = [] → s.nat (qKey q 14) + 1 < 2 ^ 32 → s.nat 0x3620_39 + 1 < 2 ^ 32 → Completes (.hardwarePop q who) s fun t =>
    t.out = (if s.mayPop q 0 then .num 0 else .oct []) ∧ t.nat (qKey q 14) = s.nat (qKey q 14) + 1 ∧ (t.queue q).underflow = true ∧ (t.queue q).items = [] ∧ t.isPending 56 = (s.isPending 56 || s.bit (qKey q 10) 4) ∧ t.nat 0x3620_39 = s.nat 0x3620_39 + (if s.bit (qKey q 10) 4 then 1 else 0))

/-- The first and second counted failures of a session only count; the third starts a lockout of that session and raises
event 93. During it every claim of the installer or maker role is refused with STATE, while one of role 0 succeeds.
After 10 s of powered time, and not before, the lockout ends with the count at 0; any successful claim brings the
count to 0. -/
def Obligations.ClaimLockout : Prop :=
  (∀ (s : State) (who : Who) (x : Sess) (claim : List Byte), s.Inv → s.phase = .service → s.serves who = true → s.halted = false → sessOf? who = some x → claim.length = 9 → uAt claim 0 1 ≤ 2 → s.judgeClaim x claim = .auth true → ((s.lockEnds x).session x).fails < 2 → Completes (.roleClaim who claim) s fun t =>
    t.status = .auth ∧ (t.session x).fails = ((s.lockEnds x).session x).fails + 1 ∧ (t.session x).lockT0 = none ∧ (t.session x).role = (s.session x).role) ∧
  (∀ (s : State) (who : Who) (x : Sess) (claim : List Byte), s.Inv → s.phase = .service → s.serves who = true → s.halted = false → sessOf? who = some x → claim.length = 9 → uAt claim 0 1 ≤ 2 → s.judgeClaim x claim = .auth true → 2 ≤ ((s.lockEnds x).session x).fails → Completes (.roleClaim who claim) s fun t =>
    t.status = .auth ∧ (t.session x).lockT0 = some s.now ∧ t.isPending 93 = true ∧ (t.session x).role = (s.session x).role) ∧
  (∀ (s : State) (who : Who) (x : Sess) (claim : List Byte), s.Inv → s.phase = .service → s.serves who = true → s.halted = false → sessOf? who = some x → claim.length = 9 → uAt claim 0 1 = 1 ∨ uAt claim 0 1 = 2 → s.claimLocked x = true → Completes (.roleClaim who claim) s fun t =>
    t.status = .state ∧ (t.session x).lockT0 = (s.session x).lockT0 ∧ (t.session x).fails = (s.session x).fails ∧ (t.session x).role = (s.session x).role) ∧
  (∀ (s : State) (who : Who) (x : Sess) (claim : List Byte), s.Inv → s.phase = .service → s.serves who = true → s.halted = false → sessOf? who = some x → claim.length = 9 → uAt claim 0 1 ≤ 2 → s.judgeClaim x claim = .accepted → Completes (.roleClaim who claim) s fun t =>
    t.status = .ok ∧ (t.session x).fails = 0 ∧ (t.session x).role = roleOfCode (uAt claim 0 1)) ∧
  (∀ (s : State) (sess : Sess) (t0 : Nat), s.Inv → s.powered = true → (s.session sess).lockT0 = some t0 → s.passedS t0 10 = true → Completes (.claimLockoutEnd sess) s fun t =>
    (t.session sess).lockT0 = none ∧ (t.session sess).fails = 0) ∧
  (∀ (s : State) (sess : Sess) (t0 : Nat), s.Inv → (s.session sess).lockT0 = some t0 → s.passedS t0 10 = false → Completes (.claimLockoutEnd sess) s fun t =>
    t.sessions = s.sessions)

/-- Event e reaches line L exactly while its pending bit is set, its enable bit is set, bit L of its ROUTE is set and the
line's MODE is not 0; a raise sets the pending bit whatever the enable and the route; and one event may reach several
lines. -/
def Obligations.EventReachesLine : Prop :=
  (∀ (s : State) (e l : Nat), s.reaches e l = true ↔
    s.isPending e = true ∧ s.isEnabled e = true ∧ s.bit (0x3610_01 + e) l = true ∧ s.lineMode l ≠ 0) ∧
  (∀ (s : State) (e stamp : Nat), (s.latch e stamp).isPending e = true) ∧
  ∃ (s : State) (e : Nat), s.reaches e 0 = true ∧ s.reaches e 1 = true
end

