-- ==== Sys2Proof/Laws/Cells.lean ====
section
/-!
SUPPORT. The laws of the commissioning store's cells: a read after a write, that every other byte is left alone, and that
the operations keep the canonical form.
-/

namespace Sys2Proof.Machine

open Sys2Proof

/-- Below the least address of a rising list nothing is listed. -/
theorem StoreCells.get_below {m : StoreCells} {lo a : Nat} (h : StoreCells.wfFrom lo m = true) (ha : a < lo) : m.get a = 0 := by
  induction m generalizing lo with
  | nil => rfl
  | cons x rest ih =>
    obtain ⟨b, v⟩ := x
    simp only [StoreCells.wfFrom, Bool.and_eq_true, decide_eq_true_eq] at h
    simp only [StoreCells.get, if_neg (show b ≠ a by omega)]
    exact ih h.2 (by omega)

/-- A write gives the byte written, and leaves every other byte alone. -/
theorem StoreCells.get_put_from (m : StoreCells) (a j : Nat) (v : Byte) :
    ∀ lo, StoreCells.wfFrom lo m = true → (m.put a v).get j = if j = a then v else m.get j := by
  induction m with
  | nil =>
    intro lo _
    by_cases hv : v = 0#8
    · simp [StoreCells.put, StoreCells.get, hv]
    · by_cases hj : a = j
      · simp [StoreCells.put, StoreCells.get, hv, hj]
      · simp [StoreCells.put, StoreCells.get, hv, hj, Ne.symm hj]
  | cons x rest ih =>
    obtain ⟨b, w⟩ := x
    intro lo h
    simp only [StoreCells.wfFrom, Bool.and_eq_true, decide_eq_true_eq] at h
    simp only [StoreCells.put]
    split
    · next hb =>
      simp only [StoreCells.get, ih (b + 1) h.2]
      split
      · next e => rw [if_neg (by omega)]
      · rfl
    · split
      · next hb =>
        subst hb
        by_cases hj : j = b
        · subst hj
          by_cases hv : v = 0#8
          · simp [hv, StoreCells.get_below h.2 (Nat.lt_succ_self j)]
          · simp [hv, StoreCells.get]
        · by_cases hv : v = 0#8
          · simp [hv, hj, StoreCells.get, Ne.symm hj]
          · simp [hv, hj, StoreCells.get, Ne.symm hj]
      · next h1 h2 =>
        by_cases hj : j = a
        · subst hj
          by_cases hv : v = 0#8
          · subst hv
            rw [if_pos rfl, if_pos (show (0#8 : Byte) = 0 from rfl)]
            simp only [StoreCells.get, if_neg h2]
            exact StoreCells.get_below h.2 (by omega)
          · simp [hv, StoreCells.get]
        · by_cases hv : v = 0#8
          · simp [hv, hj]
          · simp [hv, hj, StoreCells.get, Ne.symm hj]

theorem StoreCells.get_put (m : StoreCells) (h : m.wf = true) (a j : Nat) (v : Byte) :
    (m.put a v).get j = if j = a then v else m.get j := StoreCells.get_put_from m a j v 0 h

theorem StoreCells.wfFrom_mono {a b : Nat} (h : a ≤ b) (m : StoreCells) :
    StoreCells.wfFrom b m = true → StoreCells.wfFrom a m = true := by
  cases m with
  | nil => exact id
  | cons x rest =>
    obtain ⟨k, v⟩ := x
    simp only [StoreCells.wfFrom, Bool.and_eq_true, decide_eq_true_eq]
    exact fun ⟨⟨⟨h1, h2⟩, h3⟩, h4⟩ => ⟨⟨⟨Nat.le_trans h h1, h2⟩, h3⟩, h4⟩

theorem StoreCells.wfFrom_put (m : StoreCells) {a : Nat} (v : Byte) (ha : a < 31744) :
    ∀ lo, lo ≤ a → StoreCells.wfFrom lo m = true → StoreCells.wfFrom lo (m.put a v) = true := by
  induction m with
  | nil =>
    intro lo hlo _
    by_cases hv : v = 0#8 <;> simp [StoreCells.put, StoreCells.wfFrom, hv, hlo, ha]
  | cons x rest ih =>
    obtain ⟨b, w⟩ := x
    intro lo hlo h
    simp only [StoreCells.wfFrom, Bool.and_eq_true, decide_eq_true_eq] at h
    simp only [StoreCells.put]
    split
    · simp only [StoreCells.wfFrom, Bool.and_eq_true, decide_eq_true_eq]
      exact ⟨h.1, ih (b + 1) (by omega) h.2⟩
    · split
      · next hb =>
        subst hb
        split
        · exact StoreCells.wfFrom_mono (by omega) rest h.2
        · next hv =>
          simp only [StoreCells.wfFrom, Bool.and_eq_true, decide_eq_true_eq]
          exact ⟨⟨⟨hlo, ha⟩, hv⟩, h.2⟩
      · split
        · simp only [StoreCells.wfFrom, Bool.and_eq_true, decide_eq_true_eq]
          exact ⟨⟨⟨h.1.1.1, h.1.1.2⟩, h.1.2⟩, h.2⟩
        · next hv =>
          simp only [StoreCells.wfFrom, Bool.and_eq_true, decide_eq_true_eq]
          exact ⟨⟨⟨hlo, ha⟩, hv⟩, ⟨⟨by omega, h.1.1.2⟩, h.1.2⟩, h.2⟩

/-- A write of a byte of blocks 0 to 991 keeps the canonical form. -/
theorem StoreCells.wf_put (m : StoreCells) {a : Nat} (v : Byte) (ha : a < 31744) (h : m.wf = true) : (m.put a v).wf = true :=
  StoreCells.wfFrom_put m v ha 0 (Nat.zero_le a) h

/-- A write of bytes keeps the canonical form. -/
theorem StoreCells.wf_write (b : List Byte) : ∀ (m : StoreCells) (a : Nat), m.wf = true → (m.write a b).wf = true := by
  induction b with
  | nil => exact fun _ _ h => h
  | cons x rest ih =>
    intro m a h
    simp only [StoreCells.write]
    apply ih
    split
    · next ha => exact StoreCells.wf_put m x ha h
    · exact h

theorem StoreCells.wf_foldr (l : StoreCells) : StoreCells.wf
    (l.foldr (fun (c : Host.Cell) (acc : StoreCells) => if c.1 < 31744 then acc.put c.1 c.2 else acc) []) = true := by
  induction l with
  | nil => rfl
  | cons x rest ih =>
    simp only [List.foldr_cons]
    split
    · next hx => exact StoreCells.wf_put _ x.2 hx ih
    · exact ih

/-- The canonical form is canonical. -/
@[simp] theorem StoreCells.wf_canon (m : StoreCells) : m.canon.wf = true := by
  unfold StoreCells.canon
  split
  · next h => exact h
  · exact StoreCells.wf_foldr m

/-- Cells in canonical form are their own canonical form. -/
theorem StoreCells.canon_of_wf (m : StoreCells) (h : m.wf = true) : m.canon = m := by
  unfold StoreCells.canon
  rw [if_pos h]

end Sys2Proof.Machine
end

