-- ==== Sys2Proof/Laws/OdStore.lean ====
section
/-!
SUPPORT. The laws of the dictionary's store: a read after a write, that every other entry is left alone, and that the
operations keep the canonical form.
-/

namespace Sys2Proof.Machine

open Sys2Proof

/-! ### Finding after erase and insert -/

theorem OdStore.find_erase_same (m : OdStore) (k : Nat) : (m.erase k).find k = none := by
  induction m with
  | nil => rfl
  | cons x rest ih =>
    obtain ⟨k', v⟩ := x
    simp only [OdStore.erase]
    split
    · exact ih
    · next h => simp only [OdStore.find, if_neg h, ih]

theorem OdStore.find_erase_ne (m : OdStore) {k j : Nat} (h : j ≠ k) : (m.erase k).find j = m.find j := by
  induction m with
  | nil => rfl
  | cons x rest ih =>
    obtain ⟨k', v⟩ := x
    simp only [OdStore.erase]
    split
    · next e => subst e; simp only [OdStore.find, if_neg (Ne.symm h), ih]
    · simp only [OdStore.find, ih]

theorem OdStore.find_insert_same (m : OdStore) (k : Nat) (v : Val) : (m.insert k v).find k = some v := by
  induction m with
  | nil => simp [OdStore.insert, OdStore.find]
  | cons x rest ih =>
    obtain ⟨k', v'⟩ := x
    simp only [OdStore.insert]
    split
    · next h => simp only [OdStore.find, if_neg (Nat.ne_of_lt h), ih]
    · split <;> simp [OdStore.find]

theorem OdStore.find_insert_ne (m : OdStore) {k j : Nat} (v : Val) (h : j ≠ k) : (m.insert k v).find j = m.find j := by
  induction m with
  | nil => simp [OdStore.insert, OdStore.find, Ne.symm h]
  | cons x rest ih =>
    obtain ⟨k', v'⟩ := x
    simp only [OdStore.insert]
    split
    · simp only [OdStore.find, ih]
    · split
      · next e => subst e; simp [OdStore.find, Ne.symm h]
      · simp [OdStore.find, Ne.symm h]

/-! ### Read after write -/

/-- A read after a write of the same entry gives the value written. -/
@[simp] theorem OdStore.get_put_same (m : OdStore) (k : Nat) (v : Val) : (m.put k v).get k = v := by
  unfold OdStore.put OdStore.get
  split
  · next h => rw [OdStore.find_erase_same, h]; rfl
  · rw [OdStore.find_insert_same]; rfl

/-- A write leaves every other entry alone. -/
theorem OdStore.get_put_ne (m : OdStore) {k j : Nat} (v : Val) (h : j ≠ k) : (m.put k v).get j = m.get j := by
  unfold OdStore.put OdStore.get
  split
  · rw [OdStore.find_erase_ne m h]
  · rw [OdStore.find_insert_ne m v h]

/-- Both laws of a write in one. -/
theorem OdStore.get_put (m : OdStore) (k j : Nat) (v : Val) : (m.put k v).get j = if j = k then v else m.get j := by
  split
  · next h => subst h; exact OdStore.get_put_same m j v
  · next h => exact OdStore.get_put_ne m v h

/-! ### The canonical form -/

theorem OdStore.wfFrom_mono {a b : Nat} (h : a ≤ b) (m : OdStore) : OdStore.wfFrom b m = true → OdStore.wfFrom a m = true := by
  cases m with
  | nil => exact id
  | cons x rest =>
    obtain ⟨k, v⟩ := x
    simp only [OdStore.wfFrom, Bool.and_eq_true, decide_eq_true_eq]
    exact fun ⟨⟨h1, h2⟩, h3⟩ => ⟨⟨Nat.le_trans h h1, h2⟩, h3⟩

theorem OdStore.wfFrom_erase (m : OdStore) (k : Nat) : ∀ lo, OdStore.wfFrom lo m = true → OdStore.wfFrom lo (m.erase k) = true := by
  induction m with
  | nil => exact fun _ h => h
  | cons x rest ih =>
    obtain ⟨k', v⟩ := x
    intro lo h
    simp only [OdStore.wfFrom, Bool.and_eq_true, decide_eq_true_eq] at h
    simp only [OdStore.erase]
    split
    · exact ih lo (OdStore.wfFrom_mono (by omega) rest h.2)
    · simp only [OdStore.wfFrom, Bool.and_eq_true, decide_eq_true_eq]
      exact ⟨h.1, ih (k' + 1) h.2⟩

theorem OdStore.wfFrom_insert (m : OdStore) {k : Nat} {v : Val} (hv : v ≠ odDefault k) :
    ∀ lo, lo ≤ k → OdStore.wfFrom lo m = true → OdStore.wfFrom lo (m.insert k v) = true := by
  induction m with
  | nil =>
    intro lo hlo _
    simp only [OdStore.insert, OdStore.wfFrom, Bool.and_eq_true, decide_eq_true_eq]
    exact ⟨⟨hlo, hv⟩, trivial⟩
  | cons x rest ih =>
    obtain ⟨k', v'⟩ := x
    intro lo hlo h
    simp only [OdStore.wfFrom, Bool.and_eq_true, decide_eq_true_eq] at h
    simp only [OdStore.insert]
    split
    · simp only [OdStore.wfFrom, Bool.and_eq_true, decide_eq_true_eq]
      exact ⟨h.1, ih (k' + 1) (by omega) h.2⟩
    · split
      · next e =>
        subst e
        simp only [OdStore.wfFrom, Bool.and_eq_true, decide_eq_true_eq]
        exact ⟨⟨hlo, hv⟩, h.2⟩
      · simp only [OdStore.wfFrom, Bool.and_eq_true, decide_eq_true_eq]
        exact ⟨⟨hlo, hv⟩, ⟨by omega, h.1.2⟩, h.2⟩

/-- A write keeps the canonical form. -/
theorem OdStore.wf_put (m : OdStore) (k : Nat) (v : Val) (h : m.wf = true) : (m.put k v).wf = true := by
  unfold OdStore.put
  split
  · exact OdStore.wfFrom_erase m k 0 h
  · next hv => exact OdStore.wfFrom_insert m hv 0 (Nat.zero_le k) h

theorem OdStore.wf_foldr (l : OdStore) : OdStore.wf (l.foldr (fun kv acc => OdStore.put acc kv.1 kv.2) []) = true := by
  induction l with
  | nil => rfl
  | cons x rest ih => exact OdStore.wf_put _ x.1 x.2 ih

/-- The canonical form is canonical. -/
@[simp] theorem OdStore.wf_canon (m : OdStore) : m.canon.wf = true := by
  unfold OdStore.canon
  split
  · next h => exact h
  · exact OdStore.wf_foldr m

theorem OdStore.get_foldr (l : OdStore) (k : Nat) :
    OdStore.get (l.foldr (fun kv acc => OdStore.put acc kv.1 kv.2) []) k = OdStore.get l k := by
  induction l with
  | nil => rfl
  | cons x rest ih =>
    obtain ⟨k', v⟩ := x
    simp only [List.foldr_cons, OdStore.get_put]
    by_cases h : k = k'
    · simp [h, OdStore.get, OdStore.find]
    · rw [if_neg h, ih]
      simp [OdStore.get, OdStore.find, Ne.symm h]

/-- The canonical form reads as the store it is made of. -/
@[simp] theorem OdStore.get_canon (m : OdStore) (k : Nat) : m.canon.get k = m.get k := by
  unfold OdStore.canon
  split
  · rfl
  · exact OdStore.get_foldr m k

/-- A store in canonical form is its own canonical form. -/
theorem OdStore.canon_of_wf (m : OdStore) (h : m.wf = true) : m.canon = m := by
  unfold OdStore.canon
  rw [if_pos h]

end Sys2Proof.Machine
end

