-- ==== Sys2Proof/Laws/State.lean ====
section
/-!
SUPPORT. What each shared operation over State does, said once: the fields that a dictionary write leaves alone, reads after
writes, what an event changes, and what the four forms of an answer can answer.
-/

namespace Sys2Proof.Machine

open Sys2Proof

/-! ### A dictionary write, field by field -/

@[simp] theorem State.put_now (s : State) (k : Nat) (v : Val) : (s.put k v).now = s.now := rfl
@[simp] theorem State.put_drawn (s : State) (k : Nat) (v : Val) : (s.put k v).drawn = s.drawn := rfl
@[simp] theorem State.put_od (s : State) (k : Nat) (v : Val) : (s.put k v).od = s.od.put k v := rfl
@[simp] theorem State.put_out (s : State) (k : Nat) (v : Val) : (s.put k v).out = s.out := rfl
@[simp] theorem State.put_status (s : State) (k : Nat) (v : Val) : (s.put k v).status = s.status := rfl
@[simp] theorem State.put_lines (s : State) (k : Nat) (v : Val) : (s.put k v).lines = s.lines := rfl
@[simp] theorem State.put_raised (s : State) (k : Nat) (v : Val) : (s.put k v).raised = s.raised := rfl
@[simp] theorem State.put_raisedT (s : State) (k : Nat) (v : Val) : (s.put k v).raisedT = s.raisedT := rfl
@[simp] theorem State.put_triggers (s : State) (k : Nat) (v : Val) : (s.put k v).triggers = s.triggers := rfl
@[simp] theorem State.put_causeLevel (s : State) (k : Nat) (v : Val) : (s.put k v).causeLevel = s.causeLevel := rfl
@[simp] theorem State.put_tb (s : State) (k : Nat) (v : Val) : (s.put k v).tb = s.tb := rfl
@[simp] theorem State.put_ma (s : State) (k : Nat) (v : Val) : (s.put k v).ma = s.ma := rfl
@[simp] theorem State.put_halted (s : State) (k : Nat) (v : Val) : (s.put k v).halted = s.halted := rfl
@[simp] theorem State.put_ports (s : State) (k : Nat) (v : Val) : (s.put k v).ports = s.ports := rfl
@[simp] theorem State.put_fir (s : State) (k : Nat) (v : Val) : (s.put k v).fir = s.fir := rfl
@[simp] theorem State.put_firOk (s : State) (k : Nat) (v : Val) : (s.put k v).firOk = s.firOk := rfl
@[simp] theorem State.put_survey (s : State) (k : Nat) (v : Val) : (s.put k v).survey = s.survey := rfl
@[simp] theorem State.put_pennants (s : State) (k : Nat) (v : Val) : (s.put k v).pennants = s.pennants := rfl
@[simp] theorem State.put_teach (s : State) (k : Nat) (v : Val) : (s.put k v).teach = s.teach := rfl
@[simp] theorem State.put_lanes (s : State) (k : Nat) (v : Val) : (s.put k v).lanes = s.lanes := rfl
@[simp] theorem State.put_requests (s : State) (k : Nat) (v : Val) : (s.put k v).requests = s.requests := rfl
@[simp] theorem State.put_deferred (s : State) (k : Nat) (v : Val) : (s.put k v).deferred = s.deferred := rfl
@[simp] theorem State.put_dirty (s : State) (k : Nat) (v : Val) : (s.put k v).dirty = s.dirty := rfl
@[simp] theorem State.put_rrZone (s : State) (k : Nat) (v : Val) : (s.put k v).rrZone = s.rrZone := rfl
@[simp] theorem State.put_rrLane (s : State) (k : Nat) (v : Val) : (s.put k v).rrLane = s.rrLane := rfl
@[simp] theorem State.put_turned (s : State) (k : Nat) (v : Val) : (s.put k v).turned = s.turned := rfl
@[simp] theorem State.put_portCal (s : State) (k : Nat) (v : Val) : (s.put k v).portCal = s.portCal := rfl
@[simp] theorem State.put_assigned (s : State) (k : Nat) (v : Val) : (s.put k v).assigned = s.assigned := rfl
@[simp] theorem State.put_supply (s : State) (k : Nat) (v : Val) : (s.put k v).supply = s.supply := rfl
@[simp] theorem State.put_hal (s : State) (k : Nat) (v : Val) : (s.put k v).hal = s.hal := rfl
@[simp] theorem State.put_power (s : State) (k : Nat) (v : Val) : (s.put k v).power = s.power := rfl
@[simp] theorem State.put_wakeDue (s : State) (k : Nat) (v : Val) : (s.put k v).wakeDue = s.wakeDue := rfl
@[simp] theorem State.put_rx (s : State) (k : Nat) (v : Val) : (s.put k v).rx = s.rx := rfl
@[simp] theorem State.put_radio (s : State) (k : Nat) (v : Val) : (s.put k v).radio = s.radio := rfl
@[simp] theorem State.put_pl (s : State) (k : Nat) (v : Val) : (s.put k v).pl = s.pl := rfl
@[simp] theorem State.put_link (s : State) (k : Nat) (v : Val) : (s.put k v).link = s.link := rfl
@[simp] theorem State.put_txSeq (s : State) (k : Nat) (v : Val) : (s.put k v).txSeq = s.txSeq := rfl
@[simp] theorem State.put_seqs (s : State) (k : Nat) (v : Val) : (s.put k v).seqs = s.seqs := rfl
@[simp] theorem State.put_holds (s : State) (k : Nat) (v : Val) : (s.put k v).holds = s.holds := rfl
@[simp] theorem State.put_firstPoll (s : State) (k : Nat) (v : Val) : (s.put k v).firstPoll = s.firstPoll := rfl
@[simp] theorem State.put_noiseT0 (s : State) (k : Nat) (v : Val) : (s.put k v).noiseT0 = s.noiseT0 := rfl
@[simp] theorem State.put_lookups (s : State) (k : Nat) (v : Val) : (s.put k v).lookups = s.lookups := rfl
@[simp] theorem State.put_lookTurn (s : State) (k : Nat) (v : Val) : (s.put k v).lookTurn = s.lookTurn := rfl
@[simp] theorem State.put_scenes (s : State) (k : Nat) (v : Val) : (s.put k v).scenes = s.scenes := rfl
@[simp] theorem State.put_fronds (s : State) (k : Nat) (v : Val) : (s.put k v).fronds = s.fronds := rfl
@[simp] theorem State.put_wakes (s : State) (k : Nat) (v : Val) : (s.put k v).wakes = s.wakes := rfl
@[simp] theorem State.put_tag (s : State) (k : Nat) (v : Val) : (s.put k v).tag = s.tag := rfl
@[simp] theorem State.put_store (s : State) (k : Nat) (v : Val) : (s.put k v).store = s.store := rfl
@[simp] theorem State.put_audit (s : State) (k : Nat) (v : Val) : (s.put k v).audit = s.audit := rfl
@[simp] theorem State.put_auditTb (s : State) (k : Nat) (v : Val) : (s.put k v).auditTb = s.auditTb := rfl
@[simp] theorem State.put_phase (s : State) (k : Nat) (v : Val) : (s.put k v).phase = s.phase := rfl
@[simp] theorem State.put_sessions (s : State) (k : Nat) (v : Val) : (s.put k v).sessions = s.sessions := rfl
@[simp] theorem State.put_firmware (s : State) (k : Nat) (v : Val) : (s.put k v).firmware = s.firmware := rfl
@[simp] theorem State.put_tidSeen (s : State) (k : Nat) (v : Val) : (s.put k v).tidSeen = s.tidSeen := rfl
@[simp] theorem State.put_attestT0 (s : State) (k : Nat) (v : Val) : (s.put k v).attestT0 = s.attestT0 := rfl
@[simp] theorem State.put_testAccess (s : State) (k : Nat) (v : Val) : (s.put k v).testAccess = s.testAccess := rfl
@[simp] theorem State.put_testEntered (s : State) (k : Nat) (v : Val) : (s.put k v).testEntered = s.testEntered := rfl
@[simp] theorem State.put_haltSeen (s : State) (k : Nat) (v : Val) : (s.put k v).haltSeen = s.haltSeen := rfl
@[simp] theorem State.put_pool (s : State) (k : Nat) (v : Val) : (s.put k v).pool = s.pool := rfl
@[simp] theorem State.put_st (s : State) (k : Nat) (v : Val) : (s.put k v).st = s.st := rfl
@[simp] theorem State.put_cal (s : State) (k : Nat) (v : Val) : (s.put k v).cal = s.cal := rfl
@[simp] theorem State.put_startT0 (s : State) (k : Nat) (v : Val) : (s.put k v).startT0 = s.startT0 := rfl
@[simp] theorem State.put_gateT0 (s : State) (k : Nat) (v : Val) : (s.put k v).gateT0 = s.gateT0 := rfl
@[simp] theorem State.put_idleT0 (s : State) (k : Nat) (v : Val) : (s.put k v).idleT0 = s.idleT0 := rfl
@[simp] theorem State.put_pulses (s : State) (k : Nat) (v : Val) : (s.put k v).pulses = s.pulses := rfl
@[simp] theorem State.put_waits (s : State) (k : Nat) (v : Val) : (s.put k v).waits = s.waits := rfl
@[simp] theorem State.put_rrLocal (s : State) (k : Nat) (v : Val) : (s.put k v).rrLocal = s.rrLocal := rfl
@[simp] theorem State.put_pending (s : State) (k : Nat) (v : Val) : (s.put k v).pending = s.pending := rfl

/-! ### What a command leaves, field by field -/

@[simp] theorem State.finish_now (s t : State) : (s.finish t).now = t.now := rfl
@[simp] theorem State.finish_drawn (s t : State) : (s.finish t).drawn = t.drawn := rfl
@[simp] theorem State.finish_od (s t : State) : (s.finish t).od = t.od.canon := rfl
@[simp] theorem State.finish_out (s t : State) : (s.finish t).out = t.out := rfl
@[simp] theorem State.finish_status (s t : State) : (s.finish t).status = t.status := rfl
@[simp] theorem State.finish_lines (s t : State) : (s.finish t).lines = sized 4 {} t.lines := rfl
@[simp] theorem State.finish_raised (s t : State) : (s.finish t).raised = t.raised := rfl
@[simp] theorem State.finish_raisedT (s t : State) : (s.finish t).raisedT = t.raisedT := rfl
@[simp] theorem State.finish_triggers (s t : State) : (s.finish t).triggers = t.triggers := rfl
@[simp] theorem State.finish_causeLevel (s t : State) : (s.finish t).causeLevel = t.causeLevel := rfl
@[simp] theorem State.finish_tb (s t : State) : (s.finish t).tb = t.shaped.tb := rfl
@[simp] theorem State.finish_ma (s t : State) : (s.finish t).ma = t.shaped.ma := rfl
@[simp] theorem State.finish_halted (s t : State) : (s.finish t).halted = t.halted := rfl
@[simp] theorem State.finish_ports (s t : State) : (s.finish t).ports = sized 8 {} t.ports := rfl
@[simp] theorem State.finish_fir (s t : State) : (s.finish t).fir = t.fir := rfl
@[simp] theorem State.finish_firOk (s t : State) : (s.finish t).firOk = t.firOk := rfl
@[simp] theorem State.finish_survey (s t : State) : (s.finish t).survey = t.survey := rfl
@[simp] theorem State.finish_pennants (s t : State) : (s.finish t).pennants = sized 64 {} t.pennants := rfl
@[simp] theorem State.finish_teach (s t : State) : (s.finish t).teach = sized 16 {} t.teach := rfl
@[simp] theorem State.finish_lanes (s t : State) : (s.finish t).lanes = sized 4 {} t.lanes := rfl
@[simp] theorem State.finish_requests (s t : State) : (s.finish t).requests = t.requests := rfl
@[simp] theorem State.finish_deferred (s t : State) : (s.finish t).deferred = t.deferred := rfl
@[simp] theorem State.finish_dirty (s t : State) : (s.finish t).dirty = t.dirty := rfl
@[simp] theorem State.finish_rrZone (s t : State) : (s.finish t).rrZone = t.rrZone := rfl
@[simp] theorem State.finish_rrLane (s t : State) : (s.finish t).rrLane = t.rrLane := rfl
@[simp] theorem State.finish_turned (s t : State) : (s.finish t).turned = t.turned := rfl
@[simp] theorem State.finish_portCal (s t : State) : (s.finish t).portCal = t.portCal := rfl
@[simp] theorem State.finish_assigned (s t : State) : (s.finish t).assigned = t.assigned := rfl
@[simp] theorem State.finish_supply (s t : State) : (s.finish t).supply = t.supply := rfl
@[simp] theorem State.finish_hal (s t : State) : (s.finish t).hal = t.hal := rfl
@[simp] theorem State.finish_power (s t : State) : (s.finish t).power = t.power := rfl
@[simp] theorem State.finish_wakeDue (s t : State) : (s.finish t).wakeDue = t.wakeDue := rfl
@[simp] theorem State.finish_rx (s t : State) : (s.finish t).rx = sized 8 {} t.rx := rfl
@[simp] theorem State.finish_radio (s t : State) : (s.finish t).radio = t.radio := rfl
@[simp] theorem State.finish_pl (s t : State) : (s.finish t).pl = t.shaped.pl := rfl
@[simp] theorem State.finish_link (s t : State) : (s.finish t).link = t.shaped.link := rfl
@[simp] theorem State.finish_txSeq (s t : State) : (s.finish t).txSeq = t.txSeq := rfl
@[simp] theorem State.finish_seqs (s t : State) : (s.finish t).seqs = sized 4 {} t.seqs := rfl
@[simp] theorem State.finish_holds (s t : State) : (s.finish t).holds = sized 64 {} t.holds := rfl
@[simp] theorem State.finish_firstPoll (s t : State) : (s.finish t).firstPoll = t.firstPoll := rfl
@[simp] theorem State.finish_noiseT0 (s t : State) : (s.finish t).noiseT0 = t.noiseT0 := rfl
@[simp] theorem State.finish_lookups (s t : State) : (s.finish t).lookups = t.lookups := rfl
@[simp] theorem State.finish_lookTurn (s t : State) : (s.finish t).lookTurn = t.lookTurn := rfl
@[simp] theorem State.finish_scenes (s t : State) : (s.finish t).scenes = t.scenes := rfl
@[simp] theorem State.finish_fronds (s t : State) : (s.finish t).fronds = sized 8 {} t.fronds := rfl
@[simp] theorem State.finish_wakes (s t : State) : (s.finish t).wakes = t.wakes := rfl
@[simp] theorem State.finish_tag (s t : State) : (s.finish t).tag = t.tag := rfl
@[simp] theorem State.finish_store (s t : State) : (s.finish t).store = t.store.canon := rfl
@[simp] theorem State.finish_audit (s t : State) : (s.finish t).audit = t.audit := rfl
@[simp] theorem State.finish_auditTb (s t : State) : (s.finish t).auditTb = t.auditTb := rfl
@[simp] theorem State.finish_phase (s t : State) : (s.finish t).phase = t.phase := rfl
@[simp] theorem State.finish_sessions (s t : State) : (s.finish t).sessions = sized 2 {} t.sessions := rfl
@[simp] theorem State.finish_firmware (s t : State) : (s.finish t).firmware = t.shaped.firmware := rfl
@[simp] theorem State.finish_tidSeen (s t : State) : (s.finish t).tidSeen = t.tidSeen := rfl
@[simp] theorem State.finish_attestT0 (s t : State) : (s.finish t).attestT0 = t.attestT0 := rfl
@[simp] theorem State.finish_testAccess (s t : State) : (s.finish t).testAccess = t.testAccess := rfl
@[simp] theorem State.finish_testEntered (s t : State) : (s.finish t).testEntered = t.testEntered := rfl
@[simp] theorem State.finish_haltSeen (s t : State) : (s.finish t).haltSeen = t.haltSeen := rfl
@[simp] theorem State.finish_pool (s t : State) : (s.finish t).pool = t.shaped.pool := rfl
@[simp] theorem State.finish_st (s t : State) : (s.finish t).st = t.st := rfl
@[simp] theorem State.finish_cal (s t : State) : (s.finish t).cal = t.cal := rfl
@[simp] theorem State.finish_startT0 (s t : State) : (s.finish t).startT0 = t.startT0 := rfl
@[simp] theorem State.finish_gateT0 (s t : State) : (s.finish t).gateT0 = t.gateT0 := rfl
@[simp] theorem State.finish_idleT0 (s t : State) : (s.finish t).idleT0 = t.idleT0 := rfl
@[simp] theorem State.finish_pulses (s t : State) : (s.finish t).pulses = sized 16 none t.pulses := rfl
@[simp] theorem State.finish_waits (s t : State) : (s.finish t).waits = t.waits := rfl
@[simp] theorem State.finish_rrLocal (s t : State) : (s.finish t).rrLocal = t.rrLocal := rfl
@[simp] theorem State.finish_pending (s t : State) : (s.finish t).pending = s.pending := rfl

/-! ### The canonical shape -/

/-- A list at length n reads as the list it is made of. -/
theorem sized_getD {α : Type} {n i : Nat} (d : α) (l : List α) (h : i < n) : (sized n d l).getD i d = l.getD i d := by
  unfold sized
  split
  · rfl
  · by_cases hl : i < l.length
    · simp [List.getD, h, hl]
    · simp [List.getD, h, hl, List.getElem_append_right (Nat.le_of_not_lt hl)]
@[simp] theorem sized_length {α : Type} (n : Nat) (d : α) (l : List α) : (sized n d l).length = n := by
  unfold sized
  split
  · assumption
  · simp
theorem sized_of_length {α : Type} {n : Nat} (d : α) {l : List α} (h : l.length = n) : sized n d l = l := by
  unfold sized
  rw [if_pos h]

@[simp] theorem State.shaped_tb (t : State) : t.shaped.tb = { t.tb with cmpW := sized 16 0 t.tb.cmpW, lcPre := sized 4 0 t.tb.lcPre } := rfl
@[simp] theorem State.shaped_ma (t : State) :
    t.shaped.ma = { t.ma with blank := sized 8 {} t.ma.blank, carry := sized 8 0 t.ma.carry, burgee := sized 32 {} t.ma.burgee } := rfl
@[simp] theorem State.shaped_pl (t : State) : t.shaped.pl = { t.pl with peers := sized 64 {} t.pl.peers } := rfl
@[simp] theorem State.shaped_link (t : State) : t.shaped.link = { t.link with peers := sized 64 {} t.link.peers } := rfl
@[simp] theorem State.shaped_pool (t : State) : t.shaped.pool = { t.pool with queues := sized 32 {} t.pool.queues } := rfl
@[simp] theorem State.shaped_firmware (t : State) : t.shaped.firmware = { t.firmware with slots := sized 2 {} t.firmware.slots } := rfl

/-- A finished state reads, entry by entry, as the effect it finishes. -/
@[simp] theorem State.finish_val (s t : State) (k : Nat) : (s.finish t).val k = t.val k := OdStore.get_canon t.od k
@[simp] theorem State.finish_int (s t : State) (k : Nat) : (s.finish t).int k = t.int k := by unfold State.int; rw [State.finish_val]
@[simp] theorem State.finish_nat (s t : State) (k : Nat) : (s.finish t).nat k = t.nat k := by unfold State.nat; rw [State.finish_val]
@[simp] theorem State.finish_flag (s t : State) (k : Nat) : (s.finish t).flag k = t.flag k := by unfold State.flag; rw [State.finish_val]
@[simp] theorem State.finish_bit (s t : State) (k i : Nat) : (s.finish t).bit k i = t.bit k i := by unfold State.bit; rw [State.finish_nat]
@[simp] theorem State.finish_oct (s t : State) (k : Nat) : (s.finish t).oct k = t.oct k := by unfold State.oct; rw [State.finish_val]
@[simp] theorem State.finish_coreOn (s t : State) : (s.finish t).coreOn = t.coreOn := rfl
@[simp] theorem State.finish_isPending (s t : State) (e : Nat) : (s.finish t).isPending e = t.isPending e := by
  unfold State.isPending; rw [State.finish_bit]

/-! ### Reads after writes -/

theorem State.val_put (s : State) (k j : Nat) (v : Val) : (s.put k v).val j = if j = k then v else s.val j := OdStore.get_put s.od k j v
@[simp] theorem State.val_put_same (s : State) (k : Nat) (v : Val) : (s.put k v).val k = v := OdStore.get_put_same s.od k v
theorem State.val_put_ne (s : State) {k j : Nat} (v : Val) (h : j ≠ k) : (s.put k v).val j = s.val j := OdStore.get_put_ne s.od v h

@[simp] theorem State.nat_setN_same (s : State) (k n : Nat) : (s.setN k n).nat k = n := by
  simp [State.setN, State.nat, Val.int]
theorem State.nat_setN_ne (s : State) {k j : Nat} (n : Nat) (h : j ≠ k) : (s.setN k n).nat j = s.nat j := by
  simp [State.setN, State.nat, State.val_put_ne s _ h]
@[simp] theorem State.int_setI_same (s : State) (k : Nat) (i : Int) : (s.setI k i).int k = i := by
  simp [State.setI, State.int, Val.int]
theorem State.int_setI_ne (s : State) {k j : Nat} (i : Int) (h : j ≠ k) : (s.setI k i).int j = s.int j := by
  simp [State.setI, State.int, State.val_put_ne s _ h]
@[simp] theorem State.flag_setB_same (s : State) (k : Nat) (b : Bool) : (s.setB k b).flag k = b := by
  cases b <;> simp [State.setB, State.flag, Val.int, boolNat]
theorem State.flag_setB_ne (s : State) {k j : Nat} (b : Bool) (h : j ≠ k) : (s.setB k b).flag j = s.flag j := by
  simp [State.setB, State.flag, State.val_put_ne s _ h]
@[simp] theorem State.oct_setO_same (s : State) (k : Nat) (b : List Byte) : (s.setO k b).oct k = b := by
  simp [State.setO, State.oct, Val.octets]
theorem State.oct_setO_ne (s : State) {k j : Nat} (b : List Byte) (h : j ≠ k) : (s.setO k b).oct j = s.oct j := by
  simp [State.setO, State.oct, State.val_put_ne s _ h]

/-! ### What differs in the dictionary alone -/

/-- t differs from s in the dictionary and the draw count at most. -/
def State.OnlyOd (s t : State) : Prop := t = { s with od := t.od, drawn := t.drawn }

theorem State.OnlyOd.refl (s : State) : State.OnlyOd s s := rfl
theorem State.OnlyOd.trans {s t u : State} (h : State.OnlyOd s t) (g : State.OnlyOd t u) : State.OnlyOd s u := by
  unfold State.OnlyOd at *
  rw [g, h]
theorem State.onlyOd_put (s : State) (k : Nat) (v : Val) : State.OnlyOd s (s.put k v) := rfl
theorem State.onlyOd_setBit (s : State) (k i : Nat) (b : Bool) : State.OnlyOd s (s.setBit k i b) := rfl
theorem State.onlyOd_setFit (s : State) (k bits n : Nat) : State.OnlyOd s (s.setFit k bits n) := by
  unfold State.setFit
  split <;> rfl
theorem State.onlyOd_bump (s : State) (k : Nat) : State.OnlyOd s (s.bump k) := State.onlyOd_setFit s k 32 _

/-! ### Bits -/

/-- Setting a bit of an unsigned entry sets it. -/
theorem State.bit_setBit_true (s : State) (k i : Nat) : (s.setBit k i true).bit k i = true := by
  unfold State.setBit State.bit
  simp only [State.nat_setN_same]
  by_cases h : true = (s.nat k).testBit i
  · simp [← h]
  · have h' : (s.nat k).testBit i = false := by simpa using h
    simp only [h', Bool.true_eq_false, if_false, if_true]
    rw [Nat.add_comm, Nat.testBit_two_pow_add_eq, h']
    rfl

/-! ### An event: dictionary, draw count, lines and trigger queue -/

/-- t differs from s in the dictionary, the draw count, the interrupt lines, the trigger queue and the note of what was raised
in this fabric clock at most. -/
def State.OnlyEvents (s t : State) : Prop :=
  t = { s with od := t.od, drawn := t.drawn, lines := t.lines, triggers := t.triggers, raised := t.raised, raisedT := t.raisedT }

theorem State.OnlyEvents.refl (s : State) : State.OnlyEvents s s := rfl
theorem State.OnlyEvents.trans {s t u : State} (h : State.OnlyEvents s t) (g : State.OnlyEvents t u) : State.OnlyEvents s u := by
  unfold State.OnlyEvents at *
  rw [g, h]
theorem State.OnlyOd.events {s t : State} (h : State.OnlyOd s t) : State.OnlyEvents s t := by
  unfold State.OnlyOd State.OnlyEvents at *
  rw [h]

theorem State.onlyEvents_newlyReach (s : State) (l : Nat) : State.OnlyEvents s (s.newlyReach l) := by
  unfold State.newlyReach
  split <;> rfl

theorem State.onlyEvents_pulses (ls : List Nat) (c : Nat → Bool) : ∀ s : State,
    State.OnlyEvents s (ls.foldl (fun t l => if c l then t.newlyReach l else t) s) := by
  induction ls with
  | nil => exact State.OnlyEvents.refl
  | cons l rest ih =>
    intro s
    simp only [List.foldl_cons]
    refine State.OnlyEvents.trans ?_ (ih _)
    split
    · exact State.onlyEvents_newlyReach s l
    · exact State.OnlyEvents.refl s

theorem State.newlyReach_od (s : State) (l : Nat) : (s.newlyReach l).od = s.od := by
  unfold State.newlyReach
  split <;> rfl

theorem State.pulses_od (ls : List Nat) (c : Nat → Bool) : ∀ s : State,
    (ls.foldl (fun t l => if c l then t.newlyReach l else t) s).od = s.od := by
  induction ls with
  | nil => exact fun _ => rfl
  | cons l rest ih =>
    intro s
    simp only [List.foldl_cons]
    rw [ih]
    split
    · exact State.newlyReach_od s l
    · rfl

theorem State.onlyEvents_setPending (s : State) (e : Nat) : State.OnlyEvents s (s.setPending e) := by
  unfold State.setPending
  split
  · exact State.OnlyEvents.refl s
  · exact State.OnlyEvents.trans (State.onlyOd_setBit s _ _ _).events
      (State.onlyEvents_pulses _ (fun l => (s.setBit (0x3600_01 + e / 32) (e % 32) true).reaches e l) _)

/-- A raised event is pending. -/
theorem State.isPending_setPending (s : State) (e : Nat) : (s.setPending e).isPending e = true := by
  unfold State.setPending
  split
  · assumption
  · unfold State.isPending State.bit State.nat State.val
    rw [State.pulses_od _ (fun l => (s.setBit (0x3600_01 + e / 32) (e % 32) true).reaches e l)]
    exact State.bit_setBit_true s _ _

@[simp] theorem State.noteRaise_od (s : State) (e : Nat) : (s.noteRaise e).od = s.od := rfl
@[simp] theorem State.noteRaise_val (s : State) (e k : Nat) : (s.noteRaise e).val k = s.val k := rfl
@[simp] theorem State.noteRaise_now (s : State) (e : Nat) : (s.noteRaise e).now = s.now := rfl
@[simp] theorem State.noteRaise_raisedT (s : State) (e : Nat) : (s.noteRaise e).raisedT = s.now := rfl
theorem State.onlyEvents_noteRaise (s : State) (e : Nat) : State.OnlyEvents s (s.noteRaise e) := rfl

theorem State.onlyEvents_latch (s : State) (e stamp : Nat) : State.OnlyEvents s (s.latch e stamp) :=
  (((State.onlyOd_bump s _).trans (State.onlyOd_put _ _ _)).events.trans (State.onlyEvents_noteRaise _ e)).trans
    (State.onlyEvents_setPending _ e)

theorem State.onlyEvents_enqueue (s : State) (t : Trigger) : State.OnlyEvents s (s.enqueue t).1 := by
  unfold State.enqueue
  dsimp only
  repeat' split
  all_goals first | exact (State.onlyOd_bump s _).events | rfl

theorem State.onlyEvents_trigger (s : State) (t : Trigger) : State.OnlyEvents s (s.trigger t) := by
  unfold State.trigger
  split
  next s' refused h =>
  have h1 : State.OnlyEvents s s' := by have := State.onlyEvents_enqueue s t; rwa [h] at this
  split
  · exact (h1.trans (State.onlyEvents_latch _ _ _)).trans (State.onlyEvents_enqueue _ _)
  · exact h1

/-- An event changes the dictionary, the draw count, the lines and the trigger queue, and nothing else. -/
theorem State.onlyEvents_raiseAt (s : State) (e stamp : Nat) (port : Option Nat) : State.OnlyEvents s (s.raiseAt e stamp port) :=
  (State.onlyEvents_latch s e stamp).trans (State.onlyEvents_trigger _ _)
theorem State.onlyEvents_raise (s : State) (e : Nat) : State.OnlyEvents s (s.raise e) := State.onlyEvents_raiseAt s e _ none
theorem State.onlyEvents_raisePort (s : State) (e p : Nat) : State.OnlyEvents s (s.raisePort e p) := State.onlyEvents_raiseAt s e _ _

/-! ### The entries that an event touches -/

/-- The counters of discarded and refused triggers, and the event registers from OD 3600 on: what an event writes. -/
def eventKey (k : Nat) : Prop := k = 0x2820_03 ∨ k = 0x2820_04 ∨ 0x3600_01 ≤ k

theorem State.val_setFit_ne (s : State) {k j : Nat} (bits n : Nat) (h : j ≠ k) : (s.setFit k bits n).val j = s.val j := by
  unfold State.setFit
  split
  · exact State.val_put_ne s _ h
  · exact OdStore.get_put_ne s.od _ h
theorem State.val_bump_ne (s : State) {k j : Nat} (h : j ≠ k) : (s.bump k).val j = s.val j := State.val_setFit_ne s 32 _ h
theorem State.val_setN_ne (s : State) {k j : Nat} (n : Nat) (h : j ≠ k) : (s.setN k n).val j = s.val j := State.val_put_ne s _ h
theorem State.val_setBit_ne (s : State) {k j : Nat} (i : Nat) (b : Bool) (h : j ≠ k) : (s.setBit k i b).val j = s.val j :=
  State.val_put_ne s _ h

theorem State.val_setPending (s : State) (e : Nat) {k : Nat} (h : ¬ eventKey k) : (s.setPending e).val k = s.val k := by
  unfold State.setPending
  split
  · rfl
  · unfold State.val
    rw [State.pulses_od _ (fun l => (s.setBit (0x3600_01 + e / 32) (e % 32) true).reaches e l)]
    exact State.val_setBit_ne s _ _ (by unfold eventKey at h; omega)

theorem State.val_latch (s : State) (e stamp : Nat) {k : Nat} (h : ¬ eventKey k) : (s.latch e stamp).val k = s.val k := by
  unfold State.latch
  rw [State.val_setPending _ e h, State.noteRaise_val]
  unfold eventKey at h
  rw [State.val_setN_ne _ _ (by omega), State.val_bump_ne _ (by omega)]

theorem State.val_enqueue (s : State) (t : Trigger) {k : Nat} (h : ¬ eventKey k) : (s.enqueue t).1.val k = s.val k := by
  unfold State.enqueue
  dsimp only
  unfold eventKey at h
  repeat' split
  all_goals first | exact State.val_bump_ne s (by omega) | rfl

theorem State.val_trigger (s : State) (t : Trigger) {k : Nat} (h : ¬ eventKey k) : (s.trigger t).val k = s.val k := by
  unfold State.trigger
  split
  next s' refused e =>
  have h1 : s'.val k = s.val k := by have := State.val_enqueue s t h; rwa [e] at this
  split
  · rw [State.val_enqueue _ _ h, State.val_latch _ _ _ h, h1]
  · exact h1

/-- An event writes no entry but the event registers and the two counters of the trigger queue. -/
theorem State.val_raiseAt (s : State) (e stamp : Nat) (port : Option Nat) {k : Nat} (h : ¬ eventKey k) :
    (s.raiseAt e stamp port).val k = s.val k := by
  unfold State.raiseAt
  rw [State.val_trigger _ _ h, State.val_latch _ _ _ h]
theorem State.val_raise (s : State) (e : Nat) {k : Nat} (h : ¬ eventKey k) : (s.raise e).val k = s.val k := State.val_raiseAt s e _ none h
theorem State.val_raisePort (s : State) (e p : Nat) {k : Nat} (h : ¬ eventKey k) : (s.raisePort e p).val k = s.val k :=
  State.val_raiseAt s e _ _ h

/-! ### A pending event stays pending while others are raised -/

/-- Adding the power of a clear bit sets that bit and leaves the others. -/
theorem testBit_add_two_pow {n i m : Nat} (h : n.testBit i = false) (hm : m ≠ i) : (n + 2 ^ i).testBit m = n.testBit m := by
  have hr : n % 2 ^ (i + 1) < 2 ^ i := by
    have h1 : n.testBit i = decide (n / 2 ^ i % 2 = 1) := Nat.testBit_eq_decide_div_mod_eq
    rw [h] at h1
    have h2 : ¬ n / 2 ^ i % 2 = 1 := of_decide_eq_false h1.symm
    rw [Nat.pow_succ, Nat.mod_mul]
    have h3 : n / 2 ^ i % 2 = 0 := by omega
    rw [h3]
    simpa using Nat.mod_lt n (Nat.two_pow_pos i)
  have hlt : 2 ^ i + n % 2 ^ (i + 1) < 2 ^ (i + 1) := by have := Nat.pow_succ 2 i; omega
  have hn : n = 2 ^ (i + 1) * (n / 2 ^ (i + 1)) + n % 2 ^ (i + 1) := (Nat.div_add_mod n _).symm
  have hs : n + 2 ^ i = 2 ^ (i + 1) * (n / 2 ^ (i + 1)) + (2 ^ i + n % 2 ^ (i + 1)) := by omega
  rw [hs, Nat.testBit_two_pow_mul_add _ hlt]
  conv => rhs; rw [hn, Nat.testBit_two_pow_mul_add _ (Nat.lt_trans hr (Nat.pow_lt_pow_succ (by omega)))]
  split
  · exact Nat.testBit_two_pow_add_gt (by omega) _
  · rfl

/-- Setting a bit clears none. -/
theorem State.bit_setBit_keep (s : State) (k i j m : Nat) (h : s.bit j m = true) : (s.setBit k i true).bit j m = true := by
  unfold State.setBit State.bit at *
  by_cases e : j = k
  · subst e
    simp only [State.nat_setN_same]
    by_cases b : (s.nat j).testBit i = true
    · simpa [b] using h
    · have b' : (s.nat j).testBit i = false := by simpa using b
      simp only [b', Bool.true_eq_false, if_false, if_true]
      by_cases c : m = i
      · subst c; rw [h] at b'; exact absurd b' (by simp)
      · rw [testBit_add_two_pow b' c, h]
  · rw [State.nat_setN_ne s _ e]; exact h

theorem State.isPending_of_nat {s t : State} (e : Nat) (h : ∀ k, 0x3600_01 ≤ k → k < 0x3620_00 → t.val k = s.val k)
    (he : e < 96) : t.isPending e = s.isPending e := by
  unfold State.isPending State.bit State.nat
  rw [h _ (by omega) (by omega)]

theorem State.isPending_setPending_keep (s : State) (e f : Nat) (h : s.isPending f = true) : (s.setPending e).isPending f = true := by
  unfold State.setPending
  split
  · exact h
  · unfold State.isPending State.bit State.nat State.val
    rw [State.pulses_od _ (fun l => (s.setBit (0x3600_01 + e / 32) (e % 32) true).reaches e l)]
    exact State.bit_setBit_keep s _ _ _ _ h

theorem State.isPending_latch_keep (s : State) (e stamp f : Nat) (hf : f < 96) (h : s.isPending f = true) :
    (s.latch e stamp).isPending f = true := by
  unfold State.latch
  refine State.isPending_setPending_keep _ e f ?_
  rw [← h]
  refine State.isPending_of_nat f (fun k h1 h2 => ?_) hf
  rw [State.noteRaise_val, State.val_setN_ne _ _ (by omega), State.val_bump_ne _ (by omega)]

theorem State.isPending_latch (s : State) (e stamp : Nat) : (s.latch e stamp).isPending e = true := State.isPending_setPending _ e

theorem State.isPending_enqueue (s : State) (t : Trigger) (f : Nat) (hf : f < 96) : (s.enqueue t).1.isPending f = s.isPending f := by
  refine State.isPending_of_nat f (fun k h1 h2 => ?_) hf
  unfold State.enqueue
  dsimp only
  repeat' split
  all_goals first | exact State.val_bump_ne s (by omega) | rfl

theorem State.isPending_trigger_keep (s : State) (t : Trigger) (f : Nat) (hf : f < 96) (h : s.isPending f = true) :
    (s.trigger t).isPending f = true := by
  unfold State.trigger
  split
  next s' refused e =>
  have h1 : s'.isPending f = true := by have := State.isPending_enqueue s t f hf; rw [e] at this; rw [this]; exact h
  split
  · rw [State.isPending_enqueue _ _ f hf]; exact State.isPending_latch_keep _ _ _ f hf h1
  · exact h1

/-- A raised event is pending (R413). -/
theorem State.isPending_raiseAt (s : State) (e stamp : Nat) (port : Option Nat) (he : e < 96) : (s.raiseAt e stamp port).isPending e = true :=
  State.isPending_trigger_keep _ _ e he (State.isPending_latch s e stamp)
theorem State.isPending_raise (s : State) (e : Nat) (he : e < 96) : (s.raise e).isPending e = true := State.isPending_raiseAt s e _ none he
theorem State.isPending_raisePort (s : State) (e p : Nat) (he : e < 96) : (s.raisePort e p).isPending e = true :=
  State.isPending_raiseAt s e _ _ he

/-- Raising one event clears no other. -/
theorem State.isPending_raiseAt_keep (s : State) (e stamp : Nat) (port : Option Nat) (f : Nat) (hf : f < 96) (h : s.isPending f = true) :
    (s.raiseAt e stamp port).isPending f = true :=
  State.isPending_trigger_keep _ _ f hf (State.isPending_latch_keep s e stamp f hf h)
theorem State.isPending_raise_keep (s : State) (e f : Nat) (hf : f < 96) (h : s.isPending f = true) : (s.raise e).isPending f = true :=
  State.isPending_raiseAt_keep s e _ none f hf h

/-! ### What a meaning can answer -/

/-- Each of the four forms answers a next state. -/
theorem done_eq (s t : State) : done s t = .next (if s.coreOn then s.finish t else s) := rfl
theorem nextWhen_eq (c : Bool) (s t : State) : nextWhen c s t = .next (if c && s.coreOn then s.finish t else s) := rfl
theorem doneAny_eq (s t : State) : doneAny s t = .next (s.finish t) := rfl
theorem nextAny_eq (c : Bool) (s t : State) : nextAny c s t = .next (if c then s.finish t else s) := rfl

/-- Where the core domain runs and its condition holds, a command's effect happens. -/
theorem done_of_on {s : State} (t : State) (h : s.coreOn = true) : done s t = .next (s.finish t) := by rw [done_eq, if_pos h]
theorem nextWhen_of_on {c : Bool} {s : State} (t : State) (hc : c = true) (h : s.coreOn = true) :
    nextWhen c s t = .next (s.finish t) := by rw [nextWhen_eq, if_pos (by simp [hc, h])]
theorem nextAny_of {c : Bool} {s : State} (t : State) (hc : c = true) : nextAny c s t = .next (s.finish t) := by rw [nextAny_eq, if_pos hc]

/-- What a command of any form leaves: the state it met, or the finish of some effect on it. -/
def Answers (s : State) (o : Out) : Prop := o = .next s ∨ ∃ t, o = .next (s.finish t)

theorem done_answers (s t : State) : Answers s (done s t) := by
  rw [done_eq]; split
  · exact .inr ⟨t, rfl⟩
  · exact .inl rfl
theorem nextWhen_answers (c : Bool) (s t : State) : Answers s (nextWhen c s t) := by
  rw [nextWhen_eq]; split
  · exact .inr ⟨t, rfl⟩
  · exact .inl rfl
theorem doneAny_answers (s t : State) : Answers s (doneAny s t) := .inr ⟨t, rfl⟩
theorem nextAny_answers (c : Bool) (s t : State) : Answers s (nextAny c s t) := by
  rw [nextAny_eq]; split
  · exact .inr ⟨t, rfl⟩
  · exact .inl rfl

end Sys2Proof.Machine
end

