-- ==== Sys2Proof/WellFormed.lean ====
section
/-!
DEFINITION. Which commands are well formed: the operands that an event of the block's interfaces can carry. A host's write
carries any bytes and is judged by the access check of R325, so its bytes are not restricted here.
-/

namespace Sys2Proof

/-- A Dravlink node has an address of 1 to 64 (R335). -/
def Who.wellFormed : Who → Bool
  | .remote node _ => decide (1 ≤ node ∧ node ≤ 64)
  | .spi | .uart | .rules | .staged _ => true

/-- A reader addresses the tag by a UID of 8 bytes (Table 8-1). -/
def TagReq.wellFormed (r : TagReq) : Bool :=
  match r.mode with
  | .addressed uid => decide (uid.length = 8)
  | .all | .selected => true

/-- Start-up measures six figures of each of eight ports, eight probes and six sensors, and ten blocks settle or do not
(Table 18-5). -/
def StartMeasure.wellFormed (m : StartMeasure) : Bool :=
  decide (m.ports.length = 8) && m.ports.all (fun x => decide (x.length = 6)) && decide (m.settled.length = 10) &&
    decide (m.probe.length = 8) && decide (m.sensors.length = 6)

/-- The writer of an entry is one of the writers there are. -/
def OdVia.wellFormed : OdVia → Bool
  | .command _ _ => true
  | .entry who _ _ _ => who.wellFormed

/-- The operands are such as the command can carry: lists of the number of things that the spec names (256 angle sectors, 64
matrix elements, 8 ports, at most 72 powerline sub-carriers), packets of 1 to 4,096 bytes (R225), radio frames of at most 255
bytes and their CRC as coded (Tables 14-4, 14-5), nonces and MACs of the tag's commands (R173). -/
def Instr.wellFormed : Instr → Bool
  | .learnPassEnd levels => decide (levels.length = 256)
  | .surveySolve d c _ => decide (d.1.length = 64) && decide (d.2.length = 64) && decide (c.1.length = 64) && decide (c.2.length = 64)
  | .replyStart _ heard => decide (heard.2.length = 8)
  | .noReplyDecision x => decide (x.dens.length = 8)
  | .replyComplete _ r => decide (r.vector.length = 8)
  | .noiseMeasurement dens => decide (dens.length = 8)
  | .inventory r _ _ mask => r.wellFormed && decide (mask.length ≤ 64)
  | .authFinish r _ rndR macR => r.wellFormed && decide (rndR.length = 8) && decide (macR.length = 4)
  | .hardwarePush _ _ data _ => decide (1 ≤ data.length ∧ data.length ≤ 4096)
  | .radioRxFrame _ header payload _ _ _ _ _ _ _ => decide (header.length = 60) && decide (payload.length ≤ 4376)
  | .plRxFrame _ _ pilots _ _ _ signal _ => decide (pilots.length ≤ 4096) && decide (signal.length ≤ 72)
  | .plNoiseMeasurement levels => decide (levels.length ≤ 72)
  | .odWrite via => via.wellFormed
  | .startGate m => m.wellFormed
  | .angleRead who | .blankSlotWrite who _ _ _ | .faultCodeWrite who _ _ | .fieldCapWrite who _ _
  | .firSetWrite who _ _ | .firMapWrite who _ _ _ | .maskWrite who _ | .portTestModeWrite who _ _
  | .surveyCmd who _ | .teach who _ _ | .refVectorWrite who _ _ | .pairsWrite who _ _ | .hostExchange who _
  | .pollRequest who _ | .baseReset who _ _ | .frondConfigWrite who _ _ _ | .storeRead who | .storeWriteGroup who
  | .holdWrite who _ | .tableInsert who | .tableDelete who | .tableLookup who | .tableClearAll who
  | .tableWindowWrite who _ _ | .compareValueWrite who _ _ | .compareCtrlWrite who _ _ | .captureValueRead who _
  | .lcCountWrite who _ _ | .lcPrescaleWrite who _ _ _ | .radioTestModeWrite who _ | .notchWrite who _ _ _
  | .roleClaim who _ | .keyWrite who _ _ | .tidReset who _ _ | .annotate who _ | .audAckWrite who _ | .erase who
  | .verifyImage who | .activate who | .confirm who | .revert who | .fwChunkWrite who _ | .attestCmd who _
  | .testAccess who _ | .calRequest who _ | .softReset who _ | .restoreDefaults who _ | .sleepCmd who _
  | .routeWrite who _ _ | .lineModeWrite who _ _ | .gpOutWrite who _ _ | .gpDirWrite who _ _ => who.wellFormed
  | .stayQuiet r | .selectCard r | .resetToReady r | .readSingleBlock r _ | .extendedReadSingleBlock r _
  | .writeSingleBlock r _ _ _ | .extendedWriteSingleBlock r _ _ _ | .readMultipleBlocks r _ _
  | .extendedReadMultipleBlocks r _ _ | .writeMultipleBlocks r _ _ _ _ | .extendedWriteMultipleBlocks r _ _ _ _
  | .writeAfi r _ _ | .writeDsfid r _ _ | .getSystemInformation r | .extendedGetSystemInformation r
  | .getMultipleBlockSecurityStatus r _ _ | .extGetMultiBlockSecurityStatus r _ _ | .tagUnsupportedCommand r _
  | .getPwdNonce r _ | .presentPwd r _ _ | .authBegin r _ _ | .logout r _ | .getTagStatus r _
  | .stageApply r _ _ _ => r.wellFormed
  | .zeroCrossingEdge .. | .edgeWindowEnd | .acquireTimeout | .angleWrap | .blankingWindowEdge
  | .burgeeOccurrence .. | .maSyncPulse | .maSyncPulseEnd | .maStatRead | .chargingComplete ..
  | .rampUpComplete .. | .rampDownComplete .. | .componentTransitionEnd .. | .firTailEnd .. | .portFaultDetect ..
  | .portLoadCheck .. | .faultRecheck .. | .firCheckDone .. | .portTestTimeEnd .. | .surveyPeriodExpiry
  | .surveyStart | .teachTimeout .. | .laneAdmission | .admitWaitExpiry .. | .laneClosed .. | .liveNullRecompute
  | .cancellerAcquire .. | .acquisitionEnd .. | .suppressionLoss .. | .cancellerIdle .. | .rxOverload ..
  | .gainRestore .. | .falseStart .. | .resetGuardEnd .. | .commandStart ..
  | .verdictLate .. | .presenceCheck .. | .presenceTimeout .. | .holdRelease .. | .exchTimeout .. | .freePing ..
  | .frondOccurrenceSkip .. | .lanePing .. | .frondPingDecision .. | .disarmAbsorb .. | .tagFieldOn
  | .tagFieldLoss | .lichenLatchExpiry | .tagLockoutEnd | .rollForward .. | .stagedSetApply | .statusBlockWrite
  | .holdMaxExpiry | .port0Release | .verdictReady | .ruleTrigger | .sceneStep .. | .gpioPulseEnd ..
  | .sourceLoss .. | .sourcePresence .. | .preferredSourceReturn | .storeLevelCrossing .. | .shutdown
  | .voutFault .. | .voutRetry | .halyardTick | .halyardClaim .. | .halyardRelease .. | .thermalUpdate ..
  | .queuePushWord .. | .commitBunting .. | .abortBunting | .queuePopRead | .queDrop | .hardwarePop ..
  | .poolFreeMinRead | .tbWrap | .tbLoRead .. | .poweredSecond | .compareFire .. | .captureEdge ..
  | .lcOverflow .. | .radioTransitionComplete | .radioTxFrame | .radioTimedStart | .radioDeadline | .radioTxEnd
  | .radioPreambleDetect .. | .rxCapture .. | .sniffWake | .sniffListenEnd | .synthCalibration | .synthUnlock
  | .dutyBinAdvance | .radioTestTimeEnd | .radioNoiseMeasurement .. | .ldpcHoldExpiry .. | .plTxFrame
  | .plTimedStart | .plTxEnd | .tonemapIssue .. | .lineStateChange .. | .plCalibration | .spiFrame ..
  | .uartFrame .. | .odAddrWrite .. | .odDataAccess .. | .odRead .. | .odAbort .. | .fastRegisterWrite ..
  | .messageHandover | .dravlinkFrameReceive .. | .ackReceived .. | .ackWaitExpiry .. | .retryHandover ..
  | .transactionTimeout .. | .dravlinkOdRequest | .replyCacheExpiry .. | .resyncEnd | .wakeHoldEnd | .roleNonce ..
  | .claimLockoutEnd .. | .roleIdleExpiry .. | .fwCmdComplete .. | .fwTrialExpiry | .attestationComplete
  | .selfTestSlice .. | .eccCorrection .. | .sensorRead .. | .calibrationStart .. | .calibrationComplete ..
  | .coreStart | .startupSurvey | .readyForService | .rstN | .watchdogExpiry | .standbyEntry | .standbyWake ..
  | .sleepEntry | .sleepWake .. | .sleepLimit | .debugHaltEntry | .debugHaltExit | .eventClear ..
  | .eventEnableWrite .. | .irqPulseEnd .. | .gpInputEdge .. | .switchoverComplete | .voutCurrentLimit ..
  | .angleHalfCycle | .plPreambleDetect .. | .receiveWindowOpen .. | .calDeferralLimit .. => true

end Sys2Proof
end

