-- ==== Sys2Proof/Tests/Slice0.lean ====
section
/-!
SUPPORT. Tests of the model: ill-formed commands are refused, small single steps, and for every statement with hypotheses a
concrete state and operands that meet them.
-/

namespace Sys2Proof.Tests

open Sys2Proof Sys2Proof.Machine

set_option maxRecDepth 100000
set_option Elab.async false

/-- A module in service on mains, with every entry at its default. -/
def on : State := { State.reset with phase := .service, supply := { source := .mains, mains := true } }

/-- The module locked to the mains. -/
def locked : State := { on with ma := { on.ma with state := .locked, judged := false, acc := maCycle / 4 } }

/-- A tag in the field of a reader, with no core domain. -/
def tagged : State := { State.reset with tag := { State.reset.tag with state := .ready, field := true } }

/-- The tag at another level. -/
def taggedAt (l : TagLevel) : State := { tagged with tag := { tagged.tag with level := l } }

/-- Its manufacturer code, as every tag's. -/
theorem tagged_mfg : mfgCode.toNat = tagged.nat 0x2700_02 := by
  show mfgCode.toNat = ((mfgCode.toNat : Int)).toNat
  simp

/-- A request addressed to the tag's own UID. -/
def ownReq (s : State) : TagReq := { mode := .addressed s.uidAir, option := false, dual := false, high := true, good := true }

theorem ownReq_heard (s : State) (h : s.tagAnswers = true) (hf : s.tag.state ≠ .noField) : s.heardReq (ownReq s) = true := by
  simp [State.heardReq, State.tagHears, ownReq, h, hf]

/-- A module in service whose SPI session has the maker role. -/
def maker : State := { on with sessions := [{ role := .maker }, {}] }

/-- A port calibration of port 7 at its end, at -25 degrees. -/
def calState : State :=
  (({ on with now := 34713600000, ports := on.ports.set 7 { outage := true }, cal := { on.cal with run := some (7, 0) } } : State).setN
    0x3500_01 128).setI 0x3501_02 (-250)

/-- What is measured there is the factory's figure. -/
theorem calState_settles : offsetsHold (calState.newOffsets 7 [((Config.factoryCal 7 0).getD 0 0).toInt,
    ((Config.factoryCal 7 1).getD 0 0).toInt, ((Config.factoryCal 7 2).getD 0 0).toInt, ((Config.factoryCal 7 3).getD 0 0).toInt]) = true := by
  have h : calState.blockTemp 7 = -250 := by decide +kernel
  have g (l : List (BitVec 16)) : (Option.map BitVec.toInt l[0]?).getD 0 = ((l[0]?).getD 0).toInt := by
    cases l <;> simp
  simp [State.newOffsets, h, interpolate, factorySet, offsetsHold, g]

/-- The strongest soft decisions of bits. -/
def soft (bits : List Bool) : List (BitVec 4) := bits.map fun b => if b then 15 else 0

/-- A frame's header and payload as its transmitter sends them. -/
def headerSoft (m : RfMode) (psdu : List Byte) : List (BitVec 4) := soft (convSection (bitsMsb 24 (phyHeader m psdu.length)))
def payloadSoft (m : RfMode) (psdu : List Byte) : List (BitVec 4) := soft (payloadOnAir m psdu)

/-! ### Ill-formed commands are refused -/

theorem test_wf_node : (Instr.angleRead (.remote 65 .operator)).wellFormed = false := by decide
theorem test_wf_uid : (Instr.stayQuiet { mode := .addressed [0xE0], option := false, dual := false, high := true, good := true }).wellFormed = false := by
  decide
theorem test_wf_levels : (Instr.learnPassEnd [1, 2]).wellFormed = false := by decide
theorem test_wf_matrix : (Instr.surveySolve ([(0, 0)], []) ([], []) []).wellFormed = false := by decide
theorem test_wf_ports : (Instr.replyStart 0 (0, [])).wellFormed = false := by decide
theorem test_wf_vector : (Instr.replyComplete 0 { data := [], parity := true, coding := true, deviation := 0, halves := [], across := [], vector := [] }).wellFormed =
    false := by decide
theorem test_wf_dens : (Instr.noiseMeasurement [1]).wellFormed = false := by decide
theorem test_wf_mask : (Instr.inventory { mode := .all, option := false, dual := false, high := true, good := true } none true (List.replicate 65 true)).wellFormed =
    false := by decide
theorem test_wf_nonce : (Instr.authFinish { mode := .all, option := false, dual := false, high := true, good := true } 4 [1] [2]).wellFormed = false := by
  decide
theorem test_wf_packet : (Instr.hardwarePush 7 4 [] false).wellFormed = false := by decide
theorem test_wf_psdu : (Instr.radioRxFrame 0 (List.replicate 60 0) (List.replicate 4377 0) 0 0 0 0 0 0 true).wellFormed = false := by decide
theorem test_wf_signal : (Instr.plRxFrame 0 [] [] 0 0 0 (List.replicate 73 0) 0).wellFormed = false := by decide
theorem test_wf_noise : (Instr.plNoiseMeasurement (List.replicate 73 0)).wellFormed = false := by decide
theorem test_wf_start : (Instr.startGate { ports := [], settled := [], probe := [], paths := 0, aerials := 0, sensors := [], locksBad := false }).wellFormed =
    false := by decide
theorem test_wf_writer : (Instr.odWrite (.entry (.remote 0 .maker) 0x1010 1 [1])).wellFormed = false := by decide
theorem test_wf_good : (Instr.odWrite (.entry (.remote 64 .maker) 0x1010 1 [1])).wellFormed = true := by decide

/-! ### The worked examples of the spec, one function at a time -/

/-- Chapter 2: the dimmer rings in bins 0x54 to 0x56 of each half cycle. -/
theorem test_learn_dimmer :
    (learnRegions ((List.range 256).map fun i => if i % 128 = 0x54 ∨ i % 128 = 0x55 ∨ i % 128 = 0x56 then 40 else 3) 10 128).map
      (fun r => (r.span.start, r.span.len)) = [(0x5380, 0x400), (0xD380, 0x400)] := by decide +kernel

/-- Chapter 2: 4 Hz at 50 Hz is PERIOD 24. -/
theorem test_ping_period : pingPeriod 5000 4 = 24 := by decide

/-- Chapter 3: code 396 into 20 ohms asks for 690 mW. -/
theorem test_port_grant : grantFor (powerMw (396 * 396) 2000) = 690 := by decide +kernel

/-- Chapter 3: a grant of 690 mW limits the code to 397, the port's rating to 723. -/
theorem test_port_limit : limitCode ((690 - 40) * 100 / 108) 2000 = 397 ∧ limitCode 2000 2000 = 723 := by decide +kernel

/-- Chapter 6: CRC_A of SELECT 93 70 3A 95 C2 18 75. -/
theorem test_select_crc : checkBytes 0 [0x93, 0x70, 0x3A, 0x95, 0xC2, 0x18, 0x75] = [0x24, 0x01] := by decide

/-- Chapter 6: with 11 known bits the frame has NVB 0x33, 29 reply bits at most, and ends in a 1. -/
theorem test_anticollision_frame :
    (anticExch 1 ((bytesToBits [0x3A, 0x05]).take 11)).tx = [0x93, 0x33, 0x3A, 0x05] ∧
      (anticExch 1 ((bytesToBits [0x3A, 0x05]).take 11)).lastBit = true := by decide

/-- Table 6-9: REQA, anticollision frames, SELECT and HLTA take 9, 20, 32, 83 and 38 bits of 128 carrier cycles. -/
theorem test_frame_times :
    (Exch.cycles { tech := 0, tx := [0x26], bits := 7, crc := false } false = 9 * 128) ∧ ((anticExch 1 []).cycles false = 20 * 128) ∧
      ((anticExch 1 ((bytesToBits [0x3A, 0x05]).take 11)).cycles false = 32 * 128) ∧
      (Exch.cycles { tech := 0, tx := [0x93, 0x70, 0x3A, 0x95, 0xC2, 0x18, 0x75] } false = 83 * 128) ∧
      Exch.cycles { tech := 0, tx := [0x50, 0x00] } false = 38 * 128 := by decide

/-- Table 7-7: detunings of 2.00 + j1.20 and 0.36 + j0.19 stand at 31.0 and 27.8 degrees. -/
theorem test_detune_angles : deciDegrees ⟨200, 120⟩ = 310 ∧ deciDegrees ⟨36, 19⟩ = 278 := by decide +kernel

/-- Both angles are a card's (Table 7-5). -/
theorem test_detune_class : on.classOf 310 = 1 ∧ on.classOf 278 = 1 := by decide +kernel

/-- Chapter 9: the fields of the guest card's slot word. -/
theorem test_guest_entry :
    entryKeytype 0x045C218A3F6180000000_2100800C2C01 = 2 ∧ entryClass 0x045C218A3F6180000000_2100800C2C01 = 1 ∧
      entryKey 0x045C218A3F6180000000_2100800C2C01 = keyOf [0x04, 0x5C, 0x21, 0x8A, 0x3F, 0x61, 0x80, 0, 0, 0] := by decide

/-- Chapter 10: grants of 107 and 13 mW of coil loss, and E of 585 mJ at 36 V (584.892 before rounding). -/
theorem test_power_figures : grantFor 107 = 160 ∧ grantFor 13 = 60 ∧ storeE 36000 = 58489200000 := by decide +kernel

/-- Table 12-4: two sleeps of 1,000 slow ticks make up 827,636 and 827,637 ticks. -/
theorem test_make_up : (makeUp 1000 0).1 = 827636 ∧ (makeUp 1000 (makeUp 1000 0).2).1 = 827637 := by decide

/-- Table 12-4: three periods pass the value on each wake. -/
theorem test_compare_catches_up : periodsTo 827636 100000 271200 = 3 ∧ periodsTo 1827636 1184800 271200 = 3 := by decide

/-- Chapter 14: coded bits of frames A and C, and of A on LDPC. -/
theorem test_coded_bits : payloadBits 1 46 = 812 ∧ payloadBits 0 137 = 1128 ∧ payloadBits 2 46 = 976 := by decide

/-- Chapters 14 and 16: frames A and C, A on LDPC, a request of 24 bytes and an ACK of 6, in thirds of a nanosecond. -/
theorem test_air_times :
    let s := on.setN 0x3100_02 36
    s.airThirds ⟨1, 1⟩ 46 = 3 * 9400000 ∧ s.airThirds ⟨3, 0⟩ 137 = 3 * 4100000 ∧ s.airThirds ⟨1, 2⟩ 46 = 3 * 11040000 ∧
      s.airThirds ⟨1, 1⟩ 24 = 3 * 5880000 ∧ s.airThirds ⟨1, 1⟩ 6 = 3 * 3000000 := by decide +kernel

/-- Chapter 16: the radio acknowledgement is awaited for 3.70 ms. -/
theorem test_ack_wait : (let s := on.setN 0x3100_02 36; s.ackWait s.linkSet 1 false) = usQuanta 3700 := by decide +kernel

/-- Chapter 13: +14.0 dBm claims 780 mW. -/
theorem test_power_claim : powerClaim 28 = 780 := by decide

/-- The map set that node 1 issued in chapter 15, and node 12's blanking windows. -/
def exampleMap : PlMap :=
  let regions := [List.replicate 27 3, List.replicate 27 3, List.replicate 27 3, List.replicate 27 1,
    List.replicate 13 2 ++ List.replicate 14 1, List.replicate 27 3]
  let pack (l : List Nat) : List Byte := (List.range 14).map fun i => BitVec.ofNat 8 (l.getD (2 * i) 0 + 16 * l.getD (2 * i + 1) 0)
  { id := 3, set := regions.flatMap pack, offset := 18 }
def exampleLine : State := { on with ma := { on.ma with blank := [⟨0x5380, 1024⟩, ⟨0xD380, 1024⟩] ++ List.replicate 6 default } }

/-- Table 15-9: the bits of frame A's fifteen slots. -/
theorem test_powerline_slots :
    (exampleLine.plSlots (bandOf 1) exampleMap 46 0x5780).map (·.map (·.map sumN)) =
      some [none, some 40, some 81, some 81, some 81, some 81, some 81, some 81, some 27, none, none, some 40, some 81, some 81, some 81] := by
  decide +kernel

/-- Chapter 15: in robust mode the payload takes 31 loaded slots. -/
theorem test_powerline_robust :
    (exampleLine.plSlots (bandOf 1) {} 46 0x5780).map (fun l => (l.filter Option.isSome).length) = some 31 := by decide +kernel

/-- Chapter 15: A_SYM and the angle of preamble and header. -/
theorem test_powerline_angles : exampleLine.aSym (bandOf 1) = 3341 ∧ exampleLine.unitsOfTicks (bandOf 1).head = 31179 := by decide +kernel

/-- Chapter 17: bytes 0 to 27 of audit record 499. -/
theorem test_audit_record :
    ((((on.setN 0x1900_01 499).setN 0x2A01_01 1234567).setN 0x2A01_02 41).auditBytes
        { role := 1, source := 2, node := 1, kind := 0, ref := auditRef 0x2353_09 1, value := auditValue 0x2353_09 [0x50] }).take 28 =
      [0xF3, 0x01, 0x00, 0x00, 0x87, 0xD6, 0x12, 0x00, 0x29, 0x00, 0x00, 0x00, 0x01, 0x02, 0x01, 0x00, 0x53, 0x23, 0x09, 0x01,
        0x50, 0, 0, 0, 0, 0, 0, 0] := by decide +kernel

/-! ### Single steps -/

/-- A field of a next state. -/
def after (c : Instr) (s : State) (f : State → α) : Option α :=
  match step { s with pending := [c] } with
  | .next t => some (f t)
  | _ => none

/-- An unpowered module does not answer its host (R397). -/
theorem test_step_off : after (.spiFrame [0x80, 0, 0, 0, 0] 0) State.reset (fun t => t.out) = some State.reset.out := by decide +kernel

/-- Step 5 of Table 11-5: a commit to a full queue sets OVERFLOW and raises event 55. -/
theorem test_step_queue_full :
    let s := { on with pool := { on.pool with queues := on.pool.queues.modify 7 fun q => { q with items := List.replicate 32 default } } }
    after (.hardwarePush 7 3 [1] false) s (fun t => (t.isPending 55, ((t.pool.queues.getD 7 {}).items.length))) = some (true, 32) := by
  decide +kernel

/-- A write of 1 clears a pending event, and no other (R414). -/
theorem test_step_event_clear :
    after (.eventClear 0 0x2) { (on.raise 1).raise 2 with now := 1280 } (fun t => (t.isPending 1, t.isPending 2)) = some (false, true) := by decide +kernel

/-- An operator may not write FIELD_CAP (R325). -/
theorem test_step_cap_denied :
    after (.fieldCapWrite .spi 0 500) on (fun t => (t.status, t.nat 0x2201_01)) = some (.writeDenied, on.nat 0x2201_01) := by
  decide +kernel

/-- The maker may. -/
theorem test_step_cap_written :
    after (.fieldCapWrite .spi 0 500) maker (fun t => (t.status, t.nat 0x2201_01)) = some (.ok, 500) := by decide +kernel

/-- The 8 bytes of GET_TAG_STATUS follow the flags byte (Table 8-7). -/
theorem test_step_tag_status_length : tagged.tagStatus.length = 8 := by decide +kernel

/-! ### Witnesses: what the hypotheses of each statement meet together -/

theorem witness_StepKeepsInvariant : ∃ s : State, s.Inv ∧ ∃ t, step s = .next t :=
  ⟨State.reset, by decide +kernel, _, rfl⟩

theorem witness_CommandsLeaveTheQueue : ∃ (c : Instr) (s t : State), exec c s = .next t :=
  ⟨.maStatRead, on, _, rfl⟩

theorem witness_UnpoweredModuleIgnoresCommands : ∃ (c : Instr) (s : State), s.phase = .off ∧ needsNoCore c = false :=
  ⟨.edgeWindowEnd, State.reset, by decide⟩

theorem witness_TimePassesWhileIdle :
    (∃ s : State, s.Inv ∧ s.pending = [] ∧ s.phase = .off) ∧
    (∃ s : State, s.Inv ∧ s.pending = [] ∧ s.phase ≠ .off ∧ s.power = .sleep) ∧
    (∃ s : State, s.Inv ∧ s.pending = [] ∧ s.phase ≠ .off ∧ s.power ≠ .sleep ∧ (s.tb.ph + 1) % 20 % 10 = 0 ∧ s.frozen = false ∧
      s.tb.tb ≠ BitVec.allOnes 48) ∧
    ∃ s : State, s.Inv ∧ s.pending = [] ∧ s.phase ≠ .off ∧ s.power ≠ .sleep ∧ s.frozen = true :=
  ⟨⟨State.reset, by decide +kernel⟩, ⟨{ on with power := .sleep }, by decide +kernel⟩,
   ⟨{ on with tb := { on.tb with ph := 9 } }, by decide +kernel⟩,
   ⟨({ on with halted := true } : State).setB 0x2A01_04 true, by decide +kernel⟩⟩

theorem witness_MainsCrossing :
    (∃ (s : State), s.coreOn = true ∧ s.ma.state = .freeRun ∧ s.ma.everZc = false ∧ s.ma.lastZc = none) ∧
    (∃ (s : State) (t0 : Nat), s.Inv ∧ s.coreOn = true ∧ s.ma.lastZc = some t0 ∧ (s.now - s.crossingDelay - t0) * 2000 < 15 * quantaSecond ∧ s.nat 0x2101_04 + 1 < 2 ^ 32) ∧
    (∃ (s : State), s.Inv ∧ s.coreOn = true) ∧
    (∃ (s : State), s.coreOn = true ∧ s.windowMissed = true ∧ s.ma.state = .locked ∧ s.nat 0x2101_05 + 1 < 2 ^ 32) ∧
    (∃ (s : State), s.coreOn = true ∧ s.windowMissed = true ∧ s.ma.state = .holdover ∧ 7 ≤ s.ma.missed) ∧
    (∃ (s : State), s.coreOn = true ∧ s.acquireTimedOut = true) :=
  ⟨⟨on, by decide +kernel⟩,
   ⟨({ on with ma := { on.ma with lastZc := some 0 } }), 0, by refine ⟨by decide +kernel, by decide +kernel, rfl, ?_, by decide +kernel⟩; simp [on, State.reset, quantaSecond]⟩,
   ⟨on, by decide +kernel⟩,
   ⟨locked, by decide +kernel⟩,
   ⟨({ locked with ma := { locked.ma with state := .holdover, missed := 7 } }), by decide +kernel⟩,
   ⟨({ on with now := 160 * quantaTick * 27120, ma := { on.ma with state := .acquire } }), by decide +kernel⟩⟩

theorem witness_MainsAngleRuns :
    (∃ (s : State), s.coreOn = true ∧ maCycle ≤ s.accNext) ∧
    (∃ (s : State), s.coreOn = true ∧ s.ma.acc * 2 < maCycle ∧ maCycle ≤ s.accNext * 2 ∧ s.accNext < maCycle ∧ s.nat 0x2160_01 = 3) ∧
    (∃ (s : State), s.coreOn = true ∧ s.nat 0x2160_01 = 4) ∧
    (∃ (s : State), s.coreOn = true ∧ s.syncDue = true) ∧
    (∃ (s : State), s.coreOn = true ∧ s.syncOver = true) ∧
    (∃ (s : State) (levels : List Byte), s.coreOn = true ∧ s.learnDue = true) ∧
    (∃ (s : State) (w : Fin 32) (half : Bool), s.Inv ∧ s.coreOn = true ∧ s.occurrenceNow w half = true ∧ (s.ma.burgee.getD w {}).skip = 0 ∧ s.meetsBlank { start := ((s.burgeeStart w).1 + if half then 0x8000 else 0) % 65536, len := (s.burgeeSpec w).len } = false ∧ s.heldByExclusive w (s.burgeeSpec w) { start := ((s.burgeeStart w).1 + if half then 0x8000 else 0) % 65536, len := (s.burgeeSpec w).len } = false ∧ (s.burgeeSpec w).owner = 4 ∧ (s.burgeeSpec w).notes = true) :=
  ⟨⟨({ on with ma := { on.ma with acc := maCycle - 1 } }), by decide +kernel⟩,
   ⟨(({ on with ma := { on.ma with acc := maCycle / 2 - 1 } } : State).setN 0x2160_01 3), by decide +kernel⟩,
   ⟨(on.setN 0x2160_01 4), by decide +kernel⟩,
   ⟨(on.setN 0x2160_01 1), by decide +kernel⟩,
   ⟨(({ on with now := 34713600000, ma := { on.ma with sync := true, syncPulse := some 0 } } : State).setN 0x2160_01 1), by decide +kernel⟩,
   ⟨({ locked with ma := { locked.ma with learned := 64 } }), (List.replicate 256 0), by decide +kernel⟩,
   ⟨(((on.setN 0x2150_03 4).setN 0x2150_04 17).setN 0x2150_02 100), 16, false, by decide +kernel⟩⟩

theorem witness_PortRamps :
    (∃ (s : State) (p : Fin 8), s.Inv ∧ s.coreOn = true ∧ (s.port p).state = .charging ∧ 20 ≤ s.bias p) ∧
    (∃ (s : State) (p : Fin 8), s.Inv ∧ s.coreOn = true ∧ (s.port p).state = .charging ∧ 20 ≤ s.bias p) ∧
    (∃ (s : State) (p : Fin 8) (loadR loadX : BitVec 16), s.Inv ∧ s.coreOn = true ∧ (s.port p).state = .rampUp ∧ s.rampPos p = 65536 ∧ s.portNeeds p ≤ s.held (.port p) ∧ loadR.toNat ≤ 15000) ∧
    (∃ (s : State) (p : Fin 8), s.Inv ∧ s.coreOn = true ∧ (s.port p).state = .rampDown ∧ s.rampPos p = 0 ∧ (s.port p).faultNext = none ∧ s.reachedLower p = false) ∧
    (∃ (s : State) (p : Fin 8) (lane : Fin 6) (c : Component), s.Inv ∧ s.coreOn = true ∧ (s.port p).state = .carrier ∧ (s.port p).comps = [c] ∧ c.lane = lane.val ∧ c.doing = .rampIn ∧ c.out = none ∧ s.componentDone p c = true) ∧
    (∃ (s : State) (p : Fin 8) (lane : Fin 4) (e m : Nat), s.Inv ∧ s.coreOn = true ∧ (s.port p).state = .modulating ∧ (s.port p).frames = [(lane.val, e, m)] ∧ e + 64 * quantaCarrier ≤ s.now ∧ s.flag 0x2280_04 = false ∧ (s.port p).cutAtEnd = none ∧ ((s.port p).comps.all fun c => decide (c.doing = .steady) && c.left.isNone) = true ∧ (s.port p).inUse = true) :=
  ⟨⟨({ { on with ports := on.ports.set 0 { state := .charging } } with now := 2000000000 }), 0, by decide +kernel⟩,
   ⟨({ { on with ports := on.ports.set 0 { state := .charging } } with now := 2000000000 }), 0, by decide +kernel⟩,
   ⟨({ { on with ports := on.ports.set 0 { state := .rampUp } } with now := 2000000000 }), 0, 5000, 0, by decide +kernel⟩,
   ⟨({ on with ports := on.ports.set 0 { state := .rampDown } }), 0, by decide +kernel⟩,
   ⟨({ { on with ports := on.ports.set 0 { state := .carrier, comps := [{ lane := 5, amp := 100, phase := 0, doing := .rampIn }] } } with now := 2000000000 }), 0, 5, ({ lane := 5, amp := 100, phase := 0, doing := .rampIn }), by decide +kernel⟩,
   ⟨(({ { on with ports := on.ports.set 0 { state := .modulating, comps := [{ lane := 0, amp := 100, phase := 0 }], frames := [(0, 0, 1)] } } with now := 2000000000 } : State).setB 0x2280_04 false), 0, 0, 0, 1, by decide +kernel⟩⟩

theorem witness_PortFaultsAndChecks :
    (∃ (s : State) (p : Fin 8), s.Inv ∧ s.coreOn = true ∧ (s.port p).state ≠ .fault) ∧
    (∃ (s : State) (p : Fin 8) (loadR loadX power temp : BitVec 16), s.Inv ∧ s.coreOn = true ∧ (s.port p).state.on = true ∧ s.passedMs (s.port p).checkT0 1 = true ∧ loadR.toNat ≤ 15000) ∧
    (∃ (s : State) (p : Fin 8) (temp : BitVec 16), s.Inv ∧ s.coreOn = true ∧ s.recheckDue p = true ∧ (s.port p).series = none) ∧
    (∃ (s : State) (p : Fin 8) (t0 : Nat) (temp : BitVec 16), s.Inv ∧ s.coreOn = true ∧ s.recheckDue p = true ∧ (s.port p).series = some (t0, 2) ∧ s.nat (portKey p 2 2) ≠ 3) ∧
    (∃ (s : State) (p : Fin 8), s.coreOn = true ∧ s.nat (portKey p 5 1) ≠ 0 ∧ s.passedS (s.port p).testT0 (s.nat (portKey p 5 3)) = true) ∧
    (∃ (s : State) (set : Fin 16) (c : FirCheck) (coef : List Byte), s.coreOn = true ∧ s.fir = [c] ∧ c.set = set.val ∧ c.coef = some coef ∧ c.map = none) :=
  ⟨⟨({ on with ports := on.ports.set 0 { state := .off } }), 7, by decide +kernel⟩,
   ⟨({ { on with ports := on.ports.set 0 { state := .carrier } } with now := 2000000000 }), 0, 5000, 0, 10, 300, by decide +kernel⟩,
   ⟨({ { on with ports := on.ports.set 0 { state := .fault } } with now := 347136000000000 }), 0, 300, by decide +kernel⟩,
   ⟨({ { on with ports := on.ports.set 0 { state := .fault, series := some (0, 2) } } with now := 347136000000000 }), 0, 0, 300, by decide +kernel⟩,
   ⟨(({ on with now := 347136000000000000 } : State).setN (portKey 0 5 1) 1), 0, by decide +kernel⟩,
   ⟨({ on with fir := [{ set := 8, t0 := 0, coef := some [] }] }), 8, ({ set := 8, t0 := 0, coef := some [] }), [], by decide +kernel⟩⟩

theorem witness_SurveyRuns :
    (∃ (s : State), s.coreOn = true ∧ s.nat 0x2340_02 ≠ 0 ∧ s.passedS s.survey.periodT0 (s.nat 0x2340_02) = true ∧ s.survey.phase = .idle) ∧
    (∃ (s : State), s.coreOn = true ∧ s.phase = .service ∧ s.surveyMayStart = true) ∧
    (∃ (s : State) (drive coil : List (Int × Int) × List (Int × Int)) (sensed : List Sensed) (y z yd : List (Int × Int)), s.coreOn = true ∧ s.surveyDriven = true ∧ (⟨drive.1, drive.2, coil.1, coil.2⟩ : Measured).solve s.surveyPorts = some (y, z, yd) ∧ reciprocal (among s.surveyPorts z) = false ∧ s.nat 0x2340_07 + 1 < 2 ^ 32) ∧
    (∃ (s : State) (drive coil : List (Int × Int) × List (Int × Int)) (sensed : List Sensed), s.coreOn = true ∧ s.surveyDriven = true ∧ (⟨drive.1, drive.2, coil.1, coil.2⟩ : Measured).solve s.surveyPorts = none ∧ s.nat 0x2340_07 + 1 < 2 ^ 32) ∧
    (∃ (s : State) (drive coil : List (Int × Int) × List (Int × Int)) (sensed : List Sensed) (y z yd : List (Int × Int)), s.coreOn = true ∧ s.surveyDriven = true ∧ (⟨drive.1, drive.2, coil.1, coil.2⟩ : Measured).solve s.surveyPorts = some (y, z, yd) ∧ reciprocal (among s.surveyPorts z) = true) ∧
    (∃ (s : State) (z : Fin 16), s.Inv ∧ s.coreOn = true ∧ s.nat (zoneKey z 6) = 1 ∧ s.passedS (s.teach.getD z {}).t0 60 = true) :=
  ⟨⟨(({ on with now := 347136000000000 } : State).setN 0x2340_02 60), by decide +kernel⟩,
   ⟨({ on with survey := { on.survey with phase := .requested } }), by decide +kernel⟩,
   ⟨({ on with now := 347136000000, survey := { on.survey with phase := .solving, rows := true, fell := some [0, 1] } }), ((((List.range 64).map fun n => if n = 0 ∨ n = 9 then (1, 0) else (0, 0)), ((List.range 64).map fun n => if n = 0 ∨ n = 9 then (1, 0) else (0, 0)))), ((((List.range 64).map fun n => if n = 0 ∨ n = 1 ∨ n = 9 then (1, 0) else (0, 0)), ((List.range 64).map fun n => if n = 0 ∨ n = 9 then (1, 0) else (0, 0)))), [], (((List.range 64).map fun n => if n = 0 ∨ n = 9 then (100, 0) else (0, 0))), (((List.range 64).map fun n => if n = 0 ∨ n = 8 ∨ n = 9 then (1000000000, 0) else (0, 0))), (((List.range 64).map fun n => if n = 0 ∨ n = 9 then (1000000, 0) else (0, 0))), by decide +kernel⟩,
   ⟨({ on with now := 347136000000, survey := { on.survey with phase := .solving, rows := true, fell := some [0, 1] } }), (([], [])), (([], [])), [], by decide +kernel⟩,
   ⟨({ on with now := 347136000000, survey := { on.survey with phase := .solving, rows := true, fell := some [0, 1] } }), ((((List.range 64).map fun n => if n = 0 ∨ n = 9 then (1, 0) else (0, 0)), ((List.range 64).map fun n => if n = 0 ∨ n = 9 then (1, 0) else (0, 0)))), ((((List.range 64).map fun n => if n = 0 ∨ n = 9 then (1, 0) else (0, 0)), ((List.range 64).map fun n => if n = 0 ∨ n = 9 then (1, 0) else (0, 0)))), [], (((List.range 64).map fun n => if n = 0 ∨ n = 9 then (100, 0) else (0, 0))), (((List.range 64).map fun n => if n = 0 ∨ n = 9 then (1000000000, 0) else (0, 0))), (((List.range 64).map fun n => if n = 0 ∨ n = 9 then (1000000, 0) else (0, 0))), by decide +kernel⟩,
   ⟨(({ on with now := 3471360000000 } : State).setN (zoneKey 15 6) 1), 15, by decide +kernel⟩⟩

theorem witness_LanesOpenAndClose :
    (∃ (s : State) (r : LaneRequest) (l : Fin 4) (n : Nat), s.Inv ∧ s.coreOn = true ∧ s.requests = [r] ∧ r.t0 < s.now * 10 / 347136 ∧ s.survey.phase ≠ .driving ∧ s.freeLane r.lane = some l.val ∧ s.openLanes.length < s.nat 0x2370_01 ∧ s.nat (zoneKey r.zone 7) ≠ 2 ∧ ({ s with requests := [] } : State).withoutSurvey.choose l r.zone = some (n, none) ∧ ({ s with requests := [] } : State).withoutSurvey.powerFits (s.penDrive n) none = true) ∧
    (∃ (s : State) (l : Fin 4), s.Inv ∧ s.coreOn = true ∧ (s.lane l).state = .opening ∧ s.passedMs (s.lane l).t0 (s.nat 0x2370_05) = true ∧ ((List.range 8).any fun p => (s.port p).state = .off && (s.port p).comps.any fun c => c.lane = l.val) = true) ∧
    (∃ (s : State) (l : Fin 4), s.Inv ∧ s.coreOn = true ∧ s.laneGone l = true) ∧
    (∃ (s : State) (l : Fin 4), s.Inv ∧ s.coreOn = true ∧ s.liveDue = true ∧ (s.lane l).state = .concurrent) :=
  ⟨⟨(({ on with now := 34714, requests := [{ zone := 3, lane := none, t0 := 0 }], pennants := on.pennants.set 0 { state := .valid } } : State).setN (penKey 0 2) 3), ({ zone := 3, lane := none, t0 := 0 }), 0, 0, by decide +kernel⟩,
   ⟨({ on with now := 347136000000, lanes := on.lanes.set 3 { state := .opening, zone := 1 }, ports := on.ports.set 0 { comps := [{ lane := 3, amp := 256, phase := 0 }] } }), 3, by decide +kernel⟩,
   ⟨({ on with lanes := on.lanes.set 3 { state := .closing, zone := 1 } }), 3, by decide +kernel⟩,
   ⟨(({ on with now := 347136000000, lanes := on.lanes.set 1 { state := .concurrent, zone := 1 } } : State).setB 0x2370_04 true), 1, by decide +kernel⟩⟩

theorem witness_ReceivePathFollowsCarrier :
    (∃ (s : State) (p : Fin 8) (predicted measured : BitVec 16), s.Inv ∧ s.coreOn = true ∧ (s.rxp p).cancel = .off ∧ s.rxBarred p = false ∧ 10 ≤ predicted.toNat) ∧
    (∃ (s : State) (p : Fin 8) (suppression predicted : BitVec 16), s.Inv ∧ s.coreOn = true ∧ (s.rxp p).cancel = .acquire ∧ 600 ≤ suppression.toNat ∧ s.windowOpen = false ∧ s.survey.phase ≠ .driving) ∧
    (∃ (s : State) (p : Fin 8) (suppression predicted : BitVec 16), s.Inv ∧ s.coreOn = true ∧ (s.rxp p).cancel = .acquire ∧ suppression.toNat < 600 ∧ s.passedUs (s.rxp p).t0 12 = true ∧ (s.rxp p).failed < 2) ∧
    (∃ (s : State) (p : Fin 8) (suppression predicted : BitVec 16), s.Inv ∧ s.coreOn = true ∧ (s.rxp p).cancel = .track ∧ suppression.toNat < 450) ∧
    (∃ (s : State) (p : Fin 8) (predicted measured : BitVec 16), s.Inv ∧ s.coreOn = true ∧ (s.rxp p).cancel = .track ∧ predicted.toNat < 5 ∧ measured.toNat < 5) ∧
    (∃ (s : State) (p : Fin 8), s.Inv ∧ s.coreOn = true ∧ (s.rxp p).cancel = .track ∧ s.rxBarred p = false ∧ s.nat (rxKey p 10) + 1 < 2 ^ 32) ∧
    (∃ (s : State) (p : Fin 8), s.Inv ∧ s.coreOn = true ∧ (s.rxp p).cancel = .track ∧ (s.rxp p).allowed < (s.rxp p).gain ∧ (s.rxp p).stepUp = false ∧ s.passedMs (s.rxp p).overT0 ((s.rxp p).cfg.getD 2 100) = true) :=
  ⟨⟨on, 7, 10, 0, by decide +kernel⟩,
   ⟨({ on with rx := on.rx.set 0 { cancel := .acquire, failed := 2 } }), 0, 600, 10, by decide +kernel⟩,
   ⟨({ on with now := 3471360, rx := on.rx.set 0 { cancel := .acquire, failed := 1 } }), 0, 599, 10, by decide +kernel⟩,
   ⟨({ on with rx := on.rx.set 0 { cancel := .track } }), 0, 449, 10, by decide +kernel⟩,
   ⟨({ on with rx := on.rx.set 0 { cancel := .track } }), 0, 4, 4, by decide +kernel⟩,
   ⟨({ on with rx := on.rx.set 0 { cancel := .track } }), 0, by decide +kernel⟩,
   ⟨({ on with now := 347136000000, rx := on.rx.set 0 { cancel := .track, gain := 1 } }), 0, by decide +kernel⟩⟩

theorem witness_ExchangesRun :
    (∃ (s : State) (l : Fin 4) (t0 : Nat), s.Inv ∧ s.coreOn = true ∧ (s.lane l).running = true ∧ (s.seq l).guardDone = false ∧ (s.seq l).job = .none ∧ (s.seq l).carrierT0 = some t0 ∧ s.passedUs t0 (s.nat 0x2500_03) = true ∧ s.nat 0x2500_02 % 16 = 0 ∧ (s.zoneTech (s.lane l).zone).testBit 0 = true) ∧
    (∃ (s : State) (l : Fin 4), s.Inv ∧ s.coreOn = true ∧ s.cmdReady l = true ∧ (s.seq l).deferT = none ∧ s.mustWait l = false ∧ s.deferral l = 0) ∧
    (∃ (s : State) (l : Fin 4), s.Inv ∧ s.coreOn = true ∧ (s.seq l).stage = .sending ∧ (s.seq l).endT + ((s.seq l).exch.window (s.vMode l 3)).1 * quantaCarrier ≤ s.now) ∧
    (∃ (s : State) (l : Fin 4) (heard : BitVec 16 × List (BitVec 16)), s.Inv ∧ s.coreOn = true ∧ (s.seq l).stage = .listening ∧ s.rxCfg l 3 < heard.1.toNat) ∧
    (∃ (s : State) (l : Fin 4), s.Inv ∧ s.coreOn = true ∧ (s.seq l).stage = .reply ∧ (s.seq l).replyT + 2 * (s.seq l).exch.bitCycles (s.vMode l 3) * quantaCarrier ≤ s.now ∧ s.nat 0x2411_03 + 1 < 2 ^ 32) ∧
    (∃ (s : State) (l : Fin 4) (r : Reply), s.Inv ∧ s.coreOn = true ∧ (s.seq l).stage = .reply ∧ (s.seq l).job = .poll ∧ (s.seq l).step = .aPoll ∧ (s.seq l).leave = false ∧ (s.seq l).hostJob = none ∧ (s.seq l).pollJob = false ∧ (s.judge l r).2.1 = .ok) ∧
    (∃ (s : State) (l : Fin 4) (dens : List (BitVec 16)) (sensed : List Sensed) (rest : List Nat), s.Inv ∧ s.coreOn = true ∧ (s.seq l).stage = .listening ∧ (s.seq l).endT + ((s.seq l).exch.window (s.vMode l 3)).2.2 * quantaCarrier ≤ s.now ∧ (s.seq l).job = .poll ∧ (s.seq l).step = .aPoll ∧ (s.seq l).leave = false ∧ (s.seq l).hostJob = none ∧ (s.seq l).pollJob = false ∧ (s.seq l).order = 1 :: rest) :=
  ⟨⟨({ on with now := 347136000000, lanes := on.lanes.set 0 { state := .concurrent, zone := 0, pennant := 0 }, ports := on.ports.set 0 { state := .carrier, comps := [{ lane := 0, amp := 256, phase := 0 }] }, seqs := on.seqs.set 0 { carrierT0 := some 0 } }), 0, 0, by decide +kernel⟩,
   ⟨({ on with now := 347136000000, lanes := on.lanes.set 0 { state := .concurrent, zone := 0, pennant := 0 }, ports := on.ports.set 0 { state := .carrier, comps := [{ lane := 0, amp := 256, phase := 0 }] }, seqs := on.seqs.set 0 { job := .poll, step := .aPoll, stage := .ready, guardDone := true } }), 0, by decide +kernel⟩,
   ⟨({ on with now := 347136000000, lanes := on.lanes.set 0 { state := .concurrent, zone := 0, pennant := 0 }, ports := on.ports.set 0 { state := .carrier, comps := [{ lane := 0, amp := 256, phase := 0 }] }, seqs := on.seqs.set 0 { stage := .sending } }), 0, by decide +kernel⟩,
   ⟨({ on with now := 347136000000, lanes := on.lanes.set 0 { state := .concurrent, zone := 0, pennant := 0 }, ports := on.ports.set 0 { state := .carrier, comps := [{ lane := 0, amp := 256, phase := 0 }] }, seqs := on.seqs.set 0 { stage := .listening } }), 0, ((1000, [])), by decide +kernel⟩,
   ⟨({ on with now := 347136000000, lanes := on.lanes.set 0 { state := .concurrent, zone := 0, pennant := 0 }, ports := on.ports.set 0 { state := .carrier, comps := [{ lane := 0, amp := 256, phase := 0 }] }, seqs := on.seqs.set 0 { stage := .reply } }), 0, by decide +kernel⟩,
   ⟨({ on with now := 347136000000, lanes := on.lanes.set 0 { state := .concurrent, zone := 0, pennant := 0 }, ports := on.ports.set 0 { state := .carrier, comps := [{ lane := 0, amp := 256, phase := 0 }] }, seqs := on.seqs.set 0 { job := .poll, step := .aPoll, stage := .reply, exch := { crc := false } } }), 0, ({ data := [4, 0], parity := true, coding := true, deviation := 0, halves := [], across := [], vector := [(1000, 0)] }), by decide +kernel⟩,
   ⟨({ on with now := 347136000000, lanes := on.lanes.set 0 { state := .concurrent, zone := 0, pennant := 0 }, ports := on.ports.set 0 { state := .carrier, comps := [{ lane := 0, amp := 256, phase := 0 }] }, seqs := on.seqs.set 0 { job := .poll, step := .aPoll, stage := .listening, order := [1, 2] } }), 0, [], [], [2], by decide +kernel⟩⟩

theorem witness_CardsAndHosts :
    (∃ (s : State) (l : Fin 4) (stamp : Nat) (rest : List Nat), s.Inv ∧ s.coreOn = true ∧ (s.seq l).waits = stamp :: rest ∧ s.hfSet l 23 * 2712 ≤ (s.tb64 - stamp) * 100 ∧ s.nat 0x2560_0A + 1 < 2 ^ 32) ∧
    (∃ (s : State) (l : Fin 4) (c : Card), s.Inv ∧ s.coreOn = true ∧ s.dueCard l = some c ∧ (s.lane l).running = true ∧ (s.seq l).job = .none) ∧
    (∃ (s : State) (l : Fin 4) (c : Card), s.Inv ∧ s.coreOn = true ∧ (s.lane l).running = true ∧ (s.seq l).stage = .idle ∧ (s.seq l).cards = [c] ∧ s.passedMs c.okT0 (s.nat 0x2501_02) = true) ∧
    (∃ (s : State) (h : Fin 64), s.Inv ∧ s.coreOn = true ∧ (s.holds.getD h {}).state = 2 ∧ s.nat 0x2501_03 * 27120 ≤ s.tb64 - (s.holds.getD h {}).last) ∧
    (∃ (s : State) (l : Fin 4) (sensed : List Sensed) (mode t0 : Nat), s.Inv ∧ s.coreOn = true ∧ (s.seq l).hostJob = some (mode, t0) ∧ s.passedMs t0 (s.nat (hfKey l 6)) = true ∧ (s.seq l).job ≠ .host) ∧
    (∃ (s : State) (dens : List (BitVec 16)) (p : Fin 8), s.Inv ∧ s.coreOn = true ∧ s.passedMs s.noiseT0 (s.nat 0x2410_07) = true ∧ s.noCarrier = true ∧ s.pinging = false ∧ (s.assigned && s.tagBusy) = false) :=
  ⟨⟨({ ({ on with now := 347136000000, lanes := on.lanes.set 0 { state := .concurrent, zone := 0, pennant := 0 }, ports := on.ports.set 0 { state := .carrier, comps := [{ lane := 0, amp := 256, phase := 0 }] }, seqs := on.seqs.set 0 { waits := [5] } } : State) with tb := { on.tb with tb := 2000000 } }), 0, 5, [], by decide +kernel⟩,
   ⟨({ on with now := 347136000000, lanes := on.lanes.set 0 { state := .concurrent, zone := 0, pennant := 0 }, ports := on.ports.set 0 { state := .carrier, comps := [{ lane := 0, amp := 256, phase := 0 }] }, seqs := on.seqs.set 0 { cards := [{ ident := [4] }] } }), 0, ({ ident := [4] }), by decide +kernel⟩,
   ⟨({ on with now := 347136000000, lanes := on.lanes.set 0 { state := .concurrent, zone := 0, pennant := 0 }, ports := on.ports.set 0 { state := .carrier, comps := [{ lane := 0, amp := 256, phase := 0 }] }, seqs := on.seqs.set 0 { cards := [{ ident := [4] }] } }), 0, ({ ident := [4] }), by decide +kernel⟩,
   ⟨({ on with tb := { on.tb with tb := 4000000000000 }, holds := on.holds.set 63 { ident := [1], state := 2 } }), 63, by decide +kernel⟩,
   ⟨({ ({ on with now := 347136000000, lanes := on.lanes.set 0 { state := .concurrent, zone := 0, pennant := 0 }, ports := on.ports.set 0 { state := .carrier, comps := [{ lane := 0, amp := 256, phase := 0 }] }, seqs := on.seqs.set 0 { hostJob := some (1, 0) } } : State) with now := 3471360000000 }), 0, [], 1, 0, by decide +kernel⟩,
   ⟨({ on with now := 3471360000000 }), (List.replicate 8 100), 7, by decide +kernel⟩⟩

theorem witness_FrondPings :
    (∃ (s : State) (p : Fin 8) (extMv : BitVec 8), s.Inv ∧ s.coreOn = true ∧ s.freePingReady p = true ∧ s.lowerPing p = false) ∧
    (∃ (s : State) (p : Fin 8), s.Inv ∧ s.coreOn = true ∧ s.skipDue p = true ∧ s.lanePingDue p = false ∧ s.nat (frondKey p 14) + 1 < 2 ^ 32) ∧
    (∃ (s : State) (p : Fin 8), s.Inv ∧ s.coreOn = true ∧ s.skipDue p = true ∧ s.lanePingDue p = true) ∧
    (∃ (s : State) (p : Fin 8), s.Inv ∧ s.coreOn = true ∧ s.lanePingReady p = true ∧ s.lowerPing p = false) ∧
    (∃ (s : State) (p : Fin 8) (z : BitVec 32 × BitVec 32) (sensed : List Sensed) (ping : Ping), s.Inv ∧ s.coreOn = true ∧ (s.frond p).ping = some ping ∧ 52 * 347136 ≤ (s.now - ping.t0) * 100 ∧ s.quietSince ping.t0 = true ∧ ping.ext = false ∧ s.nat (frondKey p 13) + 1 < 2 ^ 32) ∧
    (∃ (s : State) (p : Fin 8) (z : BitVec 32 × BitVec 32) (sensed : List Sensed) (ping : Ping), s.Inv ∧ s.coreOn = true ∧ (s.frond p).ping = some ping ∧ 52 * 347136 ≤ (s.now - ping.t0) * 100 ∧ s.quietSince ping.t0 = true ∧ ping.inLane = false ∧ ping.track = false ∧ ping.ext = false ∧ (s.frond p).state = .learn ∧ (s.frond p).learned + 1 < s.nat 0x2600_0E) ∧
    (∃ (s : State) (p : Fin 8) (z : BitVec 32 × BitVec 32) (sensed : List Sensed) (ping : Ping), s.Inv ∧ s.coreOn = true ∧ (s.frond p).ping = some ping ∧ 52 * 347136 ≤ (s.now - ping.t0) * 100 ∧ s.quietSince ping.t0 = true ∧ ping.inLane = false ∧ ping.track = false ∧ ping.ext = false ∧ (s.frond p).state = .learn ∧ s.nat 0x2600_0E ≤ (s.frond p).learned + 1) ∧
    (∃ (s : State) (p : Fin 8) (z : BitVec 32 × BitVec 32) (sensed : List Sensed) (ping : Ping), s.Inv ∧ s.coreOn = true ∧ (s.frond p).ping = some ping ∧ 52 * 347136 ≤ (s.now - ping.t0) * 100 ∧ s.quietSince ping.t0 = true ∧ ping.inLane = false ∧ ping.track = false ∧ ping.ext = false ∧ (s.frond p).state = .absent ∧ atLeast (z.1.toInt * 1000000 - (s.frond p).base.1, z.2.toInt * 1000000 - (s.frond p).base.2) (s.frond p).base ping.on = true ∧ (z.1.toInt * 1000000, z.2.toInt * 1000000) ≠ (s.frond p).base ∧ s.nat (frondKey p 5) ≤ (s.frond p).onRun + 1) ∧
    (∃ (s : State) (p : Fin 8), s.Inv ∧ s.coreOn = true ∧ (s.frond p).state = .disarmed ∧ s.nat 0x2600_0F ≠ 0 ∧ s.passedS (s.frond p).disarmT0 (s.nat 0x2600_0F) = true) ∧
    (∃ (s : State) (p : Fin 8) (z : BitVec 32 × BitVec 32) (sensed : List Sensed) (ping : Ping), s.Inv ∧ s.coreOn = true ∧ (s.frond p).ping = some ping ∧ 52 * 347136 ≤ (s.now - ping.t0) * 100 ∧ s.quietSince ping.t0 = true ∧ ping.inLane = false ∧ ping.track = false ∧ ping.ext = false ∧ (s.frond p).state = .disarmed ∧ (s.frond p).absorb = true ∧ (s.frond p).ref = (z.1.toInt * 1000000 - (s.frond p).base.1, z.2.toInt * 1000000 - (s.frond p).base.2)) :=
  ⟨⟨({ (((on.setN (frondKey 0 12) 3).setN 0x2143_02 1000)) with now := 347136000000, fronds := on.fronds.set 0 { state := .absent }, ma := { on.ma with burgee := on.ma.burgee.set 3 { openAt := some 0, openLen := 1000 } } }), 0, 0, by decide +kernel⟩,
   ⟨({ (on.setN (frondKey 0 12) 3) with fronds := on.fronds.set 0 { state := .absent, skips := 7 }, ma := { on.ma with burgee := on.ma.burgee.set 3 { openAt := some 0, openLen := 1 } } }), 0, by decide +kernel⟩,
   ⟨({ (on.setN (frondKey 0 12) 3) with fronds := on.fronds.set 0 { state := .absent, skips := 7 }, ports := on.ports.set 0 { state := .rampUp, comps := [{ lane := 0, amp := 256, phase := 0 }] }, ma := { on.ma with burgee := on.ma.burgee.set 3 { openAt := some 0, openLen := 1 } } }), 0, by decide +kernel⟩,
   ⟨({ on with now := 347136000000, fronds := on.fronds.set 7 { state := .present, laneDue := true }, ports := on.ports.set 7 { state := .carrier, comps := [{ lane := 0, amp := 256, phase := 0 }] } }), 7, by decide +kernel⟩,
   ⟨(({ on with now := 3471360, fronds := on.fronds.set 0 { state := .present, cls := 1, base := (1000000000, 0), ping := some { t0 := 0, inLane := false, track := false, ext := false, on := 100, off := 50, delta := 0 } } } : State)), 0, ((1000, 5)), [], ({ t0 := 0, inLane := false, track := false, ext := false, on := 100, off := 50, delta := 0 }), by decide +kernel⟩,
   ⟨(({ on with now := 3471360, fronds := on.fronds.set 0 { state := .learn, learned := 2, base := (1000000000, 0), ping := some { t0 := 0, inLane := false, track := false, ext := false, on := 100, off := 50, delta := 0 } } } : State).setN 0x2600_0E 4), 0, ((1000, 2000)), [], ({ t0 := 0, inLane := false, track := false, ext := false, on := 100, off := 50, delta := 0 }), by decide +kernel⟩,
   ⟨(({ on with now := 3471360, fronds := on.fronds.set 0 { state := .learn, learned := 3, sum := (3000000000, 6000000000), base := (1000000000, 0), ping := some { t0 := 0, inLane := false, track := false, ext := false, on := 100, off := 50, delta := 0 } } } : State).setN 0x2600_0E 4), 0, ((1000, 2000)), [], ({ t0 := 0, inLane := false, track := false, ext := false, on := 100, off := 50, delta := 0 }), by decide +kernel⟩,
   ⟨(({ on with now := 3471360, fronds := on.fronds.set 0 { state := .absent, base := (1000000000, 0), onRun := 1, ping := some { t0 := 0, inLane := false, track := false, ext := false, on := 100, off := 50, delta := 0 } } } : State).setN (frondKey 0 5) 2), 0, ((1100, 0)), [], ({ t0 := 0, inLane := false, track := false, ext := false, on := 100, off := 50, delta := 0 }), by decide +kernel⟩,
   ⟨(({ on with now := 347136000000000000, fronds := on.fronds.set 0 { state := .disarmed, cls := 1 } } : State).setN 0x2600_0F 60), 0, by decide +kernel⟩,
   ⟨(({ on with now := 3471360, fronds := on.fronds.set 0 { state := .disarmed, cls := 1, absorb := true, base := (1000000000, 0), ref := (100000000, 0), ping := some { t0 := 0, inLane := false, track := false, ext := false, on := 100, off := 50, delta := 0 } } } : State)), 0, ((1100, 0)), [], ({ t0 := 0, inLane := false, track := false, ext := false, on := 100, off := 50, delta := 0 }), by decide +kernel⟩⟩

theorem witness_TagStates :
    (∃ (s : State), s.Inv ∧ s.tag.state = .noField ∧ s.tag.lichen = false) ∧
    (∃ (s : State), s.Inv ∧ s.coreRuns = false ∧ s.tag.state = .noField ∧ s.tag.lichen = true ∧ s.passedMs s.tag.lostT0 2000 = false) ∧
    (∃ (s : State), s.Inv ∧ s.tag.state ≠ .noField) ∧
    (∃ (s : State), s.Inv ∧ s.tag.state = .noField ∧ s.coreRuns = false ∧ s.passedMs s.tag.lostT0 2000 = true) ∧
    (∃ (s : State) (r : TagReq) (slots16 : Bool) (mask : List Bool), s.Inv ∧ s.heardReq r = true ∧ r.mode = .all ∧ mask.length ≤ (if slots16 then 60 else 64) ∧ s.maskFits mask = true) ∧
    (∃ (s : State) (r : TagReq) (u : List Byte), s.Inv ∧ r.mode = .addressed u ∧ s.heardReq r = true) ∧
    (∃ (s : State) (r : TagReq) (u : List Byte), s.Inv ∧ r.mode = .addressed u ∧ s.heardReq r = true) ∧
    (∃ (s : State) (r : TagReq) (u : List Byte), s.Inv ∧ r.mode = .addressed u ∧ s.heardReq r = true) ∧
    (∃ (s : State) (x : Nat), s.Inv ∧ s.tag.lockLeft = some x ∧ s.tagSupplied = true ∧ x ≤ s.now - s.tag.lockT0) :=
  ⟨⟨on, by decide +kernel⟩,
   ⟨({ State.reset with tag := { State.reset.tag with lichen := true } }), by decide +kernel⟩,
   ⟨(taggedAt .password), by decide +kernel⟩,
   ⟨({ State.reset with now := 70000000000, tag := { State.reset.tag with lichen := true } }), by decide +kernel⟩,
   ⟨tagged, ({ mode := .all, option := false, dual := false, high := true, good := true }), false, [], by decide +kernel⟩,
   ⟨tagged, (ownReq tagged), tagged.uidAir, ⟨by decide +kernel, rfl, ownReq_heard _ (by decide +kernel) (by decide +kernel)⟩⟩,
   ⟨tagged, (ownReq tagged), tagged.uidAir, ⟨by decide +kernel, rfl, ownReq_heard _ (by decide +kernel) (by decide +kernel)⟩⟩,
   ⟨({ tagged with tag := { tagged.tag with state := .quiet, field := true } }), (ownReq { tagged with tag := { tagged.tag with state := .quiet, field := true } }), tagged.uidAir, ⟨by decide +kernel, rfl, ownReq_heard _ (by decide +kernel) (by decide +kernel)⟩⟩,
   ⟨({ State.reset with now := 347136000000, tag := { State.reset.tag with state := .ready, field := true, lockLeft := some 347136000000 } }), 347136000000, by decide +kernel⟩⟩

theorem witness_TagReads :
    (∃ (s : State) (r : TagReq) (block : BitVec 8), s.Inv ∧ s.heardReq r = true ∧ r.option = false ∧ block.toNat + 1 ≤ 256 ∧ (∀ i < 1, s.mayReadBlock (block.toNat + i) = true)) ∧
    (∃ (s : State) (r : TagReq) (block : BitVec 16), s.Inv ∧ s.heardReq r = true ∧ r.option = false ∧ block.toNat + 1 ≤ 992 ∧ (∀ i < 1, s.mayReadBlock (block.toNat + i) = true)) ∧
    (∃ (s : State) (r : TagReq) (first more : BitVec 8), s.Inv ∧ s.heardReq r = true ∧ r.option = false ∧ first.toNat + (more.toNat + 1) ≤ 256 ∧ (more.toNat + 1) ≤ 8 ∧ (∀ i < (more.toNat + 1), s.mayReadBlock (first.toNat + i) = true)) ∧
    (∃ (s : State) (r : TagReq) (first more : BitVec 16), s.Inv ∧ s.heardReq r = true ∧ r.option = false ∧ first.toNat + (more.toNat + 1) ≤ 992 ∧ (more.toNat + 1) ≤ 8 ∧ (∀ i < (more.toNat + 1), s.mayReadBlock (first.toNat + i) = true)) ∧
    (∃ (s : State) (r : TagReq) (first more : BitVec 16), s.Inv ∧ s.heardReq r = true ∧ 8 ≤ more.toNat) ∧
    (∃ (s : State) (r : TagReq) (block : BitVec 16), s.Inv ∧ s.heardReq r = true ∧ 992 ≤ block.toNat) ∧
    (∃ (s : State) (r : TagReq) (block : BitVec 8), s.Inv ∧ s.heardReq r = true ∧ s.mayReadBlock block.toNat = false) ∧
    (∃ (s : State) (r : TagReq), s.Inv ∧ s.heardReq r = true) ∧
    (∃ (s : State) (r : TagReq), s.Inv ∧ s.heardReq r = true) ∧
    (∃ (s : State) (r : TagReq) (first more : BitVec 8), s.Inv ∧ s.heardReq r = true ∧ first.toNat + (more.toNat + 1) ≤ 256) ∧
    (∃ (s : State) (r : TagReq) (first more : BitVec 16), s.Inv ∧ s.heardReq r = true ∧ first.toNat + (more.toNat + 1) ≤ 992) ∧
    (∃ (s : State) (r : TagReq) (code : BitVec 8) (u : List Byte), s.Inv ∧ r.mode = .addressed u ∧ s.heardReq r = true) ∧
    (∃ (s : State) (r : TagReq) (mfg : BitVec 8), s.Inv ∧ s.heardReq r = true ∧ mfg.toNat = s.nat 0x2700_02) :=
  ⟨⟨tagged, ({ mode := .all, option := false, dual := false, high := true, good := true }), 15, by decide +kernel⟩,
   ⟨tagged, ({ mode := .all, option := false, dual := false, high := true, good := true }), 31, by decide +kernel⟩,
   ⟨tagged, ({ mode := .all, option := false, dual := false, high := true, good := true }), 0, 7, by decide +kernel⟩,
   ⟨tagged, ({ mode := .all, option := false, dual := false, high := true, good := true }), 0, 7, by decide +kernel⟩,
   ⟨tagged, ({ mode := .all, option := false, dual := false, high := true, good := true }), 0, 8, by decide +kernel⟩,
   ⟨tagged, ({ mode := .all, option := false, dual := false, high := true, good := true }), 992, by decide +kernel⟩,
   ⟨tagged, ({ mode := .all, option := false, dual := false, high := true, good := true }), 16, by decide +kernel⟩,
   ⟨tagged, ({ mode := .all, option := false, dual := false, high := true, good := true }), by decide +kernel⟩,
   ⟨tagged, ({ mode := .all, option := false, dual := false, high := true, good := true }), by decide +kernel⟩,
   ⟨(taggedAt (.auth 0)), ({ mode := .all, option := false, dual := false, high := true, good := true }), 255, 0, by decide +kernel⟩,
   ⟨(taggedAt (.auth 0)), ({ mode := .all, option := false, dual := false, high := true, good := true }), 990, 1, by decide +kernel⟩,
   ⟨tagged, (ownReq tagged), 0x22, tagged.uidAir, ⟨by decide +kernel, rfl, ownReq_heard _ (by decide +kernel) (by decide +kernel)⟩⟩,
   ⟨(taggedAt .password), ({ mode := .all, option := false, dual := false, high := true, good := true }), mfgCode, ⟨by decide +kernel, by decide +kernel, rfl⟩⟩⟩

theorem witness_TagWrites :
    (∃ (s : State) (r : TagReq) (p : TagPower) (block : BitVec 8) (data : List Byte), s.Inv ∧ s.fieldMayWrite r p 1 block.toNat 1 256 data = true ∧ (s.coreRuns = true ∨ p.loss = .none) ∧ s.nat 0x2740_02 + 1 < 2 ^ 32) ∧
    (∃ (s : State) (r : TagReq) (p : TagPower) (block : BitVec 16) (data : List Byte), s.Inv ∧ s.fieldMayWrite r p 2 block.toNat 1 992 data = true ∧ (s.coreRuns = true ∨ p.loss = .none) ∧ s.nat 0x2740_02 + 1 < 2 ^ 32) ∧
    (∃ (s : State) (r : TagReq) (p : TagPower) (first more : BitVec 8) (data : List Byte), s.Inv ∧ s.fieldMayWrite r p 2 first.toNat (more.toNat + 1) 256 data = true ∧ (s.coreRuns = true ∨ p.loss = .none) ∧ s.nat 0x2740_02 + 1 < 2 ^ 32) ∧
    (∃ (s : State) (r : TagReq) (p : TagPower) (first more : BitVec 16) (data : List Byte), s.Inv ∧ s.fieldMayWrite r p 4 first.toNat (more.toNat + 1) 992 data = true ∧ (s.coreRuns = true ∨ p.loss = .none) ∧ s.nat 0x2740_02 + 1 < 2 ^ 32) ∧
    (∃ (s : State) (r : TagReq) (p : TagPower) (block : BitVec 16) (data : List Byte), s.Inv ∧ s.heardReq r = true ∧ data.length = 32 ∧ r.option = false ∧ s.stageLevel = true ∧ (regionOf block.toNat).writable = true ∧ block.toNat ≠ 16 ∧ s.holdHeld = false ∧ gateMet p.rail.toNat p.cap.toNat = false ∧ s.nat 0x2740_06 + 1 < 2 ^ 32) ∧
    (∃ (s : State) (r : TagReq) (p : TagPower) (block : BitVec 16) (data : List Byte), s.Inv ∧ s.heardReq r = true ∧ data.length = 32 ∧ r.option = false ∧ s.stageLevel = false ∧ (regionOf block.toNat).writable = true) ∧
    (∃ (s : State) (r : TagReq) (p : TagPower) (block : BitVec 16) (data : List Byte), s.Inv ∧ s.fieldMayWrite r p 2 block.toNat 1 992 data = true ∧ s.coreRuns = false ∧ p.loss = .s1) ∧
    (∃ (s : State) (r : TagReq) (p : TagPower) (block : BitVec 16) (data : List Byte), s.Inv ∧ s.fieldMayWrite r p 2 block.toNat 1 992 data = true ∧ s.coreRuns = false ∧ p.loss = .s3) ∧
    (∃ (s : State) (rail cap : BitVec 16), s.Inv ∧ s.tag.commit.committed = true ∧ s.tag.commit.first < 992 ∧ s.tag.state ≠ .noField ∧ 2600 ≤ rail.toNat ∧ 2350 ≤ cap.toNat ∧ s.nat 0x2740_03 + 1 < 2 ^ 32) :=
  ⟨⟨(taggedAt (.auth 0)), ({ mode := .all, option := false, dual := false, high := true, good := true }), ({ rail := 3000, cap := 2500, loss := .none }), 255, (List.replicate (32 * (1)) 7), by decide +kernel⟩,
   ⟨(taggedAt (.auth 0)), ({ mode := .all, option := false, dual := false, high := true, good := true }), ({ rail := 3000, cap := 2500, loss := .none }), 991, (List.replicate (32 * (1)) 7), by decide +kernel⟩,
   ⟨(taggedAt (.auth 0)), ({ mode := .all, option := false, dual := false, high := true, good := true }), ({ rail := 3000, cap := 2500, loss := .none }), 32, 1, (List.replicate (32 * (2)) 7), by decide +kernel⟩,
   ⟨(taggedAt (.auth 0)), ({ mode := .all, option := false, dual := false, high := true, good := true }), ({ rail := 3000, cap := 2500, loss := .none }), 984, 7, (List.replicate (32 * (8)) 7), by decide +kernel⟩,
   ⟨(taggedAt (.auth 0)), ({ mode := .all, option := false, dual := false, high := true, good := true }), ({ rail := 2599, cap := 2500, loss := .none }), 32, (List.replicate 32 7), by decide +kernel⟩,
   ⟨tagged, ({ mode := .all, option := false, dual := false, high := true, good := true }), ({ rail := 3000, cap := 2500, loss := .none }), 32, (List.replicate 32 7), by decide +kernel⟩,
   ⟨(taggedAt (.auth 0)), ({ mode := .all, option := false, dual := false, high := true, good := true }), ({ rail := 3000, cap := 2500, loss := .s1 }), 32, (List.replicate 32 7), by decide +kernel⟩,
   ⟨(taggedAt (.auth 0)), ({ mode := .all, option := false, dual := false, high := true, good := true }), ({ rail := 3000, cap := 2500, loss := .s3 }), 32, (List.replicate 32 7), by decide +kernel⟩,
   ⟨({ tagged with tag := { tagged.tag with state := .ready, field := true, shadow := List.replicate 32 7, commit := { committed := true, first := 32, n := 1, seq := 1 } } }), 2600, 2350, by decide +kernel⟩⟩

theorem witness_TagAuthentication :
    (∃ (s : State) (r : TagReq) (p : TagPower) (v : BitVec 8), s.Inv ∧ s.heardReq r = true ∧ r.option = false ∧ s.tag.level ≠ .opened ∧ s.gateError p = none ∧ (s.coreRuns = true ∨ p.loss = .none)) ∧
    (∃ (s : State) (r : TagReq) (p : TagPower) (v : BitVec 8), s.Inv ∧ s.heardReq r = true ∧ r.option = false ∧ s.tag.level ≠ .opened ∧ s.gateError p = none ∧ (s.coreRuns = true ∨ p.loss = .none)) ∧
    (∃ (s : State) (r : TagReq) (mfg : BitVec 8), s.Inv ∧ s.heardReq r = true ∧ mfg.toNat = s.nat 0x2700_02 ∧ s.tag.lockLeft = none) ∧
    (∃ (s : State) (r : TagReq) (mfg : BitVec 8) (pn x : BitVec 32), s.Inv ∧ s.heardReq r = true ∧ mfg.toNat = s.nat 0x2700_02 ∧ s.tag.lockLeft = none ∧ s.tag.nonce = some x ∧ s.nat 0x2720_01 ≠ 0 ∧ (pn ^^^ x).toNat = s.nat 0x2720_01) ∧
    (∃ (s : State) (r : TagReq) (mfg : BitVec 8) (pn x : BitVec 32), s.Inv ∧ s.heardReq r = true ∧ mfg.toNat = s.nat 0x2700_02 ∧ s.tag.lockLeft = none ∧ s.tag.nonce = some x ∧ s.nat 0x2720_01 ≠ 0 ∧ (pn ^^^ x).toNat ≠ s.nat 0x2720_01 ∧ s.nat 0x2720_04 = 2 ∧ s.nat 0x2740_04 + 1 < 2 ^ 32 ∧ s.nat 0x2740_05 + 1 < 2 ^ 32) ∧
    (∃ (s : State) (r : TagReq) (mfg : BitVec 8) (pn : BitVec 32), s.Inv ∧ s.heardReq r = true ∧ mfg.toNat = s.nat 0x2700_02 ∧ s.tag.lockLeft ≠ none) ∧
    (∃ (s : State) (r : TagReq) (mfg slot : BitVec 8), s.Inv ∧ s.heardReq r = true ∧ mfg.toNat = s.nat 0x2700_02 ∧ s.tag.lockLeft = none ∧ slot.toNat ≤ 1 ∧ noKey (s.oct (0x2720_02 + slot.toNat)) = false) ∧
    (∃ (s : State) (r : TagReq) (mfg slot : BitVec 8), s.Inv ∧ s.heardReq r = true ∧ mfg.toNat = s.nat 0x2700_02 ∧ s.tag.lockLeft = none ∧ s.slotSecret slot.toNat = none) ∧
    (∃ (s : State) (r : TagReq) (mfg : BitVec 8) (rndR macR rndT : List Byte) (slot : Nat) (key : List Byte), s.Inv ∧ s.heardReq r = true ∧ mfg.toNat = s.nat 0x2700_02 ∧ s.tag.lockLeft = none ∧ s.tag.begun = some (slot, rndT) ∧ s.slotSecret slot = some key ∧ macR = authMac key rndT rndR (0x01 :: s.oct 0x2700_01 ++ rndT ++ rndR)) ∧
    (∃ (s : State) (r : TagReq) (mfg : BitVec 8), s.Inv ∧ s.heardReq r = true ∧ mfg.toNat = s.nat 0x2700_02) :=
  ⟨⟨(taggedAt .password), ({ mode := .all, option := false, dual := false, high := true, good := true }), ({ rail := 3000, cap := 2500, loss := .none }), 0xFF, by decide +kernel⟩,
   ⟨(taggedAt .password), ({ mode := .all, option := false, dual := false, high := true, good := true }), ({ rail := 3000, cap := 2500, loss := .none }), 0xFF, by decide +kernel⟩,
   ⟨tagged, ({ mode := .all, option := false, dual := false, high := true, good := true }), mfgCode, ⟨by decide +kernel, by decide +kernel, rfl, by decide +kernel⟩⟩,
   ⟨((({ State.reset with tag := { State.reset.tag with state := .ready, field := true, nonce := some 0xFFFFFFFF } } : State).setN 0x2720_01 5).setN 0x2720_04 2), ({ mode := .all, option := false, dual := false, high := true, good := true }), mfgCode, 0xFFFFFFFA, 0xFFFFFFFF, ⟨by decide +kernel, by decide +kernel, rfl, by decide +kernel, by decide +kernel, by decide +kernel, by decide +kernel⟩⟩,
   ⟨((({ State.reset with tag := { State.reset.tag with state := .ready, field := true, nonce := some 0 } } : State).setN 0x2720_01 5).setN 0x2720_04 2), ({ mode := .all, option := false, dual := false, high := true, good := true }), mfgCode, 0, 0, ⟨by decide +kernel, by decide +kernel, rfl, by decide +kernel, by decide +kernel, by decide +kernel, by decide +kernel, by decide +kernel, by decide +kernel, by decide +kernel⟩⟩,
   ⟨({ tagged with tag := { tagged.tag with state := .ready, field := true, lockLeft := some 1 } }), ({ mode := .all, option := false, dual := false, high := true, good := true }), mfgCode, 0, ⟨by decide +kernel, by decide +kernel, rfl, by decide +kernel⟩⟩,
   ⟨((tagged : State).setO 0x2720_03 (List.replicate 16 1)), ({ mode := .all, option := false, dual := false, high := true, good := true }), mfgCode, 1, ⟨by decide +kernel, by decide +kernel, rfl, by decide +kernel, by decide +kernel, by decide +kernel⟩⟩,
   ⟨tagged, ({ mode := .all, option := false, dual := false, high := true, good := true }), mfgCode, 2, ⟨by decide +kernel, by decide +kernel, rfl, by decide +kernel, by decide +kernel⟩⟩,
   ⟨(({ tagged with tag := { tagged.tag with state := .ready, field := true, begun := some (0, zeroBytes 8) } } : State).setO 0x2720_02 (List.replicate 16 1)), ({ mode := .all, option := false, dual := false, high := true, good := true }), mfgCode, (zeroBytes 8), (authMac (List.replicate 16 1) (zeroBytes 8) (zeroBytes 8) (0x01 :: tagged.oct 0x2700_01 ++ zeroBytes 8 ++ zeroBytes 8)), (zeroBytes 8), 0, (List.replicate 16 1), ⟨by decide +kernel, by decide +kernel, rfl, by decide +kernel, rfl, by decide +kernel, rfl⟩⟩,
   ⟨(taggedAt .password), ({ mode := .all, option := false, dual := false, high := true, good := true }), mfgCode, ⟨by decide +kernel, by decide +kernel, rfl⟩⟩⟩

theorem witness_FieldEntryWrites :
    (∃ (s : State) (who : Who) (b : Fin 8) (length : Bool) (value : BitVec 16), s.Inv ∧ s.writes who (0x2130_01 + 0x100 * b.val + boolNat length) (leBytes 2 value.toNat) = true ∧ s.nat (0x2130_03 + 0x100 * b.val) = 1) ∧
    (∃ (s : State) (who : Who) (p : Fin 8) (value : BitVec 8), s.Inv ∧ s.writes who (portKey p 2 2) (leBytes 1 value.toNat) = true ∧ (s.port p).state = .fault) ∧
    (∃ (s : State) (who : Who) (p : Fin 8) (value : BitVec 16), s.Inv ∧ s.writes who (portKey p 1 1) (leBytes 2 value.toNat) = true ∧ (s.port p).state = .off) ∧
    (∃ (s : State) (who : Who) (set : Fin 16) (coef : List Byte), s.Inv ∧ s.writes who (firKey set 1) coef = true ∧ 8 ≤ set.val) ∧
    (∃ (s : State) (who : Who) (p : Fin 8) (mode : Fin 12) (set : BitVec 8), s.Inv ∧ s.writes who (portKey p 4 (mode.val + 1)) (leBytes 1 set.toNat) = true ∧ s.firKnown set.toNat (mode.val + 1) = true) ∧
    (∃ (s : State) (who : Who) (p : Fin 8) (mode : Fin 12) (set : BitVec 8), s.Inv ∧ s.writes who (portKey p 4 (mode.val + 1)) (leBytes 1 set.toNat) = true ∧ s.firKnown set.toNat (mode.val + 1) = false) ∧
    (∃ (s : State) (who : Who) (mask : List Byte), s.Inv ∧ s.writes who (0x22A0_01) mask = true) ∧
    (∃ (s : State) (who : Who) (p : Fin 8) (value : BitVec 8), s.Inv ∧ s.writes who (portKey p 5 1) (leBytes 1 value.toNat) = true ∧ value.toNat ≠ 0 ∧ s.survey.phase = .idle) ∧
    (∃ (s : State) (who : Who) (value : BitVec 8), s.Inv ∧ s.writes who (0x2340_01) (leBytes 1 value.toNat) = true ∧ s.survey.phase = .idle) ∧
    (∃ (s : State) (who : Who) (z : Fin 16) (value : BitVec 8), s.Inv ∧ s.writes who (zoneKey z 6) (leBytes 1 value.toNat) = true) ∧
    (∃ (s : State) (who : Who) (z : Fin 16) (v : List Byte), s.Inv ∧ s.writes who (zoneKey z 5) v = true) ∧
    (∃ (s : State) (who : Who) (n : Fin 64) (pairs : List Byte), s.Inv ∧ s.writes who (penKey n 7) pairs = true) ∧
    (∃ (s : State) (who : Who) (x : Fin 8) (high : Bool) (value : BitVec 16), s.Inv ∧ s.writes who (0x3208_01 + 0x100 * x.val + boolNat high) (leBytes 2 value.toNat) = true) :=
  ⟨⟨(maker.setN 0x2137_03 1), .spi, 7, false, 1000, by decide +kernel⟩,
   ⟨({ maker with ports := maker.ports.set 7 { state := .fault } }), .spi, 7, 0, by decide +kernel⟩,
   ⟨maker, .spi, 0, 500, by decide +kernel⟩,
   ⟨maker, .spi, 15, ([0xF0, 0x3F] ++ zeroBytes 62), by decide +kernel⟩,
   ⟨({ maker with firOk := [(7, 12)] }), .spi, 7, 11, 7, by decide +kernel⟩,
   ⟨(({ maker with firOk := [] } : State).setN (firKey 9 2) 4), .spi, 7, 11, 9, by decide +kernel⟩,
   ⟨maker, .spi, (List.replicate 32 0xFF), by decide +kernel⟩,
   ⟨maker, .spi, 3, 1, by decide +kernel⟩,
   ⟨maker, .spi, 1, by decide +kernel⟩,
   ⟨maker, .spi, 15, 1, by decide +kernel⟩,
   ⟨maker, .spi, 0, ([0xFF, 0x7F] ++ zeroBytes 30), by decide +kernel⟩,
   ⟨maker, .spi, 63, (List.replicate 32 0), by decide +kernel⟩,
   ⟨maker, .spi, 7, true, 300, by decide +kernel⟩⟩

theorem witness_EngineEntryWrites :
    (∃ (s : State) (who : Who) (l : Fin 4), s.Inv ∧ s.writes who (hfKey l 1) [0x01] = true ∧ (s.lane l).running = false) ∧
    (∃ (s : State) (who : Who) (l : Fin 4) (c : Card), s.Inv ∧ s.writes who (hfKey l 1) [0x01] = true ∧ (s.lane l).running = true ∧ (s.lane l).txAbort = false ∧ s.nat (hfKey l 2) < 2 ∧ s.hostCard l (s.nat (hfKey l 2)) = some c ∧ (s.oct (hfKey l 3)).length ≤ 60 ∧ (s.seq l).guardDone = true ∧ (s.seq l).job = .none ∧ (s.seq l).stage = .idle ∧ (s.seq l).leave = false) ∧
    (∃ (s : State) (who : Who) (l : Fin 4) (c : Card), s.Inv ∧ s.writes who (hfKey l 1) [0x01] = true ∧ (s.lane l).running = true ∧ (s.lane l).txAbort = false ∧ s.hostCard l (s.nat (hfKey l 2)) = some c ∧ s.inExchange l = true) ∧
    (∃ (s : State) (who : Who) (l : Fin 4), s.Inv ∧ s.writes who (hfKey l 1) [0x02] = true ∧ (s.lane l).state = .idle ∧ s.nat (hfKey l 7) < 16 ∧ s.nat (zoneKey (s.nat (hfKey l 7)) 1) ≠ 0xFF ∧ s.requests = [] ∧ s.survey.phase = .idle) ∧
    (∃ (s : State) (who : Who) (p : Fin 8) (value : BitVec 8), s.Inv ∧ s.writes who (frondKey p 0x14) (leBytes 1 value.toNat) = true ∧ (s.frond p).state ≠ .off ∧ value.toNat = 1) ∧
    (∃ (s : State) (who : Who) (item : Fin 4) (value : BitVec 16), s.Inv ∧ s.writes who (0x2600_03 + item.val) (leBytes 2 value.toNat) = true) ∧
    (∃ (s : State) (who : Who) (p : Fin 8) (item : Fin 4) (value : BitVec 16), s.Inv ∧ s.writes who (frondKey p 1) (leBytes 1 value.toNat) = true) ∧
    (∃ (s : State) (who : Who), s.Inv ∧ s.writes who (0x2730_04) [0x01] = true ∧ oneRegion (s.nat 0x2730_01) (s.nat 0x2730_02) = true) ∧
    (∃ (s : State) (who : Who), s.Inv ∧ s.writes who (0x2730_04) [0x02] = true ∧ oneRegion (s.nat 0x2730_01) (s.nat 0x2730_02) = true ∧ (s.oct 0x2730_03).length = 32 * s.nat 0x2730_02 ∧ s.nat 0x2730_01 ≠ 16 ∧ (regionOf (s.nat 0x2730_01)).writable = true ∧ roleCode (s.roleOf who) ≠ 0 ∧ s.fieldGroup = false ∧ s.tag.commit.committed = false) ∧
    (∃ (s : State) (who : Who), s.Inv ∧ s.writes who (0x2701_04) [0x01] = true ∧ s.tag.hold = none ∧ s.fieldGroup = false) ∧
    (∃ (s : State) (who : Who), s.Inv ∧ s.writes who (0x2701_04) [0x01] = true ∧ s.tag.hold = none ∧ s.fieldGroup = true) ∧
    (∃ (s : State) (who : Who), s.Inv ∧ s.writes who (0x2701_04) [0x00] = true) ∧
    (∃ (s : State) (who : Who) (e : Nat), s.Inv ∧ s.writes who (0x2810_01) [0x01] = true ∧ s.findKey (s.nat 0x2810_02) (keyOf (s.oct 0x2810_03)) = some e ∧ s.roleOf who = .maker) ∧
    (∃ (s : State) (who : Who) (e : Nat), s.Inv ∧ s.writes who (0x2810_01) [0x02] = true ∧ s.findKey (s.nat 0x2810_02) (keyOf (s.oct 0x2810_03)) = some e ∧ s.roleOf who = .maker) ∧
    (∃ (s : State) (who : Who), s.Inv ∧ s.writes who (0x2810_01) [0x03] = true ∧ s.findKey (s.nat 0x2810_02) (keyOf (s.oct 0x2810_03)) = none) ∧
    (∃ (s : State) (who : Who), s.Inv ∧ s.writes who (0x2810_01) [0x04] = true ∧ s.roleOf who ≠ .operator) ∧
    (∃ (s : State) (who : Who), s.Inv ∧ s.writes who (0x2810_01) [0x04] = true ∧ s.roleOf who = .operator) ∧
    (∃ (s : State) (who : Who) (e : Fin 16384) (entry : List Byte), s.Inv ∧ s.writes who (slotKey e) entry = true) ∧
    (∃ (s : State) (who : Who) (n : Fin 16) (value : BitVec 64), s.Inv ∧ s.writes who (cmpKey n 2) (leBytes 8 value.toNat) = true) ∧
    (∃ (s : State) (who : Who) (n : Fin 16) (value : BitVec 8), s.Inv ∧ s.writes who (cmpKey n 1) (leBytes 1 value.toNat) = true ∧ value.getLsbD 0 = false ∧ s.bit (cmpKey n 4) 0 = true) ∧
    (∃ (s : State) (who : Who) (i : Fin 4) (value : BitVec 16), s.Inv ∧ s.writes who (lcKey i 3) (leBytes 2 value.toNat) = true) ∧
    (∃ (s : State) (who : Who) (i : Fin 4) (value : BitVec 8), s.Inv ∧ s.writes who (lcKey i 2) (leBytes 1 value.toNat) = true) ∧
    (∃ (s : State) (who : Who) (i : Fin 4) (value : BitVec 8), s.Inv ∧ s.writes who (lcKey i 1) (leBytes 1 value.toNat) = true ∧ s.bit (lcKey i 1) 0 = false ∧ value.getLsbD 0 = true) ∧
    (∃ (s : State) (who : Who) (value : BitVec 8), s.Inv ∧ s.writes who (0x3000_0C) (leBytes 1 value.toNat) = true ∧ value.toNat ≠ 0 ∧ s.testRange = none ∧ s.nat 0x3020_05 + 1 < 2 ^ 32) ∧
    (∃ (s : State) (who : Who) (value : BitVec 8) (r : Nat), s.Inv ∧ s.writes who (0x3000_0C) (leBytes 1 value.toNat) = true ∧ value.toNat ≠ 0 ∧ s.testRange = some r ∧ s.radio.test = none ∧ s.radio.state = .sleep ∧ s.radio.move = none ∧ s.radio.cur = none ∧ s.radio.held = none ∧ s.radio.rx = none ∧ s.radio.reversal = none) :=
  ⟨⟨maker, .spi, 3, by decide +kernel⟩,
   ⟨(({ maker with lanes := maker.lanes.set 0 { state := .concurrent, zone := 0, pennant := 0 }, ports := maker.ports.set 0 { state := .carrier, comps := [{ lane := 0, amp := 256, phase := 0 }] }, seqs := maker.seqs.set 0 { guardDone := true, cards := [{ ident := [4], state := 1 }] } } : State).setO (hfKey 0 3) [0x30, 0x00]), .spi, 0, ({ ident := [4], state := 1 }), by decide +kernel⟩,
   ⟨({ maker with lanes := maker.lanes.set 0 { state := .concurrent, zone := 0, pennant := 0 }, ports := maker.ports.set 0 { state := .carrier, comps := [{ lane := 0, amp := 256, phase := 0 }] }, seqs := maker.seqs.set 0 { guardDone := true, job := .poll, step := .aPoll, stage := .listening, cards := [{ ident := [4], state := 1 }] } }), .spi, 0, ({ ident := [4], state := 1 }), by decide +kernel⟩,
   ⟨((maker.setN (hfKey 2 7) 3).setN (zoneKey 3 1) 0), .spi, 2, by decide +kernel⟩,
   ⟨({ maker with fronds := maker.fronds.set 7 { state := .absent } }), .spi, 7, 1, by decide +kernel⟩,
   ⟨(maker.setN 0x2600_01 0), .spi, 0, 4096, by decide +kernel⟩,
   ⟨maker, .spi, 7, 0, 25, by decide +kernel⟩,
   ⟨((maker.setN 0x2730_01 32).setN 0x2730_02 2), .spi, by decide +kernel⟩,
   ⟨(((maker.setN 0x2730_01 32).setN 0x2730_02 2).setO 0x2730_03 (List.replicate 64 7)), .spi, by decide +kernel⟩,
   ⟨maker, .spi, by decide +kernel⟩,
   ⟨({ maker with tag := { maker.tag with groups := [{ first := 32, n := 1, field := true, host := false, prior := zeroBytes 32, to_ := 5000000 }] } }), .spi, by decide +kernel⟩,
   ⟨({ maker with tag := { maker.tag with hold := some 0 } }), .spi, by decide +kernel⟩,
   ⟨(((maker.setN 0x2810_02 1).setSlot (4 * (buckets 1 0).1) (2 ^ 44)).setN 0x2810_04 5), .spi, (4 * (buckets 1 0).1), by decide +kernel⟩,
   ⟨((maker.setN 0x2810_02 1).setSlot (4 * (buckets 1 0).1) (2 ^ 44)), .spi, (4 * (buckets 1 0).1), by decide +kernel⟩,
   ⟨(maker.setN 0x2810_02 1), .spi, by decide +kernel⟩,
   ⟨((maker.setN 0x2810_02 1).setSlot 16383 (2 ^ 44)), .spi, by decide +kernel⟩,
   ⟨on, .spi, by decide +kernel⟩,
   ⟨maker, .spi, 16383, (zeroBytes 16), by decide +kernel⟩,
   ⟨maker, .spi, 15, 18446744073709551615, by decide +kernel⟩,
   ⟨(maker.setN (cmpKey 15 4) 1), .spi, 15, 0, by decide +kernel⟩,
   ⟨maker, .spi, 3, 0xFFFF, by decide +kernel⟩,
   ⟨({ maker with tb := { maker.tb with lcPre := [5, 5, 5, 5] } }), .spi, 3, 15, by decide +kernel⟩,
   ⟨({ maker with tb := { maker.tb with lcPre := [5, 5, 5, 5] } }), .spi, 3, 7, by decide +kernel⟩,
   ⟨(maker.setN 0x3000_02 7), .spi, 1, by decide +kernel⟩,
   ⟨(((((maker.setN 0x3001_01 28943333).setN (rangeKey 0 1) 868000).setN (rangeKey 0 2) 869000).setN (rangeKey 0 4) 100).setN 0x3010_02 0), .spi, 1, 0, by decide +kernel⟩⟩

theorem witness_SystemEntryWrites :
    (∃ (s : State) (who : Who) (x : Sess) (claim : List Byte), s.Inv ∧ s.writes who (0x1800_03) claim = true ∧ sessOf? who = some x ∧ uAt claim 0 1 = 0) ∧
    (∃ (s : State) (who : Who) (x : Sess) (claim : List Byte), s.Inv ∧ s.writes who (0x1800_03) claim = true ∧ sessOf? who = some x ∧ uAt claim 0 1 = 2 ∧ s.unprovisioned = true) ∧
    (∃ (s : State) (who : Who) (key : Fin 8) (value : List Byte), s.Inv ∧ s.writes who (keyEntry key) value = true ∧ key.val ≠ 5) ∧
    (∃ (s : State) (who : Who) (value : List Byte), s.Inv ∧ s.writes who (0x2720_01) value = true) ∧
    (∃ (s : State) (who : Who) (n : Fin 64) (value : BitVec 8), s.Inv ∧ s.writes who (0x1820_02 + 0x100 * n.val) (leBytes 1 value.toNat) = true) ∧
    (∃ (s : State) (who : Who) (note : List Byte), s.Inv ∧ s.writes who (0x1902_01) note = true ∧ s.nat 0x1900_01 + 1 < 2 ^ 32) ∧
    (∃ (s : State) (who : Who) (value : BitVec 32), s.Inv ∧ s.writes who (0x1900_02) (leBytes 4 value.toNat) = true) ∧
    (∃ (s : State) (who : Who), s.Inv ∧ s.writes who (0x1A10_01) [0x01] = true) ∧
    (∃ (s : State) (who : Who), s.Inv ∧ s.writes who (0x1A10_01) [0x02] = true) ∧
    (∃ (s : State) (who : Who), s.Inv ∧ s.writes who (0x1A10_01) [0x03] = true ∧ (s.image s.otherSlot).st = 2) ∧
    (∃ (s : State) (who : Who), s.Inv ∧ s.writes who (0x1A10_01) [0x04] = true) ∧
    (∃ (s : State) (who : Who), s.Inv ∧ s.writes who (0x1A10_01) [0x05] = true ∧ (s.image s.otherSlot).st = 2) ∧
    (∃ (s : State) (who : Who) (chunk : List Byte), s.Inv ∧ s.writes who (0x1A10_03) chunk = true) ∧
    (∃ (s : State) (who : Who) (value : BitVec 8), s.Inv ∧ s.writes who (0x1A20_02) (leBytes 1 value.toNat) = true) ∧
    (∃ (s : State) (who : Who) (value : BitVec 32), s.Inv ∧ s.writes who (0x1A40_01) (leBytes 4 value.toNat) = true) :=
  ⟨⟨maker, .spi, .spi, (zeroBytes 9), by decide +kernel⟩,
   ⟨on, .spi, .spi, (0x02 :: zeroBytes 8), by decide +kernel⟩,
   ⟨maker, .spi, 1, (List.replicate 16 1), by decide +kernel⟩,
   ⟨maker, .spi, ([1, 2, 3, 4]), by decide +kernel⟩,
   ⟨(({ maker with tidSeen := BitVec.allOnes 64 } : State).setN 0x185F_01 9), .spi, 63, 1, by decide +kernel⟩,
   ⟨(({ on with audit := [zeroBytes 32] } : State).setN 0x1900_01 1), .spi, (zeroBytes 12), by decide +kernel⟩,
   ⟨(({ maker with audit := [zeroBytes 32] } : State).setN 0x1900_01 1), .spi, 1, by decide +kernel⟩,
   ⟨maker, .spi, by decide +kernel⟩,
   ⟨maker, .spi, by decide +kernel⟩,
   ⟨({ maker with firmware := { maker.firmware with slots := [{ data := none, st := 2 }, { data := none, st := 2 }] } }), .spi, by decide +kernel⟩,
   ⟨(({ maker with firmware := { maker.firmware with tried := true } } : State).setB 0x1A10_07 true), .spi, by decide +kernel⟩,
   ⟨({ maker with firmware := { maker.firmware with slots := [{ data := none, st := 2 }, { data := none, st := 2 }] } }), .spi, by decide +kernel⟩,
   ⟨({ maker with firmware := { maker.firmware with slots := [{ data := none, st := 2 }, { data := some [9], st := 1 }] } }), .spi, ([1, 2, 3]), by decide +kernel⟩,
   ⟨maker, .spi, 1, by decide +kernel⟩,
   ⟨maker, .spi, 0x5CA47E57, by decide +kernel⟩⟩

theorem witness_ModeEntryWrites :
    (∃ (s : State) (who : Who) (value : BitVec 16), s.Inv ∧ s.writes who (0x3500_01) (leBytes 2 value.toNat) = true) ∧
    (∃ (s : State) (who : Who) (value : BitVec 32), s.Inv ∧ s.writes who (0x3802_01) (leBytes 4 value.toNat) = true) ∧
    (∃ (s : State) (who : Who) (value : BitVec 32), s.Inv ∧ s.writes who (0x3803_01) (leBytes 4 value.toNat) = true) ∧
    (∃ (s : State) (who : Who) (value : BitVec 8), s.Inv ∧ s.writes who (0x3800_03) (leBytes 1 value.toNat) = true ∧ value.toNat = 1 ∧ s.idle = false ∧ s.nat 0x3801_07 + 1 < 2 ^ 32) ∧
    (∃ (s : State) (who : Who) (value : BitVec 8), s.Inv ∧ s.writes who (0x3800_03) (leBytes 1 value.toNat) = true ∧ value.toNat = 1 ∧ s.idle = true ∧ s.power = .active) ∧
    (∃ (s : State) (who : Who) (e : Fin 96) (value : BitVec 8), s.Inv ∧ s.writes who (0x3610_01 + e.val) (leBytes 1 value.toNat) = true) ∧
    (∃ (s : State) (who : Who) (l : Fin 4) (value : BitVec 8), s.Inv ∧ s.writes who (0x3602_01 + l.val) (leBytes 1 value.toNat) = true) ∧
    (∃ (s : State) (who : Who) (n : Fin 16) (value : BitVec 16), s.Inv ∧ s.writes who (padKey n 4) (leBytes 1 value.toNat) = true ∧ value.toNat < 2) ∧
    (∃ (s : State) (who : Who) (value : BitVec 16), s.Inv ∧ s.writes who (0x3710_02) (leBytes 2 value.toNat) = true) ∧
    (∃ (s : State) (who : Who) (value : BitVec 8), s.Inv ∧ s.writes who (0x3800_03) (leBytes 1 value.toNat) = true ∧ value.toNat = 0) ∧
    (∃ (s : State) (who : Who) (n : Fin 16) (value : BitVec 8), s.Inv ∧ s.writes who (padKey n 1) (leBytes 1 value.toNat) = true) :=
  ⟨⟨maker, .spi, 0x3FF, by decide +kernel⟩,
   ⟨maker, .spi, 0x5E7A1C0D, by decide +kernel⟩,
   ⟨(maker.setN 0x2100_01 6000), .spi, 0xDEF00001, by decide +kernel⟩,
   ⟨maker, .spi, 1, by decide +kernel⟩,
   ⟨({ maker with now := 347136000000000 }), .spi, 1, by decide +kernel⟩,
   ⟨maker, .spi, 95, 0xFF, by decide +kernel⟩,
   ⟨maker, .spi, 3, 0xF1, by decide +kernel⟩,
   ⟨({ maker with pulses := maker.pulses.set 15 (some { t0 := 0, ms := 1, back := false }) }), .spi, 15, 1, by decide +kernel⟩,
   ⟨maker, .spi, 0xA5A5, by decide +kernel⟩,
   ⟨(maker.setN 0x3800_03 1), .spi, 0, by decide +kernel⟩,
   ⟨maker, .spi, 15, 1, by decide +kernel⟩⟩

theorem witness_SupplyStates :
    (∃ (s : State), s.Inv ∧ s.coreOn = true ∧ s.supply.source = .mains ∧ s.supply.mains = true ∧ s.supply.aux = true ∧ s.nat 0x2000_0E + 1 < 2 ^ 32) ∧
    (∃ (s : State), s.Inv ∧ s.coreOn = true ∧ s.supply.source = .mains ∧ s.supply.mains = true ∧ s.supply.aux = false) ∧
    (∃ (s : State) (aux : Bool), s.Inv ∧ s.coreOn = true ∧ s.supply.state = .rideThrough ∧ s.sourcePresent (if aux then .aux else .mains) = false) ∧
    (∃ (s : State), s.Inv ∧ s.coreOn = true ∧ s.supply.state = .normal ∧ s.supply.source = otherSource s.preferred ∧ s.sourcePresent s.preferred = true ∧ s.passedS (s.presentT0 s.preferred) 1 = true) ∧
    (∃ (s : State), s.Inv ∧ s.supply.state = .switchover) ∧
    (∃ (s : State) (mv : BitVec 16), s.Inv ∧ s.coreOn = true ∧ s.phase = .service ∧ s.supply.state = .normal ∧ s.supply.pwrGood = false ∧ s.storeMay mv.toNat = true ∧ 6000000000 ≤ storeE mv.toNat) ∧
    (∃ (s : State) (mv : BitVec 16), s.Inv ∧ s.phase = .service ∧ s.coreOn = true ∧ s.supply.pwrGood = true ∧ s.storeMay mv.toNat = true ∧ 4000000000 ≤ storeE mv.toNat ∧ s.supply.state = .normal) ∧
    (∃ (s : State), s.Inv ∧ s.phase ≠ .off ∧ s.supply.source = .store ∧ s.supply.energy ≤ 0) ∧
    (∃ (s : State), s.Inv ∧ s.supply.vout = .on) ∧
    (∃ (s : State) (low : Bool), s.Inv ∧ s.coreOn = true ∧ s.phase = .service ∧ s.supply.vout = .limiting ∧ s.passedMs s.supply.voutT0 100 = true ∧ s.nat 0x2001_05 + 1 < 2 ^ 32) ∧
    (∃ (s : State), s.Inv ∧ s.supply.vout = .fault ∧ s.passedS s.supply.voutT0 1 = true ∧ s.nat 0x2001_01 = 0) ∧
    (∃ (s : State), s.Inv ∧ s.phase = .service ∧ s.power = .active ∧ s.supply.vout = .fault ∧ s.passedS s.supply.voutT0 1 = true ∧ s.nat 0x2001_01 ≠ 0 ∧ s.held .vout = 0 ∧ s.claimOf .vout = none ∧ 0 < s.nat 0x2001_02 ∧ s.nat 0x2001_02 ≤ s.claimMax .vout) :=
  ⟨⟨({ on with supply := { on.supply with aux := true } }), by decide +kernel⟩,
   ⟨on, by decide +kernel⟩,
   ⟨({ on with supply := { source := .store, state := .rideThrough } }), true, by decide +kernel⟩,
   ⟨({ on with now := 34713600000, supply := { source := .aux, aux := true, mains := true } }), by decide +kernel⟩,
   ⟨({ on with supply := { on.supply with state := .switchover } }), by decide +kernel⟩,
   ⟨on, 20000, by decide +kernel⟩,
   ⟨({ on with supply := { on.supply with pwrGood := true } }), 18500, by decide +kernel⟩,
   ⟨({ on with supply := { source := .store, state := .rideThrough } }), by decide +kernel⟩,
   ⟨({ on with supply := { on.supply with vout := .on } }), by decide +kernel⟩,
   ⟨({ on with now := 3471360000, supply := { on.supply with vout := .limiting } }), false, by decide +kernel⟩,
   ⟨(({ on with now := 34713600000, supply := { on.supply with vout := .fault } } : State).setN 0x2001_01 0), by decide +kernel⟩,
   ⟨(({ on with now := 34713600000, supply := { on.supply with vout := .fault } } : State).setN 0x2001_01 1), by decide +kernel⟩⟩

theorem witness_HalyardServes :
    (∃ (s : State) (who : Fin 13) (mw : BitVec 16) (prio : Fin 8), s.Inv ∧ s.coreOn = true ∧ s.claimMax (claimantOf who) < s.held (claimantOf who) + (mw.toNat + 9) / 10 * 10 ∧ s.nat (0x2012_01 + (claimantOf who).cls) + 1 < 2 ^ 32) ∧
    (∃ (s : State) (who : Fin 13) (mw : BitVec 16) (prio : Fin 8), s.Inv ∧ s.coreOn = true ∧ s.held (claimantOf who) + (mw.toNat + 9) / 10 * 10 ≤ s.claimMax (claimantOf who) ∧ ((claimantOf who).isPl = true → s.noLine = false) ∧ s.hal.claims = []) ∧
    (∃ (s : State) (mw : Nat), s.Inv ∧ s.coreOn = true ∧ s.tickDue = true ∧ s.hal.claims = [{ who := .radio, mw := mw, prio := 0, t0 := s.now, deadline := none }] ∧ s.hal.held = [] ∧ s.supply.state = .normal ∧ s.power = .active ∧ s.radio.state ≠ .rx ∧ s.radio.state ≠ .tx ∧ s.radio.move = none ∧ s.radio.air = none ∧ s.radio.reversal = none ∧ s.radio.cur = none ∧ s.radio.held = none ∧ s.radio.test = none ∧ s.hal.bursts = [] ∧ s.flag 0x2010_02 = false ∧ s.int 0x2010_09 < 1250 ∧ 7500 ≤ s.nat 0x2010_07 ∧ 7500 ≤ 38 * s.storeFine / 100000000 ∧ s.coreReserve + mw ≤ 7500 ∧ 0 < mw) ∧
    (∃ (s : State) (who : Fin 13) (keep : BitVec 16), s.Inv ∧ s.coreOn = true ∧ keep.toNat < s.held (claimantOf who)) ∧
    (∃ (s : State) (input : BitVec 16) (m : Outputs), s.Inv ∧ s.coreOn = true ∧ s.passedMs s.hal.dissT0 1 = true ∧ 1250 ≤ s.hottest ∧ s.hal.held = []) ∧
    (∃ (s : State) (input : BitVec 16) (m : Outputs), s.Inv ∧ s.coreOn = true ∧ s.passedMs s.hal.dissT0 1 = true ∧ s.hottest ≤ 1000 ∧ s.hal.average (lossOf input m) ≤ 3200 ∧ s.nat 0x2010_07 = 7500) :=
  ⟨⟨on, 2, 60000, 0, by decide +kernel⟩,
   ⟨on, 10, 101, 7, by decide +kernel⟩,
   ⟨(({ on with now := 34713600, supply := { on.supply with energy := 30000000000 }, hal := { on.hal with claims := [{ who := .radio, mw := 500, prio := 0, t0 := 34713600, deadline := none }] } } : State).setB 0x2010_02 false), 500, by decide +kernel⟩,
   ⟨({ on with hal := { on.hal with held := [(.vout, 500)] } }), 12, 0, by decide +kernel⟩,
   ⟨(({ on with now := 347136000 } : State).setI 0x3501_06 1250), 7, default, by decide +kernel⟩,
   ⟨(({ on with now := 347136000 } : State).setI 0x3501_01 1000), 5000, ({ field := 1000, vout := 500, rf := 200, line := 100 }), by decide +kernel⟩⟩

theorem witness_PoolMovesBuntings :
    (∃ (s : State) (w : BitVec 32), s.Inv ∧ s.coreOn = true ∧ s.mayPush s.pushQ 0 = true ∧ s.openBytes s.pushQ 0 = none ∧ s.mayAllocate s.pushQ = true ∧ 1 ≤ s.nat (qKey s.pushQ 8)) ∧
    (∃ (s : State) (tail : Fin 4) (pop : Bool) (b : List Byte), s.Inv ∧ s.coreOn = true ∧ s.mayPush s.pushQ 0 = true ∧ s.openBytes s.pushQ 0 = some b ∧ (pop && !s.mayPop s.pushQ 0) = false ∧ (s.queue s.pushQ).items.length < s.nat (qKey s.pushQ 3)) ∧
    (∃ (s : State) (tail : Fin 4) (b : List Byte) (h : Bunting) (rest : List Bunting), s.Inv ∧ s.coreOn = true ∧ s.mayPush s.pushQ 0 = true ∧ s.openBytes s.pushQ 0 = some b ∧ s.mayPop s.pushQ 0 = false ∧ (s.queue s.pushQ).items = h :: rest ∧ rest.length < s.nat (qKey s.pushQ 3)) ∧
    (∃ (s : State), s.Inv ∧ s.coreOn = true ∧ s.mayPush s.pushQ 0 = true) ∧
    (∃ (s : State) (b : Bunting) (rest : List Bunting), s.Inv ∧ s.coreOn = true ∧ s.mayPop s.popQ 0 = true ∧ (s.queue s.popQ).current = none ∧ (s.queue s.popQ).items = b :: rest ∧ b.corrupt = false) ∧
    (∃ (s : State) (b : Bunting), s.Inv ∧ s.coreOn = true ∧ (s.queue s.popQ).current = some b ∧ s.nat (qKey s.popQ 15) + 1 < 2 ^ 32) ∧
    (∃ (s : State) (q : Fin 32) (who : Fin 8) (data : List Byte), s.Inv ∧ s.coreOn = true ∧ s.mayPush q who = true ∧ s.openBytes q who = none ∧ data ≠ [] ∧ data.length ≤ 128 ∧ s.mayAllocate q = true ∧ 1 ≤ s.nat (qKey q 8) ∧ (s.queue q).items.length < s.nat (qKey q 3)) ∧
    (∃ (s : State) (q : Fin 32) (who : Fin 8) (data : List Byte), s.Inv ∧ s.coreOn = true ∧ s.mayPush q who = true ∧ s.openBytes q who = none ∧ data ≠ [] ∧ data.length ≤ 128 ∧ s.mayAllocate q = true ∧ 1 ≤ s.nat (qKey q 8) ∧ s.nat (qKey q 3) ≤ (s.queue q).items.length ∧ s.nat (qKey q 13) + 1 < 2 ^ 32) ∧
    (∃ (s : State) (q : Fin 32) (who : Fin 8), s.Inv ∧ s.coreOn = true ∧ s.mayPop q who = false ∧ s.nat 0x2900_08 + 1 < 2 ^ 32) ∧
    (∃ (s : State) (q : Fin 32) (who : Fin 8) (b : Bunting) (rest : List Bunting), s.Inv ∧ s.coreOn = true ∧ s.mayPop q who = true ∧ s.mayPop q 0 = false ∧ (s.queue q).items = b :: rest ∧ b.corrupt = false) ∧
    (∃ (s : State) (q : Fin 32) (who : Fin 8) (b : Bunting) (rest : List Bunting), s.Inv ∧ s.coreOn = true ∧ s.mayPop q who = true ∧ s.mayPop q 0 = true ∧ (s.queue q).current = none ∧ (s.queue q).items = b :: rest ∧ b.corrupt = false) ∧
    (∃ (s : State), s.Inv ∧ s.coreOn = true) :=
  ⟨⟨on, 0x12345678, by decide +kernel⟩,
   ⟨({ on with pool := { on.pool with queues := on.pool.queues.set 0 { opens := [(0, [1, 2, 3, 4])] } } }), 3, false, ([1, 2, 3, 4]), by decide +kernel⟩,
   ⟨({ on with pool := { on.pool with queues := on.pool.queues.set 0 { opens := [(0, [1, 2, 3, 4])], items := [{ data := [9], producer := 0, stamp := 0, key := 0 }] } } }), 0, ([1, 2, 3, 4]), ({ data := [9], producer := 0, stamp := 0, key := 0 }), [], by decide +kernel⟩,
   ⟨({ on with pool := { on.pool with queues := on.pool.queues.set 0 { opens := [(0, [1, 2, 3, 4])] } } }), by decide +kernel⟩,
   ⟨({ on with pool := { on.pool with queues := on.pool.queues.set 1 { items := [{ data := [1], producer := 5, stamp := 0, key := 0 }] } } }), ({ data := [1], producer := 5, stamp := 0, key := 0 }), [], by decide +kernel⟩,
   ⟨({ on with pool := { on.pool with queues := on.pool.queues.set 1 { current := some { data := [1], producer := 5, stamp := 0, key := 0 } } } }), ({ data := [1], producer := 5, stamp := 0, key := 0 }), by decide +kernel⟩,
   ⟨on, 31, 0, [7], by decide +kernel⟩,
   ⟨(on.setN (qKey 31 3) 0), 31, 0, [7], by decide +kernel⟩,
   ⟨on, 31, 1, by decide +kernel⟩,
   ⟨({ on with pool := { on.pool with queues := on.pool.queues.set 5 { items := [{ data := [1], producer := 5, stamp := 0, key := 0 }] } } }), 5, 3, ({ data := [1], producer := 5, stamp := 0, key := 0 }), [], by decide +kernel⟩,
   ⟨({ on with pool := { on.pool with queues := on.pool.queues.set 9 { items := [{ data := [1], producer := 5, stamp := 0, key := 0 }] } } }), 9, 0, ({ data := [1], producer := 5, stamp := 0, key := 0 }), [], by decide +kernel⟩,
   ⟨on, by decide +kernel⟩⟩

theorem witness_TimeBaseRuns :
    (∃ (s : State), s.Inv ∧ s.coreOn = true ∧ s.tb.tb = BitVec.allOnes 48 ∧ s.frozen = false) ∧
    (∃ (s : State) (sess : Sess), s.Inv ∧ s.coreOn = true) ∧
    (∃ (s : State), s.Inv ∧ s.coreOn = true ∧ s.tb.secTicks = 27_119_999 ∧ s.nat 0x2A01_01 + 1 < 2 ^ 32) ∧
    (∃ (s : State) (n : Fin 16), s.Inv ∧ s.coreOn = true ∧ s.cmpDue n = true ∧ s.bit (cmpKey n 1) 2 = false ∧ s.nat (cmpKey n 5) + 1 < 2 ^ 32) ∧
    (∃ (s : State) (n : Fin 16), s.Inv ∧ s.coreOn = true ∧ s.cmpDue n = true ∧ s.bit (cmpKey n 1) 2 = true ∧ s.nat (cmpKey n 3) ≠ 0 ∧ s.nat (cmpKey n 3) < 2 ^ 47 ∧ s.nat (cmpKey n 2) < 2 ^ 48) ∧
    (∃ (s : State) (c : Fin 8) (rising : Bool) (off : Fin 3), s.Inv ∧ s.coreOn = true ∧ s.capTakes c rising = true ∧ s.nat (capKey c 1) ≤ 17 ∧ s.bit (capKey c 4) 0 = false ∧ s.nat (capKey c 5) + 1 < 2 ^ 32) ∧
    (∃ (s : State) (c : Fin 8) (rising : Bool) (off : Fin 3), s.Inv ∧ s.coreOn = true ∧ s.capTakes c rising = true ∧ s.nat (capKey c 1) ≤ 17 ∧ s.bit (capKey c 4) 0 = true ∧ s.tb.capHeld = []) ∧
    (∃ (s : State) (who : Who) (c : Fin 8), s.Inv ∧ s.phase = .service ∧ s.serves who = true ∧ s.halted = false ∧ s.tb.capHeld.find? (fun x => x.1 = c.val) = none ∧ s.tb.capOld.find? (fun x => x.1 = c.val) = none) ∧
    (∃ (s : State) (who : Who) (c : Fin 8) (x : Nat × Nat), s.Inv ∧ s.phase = .service ∧ s.serves who = true ∧ s.halted = false ∧ s.tb.capHeld.find? (fun x => x.1 = c.val) = some x) ∧
    (∃ (s : State) (i : Fin 4), s.Inv ∧ s.coreOn = true ∧ s.lcDue i = true ∧ s.tb.lcLoaded.getLsbD i = false ∧ s.nat (lcKey i 3) = 0xFFFF ∧ s.frozen = false) ∧
    (∃ (s : State) (who : Who), s.Inv ∧ s.phase = .service ∧ s.serves who = true ∧ s.halted = false) ∧
    (∃ (s : State), s.Inv ∧ s.coreOn = true) :=
  ⟨⟨({ on with tb := { on.tb with tb := BitVec.allOnes 48, epoch := 0xFFFF } }), by decide +kernel⟩,
   ⟨on, .uart, by decide +kernel⟩,
   ⟨({ on with tb := { on.tb with secTicks := 27119999 } }), by decide +kernel⟩,
   ⟨(((({ on with tb := { on.tb with tb := 100 } } : State).setN (cmpKey 15 1) 3).setN (cmpKey 15 2) 100).setN (cmpKey 15 4) 1), 15, by decide +kernel⟩,
   ⟨((((({ on with tb := { on.tb with tb := 100 } } : State).setN (cmpKey 0 1) 5).setN (cmpKey 0 2) 100).setN (cmpKey 0 3) 10).setN (cmpKey 0 4) 1), 0, by decide +kernel⟩,
   ⟨((on.setN (capKey 7 1) 1).setN (capKey 7 2) 3), 7, false, 0, by decide +kernel⟩,
   ⟨(((on.setN (capKey 7 1) 17).setN (capKey 7 2) 3).setN (capKey 7 4) 1), 7, true, 2, by decide +kernel⟩,
   ⟨(((on.setN (capKey 7 3) 99).setN (capKey 7 4) 1)), .spi, 7, by decide +kernel⟩,
   ⟨((({ on with tb := { on.tb with capHeld := [(7, 5)] } } : State).setN (capKey 7 3) 99).setN (capKey 7 4) 1), .spi, 7, ((7, 5)), by decide +kernel⟩,
   ⟨((on.setN (lcKey 3 1) 3).setN (lcKey 3 3) 0xFFFF), 3, by decide +kernel⟩,
   ⟨({ on with ma := { on.ma with cycle := 0xFFFF } }), .spi, by decide +kernel⟩,
   ⟨({ on with ma := { on.ma with stepped := true } }), by decide +kernel⟩⟩

theorem witness_RadioMovesAndSends :
    (∃ (s : State) (m : RadioMove), s.Inv ∧ s.coreOn = true ∧ s.radio.move = some m ∧ m.t0 + m.dur ≤ s.now ∧ m.ramp = false ∧ m.no ≠ 13 ∧ m.no ≠ 2 ∧ m.no ≠ 9 ∧ m.dest = .standby ∧ s.radio.goal = .standby ∧ s.radio.cur = none ∧ s.radio.held = none ∧ s.radio.test = none ∧ s.radio.air = none ∧ s.radio.rx = none ∧ s.radio.reversal = none ∧ s.link.wakeHold = none) ∧
    (∃ (s : State) (m : RadioMove) (f : RadioFrame), s.Inv ∧ s.coreOn = true ∧ s.radio.move = some m ∧ m.t0 + m.dur ≤ s.now ∧ m.ramp = false ∧ m.no ≠ 13 ∧ m.dest = .tx ∧ m.timed = false ∧ s.radio.cur = some f ∧ s.radio.test = none) ∧
    (∃ (s : State) (b : Bunting), s.Inv ∧ s.coreOn = true ∧ (s.queue 5).items = [b] ∧ b.corrupt = false ∧ s.radioReady = true ∧ ((s.pop 5).1.radioFrame b).timed = false ∧ (s.pop 5).1.frameRefused ((s.pop 5).1.radioFrame b) = none ∧ s.radio.state = .sleep ∧ s.radio.move = none ∧ s.radio.held = none ∧ s.radio.rx = none ∧ s.radio.reversal = none) ∧
    (∃ (s : State) (f : RadioFrame), s.Inv ∧ s.coreOn = true ∧ s.radio.held = some f ∧ s.heldMay = true) ∧
    (∃ (s : State) (m : RadioMove) (f : RadioFrame), s.Inv ∧ s.coreOn = true ∧ s.radio.move = some m ∧ m.timed = true ∧ m.t0 + m.dur ≤ s.now ∧ m.ramp = false ∧ m.no ≠ 13 ∧ m.dest = .tx ∧ s.radio.held = some f ∧ s.radio.test = none) ∧
    (∃ (s : State) (f : RadioFrame), s.Inv ∧ s.coreOn = true ∧ s.radio.held = some f ∧ s.radio.later = [] ∧ s.timedMissed f = true ∧ s.link.msgs = [] ∧ s.nat 0x3020_03 + 1 < 2 ^ 32) ∧
    (∃ (s : State) (f : RadioFrame) (t0 dur : Nat), s.Inv ∧ s.coreOn = true ∧ s.radio.air = some (f, t0, dur) ∧ t0 + dur ≤ s.now ∧ s.link.msgs = [] ∧ s.radio.cur = none ∧ (s.queue 5).items = [] ∧ s.nat 0x3020_01 + 1 < 2 ^ 32) ∧
    (∃ (s : State), s.Inv ∧ s.coreOn = true ∧ s.synthCalReady = true) ∧
    (∃ (s : State), s.Inv ∧ s.coreOn = true ∧ s.radio.state = .rx ∧ s.radio.air = none ∧ s.radio.cur = none ∧ s.nat 0x3020_09 + 1 < 2 ^ 32) :=
  ⟨⟨({ on with radio := { on.radio with move := some { no := 1, dest := .standby, t0 := 0, dur := 0 }, goal := .standby } }), ({ no := 1, dest := .standby, t0 := 0, dur := 0 }), by decide +kernel⟩,
   ⟨({ on with radio := { on.radio with state := .synth, move := some { no := 4, dest := .tx, t0 := 0, dur := 0 }, cur := some { key := 7, psdu := [1], node := 1, channel := 0, granted := some 0, rate := 1, coding := 1 } } }), ({ no := 4, dest := .tx, t0 := 0, dur := 0 }), ({ key := 7, psdu := [1], node := 1, channel := 0, granted := some 0, rate := 1, coding := 1 }), by decide +kernel⟩,
   ⟨(((((({ on with pool := { on.pool with queues := on.pool.queues.set 5 { items := [{ data := zeroBytes 12 ++ [1, 0, 0, 0, 9], producer := 5, stamp := 0, key := 0 }] } } } : State).setN 0x3001_01 28943333).setN (rangeKey 0 1) 868000).setN (rangeKey 0 2) 869000).setN (rangeKey 0 4) 100).setN 0x3010_02 0), ({ data := zeroBytes 12 ++ [1, 0, 0, 0, 9], producer := 5, stamp := 0, key := 0 }), by decide +kernel⟩,
   ⟨({ on with now := 34713600, radio := { on.radio with state := .rx, rx := some { t0 := 0, aerial := 1, rssi := -900 }, held := some { key := 7, psdu := [1], node := 1, channel := 0, granted := some 0, rate := 1, coding := 1 } } }), ({ key := 7, psdu := [1], node := 1, channel := 0, granted := some 0, rate := 1, coding := 1 }), by decide +kernel⟩,
   ⟨({ on with now := 34713600, radio := { on.radio with state := .synth, move := some { no := 4, dest := .tx, t0 := 0, dur := 624845, timed := true }, held := some { key := 7, psdu := [1], node := 1, channel := 0, granted := some 0, rate := 1, coding := 1 } } }), ({ no := 4, dest := .tx, t0 := 0, dur := 624845, timed := true }), ({ key := 7, psdu := [1], node := 1, channel := 0, granted := some 0, rate := 1, coding := 1 }), by decide +kernel⟩,
   ⟨({ on with tb := { on.tb with tb := 100000 }, radio := { on.radio with state := .synth, held := some { key := 7, psdu := [1], node := 1, timed := true, start := 1000, late := 1 } } }), ({ key := 7, psdu := [1], node := 1, timed := true, start := 1000, late := 1 }), by decide +kernel⟩,
   ⟨({ on with radio := { on.radio with state := .tx, air := some ({ key := 7, psdu := [1], node := 1, channel := 0, granted := some 0, rate := 1, coding := 1 }, 0, 0) } }), ({ key := 7, psdu := [1], node := 1, channel := 0, granted := some 0, rate := 1, coding := 1 }), 0, 0, by decide +kernel⟩,
   ⟨(({ on with radio := { on.radio with state := .standby } } : State).setN 0x3500_01 256), by decide +kernel⟩,
   ⟨({ on with radio := { on.radio with state := .rx, rxT0 := some 0, goal := .rx } }), by decide +kernel⟩⟩

theorem witness_RadioReceives :
    (∃ (s : State) (a1 b1 a2 b2 : BitVec 16) (early : Option Bool) (rssi : BitVec 16) (rate : BitVec 8), s.Inv ∧ s.coreOn = true ∧ s.rxListening = true ∧ s.radio.rx = none ∧ s.radio.sniff = none ∧ rate.toInt.natAbs ≤ 20 ∧ s.radio.rxPin = none ∧ s.nat 0x3000_06 ≠ 0) ∧
    (∃ (s : State) (a1 b1 a2 b2 : BitVec 16) (early : Option Bool) (rssi : BitVec 16) (rate : BitVec 8) (mean : BitVec 16), s.Inv ∧ s.coreOn = true ∧ s.rxListening = true ∧ s.captures mean.toInt rssi.toInt = true ∧ s.radio.sniff = none ∧ rate.toInt.natAbs ≤ 20 ∧ s.radio.rxPin = none ∧ s.nat 0x3000_06 ≠ 0 ∧ s.nat 0x3020_07 + 1 < 2 ^ 32) ∧
    (∃ (s : State) (r : RadioRx) (sync : BitVec 32) (header payload : List (BitVec 4)) (ago : BitVec 32) (off : Fin 5) (rssi freq : BitVec 16) (quality rate : BitVec 8) (heard : Bool), s.Inv ∧ s.coreOn = true ∧ s.radio.rx = some r ∧ syncFound r.sync r.tol sync = false ∧ s.radio.cur = none ∧ s.radio.held = none) ∧
    (∃ (s : State) (r : RadioRx) (sync : BitVec 32) (header payload : List (BitVec 4)) (ago : BitVec 32) (off : Fin 5) (rssi freq : BitVec 16) (quality rate : BitVec 8) (heard : Bool), s.Inv ∧ s.coreOn = true ∧ s.radio.rx = some r ∧ syncFound r.sync r.tol sync = true ∧ s.radio.cur = none ∧ s.radio.held = none ∧ checkHeader (headerDecode header) = .bad ∧ s.nat 0x3160_02 + 1 < 2 ^ 32) ∧
    (∃ (s : State) (r : RadioRx) (sync : BitVec 32) (header payload : List (BitVec 4)) (psdu : List Byte) (m : RfMode) (len : Nat) (ago : BitVec 32) (off : Fin 5) (rssi freq : BitVec 16) (quality rate : BitVec 8) (heard : Bool), s.Inv ∧ s.coreOn = true ∧ s.radio.rx = some r ∧ syncFound r.sync r.tol sync = true ∧ checkHeader (headerDecode header) = .good m len ∧ rate.toInt.natAbs ≤ 20 ∧ checkPayload len (payloadDecode m len r.iterMax payload).bits = some psdu ∧ psdu.length ≤ 112 ∧ s.openBytes 7 3 = none ∧ s.mayAllocate 7 = true ∧ 1 ≤ s.nat (qKey 7 8) ∧ (s.queue 7).items.length < s.nat (qKey 7 3)) ∧
    (∃ (s : State), s.Inv ∧ s.coreOn = true ∧ s.sniffDue = true ∧ s.radio.state = .sleep ∧ s.radio.move = none ∧ s.radio.air = none ∧ s.radio.rx = none ∧ s.radio.reversal = none ∧ s.radio.test = none ∧ s.radio.cur = none ∧ s.radio.held = none) ∧
    (∃ (s : State) (t0 : Nat), s.Inv ∧ s.coreOn = true ∧ s.radio.sniff = some t0 ∧ s.rxListening = true ∧ s.radio.rx = none ∧ s.passedUs t0 (s.nat 0x3000_0B) = true ∧ s.power = .networked ∧ s.link.wakeHold = none ∧ s.radio.air = none ∧ s.radio.cur = none ∧ s.radio.held = none ∧ s.radio.reversal = none) ∧
    (∃ (s : State), s.Inv ∧ s.coreOn = true ∧ s.radio.binS + 60 ≤ s.nat 0x2A01_01) ∧
    (∃ (s : State) (x : RadioTest), s.Inv ∧ s.coreOn = true ∧ s.radio.test = some x ∧ x.on = true ∧ quantaSecond * s.nat 0x3000_0E ≤ x.spent + (s.now - x.t0)) ∧
    (∃ (s : State) (a b : BitVec 16), s.Inv ∧ s.coreOn = true ∧ s.rxListening = true ∧ s.radio.rx = none ∧ usQuanta (1000 * s.nat 0x3100_09) ≤ s.rxSpent ∧ usQuanta 1000 ≤ s.radio.quiet + s.sinceOpt s.radio.quietT0) ∧
    (∃ (s : State) (n : Fin 64) (x : Nat), s.Inv ∧ s.coreOn = true ∧ s.nat (radioKey (n.val + 1) 2) = 0 ∧ s.nat (radioKey (n.val + 1) 3) = 2 ∧ s.radio.ldpcT0.getD n none = some x ∧ x + s.nat 0x3100_08 ≤ s.nat 0x2A01_01 ∧ s.radio.ldpcT0.length = 64) :=
  ⟨⟨(({ on with radio := { on.radio with state := .rx, rxT0 := some 0, goal := .rx } } : State).setN 0x3000_06 2), 0, 0, 0, 0, none, 0xFC18, 20, by decide +kernel⟩,
   ⟨(({ on with radio := { on.radio with state := .rx, rx := some { t0 := 0, aerial := 1, rssi := -900 } } } : State).setN 0x3000_06 2), 0, 0, 0, 0, none, 0, 0, 0xF000, by decide +kernel⟩,
   ⟨({ on with radio := { on.radio with state := .rx, rx := some { t0 := 0, aerial := 1, rssi := -900 } } }), ({ t0 := 0, aerial := 1, rssi := -900 }), 0, [], [], 0, 0, 0, 0, 0, 0, true, by decide +kernel⟩,
   ⟨({ on with radio := { on.radio with state := .rx, rx := some { t0 := 0, aerial := 1, rssi := -900 } } }), ({ t0 := 0, aerial := 1, rssi := -900 }), 0x7A0E93D5, [], [], 0, 0, 0, 0, 0, 0, true, by decide +kernel⟩,
   ⟨({ on with radio := { on.radio with state := .rx, rx := some { t0 := 0, aerial := 1, rssi := -900 } } }), ({ t0 := 0, aerial := 1, rssi := -900 }), 0x7A0E93D5, (headerSoft ⟨1, 0⟩ [1, 2]), (payloadSoft ⟨1, 0⟩ [1, 2]), ([1, 2]), (⟨1, 0⟩), 2, 0, 4, 0xFC18, 0, 0, 0, false, by decide +kernel⟩,
   ⟨({ on with power := .networked, now := 347136000000000 }), by decide +kernel⟩,
   ⟨({ on with power := .networked, now := 347136000000, radio := { on.radio with state := .rx, sniff := some 0 } }), 0, by decide +kernel⟩,
   ⟨(on.setN 0x2A01_01 60), by decide +kernel⟩,
   ⟨(({ on with now := 3471360000000000, radio := { on.radio with state := .tx, test := some { mode := 1, on := true } } } : State).setN 0x3000_0C 1), ({ mode := 1, on := true }), by decide +kernel⟩,
   ⟨({ on with now := 3471360000000, radio := { on.radio with state := .rx, rxT0 := some 0, quietT0 := some 0 } }), 0xFC18, 0xFC18, by decide +kernel⟩,
   ⟨((({ on with radio := { on.radio with ldpcT0 := on.radio.ldpcT0.set 63 (some 0) } } : State).setN (radioKey 64 3) 2).setN 0x2A01_01 100000), 63, 0, by decide +kernel⟩⟩

theorem witness_PowerlineSends :
    (∃ (s : State) (b : Bunting), s.Inv ∧ s.coreOn = true ∧ (s.queue 6).items = [b] ∧ b.corrupt = false ∧ (plFrameOf b).timed = false ∧ (s.pop 6).1.plBarred (plFrameOf b) = none ∧ s.pl.cur = none ∧ s.pl.reports = [] ∧ s.pl.rx ≠ none ∧ s.power ≠ .deep) ∧
    (∃ (s : State) (b : Bunting), s.Inv ∧ s.coreOn = true ∧ (s.queue 6).items = [b] ∧ b.corrupt = false ∧ (plFrameOf b).timed = true ∧ (s.pop 6).1.plBarred (plFrameOf b) = none ∧ s.pl.held = none ∧ s.pl.cur = none ∧ s.power ≠ .deep) ∧
    (∃ (s : State) (f : PlFrame) (sl : PlSlots), s.Inv ∧ s.coreOn = true ∧ s.pl.cur = some f ∧ s.pl.reports = [] ∧ (s.queue 6).items = [] ∧ s.plReady = true ∧ s.plHeldClaims f = false ∧ s.plBarred f = none ∧ s.plClaim ≤ s.held f.who ∧ s.plSlots s.band (s.plMap f) f.psdu.length s.angle = some sl ∧ s.power ≠ .deep) ∧
    (∃ (s : State) (f : PlFrame) (sl : PlSlots), s.Inv ∧ s.coreOn = true ∧ s.pl.held = some f ∧ s.pl.rx = none ∧ s.ticksTo f.start ≤ 0 ∧ 0 ≤ s.ticksTo f.start + (f.late * 2712 / 100 : Nat) ∧ s.plClaim ≤ s.held f.who ∧ s.plMayStart = true ∧ s.plSlots s.band (s.plMap f) f.psdu.length s.angle = some sl ∧ s.plBarred f = none) ∧
    (∃ (s : State) (f : PlFrame), s.Inv ∧ s.coreOn = true ∧ s.pl.held = some f ∧ f.key = none ∧ s.ticksTo f.start + (f.late * 2712 / 100 : Nat) < 0 ∧ s.nat 0x3220_05 + 1 < 2 ^ 32) ∧
    (∃ (s : State) (f : PlFrame) (t0 dur : Nat), s.Inv ∧ s.coreOn = true ∧ s.pl.air = some (f, t0, dur) ∧ t0 + dur ≤ s.now ∧ f.key = none ∧ f.claimed = true ∧ f.report = false ∧ s.nat 0x3220_01 + 1 < 2 ^ 32 ∧ s.nat 0x3220_09 + (s.pl.slots.filter (·.isNone)).length < 2 ^ 32) ∧
    (∃ (s : State) (n : Fin 64), s.Inv ∧ s.coreOn = true ∧ s.mapDue (n.val + 1) = true) ∧
    (∃ (s : State) (vrms : BitVec 16), s.Inv ∧ s.coreOn = true ∧ vrms.toNat < 750 ∧ s.nat 0x3200_0B = 1 ∧ s.pl.air = none ∧ s.pl.cur = none ∧ s.pl.held = none) ∧
    (∃ (s : State) (vrms : BitVec 16) (f : PlFrame) (t0 dur : Nat), s.Inv ∧ s.coreOn = true ∧ vrms.toNat < 750 ∧ s.nat 0x3200_0B = 1 ∧ s.pl.air = some (f, t0, dur) ∧ f.key = none ∧ s.pl.cur = none ∧ s.pl.held = none ∧ s.nat 0x3220_06 + 1 < 2 ^ 32) ∧
    (∃ (s : State) (vrms : BitVec 16), s.Inv ∧ s.coreOn = true ∧ 750 ≤ vrms.toNat ∧ s.nat 0x3200_0B = 0) ∧
    (∃ (s : State), s.Inv ∧ s.coreOn = true ∧ s.plCalReady = true) :=
  ⟨⟨(((({ on with pl := { on.pl with rx := some 5 }, pool := { on.pool with queues := on.pool.queues.set 6 { items := [{ data := zeroBytes 12 ++ [1, 0, 0, 0, 9], producer := 5, stamp := 0, key := 0 }] } } } : State).setN 0x3200_01 1).setN 0x3200_0B 1)), ({ data := zeroBytes 12 ++ [1, 0, 0, 0, 9], producer := 5, stamp := 0, key := 0 }), by decide +kernel⟩,
   ⟨(((({ on with pool := { on.pool with queues := on.pool.queues.set 6 { items := [{ data := [1] ++ zeroBytes 11 ++ [1, 0, 0, 0, 9], producer := 5, stamp := 0, key := 0 }] } } } : State).setN 0x3200_01 1).setN 0x3200_0B 1)), ({ data := [1] ++ zeroBytes 11 ++ [1, 0, 0, 0, 9], producer := 5, stamp := 0, key := 0 }), by decide +kernel⟩,
   ⟨({ (((((({ on with now := 34713600000, ma := { on.ma with state := .locked, judged := false, acc := maCycle / 4, burgee := on.ma.burgee.set 0 { openAt := some 0, openLen := 60000 } } } : State).setN 0x3200_01 1).setN 0x3200_0B 1).setN 0x3201_03 0).setN 0x3500_06 0) : State) with pl := { on.pl with cur := some { key := none, psdu := [1, 2], node := 2 } }, hal := { on.hal with held := [(.powerline, 900)] } }), ({ key := none, psdu := [1, 2], node := 2 }), (List.replicate 4 (some (List.replicate 27 1))), by decide +kernel⟩,
   ⟨({ (((((({ on with now := 34713600000, ma := { on.ma with state := .locked, judged := false, acc := maCycle / 4, burgee := on.ma.burgee.set 0 { openAt := some 0, openLen := 60000 } } } : State).setN 0x3200_01 1).setN 0x3200_0B 1).setN 0x3201_03 0).setN 0x3500_06 0) : State) with pl := { on.pl with held := some { key := none, psdu := [1, 2], node := 2 } }, hal := { on.hal with held := [(.powerline, 900)] } }), ({ key := none, psdu := [1, 2], node := 2 }), (List.replicate 4 (some (List.replicate 27 1))), by decide +kernel⟩,
   ⟨({ on with tb := { on.tb with tb := 100000 }, pl := { on.pl with held := some { key := none, psdu := [1], start := 1000, late := 1 } } }), ({ key := none, psdu := [1], start := 1000, late := 1 }), by decide +kernel⟩,
   ⟨({ on with pl := { on.pl with air := some ({ key := none, psdu := [1, 2], node := 2, claimed := true }, 0, 0), slots := [none, some []] }, hal := { on.hal with held := [(.powerline, 900)] } }), ({ key := none, psdu := [1, 2], node := 2, claimed := true }), 0, 0, by decide +kernel⟩,
   ⟨({ (((((({ on with now := 34713600000, ma := { on.ma with state := .locked, judged := false, acc := maCycle / 4, burgee := on.ma.burgee.set 0 { openAt := some 0, openLen := 60000 } } } : State).setN 0x3200_01 1).setN 0x3200_0B 1).setN 0x3201_03 0).setN 0x3500_06 0) : State) with pl := { on.pl with peers := on.pl.peers.set 63 { frames := 4, diffs := [10, 20] } } }), 63, by decide +kernel⟩,
   ⟨(((((({ on with now := 34713600000, ma := { on.ma with state := .locked, judged := false, acc := maCycle / 4, burgee := on.ma.burgee.set 0 { openAt := some 0, openLen := 60000 } } } : State).setN 0x3200_01 1).setN 0x3200_0B 1).setN 0x3201_03 0).setN 0x3500_06 0)), 749, by decide +kernel⟩,
   ⟨({ ((((({ on with now := 34713600000, ma := { on.ma with state := .locked, judged := false, acc := maCycle / 4, burgee := on.ma.burgee.set 0 { openAt := some 0, openLen := 60000 } } } : State).setN 0x3200_01 1).setN 0x3200_0B 1).setN 0x3201_03 0).setN 0x3500_06 0) with pl := { on.pl with air := some ({ key := none, psdu := [1, 2], node := 2, claimed := true }, 0, 0) } }), 749, ({ key := none, psdu := [1, 2], node := 2, claimed := true }), 0, 0, by decide +kernel⟩,
   ⟨on, 750, by decide +kernel⟩,
   ⟨((((((({ on with now := 34713600000, ma := { on.ma with state := .locked, judged := false, acc := maCycle / 4, burgee := on.ma.burgee.set 0 { openAt := some 0, openLen := 60000 } } } : State).setN 0x3200_01 1).setN 0x3200_0B 1).setN 0x3201_03 0).setN 0x3500_06 0)).setN 0x3500_01 512), by decide +kernel⟩⟩

theorem witness_PowerlineReceives :
    (∃ (s : State) (ago : BitVec 32), s.Inv ∧ s.plListening = true ∧ s.pl.rx = none) ∧
    (∃ (s : State) (stamp : Nat) (header : BitVec 64) (data : List Byte) (pilots : List (BitVec 16)) (mean level : BitVec 16) (snr : BitVec 8) (signal : List Byte) (angle : BitVec 16), s.Inv ∧ s.coreOn = true ∧ s.pl.rx = some stamp ∧ plCheck header.toNat = none ∧ s.nat 0x3220_03 + 1 < 2 ^ 32) ∧
    (∃ (s : State) (stamp : Nat) (h : PlHead) (header : BitVec 64) (data : List Byte) (pilots : List (BitVec 16)) (mean level : BitVec 16) (snr : BitVec 8) (signal : List Byte) (angle : BitVec 16), s.Inv ∧ s.coreOn = true ∧ s.pl.rx = some stamp ∧ plCheck header.toNat = some h ∧ h.map ≠ 0 ∧ h.dst ≠ s.ownNode) ∧
    (∃ (s : State) (stamp : Nat) (h : PlHead) (psdu : List Byte) (header : BitVec 64) (data : List Byte) (pilots : List (BitVec 16)) (mean level : BitVec 16) (snr : BitVec 8) (signal : List Byte) (angle : BitVec 16), s.Inv ∧ s.coreOn = true ∧ s.pl.rx = some stamp ∧ plCheck header.toNat = some h ∧ h.map = 0 ∧ h.type = 0 ∧ nullRun 0 (pilots.map fun e => decide (8 * e.toNat < mean.toNat)) = false ∧ checkPayload h.len (bitsLsb data) = some psdu ∧ psdu.length ≤ 112 ∧ s.openBytes 8 4 = none ∧ s.mayAllocate 8 = true ∧ 1 ≤ s.nat (qKey 8 8) ∧ (s.queue 8).items.length < s.nat (qKey 8 3) ∧ s.nat 0x3220_02 + 1 < 2 ^ 32) ∧
    (∃ (s : State) (levels : List Byte), s.Inv ∧ s.plListening = true ∧ s.pl.rx = none ∧ s.ma.state = .locked ∧ s.passedMs s.pl.noiseT0 (s.nat 0x3200_0A) = true ∧ s.pl.noise.length = 6) :=
  ⟨⟨(((((({ on with now := 34713600000, ma := { on.ma with state := .locked, judged := false, acc := maCycle / 4, burgee := on.ma.burgee.set 0 { openAt := some 0, openLen := 60000 } } } : State).setN 0x3200_01 1).setN 0x3200_0B 1).setN 0x3201_03 0).setN 0x3500_06 0)), 0, by decide +kernel⟩,
   ⟨({ on with pl := { on.pl with rx := some 9 } }), 9, 1, [], [], 0, 0, 0, [], 0, by decide +kernel⟩,
   ⟨({ on with pl := { on.pl with rx := some 9 } }), 9, ((plCheck (plHeader 2 0 3 0 0 0 8)).get!), (BitVec.ofNat 64 (plHeader 2 0 3 0 0 0 8)), [], [], 0, 0, 0, [], 0, by decide +kernel⟩,
   ⟨({ on with pl := { on.pl with rx := some 9 } }), 9, ((plCheck (plHeader 2 0 0 4 0 0 0)).get!), ([1, 2]), (BitVec.ofNat 64 (plHeader 2 0 0 4 0 0 0)), (bytesOfBits (whiten (bitsLsb (withCrc [1, 2])))), [], 0, 0, 0, (List.replicate 72 9), 0, by decide +kernel⟩,
   ⟨(((((({ on with now := 34713600000, ma := { on.ma with state := .locked, judged := false, acc := maCycle / 4, burgee := on.ma.burgee.set 0 { openAt := some 0, openLen := 60000 } } } : State).setN 0x3200_01 1).setN 0x3200_0B 1).setN 0x3201_03 0).setN 0x3500_06 0)), (List.replicate 36 100), by decide +kernel⟩⟩

theorem witness_DravlinkMessages :
    (∃ (s : State) (b : Bunting), s.Inv ∧ s.coreOn = true ∧ s.linkOn = true ∧ s.link.msgs.length < 16 ∧ (s.queue 4).items = [] ∧ (s.queue 2).items = [] ∧ s.link.waiting = [] ∧ (s.queue 0).items = [b] ∧ b.corrupt = false ∧ (s.pop 0).1.hostCheck b.data ≠ .ok ∧ s.bridged = false) ∧
    (∃ (s : State) (b : Bunting), s.Inv ∧ s.coreOn = true ∧ s.linkOn = true ∧ s.link.msgs = [] ∧ (s.queue 4).items = [] ∧ (s.queue 2).items = [] ∧ s.link.waiting = [] ∧ (s.queue 0).items = [b] ∧ b.corrupt = false ∧ uAt b.data 0 1 = 5 ∧ uAt b.data 1 1 ≠ 0 ∧ (s.pop 0).1.hostCheck b.data = .ok ∧ s.sendMode 5 = 3 ∧ s.sleepy (uAt b.data 1 1) = false ∧ s.pathUp (uAt b.data 1 1) false = true ∧ b.data.length ≤ 100 ∧ s.openBytes 5 5 = none ∧ (s.pop 0).1.mayAllocate 5 = true ∧ 1 ≤ s.nat (qKey 5 8) ∧ (s.queue 5).items.length < s.nat (qKey 5 3) ∧ s.nat 0x1020_01 + 1 < 2 ^ 32) ∧
    (∃ (s : State) (b : Bunting) (f : DlFrame), s.Inv ∧ s.coreOn = true ∧ s.linkOn = true ∧ (s.queue 7).items = [b] ∧ b.corrupt = false ∧ dlFrame (b.data.drop 16) = some f ∧ f.cls ≠ 0 ∧ f.seg ≠ s.nat 0x1010_02 ∧ s.nat 0x1020_0D + 1 < 2 ^ 32) ∧
    (∃ (s : State) (b : Bunting) (f : DlFrame), s.Inv ∧ s.coreOn = true ∧ s.linkOn = true ∧ (s.queue 7).items = [b] ∧ b.corrupt = false ∧ dlFrame (b.data.drop 16) = some f ∧ f.seg = s.nat 0x1010_02 ∧ f.dst = s.ownNode ∧ f.src ≠ s.ownNode ∧ isNode f.src = true ∧ f.cls = 3 ∧ f.ackreq = false ∧ f.resync = false ∧ f.head = false ∧ s.power ≠ .networked ∧ 1 ≤ (f.seq + 65536 - s.nat (peerKey f.src 5)) % 65536 ∧ (f.seq + 65536 - s.nat (peerKey f.src 5)) % 65536 < 32768 ∧ s.bridged = false ∧ f.payload.length ≤ 112 ∧ s.openBytes 1 5 = none ∧ (s.pop 7).1.mayAllocate 1 = true ∧ 1 ≤ s.nat (qKey 1 8) ∧ (s.queue 1).items.length < s.nat (qKey 1 3) ∧ s.pathUp f.src false = true) ∧
    (∃ (s : State) (b : Bunting) (f : DlFrame), s.Inv ∧ s.coreOn = true ∧ s.linkOn = true ∧ (s.queue 7).items = [b] ∧ b.corrupt = false ∧ dlFrame (b.data.drop 16) = some f ∧ f.seg = s.nat 0x1010_02 ∧ f.dst = s.ownNode ∧ f.src ≠ s.ownNode ∧ isNode f.src = true ∧ f.cls = 3 ∧ f.ackreq = false ∧ f.resync = false ∧ f.head = false ∧ s.power ≠ .networked ∧ f.seq = s.nat (peerKey f.src 5) ∧ (s.peer f.src).map.getLsbD 0 = true ∧ s.nat 0x1020_06 + 1 < 2 ^ 32 ∧ s.pathUp f.src false = true) ∧
    (∃ (s : State) (b : Bunting) (f : DlFrame) (m : Msg), s.Inv ∧ s.coreOn = true ∧ s.linkOn = true ∧ (s.queue 7).items = [b] ∧ b.corrupt = false ∧ dlFrame (b.data.drop 16) = some f ∧ f.seg = s.nat 0x1010_02 ∧ f.dst = s.ownNode ∧ f.src ≠ s.ownNode ∧ isNode f.src = true ∧ f.cls = 0 ∧ f.head = false ∧ s.link.msgs = [m] ∧ m.dst = f.src ∧ m.seq = f.seq ∧ m.source = .rule ∧ m.resync = false ∧ (3 ≤ m.cls && s.passedMs m.t0 m.tmo) = false ∧ (m.copy? false).any Copy.conv = true ∧ s.nat 0x1020_02 + 1 < 2 ^ 32) ∧
    (∃ (s : State) (m : Msg) (c : Copy), s.Inv ∧ s.coreOn = true ∧ s.link.msgs = [m] ∧ m.copies = [c] ∧ c.pl = true ∧ c.stage = .ackWait ∧ c.t0 + c.dur ≤ s.now ∧ c.tries < 1 + m.set.retries) ∧
    (∃ (s : State) (m : Msg) (c : Copy), s.Inv ∧ s.coreOn = true ∧ s.link.msgs = [m] ∧ m.copies = [c] ∧ c.pl = true ∧ c.stage = .ackWait ∧ c.t0 + c.dur ≤ s.now ∧ 1 + m.set.retries ≤ c.tries ∧ c.sent = true ∧ m.cls = 3 ∧ m.dst ≠ 0) ∧
    (∃ (s : State) (m : Msg) (c : Copy), s.Inv ∧ s.coreOn = true ∧ s.link.msgs = [m] ∧ m.copies = [c] ∧ c.pl = false ∧ c.stage = .gap ∧ c.t0 + c.dur ≤ s.now ∧ m.cls = 3 ∧ m.payload.length ≤ 90 ∧ s.now + s.msgAir m false + s.ackWait m.set m.dst false ≤ m.bound + usQuanta (500 * m.tmo) ∧ s.openBytes 5 5 = none ∧ s.mayAllocate 5 = true ∧ 1 ≤ s.nat (qKey 5 8) ∧ (s.queue 5).items.length < s.nat (qKey 5 3) ∧ s.nat 0x1020_04 + 1 < 2 ^ 32) ∧
    (∃ (s : State) (m : Msg) (c : Copy), s.Inv ∧ s.coreOn = true ∧ s.link.msgs = [m] ∧ m.copies = [c] ∧ c.pl = false ∧ c.stage = .gap ∧ c.t0 + c.dur ≤ s.now ∧ c.sent = true ∧ m.cls = 3 ∧ m.dst ≠ 0 ∧ m.bound + usQuanta (500 * m.tmo) < s.now + s.msgAir m false + s.ackWait m.set m.dst false) :=
  ⟨⟨((({ on with link := { on.link with running := true }, pool := { on.pool with queues := on.pool.queues.set 0 { items := [{ data := [9], producer := 0, stamp := 0, key := 0 }] } } } : State).setN 0x1010_01 1 |>.setN 0x1010_02 5 |>.setN 0x1010_03 64)), ({ data := [9], producer := 0, stamp := 0, key := 0 }), by decide +kernel⟩,
   ⟨((({ on with link := { on.link with running := true }, pool := { on.pool with queues := on.pool.queues.set 0 { items := [{ data := [5, 2, 0, 0, 0, 0, 0, 0, 77], producer := 0, stamp := 0, key := 0 }] } } } : State).setN 0x1010_01 1 |>.setN 0x1010_02 5 |>.setN 0x1010_03 64 |>.setN 0x1010_04 1 |>.setN 0x1011_05 3)), ({ data := [5, 2, 0, 0, 0, 0, 0, 0, 77], producer := 0, stamp := 0, key := 0 }), by decide +kernel⟩,
   ⟨((({ on with link := { on.link with running := true }, pool := { on.pool with queues := on.pool.queues.set 7 { items := [{ data := zeroBytes 16 ++ [3, 6, 1, 2, 1, 0, 77], producer := 5, stamp := 0, key := 0 }] } } } : State).setN 0x1010_01 1 |>.setN 0x1010_02 5 |>.setN 0x1010_03 64)), ({ data := zeroBytes 16 ++ [3, 6, 1, 2, 1, 0, 77], producer := 5, stamp := 0, key := 0 }), ({ cls := 3, ackreq := false, resync := false, sleepy := false, head := false, seg := 6, dst := 1, src := 2, seq := 1, payload := [77] }), by decide +kernel⟩,
   ⟨((({ on with link := { on.link with running := true }, pool := { on.pool with queues := on.pool.queues.set 7 { items := [{ data := zeroBytes 16 ++ [3, 5, 1, 2, 1, 0, 77], producer := 5, stamp := 0, key := 0 }] } } } : State).setN 0x1010_01 1 |>.setN 0x1010_02 5 |>.setN 0x1010_03 64)), ({ data := zeroBytes 16 ++ [3, 5, 1, 2, 1, 0, 77], producer := 5, stamp := 0, key := 0 }), ({ cls := 3, ackreq := false, resync := false, sleepy := false, head := false, seg := 5, dst := 1, src := 2, seq := 1, payload := [77] }), by decide +kernel⟩,
   ⟨((({ on with link := { on.link with running := true, peers := on.link.peers.set 1 { map := 1 } }, pool := { on.pool with queues := on.pool.queues.set 7 { items := [{ data := zeroBytes 16 ++ [3, 5, 1, 2, 0, 0, 77], producer := 5, stamp := 0, key := 0 }] } } } : State).setN 0x1010_01 1 |>.setN 0x1010_02 5 |>.setN 0x1010_03 64)), ({ data := zeroBytes 16 ++ [3, 5, 1, 2, 0, 0, 77], producer := 5, stamp := 0, key := 0 }), ({ cls := 3, ackreq := false, resync := false, sleepy := false, head := false, seg := 5, dst := 1, src := 2, seq := 0, payload := [77] }), by decide +kernel⟩,
   ⟨((({ on with link := { on.link with running := true, msgs := [{ cls := 3, dst := 2, seq := 9, payload := [1], source := .rule, tmo := 1000, copies := [{ pl := false, stage := .ackWait, conv := true, tries := 1, sent := true }] }] }, pool := { on.pool with queues := on.pool.queues.set 7 { items := [{ data := zeroBytes 16 ++ [0, 5, 1, 2, 9, 0], producer := 5, stamp := 0, key := 0 }] } } } : State).setN 0x1010_01 1 |>.setN 0x1010_02 5 |>.setN 0x1010_03 64)), ({ data := zeroBytes 16 ++ [0, 5, 1, 2, 9, 0], producer := 5, stamp := 0, key := 0 }), ({ cls := 0, ackreq := false, resync := false, sleepy := false, head := false, seg := 5, dst := 1, src := 2, seq := 9, payload := [] }), ({ cls := 3, dst := 2, seq := 9, payload := [1], source := .rule, tmo := 1000, copies := [{ pl := false, stage := .ackWait, conv := true, tries := 1, sent := true }] }), by decide +kernel⟩,
   ⟨({ on with link := { on.link with msgs := [{ cls := 3, dst := 2, seq := 9, payload := [1], source := .rule, tmo := 1000, set := { (default : LinkSet) with retries := 1 }, copies := [{ pl := true, stage := .ackWait, tries := 1, sent := true }] }] } }), ({ cls := 3, dst := 2, seq := 9, payload := [1], source := .rule, tmo := 1000, set := { (default : LinkSet) with retries := 1 }, copies := [{ pl := true, stage := .ackWait, tries := 1, sent := true }] }), ({ pl := true, stage := .ackWait, tries := 1, sent := true }), by decide +kernel⟩,
   ⟨({ on with link := { on.link with msgs := [{ cls := 3, dst := 2, seq := 9, payload := [1], source := .rule, tmo := 1000, copies := [{ pl := true, stage := .ackWait, tries := 1, sent := true }] }] } }), ({ cls := 3, dst := 2, seq := 9, payload := [1], source := .rule, tmo := 1000, copies := [{ pl := true, stage := .ackWait, tries := 1, sent := true }] }), ({ pl := true, stage := .ackWait, tries := 1, sent := true }), by decide +kernel⟩,
   ⟨({ on with link := { on.link with msgs := [{ cls := 3, dst := 2, seq := 9, payload := [1], source := .rule, tmo := 1000, copies := [{ pl := false, stage := .gap, tries := 1, sent := true }] }] } }), ({ cls := 3, dst := 2, seq := 9, payload := [1], source := .rule, tmo := 1000, copies := [{ pl := false, stage := .gap, tries := 1, sent := true }] }), ({ pl := false, stage := .gap, tries := 1, sent := true }), by decide +kernel⟩,
   ⟨({ on with now := 347136000000, link := { on.link with msgs := [{ cls := 3, dst := 2, seq := 9, payload := [1], source := .rule, tmo := 1000, copies := [{ pl := false, stage := .gap, tries := 1, sent := true }] }] } }), ({ cls := 3, dst := 2, seq := 9, payload := [1], source := .rule, tmo := 1000, copies := [{ pl := false, stage := .gap, tries := 1, sent := true }] }), ({ pl := false, stage := .gap, tries := 1, sent := true }), by decide +kernel⟩⟩

theorem witness_DravlinkTransactions :
    (∃ (s : State) (x : Txn), s.Inv ∧ s.coreOn = true ∧ s.link.txns = [x] ∧ s.link.msgs = [] ∧ x.source = .access .spi ∧ s.passedMs x.t0 x.tmo = true ∧ s.nat 0x1020_0A + 1 < 2 ^ 32) ∧
    (∃ (s : State) (m : Msg), s.Inv ∧ s.coreOn = true ∧ s.link.msgs = [m] ∧ m.cls = 3 ∧ m.dst ≠ 0 ∧ m.source = .rule ∧ s.passedMs m.t0 m.tmo = true ∧ s.nat 0x1020_0A + 1 < 2 ^ 32 ∧ s.nat 0x1020_03 + 1 < 2 ^ 32) ∧
    (∃ (s : State) (b : Bunting) (f : DlFrame) (c : Cached), s.Inv ∧ s.phase = .service ∧ s.halted = false ∧ s.power ≠ .sleep ∧ s.actionWaits = false ∧ (s.queue 3).items = [b] ∧ b.corrupt = false ∧ dlFrame b.data = some f ∧ 18 ≤ f.payload.length ∧ s.link.cache.find? (fun c => c.src = f.src && c.tid = uAt f.payload 0 2 && decide (0 < s.cacheLeft c)) = some c ∧ s.nat 0x1020_0B + 1 < 2 ^ 32 ∧ c.reply.length ≤ 128 ∧ s.openBytes 4 1 = none ∧ ((s.pop 3).1).mayAllocate 4 = true ∧ 1 ≤ s.nat (qKey 4 8) ∧ (s.queue 4).items.length < s.nat (qKey 4 3)) ∧
    (∃ (s : State) (b : Bunting) (f : DlFrame), s.Inv ∧ s.phase = .service ∧ s.halted = false ∧ s.power ≠ .sleep ∧ s.actionWaits = false ∧ (s.queue 3).items = [b] ∧ b.corrupt = false ∧ dlFrame b.data = some f ∧ 18 ≤ f.payload.length ∧ s.link.cache = [] ∧ 2 < uAt f.payload 3 1 ∧ s.nat 0x1020_0C + 1 < 2 ^ 32 ∧ s.openBytes 4 1 = none ∧ ((s.pop 3).1).mayAllocate 4 = true ∧ 1 ≤ s.nat (qKey 4 8) ∧ (s.queue 4).items.length < s.nat (qKey 4 3)) ∧
    (∃ (s : State) (b : Bunting) (f : DlFrame), s.Inv ∧ s.phase = .service ∧ s.halted = false ∧ s.power ≠ .sleep ∧ s.actionWaits = false ∧ (s.queue 3).items = [b] ∧ b.corrupt = false ∧ dlFrame b.data = some f ∧ 18 ≤ f.payload.length ∧ s.link.cache = [] ∧ uAt f.payload 3 1 = 0 ∧ uAt f.payload 2 1 = 1 ∧ noKey (s.segKey .operator) = true ∧ ((s.pop 3).1.odRead (.remote f.src .operator) (uAt f.payload 6 2 * 256 + uAt f.payload 8 1)).2.2.length ≤ 100 ∧ s.openBytes 4 1 = none ∧ ((s.pop 3).1).mayAllocate 4 = true ∧ 1 ≤ s.nat (qKey 4 8) ∧ (s.queue 4).items.length < s.nat (qKey 4 3)) ∧
    (∃ (s : State) (i : Fin 64) (c : Cached), s.Inv ∧ s.coreOn = true ∧ s.link.cache[i.val]? = some c ∧ s.passedMs c.t0 c.tmo = true) ∧
    (∃ (s : State), s.Inv ∧ s.coreOn = true ∧ s.link.running = true ∧ s.link.resyncAll = true ∧ s.passedS s.link.t0 10 = true) ∧
    (∃ (s : State) (t0 d : Nat), s.Inv ∧ s.coreOn = true ∧ s.link.wakeHold = some (t0, d) ∧ t0 + d ≤ s.now ∧ s.power ≠ .networked ∧ s.radio.goal = .standby ∧ s.radio.state = .standby ∧ s.radio.move = none ∧ s.radio.cur = none ∧ s.radio.held = none ∧ s.radio.air = none ∧ s.radio.rx = none ∧ s.radio.reversal = none ∧ s.radio.test = none ∧ s.radio.sniff = none) :=
  ⟨⟨({ on with now := 34713600000, link := { on.link with txns := [{ tid := 4, dst := 2, role := .operator, tmo := 100, t0 := 0, source := .access .spi }] } }), ({ tid := 4, dst := 2, role := .operator, tmo := 100, t0 := 0, source := .access .spi }), by decide +kernel⟩,
   ⟨({ on with now := 34713600000000, link := { on.link with msgs := [{ cls := 3, dst := 2, seq := 9, payload := [1], source := .rule, tmo := 1000, copies := [{ pl := true, stage := .ackWait, tries := 1, sent := true }] }] } }), ({ cls := 3, dst := 2, seq := 9, payload := [1], source := .rule, tmo := 1000, copies := [{ pl := true, stage := .ackWait, tries := 1, sent := true }] }), by decide +kernel⟩,
   ⟨((({ on with link := { on.link with running := true, cache := [{ src := 2, tid := 4, tmo := 100, t0 := 0, reply := [4, 0], role := .operator }] }, pool := { on.pool with queues := on.pool.queues.set 3 { items := [{ data := [1, 5, 1, 2, 1, 0, 4, 0, 1, 0, 10, 0, 0, 16, 1, 0, 0, 0, 0, 0, 0, 0, 0, 0], producer := 5, stamp := 0, key := 0 }] } } } : State).setN 0x1010_01 1 |>.setN 0x1010_02 5 |>.setN 0x1010_03 64)), ({ data := [1, 5, 1, 2, 1, 0, 4, 0, 1, 0, 10, 0, 0, 16, 1, 0, 0, 0, 0, 0, 0, 0, 0, 0], producer := 5, stamp := 0, key := 0 }), ({ cls := 1, ackreq := false, resync := false, sleepy := false, head := false, seg := 5, dst := 1, src := 2, seq := 1, payload := [4, 0, 1, 0, 10, 0, 0, 16, 1, 0, 0, 0, 0, 0, 0, 0, 0, 0] }), ({ src := 2, tid := 4, tmo := 100, t0 := 0, reply := [4, 0], role := .operator }), by decide +kernel⟩,
   ⟨((({ on with link := { on.link with running := true }, pool := { on.pool with queues := on.pool.queues.set 3 { items := [{ data := [1, 5, 1, 2, 1, 0, 4, 0, 1, 3, 10, 0, 0, 16, 1, 0, 0, 0, 0, 0, 0, 0, 0, 0], producer := 5, stamp := 0, key := 0 }] } } } : State).setN 0x1010_01 1 |>.setN 0x1010_02 5 |>.setN 0x1010_03 64)), ({ data := [1, 5, 1, 2, 1, 0, 4, 0, 1, 3, 10, 0, 0, 16, 1, 0, 0, 0, 0, 0, 0, 0, 0, 0], producer := 5, stamp := 0, key := 0 }), ({ cls := 1, ackreq := false, resync := false, sleepy := false, head := false, seg := 5, dst := 1, src := 2, seq := 1, payload := [4, 0, 1, 3, 10, 0, 0, 16, 1, 0, 0, 0, 0, 0, 0, 0, 0, 0] }), by decide +kernel⟩,
   ⟨((({ on with link := { on.link with running := true }, pool := { on.pool with queues := on.pool.queues.set 3 { items := [{ data := [1, 5, 1, 2, 1, 0, 4, 0, 1, 0, 10, 0, 0, 16, 1, 0, 0, 0, 0, 0, 0, 0, 0, 0], producer := 5, stamp := 0, key := 0 }] } } } : State).setN 0x1010_01 1 |>.setN 0x1010_02 5 |>.setN 0x1010_03 64)), ({ data := [1, 5, 1, 2, 1, 0, 4, 0, 1, 0, 10, 0, 0, 16, 1, 0, 0, 0, 0, 0, 0, 0, 0, 0], producer := 5, stamp := 0, key := 0 }), ({ cls := 1, ackreq := false, resync := false, sleepy := false, head := false, seg := 5, dst := 1, src := 2, seq := 1, payload := [4, 0, 1, 0, 10, 0, 0, 16, 1, 0, 0, 0, 0, 0, 0, 0, 0, 0] }), by decide +kernel⟩,
   ⟨({ on with now := 34713600000, link := { on.link with cache := [{ src := 2, tid := 4, tmo := 100, t0 := 0, reply := [4, 0], role := .operator }] } }), 0, ({ src := 2, tid := 4, tmo := 100, t0 := 0, reply := [4, 0], role := .operator }), by decide +kernel⟩,
   ⟨({ on with now := 347136000000, link := { on.link with running := true } }), by decide +kernel⟩,
   ⟨({ on with now := 100, radio := { on.radio with state := .standby, goal := .standby }, link := { on.link with wakeHold := some (0, 50) } }), 0, 50, by decide +kernel⟩⟩

theorem witness_HostFrames :
    (∃ (s : State) (a : Fin 8) (x0 x1 x2 x3 x4 : Byte), s.Inv ∧ s.spiReady = true ∧ s.nat 0x1001_03 + 1 < 2 ^ 32) ∧
    (∃ (s : State) (b3 b2 b1 b0 : Byte), s.Inv ∧ s.spiReady = true ∧ s.nat 0x1001_03 + 1 < 2 ^ 32) ∧
    (∃ (s : State) (sent : List Byte) (extra : Fin 8), s.Inv ∧ s.coreOn = true ∧ s.spiReady = false ∧ s.nat 0x1001_04 + 1 < 2 ^ 32) ∧
    (∃ (s : State) (line c : List Byte) (a : Fin 8) (x : List Byte), s.Inv ∧ s.phase = .service ∧ s.power ≠ .sleep ∧ s.nat 0x1001_01 = 2 ∧ unstuff line = c ++ checkBytes 1 c ∧ (checkBytes 1 c).length = 2 ∧ c = BitVec.ofNat 8 (0x80 + a.val) :: x ∧ x.length = 5) ∧
    (∃ (s : State) (line : List Byte), s.Inv ∧ s.phase = .service ∧ s.power ≠ .sleep ∧ s.nat 0x1001_01 ≠ 0 ∧ uartGood (unstuff line) = false ∧ s.nat 0x1001_05 + 1 < 2 ^ 32) ∧
    (∃ (s : State) (line : List Byte), s.Inv ∧ s.phase ≠ .recovery ∧ s.nat 0x1001_01 = 0) :=
  ⟨⟨(on.setN 0x2A01_02 300), 7, 0, 0, 0, 0, 0, by decide +kernel⟩,
   ⟨on, 1, 2, 3, 4, by decide +kernel⟩,
   ⟨({ on with phase := .gate }), ([1, 2]), 0, by decide +kernel⟩,
   ⟨((on.setN 0x1001_01 2).setN 0x2A01_02 300), (stuff ([0x87, 0, 0, 0, 0, 0] ++ checkBytes 1 [0x87, 0, 0, 0, 0, 0])), ([0x87, 0, 0, 0, 0, 0]), 7, ([0, 0, 0, 0, 0]), by decide +kernel⟩,
   ⟨(on.setN 0x1001_01 2), ([1, 2, 3]), by decide +kernel⟩,
   ⟨(on.setN 0x1001_01 0), [1], by decide +kernel⟩⟩

theorem witness_DictionaryRegisters :
    (∃ (s : State) (sess : Sess) (w : BitVec 32), s.Inv ∧ s.reads sess = true) ∧
    (∃ (s : State) (sess : Sess) (w : BitVec 32), s.Inv ∧ s.reads sess = true ∧ (s.session sess).ptr < 64) ∧
    (∃ (s : State) (sess : Sess), s.Inv ∧ s.reads sess = true) ∧
    (∃ (s : State) (sess : Sess) (ofs : BitVec 8), s.Inv ∧ s.reads sess = true ∧ (s.session sess).stat = 1) ∧
    (∃ (s : State) (sess : Sess) (ofs : BitVec 8), s.Inv ∧ s.reads sess = true ∧ s.phase = .service ∧ s.halted = false ∧ (s.session sess).stat ≠ 1 ∧ s.localNode (s.session sess).node = true) ∧
    (∃ (s : State) (sess : Sess) (len : BitVec 16), s.Inv ∧ s.reads sess = true ∧ (s.session sess).stat = 1) ∧
    (∃ (s : State) (sess : Sess) (len : BitVec 16), s.Inv ∧ s.reads sess = true ∧ s.halted = false ∧ s.phase = .service ∧ (s.session sess).stat ≠ 1 ∧ s.localNode (s.session sess).node = true ∧ len.toNat ≤ 256 ∧ s.odWriteStatus (whoOf sess) (s.session sess).key (slice (s.session sess).buf 0 len.toNat) ≠ .ok) ∧
    (∃ (s : State) (who : Who) (sub value : BitVec 8), s.Inv ∧ s.writes who (0x1010_01) (leBytes 1 value.toNat) = true ∧ sub = 1) ∧
    (∃ (s : State) (sess : Sess), s.Inv ∧ s.reads sess = true ∧ s.remoteRuns sess = true) ∧
    (∃ (s : State) (sess : Sess), s.Inv ∧ s.reads sess = true ∧ s.remoteRuns sess = false) ∧
    (∃ (s : State) (sess : Sess) (word : Fin 64) (w : BitVec 32), s.Inv ∧ s.reads sess = true ∧ fastGuarded word = true ∧ s.nat 0x1001_04 + 1 < 2 ^ 32) ∧
    (∃ (s : State) (sess : Sess) (w : BitVec 32), s.Inv ∧ s.reads sess = true) ∧
    (∃ (s : State) (sess : Sess) (w : BitVec 32), s.Inv ∧ s.reads sess = true) :=
  ⟨⟨on, .spi, 0x02110001, by decide +kernel⟩,
   ⟨on, .spi, 0xAABBCCDD, by decide +kernel⟩,
   ⟨on, .spi, by decide +kernel⟩,
   ⟨({ on with sessions := [{ stat := 1 }, {}] }), .spi, 0, by decide +kernel⟩,
   ⟨({ on with sessions := [{ addr := 0x00100001 }, {}] }), .spi, 0, by decide +kernel⟩,
   ⟨({ on with sessions := [{ stat := 1 }, {}] }), .spi, 4, by decide +kernel⟩,
   ⟨({ on with sessions := [{ addr := 0x00100001 }, {}] }), .spi, 4, by decide +kernel⟩,
   ⟨maker, .spi, 1, 7, by decide +kernel⟩,
   ⟨({ on with link := { on.link with txns := [{ tid := 4, dst := 2, role := .operator, tmo := 100, t0 := 0, source := .access .spi }] } }), .spi, by decide +kernel⟩,
   ⟨on, .spi, by decide +kernel⟩,
   ⟨on, .spi, 63, 1, by decide +kernel⟩,
   ⟨on, .spi, 5, by decide +kernel⟩,
   ⟨on, .spi, 0xFFFFFFFF, by decide +kernel⟩⟩

theorem witness_SecurityTimersAndFirmware :
    (∃ (s : State) (sess : Sess), s.Inv ∧ s.serves (whoOf sess) = true ∧ s.phase = .service ∧ s.halted = false) ∧
    (∃ (s : State) (sess : Sess) (t0 : Nat), s.Inv ∧ s.powered = true ∧ (s.session sess).lockT0 = some t0 ∧ s.passedS t0 10 = true) ∧
    (∃ (s : State) (sess : Sess), s.Inv ∧ s.powered = true ∧ s.phase ≠ .recovery ∧ s.nat 0x1800_04 ≠ 0 ∧ s.passedS (s.session sess).frameT0 (s.nat 0x1800_04) = true) ∧
    (∃ (s : State) (t0 : Nat), s.Inv ∧ s.powered = true ∧ s.firmware.busy = some (1, t0) ∧ s.otherSlot < 2) ∧
    (∃ (s : State) (t0 : Nat), s.Inv ∧ s.powered = true ∧ s.firmware.busy = some (2, t0) ∧ s.otherSlot < 2 ∧ (s.image s.otherSlot).st ≠ 0) ∧
    (∃ (s : State), s.Inv ∧ s.coreOn = true ∧ s.inTrial = true ∧ s.passedS s.firmware.trialT0 (s.nat 0x1A10_08) = true ∧ s.firmware.running < 2 ∧ s.slotStarts (1 - s.firmware.running) = true) ∧
    (∃ (s : State), s.Inv ∧ s.coreOn = true ∧ s.attestT0 ≠ none) :=
  ⟨⟨on, .spi, by decide +kernel⟩,
   ⟨({ on with now := 347136000000, sessions := [{ lockT0 := some 0, fails := 3 }, {}] }), .spi, 0, by decide +kernel⟩,
   ⟨(({ maker with now := 347136000000000 } : State)), .spi, by decide +kernel⟩,
   ⟨({ on with firmware := { on.firmware with busy := some (1, 0) } }), 0, by decide +kernel⟩,
   ⟨({ on with firmware := { on.firmware with busy := some (2, 0), slots := [{ data := none, st := 2 }, { data := some [1], st := 1 }] } }), 0, by decide +kernel⟩,
   ⟨((({ on with now := 34713600000000000, firmware := { on.firmware with running := 1, tried := true } } : State).setN 0x1A10_06 1).setN 0x1A10_07 1), by decide +kernel⟩,
   ⟨({ on with attestT0 := some 0 }), by decide +kernel⟩⟩

theorem witness_StoreAndTagWork :
    (∃ (s : State) (r : TagReq) (p : TagPower) (mfg : BitVec 8) (seq : BitVec 32), s.Inv ∧ s.heardReq r = true ∧ mfg.toNat = s.nat 0x2700_02 ∧ r.option = false ∧ s.stageLevel = true ∧ seq.toNat = s.stageSeq ∧ s.stageState = 1 ∧ s.gateError p = none ∧ s.overtakenAt 16 true = false ∧ p.loss = .none ∧ s.nat 0x2740_02 + 1 < 2 ^ 32) ∧
    (∃ (s : State) (r : TagReq) (p : TagPower) (mfg : BitVec 8) (seq : BitVec 32), s.Inv ∧ s.heardReq r = true ∧ mfg.toNat = s.nat 0x2700_02 ∧ r.option = false ∧ s.stageLevel = true ∧ seq.toNat ≠ s.stageSeq) ∧
    (∃ (s : State), s.Inv ∧ s.phase = .service ∧ s.power ≠ .sleep ∧ s.halted = false ∧ s.tag.stageDue = true ∧ s.actionWaits = false ∧ (s.queue 3).items = [] ∧ s.tag.commit.committed = false ∧ s.stageAllowed = true ∧ s.stageSeq = s.nat 0x2710_06) ∧
    (∃ (s : State), s.Inv ∧ s.phase = .service ∧ s.power ≠ .sleep ∧ s.halted = false ∧ s.tag.stageDue = true ∧ s.actionWaits = false ∧ (s.queue 3).items = [] ∧ s.tag.commit.committed = false ∧ s.stageAllowed = true ∧ s.stageSeq ≠ s.nat 0x2710_06 ∧ 1 ≤ s.stageRole ∧ s.stageRole ≤ 2 ∧ (s.setStageState 3).stagedRecords.2 ≠ 0) ∧
    (∃ (s : State), s.Inv ∧ s.phase = .service ∧ s.power ≠ .sleep ∧ s.halted = false ∧ s.tag.stageDue = true ∧ s.actionWaits = false ∧ (s.queue 3).items = [] ∧ s.tag.commit.committed = false ∧ s.stageAllowed = true ∧ s.stageSeq ≠ s.nat 0x2710_06 ∧ 1 ≤ s.stageRole ∧ s.stageRole ≤ 2 ∧ (s.setStageState 3).stagedRecords.2 = 0 ∧ (((s.updTag fun t => { t with stageDue := false }).setStageState 3).firstBadRecord (.staged (roleOfCode s.stageRole)) (s.setStageState 3).stagedRecords.1) = none ∧ (((s.updTag fun t => { t with stageDue := false }).setStageState 3).writeRecords (.staged (roleOfCode s.stageRole)) (s.setStageState 3).stagedRecords.1).phase = .service ∧ (((s.updTag fun t => { t with stageDue := false }).setStageState 3).writeRecords (.staged (roleOfCode s.stageRole)) (s.setStageState 3).stagedRecords.1).power ≠ .sleep) ∧
    (∃ (s : State), s.Inv ∧ s.coreOn = true ∧ s.statusChanged = true ∧ s.passedS s.tag.statusT0 1 = true ∧ s.groupRuns = false ∧ s.tag.commit.committed = false) ∧
    (∃ (s : State), s.Inv ∧ s.powered = true ∧ s.holdExpired = true) ∧
    (∃ (s : State), s.Inv ∧ s.coreOn = true ∧ s.assigned = true ∧ s.nat 0x2701_01 ≠ 2 ∧ s.tag.field = false ∧ s.passedMs s.tag.fieldT0 (s.nat 0x2701_02) = true ∧ s.tagBusy = false) :=
  ⟨⟨((({ tagged with tag := { tagged.tag with level := .password } } : State).setN 0x2710_01 1).storeWrite 16 [0x5A, 0xC0, 1, 1, 9, 0, 0, 0]), ({ mode := .all, option := false, dual := false, high := true, good := true }), ({ rail := 3000, cap := 2500, loss := .none }), mfgCode, 9, ⟨by decide +kernel, by decide +kernel, rfl, by decide +kernel, by decide +kernel, by decide +kernel, by decide +kernel, by decide +kernel, by decide +kernel, by decide +kernel, by decide +kernel⟩⟩,
   ⟨((({ tagged with tag := { tagged.tag with level := .password } } : State).setN 0x2710_01 1).storeWrite 16 [0x5A, 0xC0, 1, 1, 9, 0, 0, 0]), ({ mode := .all, option := false, dual := false, high := true, good := true }), ({ rail := 3000, cap := 2500, loss := .none }), mfgCode, 8, ⟨by decide +kernel, by decide +kernel, rfl, by decide +kernel, by decide +kernel, by decide +kernel⟩⟩,
   ⟨(({ on with tag := { on.tag with stageDue := true } } : State).storeWrite 16 [0x5A, 0xC0, 1, 2]), by decide +kernel⟩,
   ⟨(({ on with tag := { on.tag with stageDue := true } } : State).storeWrite 16 [0x5A, 0xC0, 1, 2, 9, 0, 0, 0, 1, 0, 8, 0, 0, 0, 0, 0, 1]), by decide +kernel⟩,
   ⟨((({ on with tag := { on.tag with stageDue := true } } : State).storeWrite 32 [0x10, 0x10, 1, 1, 7, 0, 0, 0]).storeWrite 16 ([0x5A, 0xC0, 1, 2, 9, 0, 0, 0, 1, 0, 8, 0] ++ leBytes 4 (crc32 [0x10, 0x10, 1, 1, 7, 0, 0, 0]).toNat ++ [1])), by decide +kernel⟩,
   ⟨({ on with now := 34713600000 }), by decide +kernel⟩,
   ⟨({ on with now := 3471360000000000, tag := { on.tag with hold := some 0 } }), by decide +kernel⟩,
   ⟨({ on with now := 3471360000000000, assigned := true }), by decide +kernel⟩⟩

theorem witness_RulesAndScenes :
    (∃ (s : State) (x : Lookup), s.Inv ∧ s.coreOn = true ∧ s.nextLookup = some x ∧ x.lane = none ∧ s.nat 0x2800_02 + 1 < 2 ^ 32) ∧
    (∃ (s : State) (x : Lookup) (l : Nat) (v : Verdict), s.Inv ∧ s.coreOn = true ∧ s.nextLookup = some x ∧ x.lane = some l ∧ s.verdictOf (recordKeytype x.record) (keyOf ((x.record.drop 2).take 10)) (some (x.record.getD 13 0).toNat) = v ∧ s.nat 0x2800_02 + 1 < 2 ^ 32) ∧
    (∃ (s : State) (tr : Trigger) (rest : List Trigger), s.Inv ∧ s.coreOn = true ∧ s.triggers = tr :: rest ∧ s.flag 0x2820_01 = false ∧ s.nat 0x2820_03 + 1 < 2 ^ 32) ∧
    (∃ (s : State) (tr : Trigger) (rest : List Trigger), s.Inv ∧ s.coreOn = true ∧ s.triggers = tr :: rest ∧ s.flag 0x2820_01 = true ∧ (∀ r ∈ s.enabledRules, triggerMatches r.trigger tr = false)) ∧
    (∃ (s : State) (tr : Trigger) (r : Rule), s.Inv ∧ s.coreOn = true ∧ s.triggers = [tr] ∧ s.flag 0x2820_01 = true ∧ s.enabledRules = [r] ∧ triggerMatches r.trigger tr = true ∧ r.zoneFits tr = true ∧ tr.ofCard = false ∧ r.condOp = 0 ∧ r.action = 5 ∧ s.nat (ruleKey r.number 15) + 1 < 2 ^ 32) ∧
    (∃ (s : State) (n : Fin 256) (x : Scene) (b b2 : List Byte), s.Inv ∧ s.coreOn = true ∧ s.scenes = [x] ∧ x.scene = n.val ∧ s.sceneDue x = true ∧ sceneStepAt x.steps x.next = some b ∧ uAt b 0 1 = 4 ∧ uAt b 1 1 ≠ x.scene ∧ sceneStepAt x.steps (x.next + 1) = some b2) ∧
    (∃ (s : State) (n : Fin 256) (x : Scene) (b : List Byte), s.Inv ∧ s.coreOn = true ∧ s.scenes = [x] ∧ x.scene = n.val ∧ s.sceneDue x = true ∧ sceneStepAt x.steps x.next = some b ∧ uAt b 0 1 = 4 ∧ uAt b 1 1 ≠ x.scene ∧ sceneStepAt x.steps (x.next + 1) = none) ∧
    (∃ (s : State) (n : Fin 16) (x : Pulse), s.Inv ∧ s.coreOn = true ∧ s.pulses.getD n none = some x ∧ x.t0 + x.ms * 27120 ≤ s.tb64) :=
  ⟨⟨({ on with lookups := [{ lane := none, record := [0, 4, 1, 2, 3, 4, 0, 0, 0, 0, 0, 0, 0, 0], fresh := true, stamp := 9 }] }), ({ lane := none, record := [0, 4, 1, 2, 3, 4, 0, 0, 0, 0, 0, 0, 0, 0], fresh := true, stamp := 9 }), by decide +kernel⟩,
   ⟨({ on with lookups := [{ lane := some 0, record := [0, 4, 1, 2, 3, 4, 0, 0, 0, 0, 0, 0, 0, 0], fresh := true, stamp := 9 }] }), ({ lane := some 0, record := [0, 4, 1, 2, 3, 4, 0, 0, 0, 0, 0, 0, 0, 0], fresh := true, stamp := 9 }), 0, {}, by decide +kernel⟩,
   ⟨(({ on with triggers := [{ kind := 5, arg := 3, order := 0, level := 0, stamp := 0, zone := none, ident := zeroBytes 24, verdict := {} }] } : State).setN 0x2820_01 0), ({ kind := 5, arg := 3, order := 0, level := 0, stamp := 0, zone := none, ident := zeroBytes 24, verdict := {} }), [], by decide +kernel⟩,
   ⟨({ on with triggers := [{ kind := 5, arg := 3, order := 0, level := 0, stamp := 0, zone := none, ident := zeroBytes 24, verdict := {} }] }), ({ kind := 5, arg := 3, order := 0, level := 0, stamp := 0, zone := none, ident := zeroBytes 24, verdict := {} }), [], by decide +kernel⟩,
   ⟨({ (((((on.setN (ruleKey 7 1) 1).setN (ruleKey 7 2) (5 * 4096 + 3)).setN (ruleKey 7 11) 5).setN (ruleKey 7 12) 9).setN (ruleKey 7 9) 0) with triggers := [{ kind := 5, arg := 3, order := 0, level := 0, stamp := 0, zone := none, ident := zeroBytes 24, verdict := {} }] }), ({ kind := 5, arg := 3, order := 0, level := 0, stamp := 0, zone := none, ident := zeroBytes 24, verdict := {} }), ({ (((((on.setN (ruleKey 7 1) 1).setN (ruleKey 7 2) (5 * 4096 + 3)).setN (ruleKey 7 11) 5).setN (ruleKey 7 12) 9).setN (ruleKey 7 9) 0).ruleAt 7 with number := 7 }), by decide +kernel⟩,
   ⟨({ on with scenes := [{ scene := 5, steps := [4, 9, 0, 0, 0, 0, 0, 0, 0, 0, 0, 0, 4, 9, 0, 0, 0, 0, 0, 0, 0, 0, 0, 0], next := 0, t0 := 0, level := 1 }] }), 5, ({ scene := 5, steps := [4, 9, 0, 0, 0, 0, 0, 0, 0, 0, 0, 0, 4, 9, 0, 0, 0, 0, 0, 0, 0, 0, 0, 0], next := 0, t0 := 0, level := 1 }), ([4, 9, 0, 0, 0, 0, 0, 0, 0, 0, 0, 0]), ([4, 9, 0, 0, 0, 0, 0, 0, 0, 0, 0, 0]), by decide +kernel⟩,
   ⟨({ on with scenes := [{ scene := 5, steps := [4, 9, 0, 0, 0, 0, 0, 0, 0, 0, 0, 0], next := 0, t0 := 0, level := 1 }] }), 5, ({ scene := 5, steps := [4, 9, 0, 0, 0, 0, 0, 0, 0, 0, 0, 0], next := 0, t0 := 0, level := 1 }), ([4, 9, 0, 0, 0, 0, 0, 0, 0, 0, 0, 0]), by decide +kernel⟩,
   ⟨({ on with tb := { on.tb with tb := 100000 }, pulses := on.pulses.set 15 (some { t0 := 0, ms := 1, back := true }) }), 15, ({ t0 := 0, ms := 1, back := true }), by decide +kernel⟩⟩

theorem witness_SelfTestAndCalibration :
    (∃ (s : State) (x : Slice), s.Inv ∧ s.coreOn = true ∧ s.slicesRun = true ∧ s.sliceDue = true ∧ s.nextSlice = some x ∧ s.sliceBarred x = false ∧ x.escalated = false) ∧
    (∃ (s : State) (x : Slice), s.Inv ∧ s.coreOn = true ∧ s.st.run = some x ∧ x.group ≠ 6 ∧ x.escalated = false ∧ s.st.faulty = [] ∧ s.nat (groupKey x.group 2) = 0 ∧ s.nat 0x3401_01 + 1 < 2 ^ 32 ∧ x.group < 11) ∧
    (∃ (s : State) (x : Slice), s.Inv ∧ s.coreOn = true ∧ s.st.run = some x ∧ x.escalated = false ∧ s.nat (groupKey x.group 1) < 7 ∧ x.group = 1 ∨ x.group = 2 ∨ x.group = 4 ∧ s.nat 0x3401_02 + 1 < 2 ^ 32) ∧
    (∃ (s : State) (x : Slice) (unit : BitVec 8) (kind : Fin 10) (addr : BitVec 32) (bit : BitVec 8), s.Inv ∧ s.coreOn = true ∧ s.st.run = some x ∧ x.group = 1 ∧ x.escalated = false ∧ x.targeted = false ∧ s.sparesUsed 1 (x.index / 8) < 8 ∧ s.nat (groupKey 1 2) = 0 ∧ s.nat 0x3401_05 + 1 < 2 ^ 32 ∧ s.nat 0x3401_06 + 1 < 2 ^ 32) ∧
    (∃ (s : State) (g : Fin 6) (index unit : BitVec 8) (addr : BitVec 32) (bit : BitVec 8), s.Inv ∧ s.coreOn = true ∧ s.st.ecc.find? (fun x => x.1 = g.val && x.2.1 = addr.toNat) = none ∧ s.nat 0x3401_07 + 1 < 2 ^ 32) ∧
    (∃ (s : State) (g : Fin 6) (index unit : BitVec 8) (addr : BitVec 32) (bit : BitVec 8), s.Inv ∧ s.coreOn = true ∧ s.nat 0x3401_08 + 1 < 2 ^ 32 ∧ s.nat 0x3401_05 + 1 < 2 ^ 32) ∧
    (∃ (s : State) (t0 t1 t2 t3 t4 t5 : BitVec 16), s.Inv ∧ s.coreOn = true ∧ s.passedMs s.cal.sensorT0 100 = true) ∧
    (∃ (s : State) (p : Fin 8), s.Inv ∧ s.portCalReady p = true ∧ (s.port p).comps = [] ∧ s.openLanes = []) ∧
    (∃ (s : State) (p t0 : Nat) (dg dp rg rp cre cim : BitVec 16), s.Inv ∧ s.coreOn = true ∧ s.cal.run = some (p, t0) ∧ p < 8 ∧ s.passedUs t0 1400 = true ∧ (s.port p).comps = [] ∧ (s.port p).state = .off ∧ s.openLanes = [] ∧ s.nat (calKey p 4) + 1 < 2 ^ 32) ∧
    (∃ (s : State) (p t0 : Nat) (dg dp rg rp cre cim : BitVec 16), s.Inv ∧ s.coreOn = true ∧ s.cal.run = some (p, t0) ∧ p < 8 ∧ s.passedUs t0 1400 = true ∧ offsetsHold (s.newOffsets p [dg.toInt, dp.toInt, rg.toInt, rp.toInt]) = true ∧ s.openLanes = [] ∧ s.nat (calKey p 4) + 1 < 2 ^ 32) ∧
    (∃ (s : State) (t0 : Nat) (dg dp rg rp cre cim : BitVec 16) (settled : Bool), s.Inv ∧ s.coreOn = true ∧ s.pl.outage = some t0 ∧ s.passedUs t0 3000 = true ∧ s.nat (calKey 9 4) + 1 < 2 ^ 32) ∧
    (∃ (s : State) (b : Fin 10), s.Inv ∧ s.coreOn = true ∧ s.calPending b = true ∧ s.cal.limitGiven.getLsbD b = false ∧ s.calForced b = true) :=
  ⟨⟨({ on with tb := { on.tb with tb := 1099511627776 } }), ({ group := 0, index := 0 }), by decide +kernel⟩,
   ⟨({ on with st := { on.st with run := some { group := 1, index := 3 } } }), ({ group := 1, index := 3 }), by decide +kernel⟩,
   ⟨({ on with st := { on.st with run := some { group := 1, index := 3 } } }), ({ group := 1, index := 3 }), by decide +kernel⟩,
   ⟨({ on with st := { on.st with run := some { group := 1, index := 3 } } }), ({ group := 1, index := 3 }), 0, 1, 7, 3, by decide +kernel⟩,
   ⟨on, 5, 0, 0, 0xFFFFFFFF, 0, by decide +kernel⟩,
   ⟨on, 0, 0, 0, 5, 0, by decide +kernel⟩,
   ⟨({ on with now := 34713600000 }), 0xFFFF, 250, 250, 250, 250, 850, by decide +kernel⟩,
   ⟨(({ on with ma := { on.ma with state := .locked, acc := maCycle / 4, burgee := on.ma.burgee.set 0 { openAt := some 0, openLen := 60000 } } } : State).setN 0x3500_06 0 |>.setN 0x3500_01 128), 7, by decide +kernel⟩,
   ⟨(({ on with now := 34713600000, ports := on.ports.set 7 { outage := true }, cal := { on.cal with run := some (7, 0) } } : State).setN 0x3500_01 128), 7, 0, 0, 0, 0, 0, 10000, 0, by decide +kernel⟩,
   ⟨calState, 7, 0, ((Config.factoryCal 7 0).getD 0 0), ((Config.factoryCal 7 1).getD 0 0), ((Config.factoryCal 7 2).getD 0 0), ((Config.factoryCal 7 3).getD 0 0), 10000, 0, ⟨by decide +kernel, by decide +kernel, by decide +kernel, by decide +kernel, by decide +kernel, calState_settles, by decide +kernel, by decide +kernel⟩⟩,
   ⟨({ on with now := 34713600000, pl := { on.pl with outage := some 0 } }), 0, 0, 0, 0, 0, 0, 0, false, by decide +kernel⟩,
   ⟨(({ on with now := 34713600000000000 } : State).setN 0x3500_01 512), 9, by decide +kernel⟩⟩

theorem witness_StartsAndResets :
    (∃ (s : State), s.Inv ∧ s.phase = .off ∧ s.supply.source ≠ .store ∧ s.supply.returned = false ∧ s.flag 0x1A10_07 = false ∧ s.nat 0x1A10_06 < 2 ∧ s.slotStarts (s.nat 0x1A10_06) = true ∧ s.tag.recovered = false ∧ s.nat 0x2A01_02 + 1 < 2 ^ 32) ∧
    (∃ (s : State), s.Inv ∧ s.phase = .off ∧ s.supply.source ≠ .store ∧ s.slotOrder.find? s.slotStarts = none ∧ s.firmware.busy = none) ∧
    (∃ (s : State), s.Inv ∧ s.powered = true ∧ s.flag 0x1A10_07 = false ∧ s.nat 0x1A10_06 < 2 ∧ s.slotStarts (s.nat 0x1A10_06) = true ∧ s.tag.recovered = false ∧ s.nat 0x2A01_02 + 1 < 2 ^ 32) ∧
    (∃ (s : State), s.Inv ∧ s.powered = true ∧ s.power ≠ .sleep ∧ s.halted = false ∧ s.flag 0x1A10_07 = false ∧ s.nat 0x1A10_06 < 2 ∧ s.slotStarts (s.nat 0x1A10_06) = true ∧ s.tag.recovered = false ∧ s.nat 0x2A01_02 + 1 < 2 ^ 32) ∧
    (∃ (s : State) (m : StartMeasure), s.Inv ∧ s.gateMetNow = true) ∧
    (∃ (s : State), s.Inv ∧ s.phase = .survey ∧ s.surveyMayStart = false ∧ s.passedMs s.gateT0 10 = true ∧ s.survey.phase ≠ .driving) ∧
    (∃ (s : State), s.Inv ∧ s.phase = .survey ∧ s.gateT0 ≤ s.now ∧ s.surveyMayStart = true) ∧
    (∃ (s : State), s.Inv ∧ s.readyDue = true ∧ s.nat 0x2701_01 ≠ 2) :=
  ⟨⟨(({ State.reset with supply := { State.reset.supply with source := .mains, mains := true } } : State)), by decide +kernel⟩,
   ⟨((({ State.reset with supply := { State.reset.supply with source := .mains, mains := true }, firmware := { State.reset.firmware with slots := [{ data := some [], st := 0 }, { data := some [], st := 0 }] } } : State))), by decide +kernel⟩,
   ⟨maker, by decide +kernel⟩,
   ⟨maker, by decide +kernel⟩,
   ⟨({ on with phase := .gate, now := 3471360000 }), ({ ports := List.replicate 8 [0, 0, 0, 0, 10000, 0], settled := List.replicate 10 false, probe := List.replicate 8 (0, 0), paths := 0, aerials := 0, sensors := List.replicate 6 250, locksBad := false }), by decide +kernel⟩,
   ⟨({ on with phase := .survey, now := 3471360000, gateT0 := 0 }), by decide +kernel⟩,
   ⟨({ on with phase := .survey, gateT0 := 0, survey := { on.survey with phase := .requested }, ma := { on.ma with acc := maCycle / 4 } }), by decide +kernel⟩,
   ⟨(({ on with phase := .finish, startT0 := 0, now := 3471360000 } : State).setN 0x2600_01 0), by decide +kernel⟩⟩

theorem witness_StandbySleepAndHalt :
    (∃ (s : State), s.Inv ∧ s.phase = .service ∧ s.power = .active ∧ s.nat 0x3800_01 ≠ 0 ∧ s.idle = true ∧ s.passedMs s.idleT0 (s.nat 0x3800_02) = true ∧ s.nat 0x3801_05 + 1 < 2 ^ 32) ∧
    (∃ (s : State) (c : WakeCause) (code : Nat), s.Inv ∧ s.phase = .service ∧ s.inStandby = true ∧ s.wakeCode c = some code) ∧
    (∃ (s : State), s.Inv ∧ s.phase = .service ∧ s.power ≠ .sleep ∧ s.nat 0x3800_03 = 1 ∧ s.idleInside = true ∧ s.groupRuns = false ∧ s.radioRests = true ∧ s.nat 0x3801_06 + 1 < 2 ^ 32) ∧
    (∃ (s : State) (c : SleepCause) (code : Nat), s.Inv ∧ s.phase = .service ∧ s.power = .sleep ∧ s.sleepCode c = some code ∧ s.tb.tb.toNat + (makeUp s.tb.slow s.tb.frac).1 < 2 ^ 48) ∧
    (∃ (s : State), s.Inv ∧ s.phase = .service ∧ s.power = .sleep ∧ 2 ^ 37 ≤ s.tb.slow ∧ s.tb.tb.toNat + (makeUp s.tb.slow s.tb.frac).1 < 2 ^ 48) ∧
    (∃ (s : State), s.Inv ∧ s.coreOn = true ∧ s.testAccess = true ∧ s.halted = false) ∧
    (∃ (s : State), s.Inv ∧ s.coreOn = true ∧ s.halted = true ∧ s.waits = [] ∧ s.bridged = false) :=
  ⟨⟨(({ on with now := 34713600000000 } : State).setN 0x3800_01 2), by decide +kernel⟩,
   ⟨({ on with power := .deep }), .host, 3, by decide +kernel⟩,
   ⟨(on.setN 0x3800_03 1), by decide +kernel⟩,
   ⟨(({ on with power := .sleep, ma := { on.ma with acc := 0 }, tb := { on.tb with slow := 32768 } } : State).setN 0x3800_05 1), .limit, 9, by decide +kernel⟩,
   ⟨({ on with power := .sleep, tb := { on.tb with slow := 2 ^ 37 } }), by decide +kernel⟩,
   ⟨({ on with testAccess := true }), by decide +kernel⟩,
   ⟨({ on with testAccess := true, halted := true, haltSeen := true }), by decide +kernel⟩⟩

theorem witness_EventsAndPads :
    (∃ (s : State) (word : Fin 3) (bits : BitVec 32), s.Inv ∧ s.coreOn = true) ∧
    (∃ (s : State) (e : Fin 96) (bits : BitVec 32), s.Inv ∧ s.coreOn = true ∧ s.isPending e = true ∧ s.raisedNow.any (fun x => x.1 = e.val) = true) ∧
    (∃ (s : State) (word : Fin 3) (bits : BitVec 32), s.Inv ∧ s.coreOn = true) ∧
    (∃ (s : State) (l : Fin 4), s.Inv ∧ s.coreOn = true ∧ (s.lines.getD l {}).phase = .pulse ∧ s.passedUs (s.lines.getD l {}).t0 (s.nat (0x3603_01 + l.val)) = true) ∧
    (∃ (s : State) (l : Fin 4), s.Inv ∧ s.coreOn = true ∧ (s.lines.getD l {}).phase = .gap ∧ s.passedUs (s.lines.getD l {}).t0 1 = true) ∧
    (∃ (s : State) (n : Fin 16) (rising : Bool), s.Inv ∧ s.coreOn = true ∧ s.padDir n = 0 ∧ s.flag (padKey n 5) ≠ rising ∧ s.flag 0x2820_01 = true ∧ s.triggers = [] ∧ s.causeLevel = 0 ∧ ∀ c : Fin 8, s.nat (capKey c 1) ≠ n.val + 1) ∧
    (∃ (s : State) (n : Fin 16) (rising : Bool), s.Inv ∧ s.coreOn = true ∧ s.padDir n = 2 ∧ s.padOut n = true ∧ s.flag (padKey n 5) ≠ rising) :=
  ⟨⟨(on.setN 0x3600_03 0xFFFFFFFF), 2, 0x80000001, by decide +kernel⟩,
   ⟨(on.raise 94), 94, 0xFFFFFFFF, by decide +kernel⟩,
   ⟨on, 0, 0xFFFFFFFF, by decide +kernel⟩,
   ⟨({ on with now := 3471360000000, lines := on.lines.set 3 { phase := .pulse, t0 := 0, owed := true } }), 3, by decide +kernel⟩,
   ⟨({ on with now := 3471360000000, lines := on.lines.set 3 { phase := .gap, t0 := 0, owed := true } }), 3, by decide +kernel⟩,
   ⟨(on.setN (padKey 15 1) 0), 15, true, by decide +kernel⟩,
   ⟨((on.setN (padKey 0 1) 2).setN (padKey 0 4) 1), 0, true, by decide +kernel⟩⟩

theorem witness_MainsFrame :
    (∃ (c : Instr) (s t : State), s.Inv ∧ tickCommand c = true ∧ exec c s = .next t) ∧
    (∃ (c : Instr) (s t : State), s.Inv ∧ mainsCommand c = true ∧ exec c s = .next t) ∧
    (∃ (c : Instr) (s t : State), s.Inv ∧ c = .burgeeOccurrence 0 false ∧ exec c s = .next t) :=
  ⟨⟨.angleWrap, locked, _, by decide +kernel, by decide, rfl⟩,
   ⟨.edgeWindowEnd, locked, _, by decide +kernel, by decide, rfl⟩,
   ⟨.burgeeOccurrence 0 false, on, _, by decide +kernel, by decide, rfl⟩⟩

theorem witness_PortFrame :
    (∃ (c : Instr) (s t : State), s.Inv ∧ portCommand c = true ∧ exec c s = .next t) :=
  ⟨.surveyStart, on, _, by decide +kernel, by decide, rfl⟩

theorem witness_ReceivePathFrame :
    (∃ (c : Instr) (s t : State), s.Inv ∧ receiveCommand c = true ∧ exec c s = .next t) :=
  ⟨.rxOverload 0, on, _, by decide +kernel, by decide, rfl⟩

theorem witness_EngineFrame :
    (∃ (c : Instr) (s t : State), s.Inv ∧ engineCommand c = true ∧ exec c s = .next t) ∧
    (∃ (c : Instr) (s t : State), s.Inv ∧ quietCommand c = true ∧ exec c s = .next t) ∧
    (∃ (c : Instr) (s t : State), s.Inv ∧ startsPing c = true ∧ exec c s = .next t) ∧
    (∃ (c : Instr) (s t : State), s.Inv ∧ c = .frondPingDecision 0 (0, 0) [] ∧ exec c s = .next t) :=
  ⟨⟨.falseStart 0, on, _, by decide +kernel, by decide, rfl⟩,
   ⟨.falseStart 0, on, _, by decide +kernel, by decide, rfl⟩,
   ⟨.lanePing 0, on, _, by decide +kernel, by decide, rfl⟩,
   ⟨.frondPingDecision 0 (0, 0) [], on, _, by decide +kernel, by decide, rfl⟩⟩

theorem witness_TagFrame :
    (∃ (c : Instr) (s t : State), s.Inv ∧ tagQuiet c = true ∧ exec c s = .next t) ∧
    (∃ (c : Instr) (s t : State), s.Inv ∧ blocksWritten c = some (1, 1) ∧ exec c s = .next t) :=
  ⟨⟨.lichenLatchExpiry, tagged, _, by decide +kernel, by decide, rfl⟩,
   ⟨.writeSingleBlock { mode := .all, option := false, dual := false, high := true, good := true } { rail := 0, cap := 0, loss := .none } 1 [], tagged, _, by decide +kernel, by decide, rfl⟩⟩

theorem witness_SupplyFrame :
    (∃ (c : Instr) (s t : State), s.Inv ∧ supplyCommand c = true ∧ exec c s = .next t) :=
  ⟨.voutRetry, on, _, by decide +kernel, by decide, rfl⟩

theorem witness_PoolFrame :
    (∃ (c : Instr) (s t : State), s.Inv ∧ poolCommand c = true ∧ exec c s = .next t) :=
  ⟨.queDrop, on, _, by decide +kernel, by decide, rfl⟩

theorem witness_LinkFrame :
    (∃ (c : Instr) (s t : State), s.Inv ∧ linkCommand c = true ∧ exec c s = .next t) ∧
    (∃ (c : Instr) (s t : State), s.Inv ∧ quietLink c = true ∧ exec c s = .next t) :=
  ⟨⟨.radioTimedStart, on, _, by decide +kernel, by decide, rfl⟩,
   ⟨.resyncEnd, on, _, by decide +kernel, by decide, rfl⟩⟩

theorem witness_TimerFrame :
    (∃ (c : Instr) (s t : State), s.Inv ∧ timerCommand c = true ∧ exec c s = .next t) :=
  ⟨.debugHaltEntry, on, _, by decide +kernel, by decide, rfl⟩

theorem witness_ModeFrame :
    (∃ (c : Instr) (s t : State), s.Inv ∧ modeCommand c = true ∧ exec c s = .next t) :=
  ⟨.standbyEntry, on, _, by decide +kernel, by decide, rfl⟩

theorem witness_EntryWriteFrame :
    (∃ (c : Instr) (who : Who) (e : Nat) (b : List Byte) (s t : State), entryWrite c = some (who, e, b) ∧ s.Inv ∧ s.serves who = true ∧
      s.halted = false ∧ s.recoveryBars e = false ∧ s.odWriteStatus who e b ≠ .ok ∧ exec c s = .next t) ∧
    (∃ (c : Instr) (s t : State), s.Inv ∧ s.halted = false ∧ securityWrite c = true ∧ exec c s = .next t) ∧
    (∃ (c : Instr) (s t : State), s.Inv ∧ s.halted = false ∧ tableWrite c = true ∧ exec c s = .next t) ∧
    ∃ (c : Instr) (s t : State), s.Inv ∧ s.halted = false ∧ timerWrite c = true ∧ exec c s = .next t :=
  ⟨⟨.erase .spi, .spi, 0x1A10_01, [1], on, _, rfl, by decide +kernel, by decide, by decide, by decide, by decide +kernel, rfl⟩,
   ⟨.erase .spi, maker, _, by decide +kernel, by decide, by decide, rfl⟩, ⟨.tableLookup .spi, on, _, by decide +kernel, by decide, by decide, rfl⟩,
   ⟨.gpDirWrite .spi 0 1, on, _, by decide +kernel, by decide, by decide, rfl⟩⟩

theorem witness_StoreFrame :
    (∃ (c : Instr) (s t : State), s.Inv ∧ keepsStore c = true ∧ exec c s = .next t) :=
  ⟨.edgeWindowEnd, locked, _, by decide +kernel, by decide, rfl⟩

theorem witness_PopOfEmptyQueueUnderflows :
    (∃ (s : State), s.Inv ∧ s.coreOn = true ∧ s.mayPop s.popQ 0 = true ∧ (s.queue s.popQ).current = none ∧ (s.queue s.popQ).items = [] ∧ s.nat (qKey s.popQ 14) + 1 < 2 ^ 32 ∧ s.nat 0x3620_39 + 1 < 2 ^ 32) ∧
    (∃ (s : State) (q : Fin 32) (who : Fin 8), s.Inv ∧ s.coreOn = true ∧ s.mayPop q who = true ∧ (s.mayPop q 0 = true → (s.queue q).current = none) ∧ (s.queue q).items = [] ∧ s.nat (qKey q 14) + 1 < 2 ^ 32 ∧ s.nat 0x3620_39 + 1 < 2 ^ 32) :=
  ⟨⟨(({ on with pool := { on.pool with sel := 0x1F00 } } : State).setN (qKey 31 10) 16), by decide +kernel⟩,
   ⟨on, 5, 3, by decide +kernel⟩⟩

theorem witness_ClaimLockout :
    (∃ (s : State) (who : Who) (x : Sess) (claim : List Byte), s.Inv ∧ s.phase = .service ∧ s.serves who = true ∧ s.halted = false ∧ sessOf? who = some x ∧ claim.length = 9 ∧ uAt claim 0 1 ≤ 2 ∧ s.judgeClaim x claim = .auth true ∧ ((s.lockEnds x).session x).fails < 2) ∧
    (∃ (s : State) (who : Who) (x : Sess) (claim : List Byte), s.Inv ∧ s.phase = .service ∧ s.serves who = true ∧ s.halted = false ∧ sessOf? who = some x ∧ claim.length = 9 ∧ uAt claim 0 1 ≤ 2 ∧ s.judgeClaim x claim = .auth true ∧ 2 ≤ ((s.lockEnds x).session x).fails) ∧
    (∃ (s : State) (who : Who) (x : Sess) (claim : List Byte), s.Inv ∧ s.phase = .service ∧ s.serves who = true ∧ s.halted = false ∧ sessOf? who = some x ∧ claim.length = 9 ∧ uAt claim 0 1 = 1 ∨ uAt claim 0 1 = 2 ∧ s.claimLocked x = true) ∧
    (∃ (s : State) (who : Who) (x : Sess) (claim : List Byte), s.Inv ∧ s.phase = .service ∧ s.serves who = true ∧ s.halted = false ∧ sessOf? who = some x ∧ claim.length = 9 ∧ uAt claim 0 1 ≤ 2 ∧ s.judgeClaim x claim = .accepted) ∧
    (∃ (s : State) (sess : Sess) (t0 : Nat), s.Inv ∧ s.powered = true ∧ (s.session sess).lockT0 = some t0 ∧ s.passedS t0 10 = true) ∧
    (∃ (s : State) (sess : Sess) (t0 : Nat), s.Inv ∧ (s.session sess).lockT0 = some t0 ∧ s.passedS t0 10 = false) :=
  ⟨⟨((on.setO 0x1810_01 (List.replicate 16 1))), .spi, .spi, (0x01 :: zeroBytes 8), by decide +kernel⟩,
   ⟨(({ (on.setO 0x1810_01 (List.replicate 16 1)) with sessions := [{ fails := 2 }, {}] } : State)), .spi, .spi, (0x01 :: zeroBytes 8), by decide +kernel⟩,
   ⟨(({ on with sessions := [{ fails := 3, lockT0 := some 0 }, {}] } : State)), .spi, .spi, (0x02 :: zeroBytes 8), by decide +kernel⟩,
   ⟨(({ on with sessions := [{ fails := 3, lockT0 := some 0 }, {}] } : State)), .spi, .spi, (zeroBytes 9), by decide +kernel⟩,
   ⟨({ on with now := 347136000000, sessions := [{}, { lockT0 := some 0, fails := 3 }] }), .uart, 0, by decide +kernel⟩,
   ⟨({ on with now := 347135999999, sessions := [{}, { lockT0 := some 0, fails := 3 }] }), .uart, 0, by decide +kernel⟩⟩

end Sys2Proof.Tests
end

section
/-!
SUPPORT. What a command can answer, said once for all 243 of them: the state that it met, or the finish of some effect on it. That
no step stops the block and that no command touches the queue follow from it alone.
-/

namespace Sys2Proof.Machine

open Sys2Proof

theorem next_answers (s : State) : Answers s (.next s) := .inl rfl

theorem dictAccess_answers (who : Who) (k : Nat) (value : Option (List Byte)) (s : State) : Answers s (dictAccess who k value s) :=
  nextAny_answers _ s _

/-- A slice that ends does so for the slice in progress; with none in progress nothing has happened. -/
theorem execSelfTestSlice_answers (x : SliceStep) (s : State) : Answers s (execSelfTestSlice x s) := by
  unfold execSelfTestSlice
  cases x with
  | start | startEscalated => exact done_answers s _
  | passed | preempted | found =>
    dsimp only
    split
    · exact done_answers s _
    · exact next_answers s

/-- Each command answers in one of the four forms: the first groups at once, the later ones after asking whether the thing in
progress that they concern is there, or which form the write has. -/
theorem exec_answers (c : Instr) (s : State) : Answers s (exec c s) := by
  cases c with
  | zeroCrossingEdge | blankingWindowEdge | maStatRead | portFaultDetect | laneAdmission | rxOverload | halyardClaim
  | halyardRelease | queuePushWord | commitBunting | abortBunting | queuePopRead | queDrop | hardwarePush | hardwarePop
  | poolFreeMinRead | tbLoRead | spiFrame | eccCorrection | eventClear | eventEnableWrite =>
    exact done_answers s _
  | inventory | stayQuiet | selectCard | resetToReady | readSingleBlock | extendedReadSingleBlock | writeSingleBlock
  | extendedWriteSingleBlock | readMultipleBlocks | extendedReadMultipleBlocks | writeMultipleBlocks
  | extendedWriteMultipleBlocks | writeAfi | writeDsfid | getSystemInformation | extendedGetSystemInformation
  | getMultipleBlockSecurityStatus | extGetMultiBlockSecurityStatus | tagUnsupportedCommand | getPwdNonce | presentPwd
  | authBegin | authFinish | logout | getTagStatus | stageApply | lineStateChange =>
    exact doneAny_answers s _
  | edgeWindowEnd | acquireTimeout | angleWrap | learnPassEnd | burgeeOccurrence | maSyncPulse | maSyncPulseEnd
  | chargingComplete | rampUpComplete | rampDownComplete | componentTransitionEnd | portLoadCheck | faultRecheck
  | portTestTimeEnd | surveyPeriodExpiry | surveyStart | surveySolve | teachTimeout | admitWaitExpiry | laneClosed
  | liveNullRecompute | cancellerAcquire | acquisitionEnd | suppressionLoss | cancellerIdle | gainRestore | replyStart
  | falseStart | replyComplete | noiseMeasurement | resetGuardEnd | commandStart | noReplyDecision | presenceTimeout
  | holdRelease | freePing | frondOccurrenceSkip | lanePing | disarmAbsorb | stagedSetApply | statusBlockWrite | ruleTrigger
  | thermalUpdate | compareFire | captureEdge | lcOverflow | radioTxFrame | radioPreambleDetect | rxCapture | sniffWake
  | sniffListenEnd | synthCalibration | synthUnlock | dutyBinAdvance | radioNoiseMeasurement | ldpcHoldExpiry | plTxFrame
  | tonemapIssue | plNoiseMeasurement | plCalibration | messageHandover | dravlinkFrameReceive | ackReceived | ackWaitExpiry
  | retryHandover | dravlinkOdRequest | resyncEnd | wakeHoldEnd | fwTrialExpiry | attestationComplete | sensorRead
  | calibrationStart | standbyEntry | standbyWake | sleepEntry | debugHaltEntry | debugHaltExit | irqPulseEnd | gpInputEdge
  | angleHalfCycle | plPreambleDetect | receiveWindowOpen | calDeferralLimit =>
    exact nextWhen_answers _ s _
  | tagFieldOn | tagFieldLoss | lichenLatchExpiry | tagLockoutEnd | rollForward | holdMaxExpiry | port0Release | sourceLoss
  | sourcePresence | preferredSourceReturn | storeLevelCrossing | shutdown | voutFault | voutRetry | halyardTick | tbWrap
  | poweredSecond | uartFrame | odAddrWrite | odDataAccess | odRead | odAbort | fastRegisterWrite | claimLockoutEnd
  | roleIdleExpiry | fwCmdComplete | coreStart | startGate | startupSurvey | readyForService | rstN | watchdogExpiry
  | sleepWake | sleepLimit | switchoverComplete | voutCurrentLimit =>
    exact nextAny_answers _ s _
  | angleRead | firSetWrite | maskWrite | refVectorWrite | pairsWrite | tableWindowWrite | captureValueRead | roleNonce
  | roleClaim | keyWrite | annotate | fwChunkWrite | blankSlotWrite | faultCodeWrite | fieldCapWrite | firMapWrite
  | portTestModeWrite | surveyCmd | teach | hostExchange | pollRequest | baseReset | storeRead | storeWriteGroup | holdWrite
  | tableInsert | tableDelete | tableLookup | tableClearAll | compareValueWrite | compareCtrlWrite | lcCountWrite
  | lcPrescaleWrite | radioTestModeWrite | notchWrite | tidReset | audAckWrite | erase | verifyImage | activate | confirm
  | revert | attestCmd | testAccess | calRequest | softReset | restoreDefaults | sleepCmd | routeWrite | lineModeWrite
  | gpDirWrite =>
    exact dictAccess_answers _ _ _ s
  | firTailEnd | verdictLate | presenceCheck | exchTimeout | frondPingDecision | gpioPulseEnd =>
    dsimp only [exec, execFirTailEnd, execVerdictLate, execPresenceCheck, execExchTimeout, execFrondPingDecision,
      execGpioPulseEnd]
    split
    · exact nextWhen_answers _ s _
    · exact done_answers s _
  | firCheckDone | verdictReady =>
    dsimp only [exec, execFirCheckDone, execVerdictReady]
    split
    · exact done_answers s _
    · exact done_answers s _
  | sceneStep | radioTransitionComplete | radioDeadline | radioTxEnd | radioTestTimeEnd | plTimedStart | plTxEnd
  | replyCacheExpiry =>
    dsimp only [exec, execSceneStep, execRadioTransitionComplete, execRadioDeadline, execRadioTxEnd, execRadioTestTimeEnd,
      execPlTimedStart, execPlTxEnd, execReplyCacheExpiry]
    split
    · exact nextWhen_answers _ s _
    · exact next_answers s
  | radioRxFrame | plRxFrame =>
    dsimp only [exec, execRadioRxFrame, execPlRxFrame]
    split
    · exact done_answers s _
    · exact next_answers s
  | radioTimedStart =>
    dsimp only [exec, execRadioTimedStart]
    split
    · exact nextWhen_answers _ s _
    · exact nextWhen_answers _ s _
  | frondConfigWrite | gpOutWrite =>
    dsimp only [exec, execFrondConfigWrite, execGpOutWrite]
    split
    · exact dictAccess_answers _ _ _ s
    · exact dictAccess_answers _ _ _ s
  | odWrite =>
    dsimp only [exec, execOdWrite]
    split
    · exact nextAny_answers _ s _
    · exact dictAccess_answers _ _ _ s
  | transactionTimeout | calibrationComplete =>
    dsimp only [exec, execTransactionTimeout, execCalibrationComplete]
    split <;> split
    · exact nextWhen_answers _ s _
    · exact next_answers s
    · exact nextWhen_answers _ s _
    · exact next_answers s
  | selfTestSlice x => exact execSelfTestSlice_answers x s

theorem Answers.exists_next {s : State} {o : Out} (h : Answers s o) : ∃ t, o = .next t := by
  rcases h with rfl | ⟨t, rfl⟩
  · exact ⟨s, rfl⟩
  · exact ⟨s.finish t, rfl⟩

theorem Answers.pending_eq {s t : State} {o : Out} (h : Answers s o) (ht : o = .next t) : t.pending = s.pending := by
  rcases h with rfl | ⟨u, rfl⟩ <;> cases ht
  · rfl
  · exact State.finish_pending s u

/-! ### Steps -/

theorem step_of_pending_nil {s : State} (h : s.pending = []) : step s = doneAny s s.idleTick := by
  unfold step
  rw [h]

theorem step_of_pending_cons {s : State} {c : Instr} {rest : List Instr} (h : s.pending = c :: rest) :
    step s = exec c { s with pending := rest } := by
  unfold step
  rw [h]

end Sys2Proof.Machine
end

section

open Sys2Proof Sys2Proof.Machine

/-- Settles O3: step takes the front command off the queue by definition. -/
theorem stepRunsFrontCommand : Obligations.StepRunsFrontCommand :=
  fun _ _ _ => step_of_pending_cons rfl

/-- Settles O5: an empty queue lets time pass, and every command answers a next state. -/
theorem everyStepIsSafe : Obligations.EveryStepIsSafe := by
  intro s
  show ∃ t, step s = .next t
  cases h : s.pending with
  | nil => exact ⟨_, step_of_pending_nil h⟩
  | cons c rest =>
    rw [step_of_pending_cons h]
    exact (exec_answers c _).exists_next

/-- Settles O6: whatever a command answers has the queue that the command met. -/
theorem commandsLeaveTheQueue : Obligations.CommandsLeaveTheQueue :=
  fun c s _ ht => (exec_answers c s).pending_eq ht

end

section
/-!
SUPPORT. The two sessions, field by field; what an access of the dictionary keeps of phase and sessions; how an access through FW_OD_CMD
ends; and the write of NODE (OD 1010/01), an entry with no row of its own in the command table.
-/

namespace Sys2Proof.Machine

open Sys2Proof

/-! ### How a command completes -/

/-- A command whose condition holds completes with what its effect, finished, satisfies. -/
theorem completes_of_nextAny {c : Instr} {s t : State} {b : Bool} {post : State → Prop} (hc : exec c s = nextAny b s t) (hb : b = true)
    (h : post (s.finish t)) : Completes c s post :=
  ⟨s.finish t, by rw [hc, nextAny_of t hb], h⟩

/-! ### Sessions -/

theorem sessIndex_lt (x : Sess) : sessIndex x < 2 := by cases x <;> decide

@[simp] theorem State.finish_session (s t : State) (x : Sess) : (s.finish t).session x = t.session x := by
  unfold State.session
  rw [State.finish_sessions, sized_getD _ _ (sessIndex_lt x)]

@[simp] theorem State.updSession_sessions_length (s : State) (x : Sess) (f : Session → Session) :
    (s.updSession x f).sessions.length = s.sessions.length := List.length_modify ..

/-- An update of a session is what that session reads, where both sessions are there. -/
theorem State.session_updSession {s : State} (x : Sess) (f : Session → Session) (h : s.sessions.length = 2) :
    (s.updSession x f).session x = f (s.session x) := by
  have hx : sessIndex x < s.sessions.length := h ▸ sessIndex_lt x
  simp [State.session, State.updSession, List.getD_eq_getElem?_getD, hx]

@[simp] theorem State.finish_remoteRuns (s t : State) (x : Sess) : (s.finish t).remoteRuns x = t.remoteRuns x := rfl

theorem State.OnlyEvents.session_eq {s t : State} (h : State.OnlyEvents s t) (x : Sess) : t.session x = s.session x := by
  rw [h]; rfl

theorem State.OnlyEvents.remoteRuns_eq {s t : State} (h : State.OnlyEvents s t) (x : Sess) : t.remoteRuns x = s.remoteRuns x := by
  rw [h]; rfl

/-- t is in the phase of s, and has as many sessions. -/
def State.SameHost (s t : State) : Prop := t.phase = s.phase ∧ t.sessions.length = s.sessions.length

theorem State.SameHost.refl (s : State) : s.SameHost s := ⟨rfl, rfl⟩

theorem State.SameHost.trans {s t u : State} (h : s.SameHost t) (g : t.SameHost u) : s.SameHost u :=
  ⟨g.1.trans h.1, g.2.trans h.2⟩

theorem State.SameHost.ite {s t u : State} {c : Prop} [Decidable c] (h : s.SameHost t) (g : s.SameHost u) :
    s.SameHost (if c then t else u) := by
  split
  · exact h
  · exact g

theorem State.OnlyEvents.sameHost {s t : State} (h : State.OnlyEvents s t) : s.SameHost t := by
  rw [h]; exact State.SameHost.refl s

theorem State.sameHost_updSession (s : State) (x : Sess) (f : Session → Session) : s.SameHost (s.updSession x f) :=
  ⟨rfl, State.updSession_sessions_length s x f⟩

/-! ### What a read keeps -/

theorem State.onlyEvents_capLand (s : State) (c stamp : Nat) : State.OnlyEvents s (s.capLand c stamp) := by
  unfold State.capLand
  dsimp only
  have landed : State.OnlyOd s (((s.setN (capKey c 3) stamp).setBit (capKey c 4) 0 true).bump (capKey c 5)) :=
    (State.onlyOd_put s _ _).trans ((State.onlyOd_setBit _ _ _ _).trans (State.onlyOd_bump _ _))
  split_ifs
  · have overrun := landed.trans ((State.onlyOd_setBit _ (capKey c 4) 1 true).trans (State.onlyOd_bump _ (capKey c 6)))
    exact (overrun.events.trans (State.onlyEvents_raise _ 62)).trans (State.onlyEvents_raise _ 63)
  · exact landed.events.trans (State.onlyEvents_raise _ 62)

theorem State.sameHost_readCapture (s : State) (c : Nat) : s.SameHost (s.readCapture c) := by
  unfold State.readCapture
  split
  · exact (State.onlyOd_setBit s _ _ _).events.trans (State.onlyEvents_capLand _ _ _) |>.sameHost
  · exact State.SameHost.refl s
  · exact State.SameHost.refl s

theorem State.sameHost_readNonce (s : State) (x : Option Sess) : s.SameHost (s.readNonce x) := by
  cases x with
  | none => exact State.SameHost.refl s
  | some x => exact ⟨rfl, State.updSession_sessions_length _ x _⟩

theorem State.sameHost_odTake (s : State) (who : Who) (k : Nat) : s.SameHost (s.odTake who k).1 := by
  unfold State.odTake
  split_ifs
  · exact State.SameHost.refl s
  · exact State.SameHost.refl s
  · exact State.sameHost_readNonce s _
  · exact State.sameHost_readCapture s _
  · exact State.SameHost.refl s
  · exact State.SameHost.refl s

theorem State.sameHost_odRead (s : State) (who : Who) (k : Nat) : s.SameHost (s.odRead who k).1 := by
  unfold State.odRead
  split
  · split
    · exact State.SameHost.refl s
    · exact State.sameHost_odTake s who k
  · exact State.SameHost.refl s

/-! ### What a refused write keeps -/

theorem State.onlyEvents_burgeeRefuse (s : State) : State.OnlyEvents s s.burgeeRefuse :=
  (State.onlyOd_bump s _).events.trans (State.onlyEvents_raise _ 71)

theorem State.onlyEvents_firReject (s : State) : State.OnlyEvents s s.firReject :=
  (State.onlyOd_bump s _).events.trans (State.onlyEvents_raise _ 5)

theorem State.onlyEvents_security (s : State) (reason : Nat) : State.OnlyEvents s (s.security reason) :=
  (State.onlyOd_put s _ _).events.trans (State.onlyEvents_raise _ 93)

theorem State.sameHost_auditPut (s : State) (e : AuditEntry) : s.SameHost (s.auditPut e) := by
  unfold State.auditPut
  refine .trans ?_ (.ite (State.onlyEvents_security _ 2).sameHost (.refl _))
  refine .trans ?_ (State.onlyOd_setFit _ _ _ _).events.sameHost
  exact State.SameHost.ite (State.onlyOd_bump s _).events.sameHost (.refl s)

theorem State.sameHost_lockEnds (s : State) (x : Sess) : s.SameHost (s.lockEnds x) := by
  unfold State.lockEnds
  split
  · exact State.sameHost_updSession s x _
  · exact State.SameHost.refl s

theorem State.sameHost_claimFailed (s : State) (x : Sess) : s.SameHost (s.claimFailed x) := by
  unfold State.claimFailed
  dsimp only
  split
  · exact (State.sameHost_updSession s x _).trans ((State.sameHost_updSession _ x _).trans
      ((State.sameHost_auditPut _ _).trans (State.onlyEvents_security _ 1).sameHost))
  · exact State.sameHost_updSession s x _

theorem State.sameHost_claimRefused (s : State) (x : Sess) (b : List Byte) : s.SameHost (s.claimRefused x b) := by
  have spent : s.SameHost ((s.lockEnds x).spendNonce x) := (State.sameHost_lockEnds s x).trans (State.sameHost_updSession _ x _)
  unfold State.claimRefused
  dsimp only
  split
  · exact spent.trans (State.sameHost_claimFailed _ x)
  · exact spent

theorem State.sameHost_securityRefused (s : State) (who : Who) (k : Nat) (v : Val) (st : Status) :
    s.SameHost (s.securityRefused who k v st) := by
  unfold State.securityRefused
  split
  · split
    · exact State.sameHost_claimRefused s _ _
    · exact State.SameHost.refl s
  · exact State.SameHost.refl s

theorem State.onlyEvents_portsRefused (s : State) (k : Nat) (st : Status) : State.OnlyEvents s (s.portsRefused k st) := by
  unfold State.portsRefused
  dsimp only
  split
  · exact State.onlyEvents_firReject s
  · exact State.OnlyEvents.refl s

theorem State.onlyEvents_angleRefused (s : State) (k : Nat) : State.OnlyEvents s (s.angleRefused k) := by
  unfold State.angleRefused
  split
  · exact State.onlyEvents_burgeeRefuse s
  · exact State.OnlyEvents.refl s

theorem State.sameHost_writeRefusedBy (s : State) (who : Who) (k : Nat) (v : Val) (st : Status) :
    s.SameHost (s.writeRefusedBy who k v st) := by
  have angle : State.OnlyEvents s (if st = .state then s.angleRefused k else s) := by
    split
    · exact State.onlyEvents_angleRefused s k
    · exact State.OnlyEvents.refl s
  unfold State.writeRefusedBy
  split
  · exact (State.onlyOd_bump s _).events.sameHost
  · exact (angle.trans (State.onlyEvents_portsRefused _ k st)).sameHost.trans (State.sameHost_securityRefused _ who k v st)

/-! ### A write that is taken, and one that is refused -/

theorem State.odWrite_of_ok {s : State} {who : Who} {k : Nat} {b : List Byte} {r : OdRow} (h : s.odWriteStatus who k b = .ok)
    (hr : odRow? k = some r) :
    s.odWrite who k b = ((s.takeWrite who k b (r.valueOf b)).recoveryStart k (r.valueOf b), .ok) := by
  unfold State.odWrite
  rw [h, hr]

/-- A refused write answers its status; it changes neither the phase nor the number of sessions. -/
theorem State.odWrite_of_refused {s : State} {who : Who} {k : Nat} {b : List Byte} (h : s.odWriteStatus who k b ≠ .ok) :
    (s.odWrite who k b).2 = s.odWriteStatus who k b ∧ s.SameHost (s.odWrite who k b).1 := by
  unfold State.odWrite
  split
  · next hok _ => exact absurd hok h
  · exact ⟨rfl, State.sameHost_writeRefusedBy s who k _ _⟩
  · exact ⟨rfl, State.SameHost.refl s⟩

/-! ### Accesses through FW_OD_CMD (R331) -/

theorem Status.code_eq_zero_iff (st : Status) : st.code = 0 ↔ st = .ok := by cases st <;> decide

theorem State.recoveryBars_of_service {s : State} (h : s.phase = .service) (k : Nat) : s.recoveryBars k = false := by
  simp [State.recoveryBars, h]

theorem State.mustStay_of_running {s : State} (h : s.halted = false) (who : Who) (k : Nat) (value : Option (List Byte)) :
    s.mustStay who k value = false := by
  simp [State.mustStay, h]

theorem State.access_read_of_service {s : State} (h : s.phase = .service) (who : Who) (k : Nat) :
    s.access who k none = s.odRead who k := by
  simp [State.access, State.recoveryBars_of_service h]

theorem State.access_write_of_service {s : State} (h : s.phase = .service) (who : Who) (k : Nat) (b : List Byte) :
    s.access who k (some b) = ((s.odWrite who k b).1, (s.odWrite who k b).2, []) := by
  simp [State.access, State.recoveryBars_of_service h]

theorem State.cmdAccess_of_running {s : State} (h : s.halted = false) (x : Sess) (k : Nat) (value : Option (List Byte)) :
    s.cmdAccess x k value = { (s.access (whoOf x) k value).1.cmdDone x s.phase (s.access (whoOf x) k value).2.1
      (s.access (whoOf x) k value).2.2 with status := (s.access (whoOf x) k value).2.1 } := by
  cases x <;> simp [State.cmdAccess, State.mustStay_of_running h, whoOf]

theorem State.cmdDone_of_phase {s : State} {phase : Phase} (h : s.phase = phase) (x : Sess) (st : Status) (b : List Byte) :
    s.cmdDone x phase st b = s.odDone x st.code b := if_pos h

theorem State.session_odDone {s : State} (x : Sess) (code : Nat) (value : List Byte) (h : s.sessions.length = 2) :
    (s.odDone x code value).session x =
      { s.session x with
        stat := if code = 0 then 2 else 3, code := code, len := value.length
        buf := if value = [] then (s.session x).buf else value, ptr := 0 } :=
  State.session_updSession x _ h

/-- How an access shows once it has ended (R331): the status, then STATE, CODE, LENGTH and the pointer of its session. -/
def State.EndsWith (s : State) (x : Sess) (st : Status) (len : Nat) : Prop :=
  s.status = st ∧ (s.session x).stat = (if st = .ok then 2 else 3) ∧ (s.session x).code = st.code ∧ (s.session x).len = len ∧
    (s.session x).ptr = 0

theorem State.EndsWith.finish {t : State} {x : Sess} {st : Status} {len : Nat} (h : t.EndsWith x st len) (s : State) :
    (s.finish t).EndsWith x st len := by
  unfold State.EndsWith
  rw [State.finish_status, State.finish_session]
  exact h

theorem State.dictAccess_of_running {s : State} (h : s.halted = false) (who : Who) (k : Nat) (value : Option (List Byte)) :
    dictAccess who k value s = nextAny (s.serves who) s (s.accessOut who k value) := by
  simp [dictAccess, State.mustStay_of_running h]

@[simp] theorem State.accessOut_status (s : State) (who : Who) (k : Nat) (value : Option (List Byte)) :
    (s.accessOut who k value).status = (s.access who k value).2.1 := rfl

@[simp] theorem State.accessOut_nat (s : State) (who : Who) (k : Nat) (value : Option (List Byte)) (j : Nat) :
    (s.accessOut who k value).nat j = (s.access who k value).1.nat j := rfl

/-- An access that the running core takes at once ends with its status and its value. -/
theorem State.cmdAccess_endsWith {s : State} {x : Sess} {k : Nat} {value : Option (List Byte)} {st : Status} {b : List Byte}
    (hrun : s.halted = false) (h2 : s.sessions.length = 2) (hst : (s.access (whoOf x) k value).2 = (st, b))
    (hkeep : s.SameHost (s.access (whoOf x) k value).1) : (s.cmdAccess x k value).EndsWith x st b.length := by
  obtain ⟨phase, sessions⟩ := hkeep
  rw [State.cmdAccess_of_running hrun, hst, State.cmdDone_of_phase phase]
  have shown := State.session_odDone x st.code b (sessions.trans h2)
  refine ⟨rfl, ?_⟩
  change ((State.odDone _ x st.code b).session x).stat = _ ∧ ((State.odDone _ x st.code b).session x).code = _ ∧
    ((State.odDone _ x st.code b).session x).len = _ ∧ ((State.odDone _ x st.code b).session x).ptr = _
  rw [shown]
  exact ⟨by simp only [Status.code_eq_zero_iff], rfl, rfl, rfl⟩

theorem State.cmdRead_of_local {s : State} {x : Sess} (hidle : (s.session x).stat ≠ 1) (hnode : s.localNode (s.session x).node = true)
    (ofs : Nat) : s.cmdRead x ofs = s.cmdAccess x (s.session x).key none := by
  simp [State.cmdRead, hidle, hnode]

theorem State.cmdWrite_of_local {s : State} {x : Sess} {len : Nat} (hidle : (s.session x).stat ≠ 1)
    (hnode : s.localNode (s.session x).node = true) (hlen : len ≤ 256) :
    s.cmdWrite x len = s.cmdAccess x (s.session x).key (some (slice (s.session x).buf 0 len)) := by
  simp [State.cmdWrite, hidle, hnode, Nat.not_lt.mpr hlen]

theorem State.cmdRead_endsWith {s : State} {x : Sess} (hserv : s.phase = .service) (hrun : s.halted = false) (h2 : s.sessions.length = 2)
    (hidle : (s.session x).stat ≠ 1) (hnode : s.localNode (s.session x).node = true) (ofs : Nat) :
    (s.cmdRead x ofs).EndsWith x (s.odRead (whoOf x) (s.session x).key).2.1 (s.odRead (whoOf x) (s.session x).key).2.2.length := by
  have read := State.access_read_of_service hserv (whoOf x) (s.session x).key
  rw [State.cmdRead_of_local hidle hnode]
  exact State.cmdAccess_endsWith hrun h2 (by rw [read]) (by rw [read]; exact State.sameHost_odRead ..)

theorem State.cmdWrite_endsWith_of_refused {s : State} {x : Sess} {len : Nat} (hserv : s.phase = .service) (hrun : s.halted = false)
    (h2 : s.sessions.length = 2) (hidle : (s.session x).stat ≠ 1) (hnode : s.localNode (s.session x).node = true) (hlen : len ≤ 256)
    (hbad : s.odWriteStatus (whoOf x) (s.session x).key (slice (s.session x).buf 0 len) ≠ .ok) :
    (s.cmdWrite x len).EndsWith x (s.odWriteStatus (whoOf x) (s.session x).key (slice (s.session x).buf 0 len)) 0 := by
  have write := State.access_write_of_service hserv (whoOf x) (s.session x).key (slice (s.session x).buf 0 len)
  obtain ⟨status, keeps⟩ := State.odWrite_of_refused hbad
  rw [State.cmdWrite_of_local hidle hnode hlen]
  exact State.cmdAccess_endsWith (b := []) hrun h2 (by rw [write, status]) (by rw [write]; exact keeps)

/-- A command given while one runs is rejected (R331). -/
theorem State.cmdRead_of_running {s : State} {x : Sess} (h : (s.session x).stat = 1) (ofs : Nat) :
    s.cmdRead x ofs = s.updSession x fun y => { y with rejected := true } := if_pos h

theorem State.cmdWrite_of_running {s : State} {x : Sess} (h : (s.session x).stat = 1) (len : Nat) :
    s.cmdWrite x len = s.updSession x fun y => { y with rejected := true } := if_pos h

/-! ### The abort of a remote request (R331) -/

theorem State.remoteRuns_remoteAbort (s : State) (x : Sess) : (s.remoteAbort x).remoteRuns x = false := by
  unfold State.remoteAbort
  rw [(State.onlyEvents_raise _ 86).remoteRuns_eq]
  simp [State.remoteRuns, State.odDone, State.updSession, State.updLink]

theorem State.session_remoteAbort {s : State} (x : Sess) (h : s.sessions.length = 2) :
    ((s.remoteAbort x).session x).stat = 3 ∧ ((s.remoteAbort x).session x).code = 14 := by
  unfold State.remoteAbort
  rw [(State.onlyEvents_raise _ 86).session_eq, State.session_odDone x _ _ (by exact h)]
  exact ⟨rfl, rfl⟩

theorem State.isPending_remoteAbort (s : State) (x : Sess) : (s.remoteAbort x).isPending 86 = true :=
  State.isPending_raise _ 86 (by decide)

theorem State.cmdAbort_of_remote {s : State} {x : Sess} (h : s.remoteRuns x = true) : s.cmdAbort x = s.remoteAbort x := if_pos h

theorem State.cmdAbort_of_none {s : State} {x : Sess} (h : s.remoteRuns x = false) : s.cmdAbort x = s := by
  simp [State.cmdAbort, h]

/-! ### The words of FW_OD_DATA -/

theorem leBytes_length (n v : Nat) : (leBytes n v).length = n := by simp [leBytes]

theorem slice_length (b : List Byte) (o n : Nat) : (slice b o n).length = n := by simp [slice]

/-- Bytes written at an offset inside are read there. -/
theorem slice_splice {b v : List Byte} {o : Nat} (h : o ≤ b.length) : slice (splice b o v) o v.length = v := by
  apply List.ext_getElem
  · rw [slice_length]
  · intro i h1 h2
    simp [slice, splice, List.getD_eq_getElem?_getD, List.getElem?_append, h, h2]

/-- A word written is in the buffer at the pointer, which has moved on. -/
theorem State.session_odDataWrite {s : State} {x : Sess} (w : BitVec 32) (h2 : s.sessions.length = 2) (hptr : (s.session x).ptr < 64) :
    ((s.odDataWrite x w).session x).ptr = (s.session x).ptr + 1 ∧
      slice ((s.odDataWrite x w).session x).buf (4 * (s.session x).ptr) 4 = leBytes 4 w.toNat := by
  unfold State.odDataWrite
  rw [State.session_updSession x _ h2, if_pos hptr]
  refine ⟨rfl, ?_⟩
  have inside : 4 * (s.session x).ptr ≤ (slice (s.session x).buf 0 256).length := by rw [slice_length]; omega
  simpa only [leBytes_length] using slice_splice (v := leBytes 4 w.toNat) inside

/-- A read moves the pointer and leaves the words. -/
theorem State.session_odDataRead {s : State} {x : Sess} (h2 : s.sessions.length = 2) :
    ((s.odDataRead x).1.session x).ptr = (s.session x).ptr + 1 ∧ ((s.odDataRead x).1.session x).buf = (s.session x).buf := by
  unfold State.odDataRead
  rw [State.session_updSession x _ h2]
  exact ⟨rfl, rfl⟩

/-! ### A write of NODE (OD 1010/01) -/

theorem odRow_node : odRow? 0x1010_01 = some ⟨0x1010, 1, 1, 0x01, 0x01, .u8, .rw, 7, 6, .num 0, true, .span 0 64, 0⟩ := by
  decide

/-- An octet of an unsigned entry with no res. bits is its value. -/
theorem OdRow.valueOf_octet {r : OdRow} (ht : r.ty = .u8) (hm : r.mask = 0) (v : BitVec 8) :
    r.valueOf (leBytes 1 v.toNat) = .num v.toNat := by
  have one : leNat (leBytes 1 v.toNat) = v.toNat := by
    simp [leNat, leBytes]
  simp [OdRow.valueOf, ht, hm, one, OdType.signed]

/-- No chapter merges what is written to NODE. -/
theorem State.merged_node (s : State) (v : Val) : s.merged 0x1010_01 v = v := by
  simp [State.merged, State.modesMerge, padsMerge, State.eventsMerge, State.calMerge, State.poolMerge, queueOf, State.tagMerge,
    State.frondMerge, State.pennantsMerge, State.matchMerge, slotOf?, State.actionRes, State.securityMerge, State.timerMerge,
    State.portsMerge]

/-- Of the chapters the link alone follows a write of NODE. -/
theorem State.chapterWritten_node (s old : State) (who : Who) (v : Val) :
    s.chapterWritten old who 0x1010_01 v = s.linkWritten old 0x1010_01 := by
  simp [State.chapterWritten, State.angleWritten, State.portsWritten, State.rxWritten, State.pennantsTaken, State.frondWritten,
    State.matchWritten, slotOf?, State.tagWritten, State.supplyWritten, State.poolWritten, queueOf, State.timerWritten,
    State.radioWritten, State.plWritten, State.calWritten, State.eventsWritten, State.padsWritten, State.securityWritten,
    State.modesWritten]

theorem State.val_security (s : State) (reason : Nat) {k : Nat} (he : ¬ eventKey k) (hs : k ≠ 0x1812_04) :
    (s.security reason).val k = s.val k := by
  unfold State.security
  rw [State.val_raise _ _ he, State.val_setN_ne _ _ hs]

theorem State.val_ite_eq {s t u : State} {c : Prop} [Decidable c] {k : Nat} (h : t.val k = s.val k) (g : u.val k = s.val k) :
    (if c then t else u).val k = s.val k := by
  split
  · exact h
  · exact g

/-- An audit record writes the counters of OD 1900, and SEC_REASON with its event where the ring fills. -/
theorem State.val_auditPut (s : State) (e : AuditEntry) {k : Nat} (he : ¬ eventKey k) (hs : k ≠ 0x1812_04) (ha : k / 256 ≠ 0x1900) :
    (s.auditPut e).val k = s.val k := by
  unfold State.auditPut
  refine (State.val_ite_eq (State.val_security _ 2 he hs) rfl).trans ((State.val_setFit_ne _ _ _ (by omega)).trans ?_)
  exact State.val_ite_eq (State.val_bump_ne s (by omega)) rfl

theorem State.val_recordWrite_node (s : State) (who : Who) (b : List Byte) :
    (s.recordWrite who 0x1010_01 b).val 0x1010_01 = s.val 0x1010_01 := by
  have recorded : (s.auditWrite who 0 0x1010_01 b).val 0x1010_01 = s.val 0x1010_01 :=
    State.val_auditPut s _ (by unfold eventKey; decide) (by decide) (by decide)
  have outside : (slotOf? 0x1010_01).isSome = false := by decide
  by_cases operator : s.roleOf who = .operator
  · simp [State.recordWrite, operator]
  · simp [State.recordWrite, operator, outside, recorded]

theorem State.val_windowsRestart (s : State) {k : Nat} (h : k < 0x1100_00) : s.windowsRestart.val k = s.val k := by
  unfold State.windowsRestart
  generalize List.range 64 = l
  induction l generalizing s with
  | nil => rfl
  | cons i rest ih =>
    rw [List.foldl_cons, ih]
    exact State.val_setN_ne s 0 (by unfold peerKey; omega)

theorem State.val_linkWritten (s old : State) (k : Nat) {j : Nat} (h : j < 0x1100_00) : (s.linkWritten old k).val j = s.val j := by
  unfold State.linkWritten
  split
  · exact State.val_windowsRestart s h
  · rfl

theorem State.cmpFirst_node (s : State) : s.cmpFirst 0x1010_01 = s := by simp [State.cmpFirst]

theorem State.defers_node (s : State) : s.defers 0x1010_01 = false := by simp [State.defers]

theorem State.matchRun_node (s : State) (who : Who) (v : Val) (b : List Byte) : s.matchRun who 0x1010_01 v b = s := by
  simp [State.matchRun]

theorem State.recoveryStart_node (s : State) (v : Val) : s.recoveryStart 0x1010_01 v = s := by
  simp [State.recoveryStart]

/-- A taken write of NODE stores its value. -/
theorem State.val_takeWrite_node (s : State) (who : Who) (b : List Byte) (v : Val) :
    (s.takeWrite who 0x1010_01 b v).val 0x1010_01 = v := by
  have outside : (slotOf? 0x1010_01).isSome = false := by decide
  unfold State.takeWrite
  simp only [State.defers_node, outside, Bool.false_eq_true, if_false, State.cmpFirst_node, State.merged_node, State.matchRun_node,
    State.chapterWritten_node]
  rw [State.val_linkWritten _ _ _ (by decide), State.val_recordWrite_node, State.val_put_same]

/-- A write of NODE that passes the checks ends OK, with the value in the entry. -/
theorem State.odWrite_node {s : State} {who : Who} {v : BitVec 8} (h : s.odWriteStatus who 0x1010_01 (leBytes 1 v.toNat) = .ok) :
    (s.odWrite who 0x1010_01 (leBytes 1 v.toNat)).2 = .ok ∧
      (s.odWrite who 0x1010_01 (leBytes 1 v.toNat)).1.val 0x1010_01 = .num v.toNat := by
  rw [State.odWrite_of_ok h odRow_node, OdRow.valueOf_octet rfl rfl, State.recoveryStart_node]
  exact ⟨rfl, State.val_takeWrite_node ..⟩

/-! ### Counters and the fast registers -/

theorem State.nat_bump_same {s : State} {k : Nat} (h : s.nat k + 1 < 2 ^ 32) : (s.bump k).nat k = s.nat k + 1 := by
  unfold State.bump State.add State.setFit
  rw [if_pos h, State.nat_setN_same]

theorem State.fastWrite_of_guarded {a : Nat} (h : fastGuarded a = true) (s : State) (x : Sess) (w : BitVec 32) :
    s.fastWrite x a w = s.bump 0x1001_04 := if_pos h

theorem State.finish_sessions_eq {s t : State} (h : t.sessions.length = 2) : (s.finish t).sessions = t.sessions := by
  rw [State.finish_sessions, sized_of_length _ h]

theorem State.finish_pool_eq {s t : State} (h : t.pool.queues.length = 32) : (s.finish t).pool = t.pool := by
  rw [State.finish_pool, State.shaped_pool, sized_of_length {} h]

theorem State.sessions_length_of_inv {s : State} (h : s.Inv) : s.sessions.length = 2 := by
  obtain ⟨_, _, _, _, _, _, _, _, _, _, _, sessions, _⟩ := h
  exact sessions

theorem State.queues_length_of_inv {s : State} (h : s.Inv) : s.pool.queues.length = 32 := by
  obtain ⟨_, _, _, _, _, _, _, _, _, _, _, _, _, _, _, _, _, _, _, _, queues, _⟩ := h
  exact queues

/-! ### What each command completes with -/

section

variable {s : State} {sess : Sess} (hI : s.Inv) (hreads : s.reads sess = true)

include hI hreads

theorem odAddrWrite_completes (w : BitVec 32) :
    Completes (.odAddrWrite sess w) s fun t => (t.session sess).addr = w ∧ (t.session sess).ptr = 0 ∧ t.od = s.od.canon := by
  refine completes_of_nextAny rfl hreads ?_
  rw [State.finish_session, State.odAddr, State.session_updSession sess _ (State.sessions_length_of_inv hI)]
  exact ⟨rfl, rfl, rfl⟩

theorem odDataWrite_completes (w : BitVec 32) (hptr : (s.session sess).ptr < 64) :
    Completes (.odDataAccess sess (some w)) s fun t => (t.session sess).ptr = (s.session sess).ptr + 1 ∧
      slice (t.session sess).buf (4 * (s.session sess).ptr) 4 = leBytes 4 w.toNat ∧ t.od = s.od.canon := by
  obtain ⟨ptr, word⟩ := State.session_odDataWrite w (State.sessions_length_of_inv hI) hptr
  refine completes_of_nextAny rfl hreads ?_
  rw [State.finish_session]
  exact ⟨ptr, word, rfl⟩

theorem odDataRead_completes :
    Completes (.odDataAccess sess none) s fun t => t.out = .num (s.session sess).word ∧
      (t.session sess).ptr = (s.session sess).ptr + 1 ∧ (t.session sess).buf = (s.session sess).buf := by
  obtain ⟨ptr, buf⟩ := State.session_odDataRead (x := sess) (State.sessions_length_of_inv hI)
  refine completes_of_nextAny rfl hreads ?_
  rw [State.finish_session]
  exact ⟨rfl, ptr, buf⟩

theorem odRead_of_running_completes (ofs : BitVec 8) (hstat : (s.session sess).stat = 1) :
    Completes (.odRead sess ofs) s fun t => (t.session sess).rejected = true ∧ (t.session sess).stat = 1 ∧
      (t.session sess).addr = (s.session sess).addr ∧ t.od = s.od.canon := by
  refine completes_of_nextAny rfl hreads ?_
  rw [State.finish_session, State.cmdRead_of_running hstat, State.session_updSession sess _ (State.sessions_length_of_inv hI)]
  exact ⟨rfl, hstat, rfl, rfl⟩

theorem odRead_of_local_completes (ofs : BitVec 8) (hserv : s.phase = .service) (hrun : s.halted = false)
    (hidle : (s.session sess).stat ≠ 1) (hnode : s.localNode (s.session sess).node = true) :
    Completes (.odRead sess ofs) s fun t => t.status = (s.odRead (whoOf sess) (s.session sess).key).2.1 ∧
      (t.session sess).code = (s.odRead (whoOf sess) (s.session sess).key).2.1.code ∧
      (t.session sess).len = (s.odRead (whoOf sess) (s.session sess).key).2.2.length ∧ (t.session sess).ptr = 0 ∧
      (t.session sess).stat = if t.status = .ok then 2 else 3 := by
  refine completes_of_nextAny rfl hreads ?_
  obtain ⟨status, stat, code, len, ptr⟩ :=
    (State.cmdRead_endsWith hserv hrun (State.sessions_length_of_inv hI) hidle hnode ofs.toNat).finish s
  exact ⟨status, code, len, ptr, status ▸ stat⟩

theorem odWriteCommand_of_running_completes (len : BitVec 16) (hstat : (s.session sess).stat = 1) :
    Completes (.odWrite (.command sess len)) s fun t => (t.session sess).rejected = true ∧ (t.session sess).stat = 1 ∧
      t.od = s.od.canon := by
  refine completes_of_nextAny rfl hreads ?_
  rw [State.finish_session, State.cmdWrite_of_running hstat, State.session_updSession sess _ (State.sessions_length_of_inv hI)]
  exact ⟨rfl, hstat, rfl⟩

theorem odWriteCommand_of_refused_completes (len : BitVec 16) (hrun : s.halted = false) (hserv : s.phase = .service)
    (hidle : (s.session sess).stat ≠ 1) (hnode : s.localNode (s.session sess).node = true) (hlen : len.toNat ≤ 256)
    (hbad : s.odWriteStatus (whoOf sess) (s.session sess).key (slice (s.session sess).buf 0 len.toNat) ≠ .ok) :
    Completes (.odWrite (.command sess len)) s fun t =>
      t.status = s.odWriteStatus (whoOf sess) (s.session sess).key (slice (s.session sess).buf 0 len.toNat) ∧
      (t.session sess).stat = 3 ∧ (t.session sess).code = t.status.code ∧ (t.session sess).len = 0 := by
  refine completes_of_nextAny rfl hreads ?_
  obtain ⟨status, stat, code, len, _⟩ :=
    (State.cmdWrite_endsWith_of_refused hserv hrun (State.sessions_length_of_inv hI) hidle hnode hlen hbad).finish s
  rw [if_neg hbad] at stat
  exact ⟨status, stat, status ▸ code, len⟩

theorem odAbort_of_remote_completes (hruns : s.remoteRuns sess = true) :
    Completes (.odAbort sess) s fun t => (t.session sess).stat = 3 ∧ (t.session sess).code = 14 ∧ t.isPending 86 = true ∧
      t.remoteRuns sess = false := by
  obtain ⟨stat, code⟩ := State.session_remoteAbort sess (State.sessions_length_of_inv hI)
  refine completes_of_nextAny rfl hreads ?_
  rw [State.cmdAbort_of_remote hruns, State.finish_session, State.finish_isPending,
    State.finish_remoteRuns]
  exact ⟨stat, code, State.isPending_remoteAbort s sess, State.remoteRuns_remoteAbort s sess⟩

omit hI in
theorem odAbort_of_none_completes (hnone : s.remoteRuns sess = false) : Completes (.odAbort sess) s fun t => t = s.finish s := by
  refine completes_of_nextAny rfl hreads ?_
  rw [State.cmdAbort_of_none hnone]

/-- A write of a guarded register counts in SPI_ERRORS and does nothing else (R332, R333). -/
theorem fastRegisterWrite_of_guarded_completes (word : Fin 64) (w : BitVec 32) (hguard : fastGuarded word = true)
    (hroom : s.nat 0x1001_04 + 1 < 2 ^ 32) :
    Completes (.fastRegisterWrite sess word w) s fun t => t.nat 0x1001_04 = s.nat 0x1001_04 + 1 ∧ t.sessions = s.sessions ∧
      t.pool = s.pool := by
  have counted := State.onlyOd_bump s 0x1001_04
  have sessions : (s.bump 0x1001_04).sessions = s.sessions := by rw [counted]
  have pool : (s.bump 0x1001_04).pool = s.pool := by rw [counted]
  refine completes_of_nextAny rfl hreads ?_
  rw [State.fastWrite_of_guarded hguard, State.finish_nat, State.nat_bump_same hroom,
    State.finish_sessions_eq (sessions ▸ State.sessions_length_of_inv hI), State.finish_pool_eq (pool ▸ State.queues_length_of_inv hI)]
  exact ⟨rfl, sessions, pool⟩

theorem fastRegisterWrite_odAddr_completes (w : BitVec 32) :
    Completes (.fastRegisterWrite sess 16 w) s fun t => (t.session sess).addr = w ∧ (t.session sess).ptr = 0 ∧
      t.nat 0x1001_04 = s.nat 0x1001_04 := by
  have written : s.fastWrite sess (16 : Fin 64) w = s.odAddr sess w := rfl
  refine completes_of_nextAny rfl hreads ?_
  rw [written, State.finish_session, State.finish_nat, State.odAddr,
    State.session_updSession sess _ (State.sessions_length_of_inv hI)]
  exact ⟨rfl, rfl, rfl⟩

omit hI in
theorem fastRegisterWrite_queueSel_completes (w : BitVec 32) :
    Completes (.fastRegisterWrite sess 32 w) s fun t => t.pool.sel = w &&& 0x1F1F ∧ t.od = s.od.canon :=
  completes_of_nextAny rfl hreads ⟨rfl, rfl⟩

end

theorem odWriteEntry_node_completes {s : State} {who : Who} {value : BitVec 8}
    (hwrites : s.writes who 0x1010_01 (leBytes 1 value.toNat) = true) :
    Completes (.odWrite (.entry who 0x1010 1 (leBytes 1 value.toNat))) s fun t => t.status = .ok ∧ t.nat 0x1010_01 = value.toNat := by
  unfold State.writes at hwrites
  simp only [Bool.and_eq_true, decide_eq_true_eq, Bool.not_eq_true'] at hwrites
  obtain ⟨⟨⟨⟨hserv, hserves⟩, hrun⟩, hok⟩, _⟩ := hwrites
  obtain ⟨status, stored⟩ := State.odWrite_node hok
  have atOnce := State.dictAccess_of_running hrun who 0x1010_01 (some (leBytes 1 value.toNat))
  refine completes_of_nextAny atOnce hserves ?_
  rw [State.finish_status, State.finish_nat, State.accessOut_status, State.accessOut_nat, State.access_write_of_service hserv]
  exact ⟨status, by rw [State.nat, stored]; rfl⟩

end Sys2Proof.Machine
end

section

open Sys2Proof Sys2Proof.Machine

/-- Settles O38: clause by clause, what the command's one effect leaves in the session that gives it. -/
theorem dictionaryRegisters : Obligations.DictionaryRegisters :=
  ⟨fun _ _ w hI h => odAddrWrite_completes hI h w,
   fun _ _ w hI h hptr => odDataWrite_completes hI h w hptr,
   fun _ _ hI h => odDataRead_completes hI h,
   fun _ _ ofs hI h hstat => odRead_of_running_completes hI h ofs hstat,
   fun _ _ ofs hI h hserv hrun hidle hnode => odRead_of_local_completes hI h ofs hserv hrun hidle hnode,
   fun _ _ len hI h hstat => odWriteCommand_of_running_completes hI h len hstat,
   fun _ _ len hI h hrun hserv hidle hnode hlen hbad => odWriteCommand_of_refused_completes hI h len hrun hserv hidle hnode hlen hbad,
   fun _ _ _ _ _ hwrites hsub => hsub ▸ odWriteEntry_node_completes hwrites,
   fun _ _ hI h hruns => odAbort_of_remote_completes hI h hruns,
   fun _ _ _ h hnone => odAbort_of_none_completes h hnone,
   fun _ _ word w hI h hguard hroom => fastRegisterWrite_of_guarded_completes hI h word w hguard hroom,
   fun _ _ w hI h => fastRegisterWrite_odAddr_completes hI h w,
   fun _ _ w _ h => fastRegisterWrite_queueSel_completes h w⟩

end

section
/-!
SUPPORT. What the clocks and the capture channels leave of the mains angle: its registers, and every entry below the trigger
queue's counters.
-/

namespace Sys2Proof.Machine

open Sys2Proof

/-- A command that completes leaves its postcondition in the state that it answers. -/
theorem Completes.post_of_exec {c : Instr} {s t : State} {post : State → Prop} (h : Completes c s post) (ht : exec c s = .next t) : post t := by
  obtain ⟨u, hu, hpost⟩ := h
  rw [hu] at ht
  cases ht
  exact hpost

/-! ### The angle that a finished state has -/

@[simp] theorem State.finish_ma_state (s t : State) : (s.finish t).ma.state = t.ma.state := rfl
@[simp] theorem State.finish_ma_acc (s t : State) : (s.finish t).ma.acc = t.ma.acc := rfl
@[simp] theorem State.finish_ma_cycle (s t : State) : (s.finish t).ma.cycle = t.ma.cycle := rfl
@[simp] theorem State.finish_ma_rate (s t : State) : (s.finish t).ma.rate = t.ma.rate := rfl
@[simp] theorem State.finish_ma_learned (s t : State) : (s.finish t).ma.learned = t.ma.learned := rfl
@[simp] theorem State.finish_ma_sync (s t : State) : (s.finish t).ma.sync = t.ma.sync := rfl
@[simp] theorem State.finish_ma_syncPulse (s t : State) : (s.finish t).ma.syncPulse = t.ma.syncPulse := rfl

/-! ### What captures and counters keep of the angle -/

/-- t has the angle of s, the phase of its fabric clock, and the values of its entries below OD 2820/03. -/
structure State.KeepsAngle (s t : State) : Prop where
  angle : t.ma = s.ma
  phase : t.tb.ph = s.tb.ph
  low : ∀ k < 0x2820_03, t.val k = s.val k

theorem State.KeepsAngle.refl (s : State) : s.KeepsAngle s := ⟨rfl, rfl, fun _ _ => rfl⟩

theorem State.KeepsAngle.trans {s t u : State} (h : s.KeepsAngle t) (g : t.KeepsAngle u) : s.KeepsAngle u :=
  ⟨g.angle.trans h.angle, g.phase.trans h.phase, fun k hk => (g.low k hk).trans (h.low k hk)⟩

theorem State.KeepsAngle.ite {s t u : State} {c : Prop} [Decidable c] (h : s.KeepsAngle t) (g : s.KeepsAngle u) :
    s.KeepsAngle (if c then t else u) := by
  split
  · exact h
  · exact g

theorem State.KeepsAngle.foldl {α : Type} {f : State → α → State} (h : ∀ t x, State.KeepsAngle t (f t x)) (l : List α) (s : State) :
    s.KeepsAngle (l.foldl f s) := by
  induction l generalizing s with
  | nil => exact State.KeepsAngle.refl s
  | cons x rest ih => exact (h s x).trans (ih (f s x))

theorem State.KeepsAngle.nat_eq {s t : State} (h : s.KeepsAngle t) {k : Nat} (hk : k < 0x2820_03) : t.nat k = s.nat k := by
  unfold State.nat
  rw [h.low k hk]

theorem not_eventKey_of_low {k : Nat} (hk : k < 0x2820_03) : ¬ eventKey k := by
  unfold eventKey
  omega

theorem State.keepsAngle_put (s : State) {k : Nat} (v : Val) (hk : 0x2820_03 ≤ k) : s.KeepsAngle (s.put k v) :=
  ⟨rfl, rfl, fun _ hj => State.val_put_ne s v (by omega)⟩

theorem State.keepsAngle_setBit (s : State) {k : Nat} (i : Nat) (b : Bool) (hk : 0x2820_03 ≤ k) : s.KeepsAngle (s.setBit k i b) :=
  s.keepsAngle_put _ hk

theorem State.keepsAngle_bump (s : State) {k : Nat} (hk : 0x2820_03 ≤ k) : s.KeepsAngle (s.bump k) := by
  refine ⟨?_, ?_, fun _ hj => State.val_bump_ne s (by omega)⟩
  · rw [State.onlyOd_bump s k]
  · rw [State.onlyOd_bump s k]

theorem State.keepsAngle_raise (s : State) (e : Nat) : s.KeepsAngle (s.raise e) := by
  refine ⟨?_, ?_, fun _ hj => State.val_raise s e (not_eventKey_of_low hj)⟩
  · rw [State.onlyEvents_raise s e]
  · rw [State.onlyEvents_raise s e]

theorem State.keepsAngle_capLand (s : State) (c stamp : Nat) : s.KeepsAngle (s.capLand c stamp) := by
  have channel (sub : Nat) : 0x2820_03 ≤ capKey c sub := by unfold capKey; omega
  unfold State.capLand
  dsimp only
  have landed := (s.keepsAngle_put (.num stamp) (channel 3)).trans
    ((State.keepsAngle_setBit _ 0 true (channel 4)).trans (State.keepsAngle_bump _ (channel 5)))
  split_ifs
  · have overrun := (State.keepsAngle_setBit (((s.setN (capKey c 3) stamp).setBit (capKey c 4) 0 true).bump (capKey c 5)) 1 true
      (channel 4)).trans (State.keepsAngle_bump _ (channel 6))
    exact landed.trans (overrun.trans ((State.keepsAngle_raise _ 62).trans (State.keepsAngle_raise _ 63)))
  · exact landed.trans (State.keepsAngle_raise _ 62)

/-- A change of the time base alone that leaves the phase. -/
theorem State.keepsAngle_tb (s : State) {tb : TimeBase} (h : tb.ph = s.tb.ph) : s.KeepsAngle { s with tb := tb } :=
  ⟨rfl, h, fun _ _ => rfl⟩

theorem State.keepsAngle_capFlush (s : State) : s.KeepsAngle s.capFlush := by
  unfold State.capFlush
  refine (s.keepsAngle_tb (tb := { s.tb with capHeld := [], capOld := [] }) rfl).trans ?_
  refine State.KeepsAngle.foldl ?_ _ _
  exact fun t x => t.keepsAngle_capLand x.1 x.2

theorem State.keepsAngle_capTake (s : State) (c stamp : Nat) : s.KeepsAngle (s.capTake c stamp) := by
  unfold State.capTake
  dsimp only
  split
  · exact (State.KeepsAngle.ite s.keepsAngle_capFlush (.refl s)).trans (State.keepsAngle_tb _ rfl)
  · exact (s.keepsAngle_capLand c stamp).trans (State.keepsAngle_tb _ rfl)

theorem State.keepsAngle_capEdge (s : State) (src : Nat) (rising : Bool) (stamp : Nat) : s.KeepsAngle (s.capEdge src rising stamp) := by
  unfold State.capEdge
  exact State.KeepsAngle.foldl (fun t c => .ite (t.keepsAngle_capTake c stamp) (.refl t)) _ s

@[simp] theorem State.capEdge_ma (s : State) (src : Nat) (rising : Bool) (stamp : Nat) : (s.capEdge src rising stamp).ma = s.ma :=
  (s.keepsAngle_capEdge src rising stamp).angle

/-! ### The tracking loop -/

theorem State.raise_ma (s : State) (e : Nat) : (s.raise e).ma = s.ma := (s.keepsAngle_raise e).angle

/-- Entering another state ends with event 68. -/
theorem State.maEnter_eq_raise {s : State} {st : MaState} (h : s.ma.state ≠ st) : ∃ u : State, s.maEnter st = u.raise 68 ∧ u.ma.state = st := by
  unfold State.maEnter
  rw [if_neg h]
  exact ⟨_, rfl, rfl⟩

theorem State.maEnter_state (s : State) (st : MaState) : (s.maEnter st).ma.state = st := by
  by_cases h : s.ma.state = st
  · rwa [State.maEnter, if_pos h]
  · obtain ⟨u, hu, hst⟩ := State.maEnter_eq_raise h
    rw [hu, State.raise_ma, hst]

/-- A crossing that is accepted with two intervals in a row outside 44 to 67 Hz behind it, and no crossing to measure from, takes
the loop to OUT_OF_RANGE (Table 2-1). -/
theorem State.zeroCrossing_outOfRange {s : State} (hfree : s.ma.state = .freeRun) (hzc : s.ma.lastZc = none) (hout : 2 ≤ s.ma.outside) :
    (s.zeroCrossing true).ma.state = .outOfRange := by
  unfold State.zeroCrossing State.maMeasure State.crossingNoted
  simp [hfree, hzc, hout, State.setI, State.maEnter_state]

/-! ### The states of the refutations -/

/-- A module in service in FREE_RUN before its first crossing, but with two intervals outside 44 to 67 Hz on record. -/
def offRangeBeforeFirstCrossing : State := { State.reset with phase := .service, ma := { outside := 2 } }

/-- A module in service whose TB is at its end, and on whose list of edges that wait for the tick's end stands a channel 256, which
there is not: its VALUE would be OD 2B30/03. -/
def strayEdgeAtTbEnd : State :=
  { State.reset with phase := .service, tb := { tb := BitVec.allOnes 48, ph := 9, capHeld := [(256, 5)] } }

/-- A module in service whose LC0 is about to wrap, and on whose list of edges that wait for the tick's end stands a channel 16, which
there is not: its VALUE would be COUNT of LC0. -/
def strayEdgeAtOverflow : State :=
  { State.reset with phase := .service, od := [(lcKey 0 1, .num 1), (lcKey 0 3, .num 0xFFFF)], tb := { ph := 19, capHeld := [(16, 5)] } }

end Sys2Proof.Machine
end

section

open Sys2Proof Sys2Proof.Machine

/-- Settles O1: the reset state is the one whose fields all hold their defaults. -/
theorem resetIsFactoryState : Obligations.ResetIsFactoryState := by
  have ports (p : Nat) : (State.reset.port p).state = .off := by
    by_cases hp : p < 8
    · exact (by decide : ∀ q < 8, (State.reset.port q).state = .off) p hp
    · unfold State.port
      rw [List.getD_eq_default _ _ (by exact Nat.not_lt.mp hp)]
  exact ⟨rfl, rfl, rfl, rfl, rfl, rfl, rfl, rfl, fun _ => rfl, fun _ => rfl, ports⟩

/-- Refutes O9: its first clause asks nothing of the run of intervals outside 44 to 67 Hz; with a run of two the first crossing
takes the loop to OUT_OF_RANGE instead of ACQUIRE (Table 2-1). No module comes to such a state. -/
theorem not_mainsCrossing : ¬ Obligations.MainsCrossing := by
  rintro ⟨first, -⟩
  have hout : (offRangeBeforeFirstCrossing.zeroCrossing true).ma.state = .outOfRange :=
    State.zeroCrossing_outOfRange rfl rfl (by decide)
  obtain ⟨hacquire, -⟩ := (first offRangeBeforeFirstCrossing rfl rfl rfl rfl).post_of_exec (done_of_on _ rfl)
  rw [State.finish_ma_state, hout] at hacquire
  exact absurd hacquire (by decide)

/-- Refutes O30: its clause on legacy counters asks nothing of the capture edges that wait for the tick's end; one of a channel 16
lands on COUNT of LC0 before the bus clock, which then counts from there. No module comes to such a state. -/
theorem not_timeBaseRuns : ¬ Obligations.TimeBaseRuns := by
  rintro ⟨-, -, -, -, -, -, -, -, -, overflow, -⟩
  obtain ⟨count, -⟩ := (overflow strayEdgeAtOverflow 0 (by decide +kernel) rfl (by decide +kernel) rfl (by decide +kernel)
    (by decide +kernel)).post_of_exec (nextWhen_of_on _ (by decide +kernel) rfl)
  rw [State.finish_nat] at count
  exact absurd count (by decide +kernel)

/-- Refutes O46: its clause on the clocks asks nothing of the capture edges that wait for the tick's end; one of a channel 256 lands
on OD 2B30/03, which is no capture channel's. No module comes to such a state. -/
theorem not_mainsFrame : ¬ Obligations.MainsFrame := by
  rintro ⟨ticks, -⟩
  obtain ⟨-, -, -, -, -, -, -, -, -, -, -, -, -, -, -, -, -, -, -, entries⟩ :=
    ticks .tbWrap strayEdgeAtTbEnd _ (by decide +kernel) rfl (nextAny_of _ rfl)
  have kept := entries 0x2B30_03 (by decide)
  rw [State.finish_val] at kept
  exact absurd kept (by decide +kernel)

end


section
/-!
SUPPORT. A crystal cycle of the mains angle, and what stands between a command and that cycle: fabric clocks that leave the angle.
-/

namespace Sys2Proof.Machine

open Sys2Proof

/-! ### Folds -/

/-- What no step of a fold changes, the fold does not change. -/
theorem foldl_proj {α β : Type} (g : State → β) {f : State → α → State} (h : ∀ t x, g (f t x) = g t) (l : List α) (s : State) :
    g (l.foldl f s) = g s := by
  induction l generalizing s with
  | nil => rfl
  | cons x rest ih => exact (ih (f s x)).trans (h s x)

/-! ### Clocks that leave the angle -/

theorem State.keepsAngle_lcWrap (s : State) (i : Nat) : s.KeepsAngle (s.lcWrap i) := by
  have reset := (s.keepsAngle_put (k := 0x2A40_03 + 0x100 * i) (.num 0) (by omega)).trans
    (State.keepsAngle_put _ (k := 0x2A40_04 + 0x100 * i) (.num 1) (by omega))
  unfold State.lcWrap
  extract_lets
  split
  · exact reset.trans (State.keepsAngle_raise _ 64)
  · exact reset

theorem State.keepsAngle_lcCount (s : State) (i : Nat) : s.KeepsAngle (s.lcCount i).1 := by
  unfold State.lcCount
  extract_lets
  split_ifs
  · exact .refl s
  · exact s.keepsAngle_lcWrap i
  · exact s.keepsAngle_put _ (by omega)

theorem State.keepsAngle_lcCarry (s : State) (i : Nat) : s.KeepsAngle (s.lcCarry i) :=
  .ite (s.keepsAngle_lcCount _) (.refl s)

theorem State.keepsAngle_lcStep (s : State) (i : Nat) : s.KeepsAngle (s.lcStep i) := by
  unfold State.lcStep
  refine (s.keepsAngle_tb (tb := { s.tb with lcPre := s.tb.lcPre.set i 0 }) rfl).trans ?_
  exact (State.keepsAngle_lcCount _ i).trans (.ite (State.keepsAngle_lcCarry _ i) (.refl _))

theorem State.keepsAngle_busTick (s : State) : s.KeepsAngle s.busTick := by
  unfold State.busTick
  refine State.KeepsAngle.trans (State.KeepsAngle.foldl ?_ _ s) (State.keepsAngle_tb _ rfl)
  exact fun t i => .ite (t.keepsAngle_lcStep i) (.ite (t.keepsAngle_tb rfl) (.refl t))

theorem State.keepsAngle_secondTick (s : State) : s.KeepsAngle s.secondTick := by
  unfold State.secondTick
  split
  · exact State.KeepsAngle.trans (t := { s with tb := { s.tb with secTicks := 0 }, radio := _ }) ⟨rfl, rfl, fun _ _ => rfl⟩
      (State.keepsAngle_put _ _ (by omega))
  · exact s.keepsAngle_tb rfl

theorem State.keepsAngle_tbTick (s : State) : s.KeepsAngle s.tbTick := by
  unfold State.tbTick
  split
  · exact (s.keepsAngle_tb (tb := { s.tb with tb := 0, epoch := s.tb.epoch + 1 }) rfl).trans (State.keepsAngle_raise _ 65)
  · exact s.keepsAngle_tb rfl

/-- A crystal cycle moves the angle last, as it found it. -/
theorem State.crystalTick_eq_maTick (s : State) (frozen : Bool) : ∃ u, s.KeepsAngle u ∧ s.crystalTick frozen = u.maTick :=
  ⟨_, (s.keepsAngle_capFlush.trans (State.keepsAngle_secondTick _)).trans (.ite (State.keepsAngle_put _ _ (by omega)) (State.keepsAngle_tbTick _)),
    rfl⟩

/-- A fabric clock: its phase alone has moved. -/
def State.clocked (s : State) : State := { s with now := s.now + quantaFabric, tb := { s.tb with ph := (s.tb.ph + 1) % 20 } }

/-- A crystal cycle where the phase has one, then a bus clock where it has one. -/
theorem State.fabricTick_eq (s : State) (frozen : Bool) :
    s.fabricTick frozen =
      if (s.tb.ph + 1) % 20 % 4 = 0 && !frozen then
        (if (s.tb.ph + 1) % 20 % 10 = 0 then s.clocked.crystalTick frozen else s.clocked).busTick
      else if (s.tb.ph + 1) % 20 % 10 = 0 then s.clocked.crystalTick frozen else s.clocked := rfl

theorem State.keepsAngle_fabricTick (s : State) (frozen : Bool) (h : (s.tb.ph + 1) % 20 % 10 ≠ 0) :
    s.clocked.KeepsAngle (s.fabricTick frozen) := by
  rw [State.fabricTick_eq, if_neg h]
  exact .ite (State.keepsAngle_busTick _) (.refl _)

theorem State.fabricTick_ma (s : State) (frozen : Bool) (h : (s.tb.ph + 1) % 20 % 10 = 0) :
    ∃ u, s.clocked.KeepsAngle u ∧ (s.fabricTick frozen).ma = u.maTick.ma := by
  obtain ⟨u, hu, hcrystal⟩ := s.clocked.crystalTick_eq_maTick frozen
  have bus : u.maTick.KeepsAngle (s.fabricTick frozen) := by
    rw [State.fabricTick_eq, if_pos h, hcrystal]
    exact .ite (State.keepsAngle_busTick _) (.refl _)
  exact ⟨u, hu, bus.angle⟩

/-- The fabric clocks up to the next crystal cycle, and the cycle. -/
theorem State.fabricTicks_ma (n : Nat) (s : State) (h : s.tb.ph % 10 + n = 9) :
    ∃ u : State, u.ma = s.ma ∧ (∀ k < 0x2820_03, u.val k = s.val k) ∧ (s.fabricTicks (n + 1)).ma = u.maTick.ma := by
  induction n generalizing s with
  | zero =>
    obtain ⟨u, hu, hma⟩ := s.fabricTick_ma s.frozen (by omega)
    exact ⟨u, hu.angle, hu.low, hma⟩
  | succ n ih =>
    have tick := s.keepsAngle_fabricTick s.frozen (by omega)
    have phase : (s.fabricTick s.frozen).tb.ph = (s.tb.ph + 1) % 20 := tick.phase
    obtain ⟨u, hu, hlow, hma⟩ := ih (s.fabricTick s.frozen) (by omega)
    exact ⟨u, hu.trans tick.angle, fun k hk => (hlow k hk).trans (tick.low k hk), hma⟩

theorem State.toCrystal_ma (s : State) :
    ∃ u : State, u.ma = s.ma ∧ (∀ k < 0x2820_03, u.val k = s.val k) ∧ s.toCrystal.ma = u.maTick.ma := by
  obtain ⟨u, hu, hlow, hma⟩ := State.fabricTicks_ma (9 - s.tb.ph % 10) s (by omega)
  have count : 10 - s.tb.ph % 10 = 9 - s.tb.ph % 10 + 1 := by omega
  exact ⟨u, hu, hlow, by rw [State.toCrystal, count, hma]⟩


/-! ### The pad and the windows follow the angle -/

theorem State.driveSync_ma (s : State) (level : Bool) : (s.driveSync level).ma = { s.ma with sync := level } := by
  unfold State.driveSync
  split
  · next h => rw [← h]
  · dsimp only
    split
    · exact State.capEdge_ma _ _ _ _
    · rfl

/-- The pad follows the angle in its own two registers. -/
theorem State.syncFollow_ma (s : State) : ∃ b p, s.syncFollow.ma = { s.ma with sync := b, syncPulse := p } := by
  have driven (b : Bool) : (s.driveSync b).syncStill.ma = { s.ma with sync := b, syncPulse := none } := by
    unfold State.syncStill
    dsimp only
    rw [State.driveSync_ma]
  unfold State.syncFollow
  split
  · exact ⟨_, _, driven _⟩
  · exact ⟨_, _, driven _⟩
  · exact ⟨_, _, driven _⟩
  · exact ⟨_, _, rfl⟩

theorem State.syncFollow_sync_half {s : State} (h : s.nat 0x2160_01 = 3) : s.syncFollow.ma.sync = decide (s.angle < 0x8000) := by
  unfold State.syncFollow
  rw [h]
  exact congrArg Angle.sync (s.driveSync_ma _)

theorem State.syncFollow_sync_blank {s : State} (h : s.nat 0x2160_01 = 4) : s.syncFollow.ma.sync = s.inBlank := by
  unfold State.syncFollow
  rw [h]
  exact congrArg Angle.sync (s.driveSync_ma _)

theorem State.burgeeRefresh_ma (s : State) : s.burgeeRefresh.ma = s.ma := by
  unfold State.burgeeRefresh
  refine foldl_proj State.ma ?_ _ _
  intro t w
  dsimp only
  split_ifs
  · rfl
  · exact State.raise_ma _ _
  · rfl

theorem State.burgeeRefresh_nat (s : State) {k : Nat} (hk : k < 0x2820_03) (h : k % 256 ≠ 8) : s.burgeeRefresh.nat k = s.nat k := by
  unfold State.burgeeRefresh
  refine foldl_proj (State.nat · k) ?_ _ _
  intro t w
  have other : k ≠ 0x2140_08 + 0x100 * w := by omega
  dsimp only
  split_ifs
  · rfl
  · exact ((State.keepsAngle_raise _ 71).nat_eq hk).trans (t.nat_setN_ne _ other)
  · exact t.nat_setN_ne _ other

/-! ### The turn of the angle -/

/-- The accumulator, the cycle count, the rate and the state of the loop are the same. -/
structure State.SameTurn (s t : State) : Prop where
  acc : t.ma.acc = s.ma.acc
  cycle : t.ma.cycle = s.ma.cycle
  rate : t.ma.rate = s.ma.rate
  state : t.ma.state = s.ma.state

theorem State.SameTurn.trans {s t u : State} (h : s.SameTurn t) (g : t.SameTurn u) : s.SameTurn u :=
  ⟨g.acc.trans h.acc, g.cycle.trans h.cycle, g.rate.trans h.rate, g.state.trans h.state⟩

theorem State.sameTurn_syncFollow (s : State) : s.SameTurn s.syncFollow := by
  obtain ⟨b, p, h⟩ := s.syncFollow_ma
  constructor <;> rw [h]

theorem State.sameTurn_burgeeShut (s : State) : s.SameTurn s.burgeeShut := by
  have shut {β : Type} (g : Angle → β) (h : ∀ (x : Angle) (bs : List Burgee), g { x with burgee := bs } = g x) :
      g s.burgeeShut.ma = g s.ma := by
    unfold State.burgeeShut
    refine foldl_proj (fun t : State => g t.ma) ?_ _ _
    intro t w
    split
    · rfl
    · exact h t.ma _
  exact ⟨shut _ fun _ _ => rfl, shut _ fun _ _ => rfl, shut _ fun _ _ => rfl, shut _ fun _ _ => rfl⟩

theorem State.sameTurn_blankLoad (s : State) : s.SameTurn s.blankLoad := by
  unfold State.blankLoad
  constructor <;> rw [State.burgeeRefresh_ma]

/-- The angle passes 0x0000: the cycle count has advanced, whatever windows and pad do there. -/
theorem State.maWrap_turn (s : State) (acc : Nat) :
    (s.maWrap acc).ma.acc = acc ∧ (s.maWrap acc).ma.cycle = s.ma.cycle + 1 ∧ (s.maWrap acc).ma.rate = s.ma.rate ∧
      (s.maWrap acc).ma.state = s.ma.state := by
  obtain ⟨u, hu, hacc, hcycle, hrate, hstate⟩ : ∃ u : State, s.maWrap acc = u.burgeeShut.blankLoad.syncFollow ∧ u.ma.acc = acc ∧
      u.ma.cycle = s.ma.cycle + 1 ∧ u.ma.rate = s.ma.rate ∧ u.ma.state = s.ma.state := by
    unfold State.maWrap
    exact ⟨_, rfl, rfl, rfl, rfl, rfl⟩
  have turn := (u.sameTurn_burgeeShut.trans (State.sameTurn_blankLoad _)).trans (State.sameTurn_syncFollow _)
  rw [hu]
  exact ⟨turn.acc.trans hacc, turn.cycle.trans hcycle, turn.rate.trans hrate, turn.state.trans hstate⟩

/-- A crystal cycle that takes the accumulator over its end passes 0x0000. -/
theorem State.maTick_wrap {s : State} (h : maCycle ≤ s.accNext) :
    s.maTick.ma.acc = s.accNext - maCycle ∧ s.maTick.ma.cycle = s.ma.cycle + 1 ∧ s.maTick.ma.rate = s.ma.rate ∧
      s.maTick.ma.state = s.ma.state := by
  unfold State.maTick
  dsimp only
  rw [if_pos h]
  exact State.maWrap_turn _ _

/-- A crystal cycle that takes the accumulator over its half passes 0x8000, where the pad of mode 3 goes low. -/
theorem State.maTick_half {s : State} (hbefore : s.ma.acc * 2 < maCycle) (hafter : maCycle ≤ s.accNext * 2) (hend : s.accNext < maCycle)
    (hmode : s.nat 0x2160_01 = 3) : s.maTick.ma.acc = s.accNext ∧ s.maTick.ma.sync = false ∧ s.maTick.ma.cycle = s.ma.cycle := by
  obtain ⟨u, hu, hod, hacc, hcycle⟩ : ∃ u : State, s.maTick = u.syncFollow ∧ u.od = s.od ∧ u.ma.acc = s.accNext ∧
      u.ma.cycle = s.ma.cycle := by
    unfold State.maTick
    dsimp only
    rw [if_neg (by omega), if_pos ⟨hbefore, hafter⟩]
    exact ⟨_, rfl, rfl, rfl, rfl⟩
  have mode : u.nat 0x2160_01 = 3 := by
    rw [← hmode]
    unfold State.nat State.val
    rw [hod]
  have high : ¬ u.angle < 0x8000 := by
    unfold State.angle maCycle at *
    rw [hacc]
    omega
  have turn := u.sameTurn_syncFollow
  rw [hu, State.syncFollow_sync_half mode]
  exact ⟨turn.acc.trans hacc, decide_eq_false high, turn.cycle.trans hcycle⟩


theorem completes_of_done {c : Instr} {s t : State} {post : State → Prop} (hc : exec c s = done s t) (hon : s.coreOn = true)
    (h : post (s.finish t)) : Completes c s post :=
  ⟨s.finish t, by rw [hc, done_of_on t hon], h⟩

theorem completes_of_nextWhen {c : Instr} {s t : State} {b : Bool} {post : State → Prop} (hc : exec c s = nextWhen b s t) (hb : b = true)
    (hon : s.coreOn = true) (h : post (s.finish t)) : Completes c s post :=
  ⟨s.finish t, by rw [hc, nextWhen_of_on t hb hon], h⟩

theorem State.driveSync_sync (s : State) (level : Bool) : (s.driveSync level).ma.sync = level := by rw [State.driveSync_ma]

theorem State.driveSync_syncPulse (s : State) (level : Bool) : (s.driveSync level).ma.syncPulse = s.ma.syncPulse := by rw [State.driveSync_ma]

theorem State.nat_of_val {s t : State} {k : Nat} (h : t.val k = s.val k) : t.nat k = s.nat k := by
  unfold State.nat
  rw [h]

/-! ### The end of a learning pass -/

/-- Blanking slots are written above the learning parameters. -/
theorem State.blankFill_val (s : State) (bs : List Nat) (rs : List Region) {k : Nat} (hk : k < 0x2130_00) : (s.blankFill bs rs).val k = s.val k := by
  have slot (t : State) (b start len source level : Nat) : (t.blankPut b start len source level).val k = t.val k := by
    unfold State.blankPut
    dsimp only
    rw [State.val_setN_ne _ _ (by omega), State.val_setN_ne _ _ (by omega), State.val_setN_ne _ _ (by omega), State.val_setN_ne _ _ (by omega)]
  induction bs generalizing s rs with
  | nil => rfl
  | cons b bs ih =>
    cases rs with
    | nil => exact (ih _ _).trans (s.val_setN_ne _ (by omega))
    | cons r rs =>
      unfold State.blankFill
      split
      rename_i drawn hdrawn
      have same : drawn.val k = s.val k := by
        split at hdrawn <;> cases hdrawn <;> rfl
      exact ((ih _ _).trans (slot _ _ _ _ _ _)).trans same

/-- A pass that ends publishes its levels and raises event 70; mode 2 goes back to 0. -/
theorem State.learnEnd_eq_raise (s : State) (levels : List Byte) :
    ∃ u : State, s.learnEnd levels = (if u.nat 0x2120_01 = 2 then u.setN 0x2120_01 0 else u).raise 70 ∧
      u.oct 0x2170_01 = s.binLevels levels ∧ u.ma.learned = 0 ∧ u.nat 0x2120_01 = s.nat 0x2120_01 := by
  unfold State.learnEnd
  extract_lets levels' slots regions
  split
  rename_i fit dropped _
  extract_lets filled counted
  have fill : filled.val 0x2120_01 = s.val 0x2120_01 := s.blankFill_val _ _ (by decide)
  have count : counted.val 0x2120_01 = s.val 0x2120_01 := by
    unfold counted
    split
    · exact fill
    · exact (filled.val_setFit_ne _ _ (by decide)).trans fill
  exact ⟨_, rfl, counted.oct_setO_same _ _, rfl, State.nat_of_val ((counted.val_put_ne (k := 0x2170_01) _ (by decide)).trans count)⟩

theorem State.learnEnd_post (s : State) (levels : List Byte) :
    (s.learnEnd levels).oct 0x2170_01 = s.binLevels levels ∧ (s.learnEnd levels).ma.learned = 0 ∧ (s.learnEnd levels).isPending 70 = true ∧
      (s.nat 0x2120_01 = 2 → (s.learnEnd levels).nat 0x2120_01 = 0) := by
  obtain ⟨u, hu, hlevels, hlearned, hmode⟩ := s.learnEnd_eq_raise levels
  rw [hu]
  have low {k : Nat} (hk : k < 0x2820_03) (t : State) : (t.raise 70).val k = t.val k := t.val_raise 70 (not_eventKey_of_low hk)
  refine ⟨?_, ?_, State.isPending_raise _ _ (by decide), fun h => ?_⟩
  · unfold State.oct
    rw [low (by decide)]
    split
    · rw [State.val_setN_ne _ _ (by decide)]
      exact hlevels
    · exact hlevels
  · rw [State.raise_ma]
    split
    · exact hlearned
    · exact hlearned
  · rw [if_pos (hmode.trans h)]
    exact ((State.keepsAngle_raise _ 70).nat_eq (by decide)).trans (u.nat_setN_same _ _)

/-! ### Burgee occurrences -/

theorem State.updBurgee_getD_same (s : State) {w : Nat} (f : Burgee → Burgee) (h : w < s.ma.burgee.length) :
    (s.updBurgee w f).ma.burgee.getD w {} = f (s.ma.burgee.getD w {}) := by
  unfold State.updBurgee
  simp [List.getD_eq_getElem?_getD, h]

theorem State.updBurgee_getD_ne (s : State) {w v : Nat} (f : Burgee → Burgee) (h : v ≠ w) :
    (s.updBurgee w f).ma.burgee.getD v {} = s.ma.burgee.getD v {} := by
  unfold State.updBurgee
  simp [List.getD_eq_getElem?_getD, List.getElem?_modify_ne _ _ (Ne.symm h)]

/-- Who holds slot w does not depend on the running part of w. -/
theorem State.heldByExclusive_updBurgee (s : State) (w : Nat) (f : Burgee → Burgee) (b : BurgeeSpec) (x : Span) :
    (s.updBurgee w f).heldByExclusive w b x = s.heldByExclusive w b x := by
  unfold State.heldByExclusive
  congr 1
  funext v
  by_cases h : v = w
  · simp [h]
  · have slot := s.updBurgee_getD_ne f h
    have opened : (s.updBurgee w f).burgeeOpen v = s.burgeeOpen v := by
      unfold State.burgeeOpen
      rw [slot]
      rfl
    have opens : (s.updBurgee w f).opensWithin v x = s.opensWithin v x := by
      unfold State.opensWithin State.willAct
      rw [slot]
      rfl
    dsimp only
    rw [slot, opened, opens]
    rfl

/-- An occurrence of a slot that may act, is not held, and clears blanking opens the slot. -/
theorem State.occurrence_opens {s : State} {w : Nat} {half : Bool} (hskip : (s.ma.burgee.getD w {}).skip = 0)
    (hblank : s.meetsBlank { start := ((s.burgeeStart w).1 + if half then 0x8000 else 0) % 65536, len := (s.burgeeSpec w).len } = false)
    (hheld : s.heldByExclusive w (s.burgeeSpec w)
      { start := ((s.burgeeStart w).1 + if half then 0x8000 else 0) % 65536, len := (s.burgeeSpec w).len } = false)
    (howner : (s.burgeeSpec w).owner = 4) (hnotes : (s.burgeeSpec w).notes = true) :
    ∃ f, s.occurrence w half false = (State.updBurgee (s.updBurgee w f) w fun x => { x with
        openAt := some s.ma32, openLen := (s.burgeeSpec w).len, openOwner := 4, openExcl := (s.burgeeSpec w).exclusive }).raise 71 := by
  unfold State.occurrence
  extract_lets b g judged st opened
  have blank : judged.meetsBlank { start := st, len := b.len } = false := hblank
  have held : judged.heldByExclusive w b { start := st, len := b.len } = false := (s.heldByExclusive_updBurgee w _ b _).trans hheld
  have owner : b.owner = 4 := howner
  rw [if_neg (not_not.mpr hskip), if_neg (by simp [blank]), if_neg (by simp [held]), if_pos (by simp [owner, b, hnotes])]
  unfold opened
  rw [owner]
  exact ⟨_, rfl⟩

/-- What has just opened acts for its owner; for owner 4 there is nothing to do. -/
theorem State.occurrenceActs_of_owner4 {s : State} {w : Nat} (h : (s.burgeeSpec w).owner = 4) : s.occurrenceActs w = s := by
  unfold State.occurrenceActs
  dsimp only
  rw [h]
  rfl

theorem State.burgee_length_of_inv {s : State} (h : s.Inv) : s.ma.burgee.length = 32 := by
  obtain ⟨_, _, _, _, _, _, _, _, _, _, _, _, _, _, _, _, _, burgee, _⟩ := h
  exact burgee

theorem State.finish_burgee (s t : State) {w : Nat} (hw : w < 32) : (s.finish t).ma.burgee.getD w {} = t.ma.burgee.getD w {} :=
  sized_getD (n := 32) ({} : Burgee) t.ma.burgee hw

/-- Slot w of owner 4 that has opened in its occurrence: event 71, and nothing that acts further. -/
theorem State.occurrence_post {s : State} (hinv : s.Inv) {w : Nat} {half : Bool} (hw : w < 32) (hskip : (s.ma.burgee.getD w {}).skip = 0)
    (hblank : s.meetsBlank { start := ((s.burgeeStart w).1 + if half then 0x8000 else 0) % 65536, len := (s.burgeeSpec w).len } = false)
    (hheld : s.heldByExclusive w (s.burgeeSpec w)
      { start := ((s.burgeeStart w).1 + if half then 0x8000 else 0) % 65536, len := (s.burgeeSpec w).len } = false)
    (howner : (s.burgeeSpec w).owner = 4) (hnotes : (s.burgeeSpec w).notes = true) :
    ((s.occurrence w half false).ma.burgee.getD w {}).openAt = some s.ma32 ∧
      ((s.occurrence w half false).ma.burgee.getD w {}).openLen = (s.burgeeSpec w).len ∧ (s.occurrence w half false).isPending 71 = true ∧
      (s.occurrence w half false).occurrenceActs w = s.occurrence w half false := by
  obtain ⟨f, hopen⟩ := State.occurrence_opens hskip hblank hheld howner hnotes
  have length : w < (s.updBurgee w f).ma.burgee.length := by
    unfold State.updBurgee
    rw [List.length_modify, State.burgee_length_of_inv hinv]
    exact hw
  rw [hopen, State.raise_ma, State.updBurgee_getD_same _ _ length]
  refine ⟨rfl, rfl, State.isPending_raise _ _ (by decide), State.occurrenceActs_of_owner4 ?_⟩
  rw [← howner]
  exact (State.keepsAngle_raise _ 71).nat_eq (by omega)

end Sys2Proof.Machine
end

section

open Sys2Proof Sys2Proof.Machine

/-- Settles O10: the ends of the cycle by the crystal cycle that takes the angle there (`State.toCrystal_ma`), the pad by what drives it,
learning and burgee windows by what is last in them. -/
theorem mainsAngleRuns : Obligations.MainsAngleRuns := by
  refine ⟨fun s hon hwrap => ?_, fun s hon hbefore hafter hend hmode => ?_, fun s hon hmode => ?_, fun s hon hdue => ?_,
    fun s hon hover => ?_, fun s levels hon hdue => ?_, fun s w half hinv hon hnow hskip hblank hheld howner hnotes => ?_⟩
  · obtain ⟨u, hu, -, hma⟩ := s.toCrystal_ma
    have next : u.accNext = s.accNext := by rw [State.accNext, hu]; rfl
    have turn := State.maTick_wrap (s := u) (by rwa [next])
    rw [next, ← hma, hu] at turn
    exact completes_of_nextWhen rfl (decide_eq_true hwrap) hon turn
  · obtain ⟨u, hu, hlow, hma⟩ := s.toCrystal_ma
    have next : u.accNext = s.accNext := by rw [State.accNext, hu]; rfl
    have turn := State.maTick_half (s := u) (by rwa [hu]) (by rwa [next]) (by rwa [next])
      ((State.nat_of_val (hlow _ (by decide))).trans hmode)
    rw [next, ← hma, hu] at turn
    exact completes_of_nextWhen rfl (by simp [hbefore, hafter, hend]) hon turn
  · have mode : s.burgeeRefresh.nat 0x2160_01 = 4 := (s.burgeeRefresh_nat (by decide) (by decide)).trans hmode
    have blank : s.burgeeRefresh.inBlank = s.inBlank := by
      unfold State.inBlank State.blankActive State.angle
      rw [s.burgeeRefresh_ma]
    have acc : s.burgeeRefresh.syncFollow.ma.acc = s.ma.acc := by
      rw [(State.sameTurn_syncFollow _).acc, State.burgeeRefresh_ma]
    refine completes_of_done rfl hon ?_
    rw [State.finish_ma_sync, State.finish_ma_acc]
    exact ⟨(State.syncFollow_sync_blank mode).trans blank, acc⟩
  · exact completes_of_nextWhen rfl hdue hon ⟨State.driveSync_sync _ _, State.driveSync_syncPulse _ _⟩
  · exact completes_of_nextWhen rfl hover hon ⟨State.driveSync_sync _ _, rfl⟩
  · refine completes_of_nextWhen rfl hdue hon ?_
    rw [State.finish_oct, State.finish_ma_learned, State.finish_isPending, State.finish_nat]
    exact s.learnEnd_post levels
  · obtain ⟨hopen, hlen, h71, hacts⟩ := s.occurrence_post hinv w.isLt hskip hblank hheld howner hnotes
    refine completes_of_nextWhen rfl hnow hon ?_
    dsimp only
    rw [hacts, ite_self, State.finish_burgee _ _ w.isLt, State.finish_isPending]
    exact ⟨hopen, hlen, h71⟩

end

section
/-!
SUPPORT. A write of an entry of chapters 2 to 6 or of a notch: what it stores, what its audit record leaves alone, and the one
chapter that follows it.
-/

namespace Sys2Proof.Machine

open Sys2Proof

theorem Completes.mono {c : Instr} {s : State} {P Q : State → Prop} (h : Completes c s P) (hPQ : ∀ t, P t → Q t) : Completes c s Q := by
  obtain ⟨t, ht, hP⟩ := h
  exact ⟨t, ht, hPQ t hP⟩

/-- The entries of the mains angle from the blanking slots on, and of the ports, pennants, zones and survey: OD 2130 to 23FF. -/
def fieldKey (k : Nat) : Prop := 0x2130_01 ≤ k ∧ k < 0x2400_00

/-- The entries of the notches: OD 3208 to 320F. -/
def notchKey (k : Nat) : Prop := 0x3208_01 ≤ k ∧ k < 0x3210_00

/-! ### The values written -/

theorem leNat_leBytes_word (v : BitVec 16) : leNat (leBytes 2 v.toNat) = v.toNat := by
  simp [leNat, leBytes, List.range_succ]
  omega

/-- A word of an unsigned entry with no res. bits is its value. -/
theorem OdRow.valueOf_word {r : OdRow} (ht : r.ty = .u16) (hm : r.mask = 0) (v : BitVec 16) :
    r.valueOf (leBytes 2 v.toNat) = .num v.toNat := by
  simp [OdRow.valueOf, ht, hm, leNat_leBytes_word, OdType.signed]

theorem OdRow.valueOf_octets {r : OdRow} (ht : r.ty = .octets) (b : List Byte) : r.valueOf b = .oct b := by
  simp [OdRow.valueOf, ht]

/-! ### The audit record -/

/-- What an audit record of a write leaves of the state: every entry but those of chapter 1's security and of the events, and the
state of the field. -/
structure State.Recorded (s t : State) : Prop where
  val : ∀ k, fieldKey k ∨ notchKey k → t.val k = s.val k
  now : t.now = s.now
  ports : t.ports = s.ports
  fir : t.fir = s.fir
  firOk : t.firOk = s.firOk
  survey : t.survey = s.survey
  teach : t.teach = s.teach

theorem State.Recorded.refl (s : State) : s.Recorded s := ⟨fun _ _ => rfl, rfl, rfl, rfl, rfl, rfl, rfl⟩

theorem State.Recorded.trans {s t u : State} (h : s.Recorded t) (g : t.Recorded u) : s.Recorded u :=
  ⟨fun k hk => (g.val k hk).trans (h.val k hk), g.now.trans h.now, g.ports.trans h.ports, g.fir.trans h.fir, g.firOk.trans h.firOk,
    g.survey.trans h.survey, g.teach.trans h.teach⟩

theorem State.Recorded.ite {s t u : State} {c : Prop} [Decidable c] (h : s.Recorded t) (g : s.Recorded u) :
    s.Recorded (if c then t else u) := by
  split
  · exact h
  · exact g

/-- A change of values and events alone, in no entry of the field. -/
theorem State.OnlyEvents.recorded {s t : State} (h : s.OnlyEvents t) (val : ∀ k, fieldKey k ∨ notchKey k → t.val k = s.val k) :
    s.Recorded t := by
  refine ⟨val, ?_, ?_, ?_, ?_, ?_, ?_⟩ <;> rw [h]

theorem not_eventKey_of_field {k : Nat} (h : fieldKey k ∨ notchKey k) : ¬ eventKey k := by
  unfold fieldKey notchKey at h
  unfold eventKey
  omega

theorem State.recorded_raise (s : State) (e : Nat) : s.Recorded (s.raise e) :=
  (s.onlyEvents_raise e).recorded fun _ hk => s.val_raise e (not_eventKey_of_field hk)

theorem State.recorded_setFit (s : State) {j : Nat} (bits n : Nat) (hj : j < 0x2130_01) : s.Recorded (s.setFit j bits n) :=
  (s.onlyOd_setFit j bits n).events.recorded fun _ hk => s.val_setFit_ne bits n (by unfold fieldKey notchKey at hk; omega)

theorem State.recorded_auditPut (s : State) (e : AuditEntry) : s.Recorded (s.auditPut e) := by
  unfold State.auditPut
  extract_lets seq lost kept counted
  have security (t : State) : t.Recorded (t.security 2) :=
    ((t.onlyOd_put _ _).events.recorded fun _ hk => t.val_put_ne _ (by unfold fieldKey notchKey at hk; omega)).trans
      (State.recorded_raise _ _)
  have bumped : s.Recorded lost := .ite (s.recorded_setFit _ _ (by decide)) (.refl s)
  have stored : lost.Recorded kept := ⟨fun _ _ => rfl, rfl, rfl, rfl, rfl, rfl, rfl⟩
  have numbered : kept.Recorded counted := kept.recorded_setFit _ _ (by decide)
  exact ((bumped.trans stored).trans numbered).trans (.ite (security _) (.refl _))

theorem State.recorded_recordWrite (s : State) (who : Who) (k : Nat) (b : List Byte) : s.Recorded (s.recordWrite who k b) := by
  unfold State.recordWrite
  exact .ite (s.recorded_auditPut _) (.ite (.refl s) (.ite (s.recorded_auditPut _) (.ite (s.recorded_auditPut _) (s.recorded_auditPut _))))

/-! ### What the chapters merge -/

theorem queueOf_of_field {k : Nat} (h : fieldKey k ∨ notchKey k) : queueOf k = none := by
  unfold fieldKey notchKey at h
  simp [queueOf]
  omega

theorem slotOf_of_field {k : Nat} (h : fieldKey k ∨ notchKey k) : slotOf? k = none := by
  unfold fieldKey notchKey at h
  simp [slotOf?]
  omega

theorem State.actionRes_of_field (s : State) {k : Nat} (h : fieldKey k ∨ notchKey k) : s.actionRes k = false := by
  unfold fieldKey notchKey at h
  simp [State.actionRes]
  omega

/-- Ports and pennants alone merge what is written to an entry of the field. -/
theorem State.merged_of_field (s : State) {k : Nat} (v : Val) (h : fieldKey k ∨ notchKey k) :
    s.merged k v = s.portsMerge k (s.pennantsMerge k v) := by
  have queue := queueOf_of_field h
  have slot := slotOf_of_field h
  have action := s.actionRes_of_field h
  unfold fieldKey notchKey at h
  have cal : s.calMerge k v = v := if_neg (by omega)
  have events : s.eventsMerge k v = v := if_neg (by simp; omega)
  have pads : padsMerge s k v = v := if_neg (by omega)
  have modes : s.modesMerge k v = v := by
    unfold State.modesMerge
    rw [if_neg (by omega), if_neg (by simp; omega)]
  have frond (w : Val) : s.frondMerge k w = w := if_neg (by omega)
  have tag (w : Val) : s.tagMerge k w = w := if_neg (by simp; omega)
  have pool (w : Val) : s.poolMerge k w = w := by simp only [State.poolMerge, queue]
  have timer (w : Val) : s.timerMerge k w = w := by
    unfold State.timerMerge
    rw [if_neg (by omega), if_neg (by omega), if_neg (by omega)]
  have security (w : Val) : s.securityMerge k w = w := by
    unfold State.securityMerge
    rw [if_neg (by simp; omega), if_neg (by simp; omega), if_neg (by simp; omega)]
  have rules (w : Val) : s.matchMerge k w = w := by
    unfold State.matchMerge
    rw [slot, action, if_neg (by simp; omega), if_neg (by omega), if_neg (by simp), if_neg (by simp; omega), if_neg (by simp),
      if_neg (by simp; omega), if_neg (by simp; omega)]
  unfold State.merged
  dsimp only
  rw [cal, events, pads, modes, frond, tag, pool, timer, security, rules]

/-! ### What the chapters do -/

/-- After the chapters of the field, the notches alone follow a write of one of these entries. -/
theorem State.chapterWritten_of_field (s old : State) (who : Who) {k : Nat} (v : Val) (h : fieldKey k ∨ notchKey k) :
    s.chapterWritten old who k v = (((s.angleWritten old k).portsWritten k v).pennantsTaken k).plWritten old k := by
  have queue := queueOf_of_field h
  have slot := slotOf_of_field h
  unfold fieldKey notchKey at h
  have rx (t : State) : t.rxWritten k = t := if_neg (by omega)
  have frond (t : State) : t.frondWritten old k v = t := by
    unfold State.frondWritten
    rw [if_neg (by omega), if_neg (by omega), if_neg (by omega)]
  have rules (t : State) : t.matchWritten k v = t := by
    unfold State.matchWritten
    rw [slot, if_neg (by simp; omega)]
  have tag (t : State) : t.tagWritten who k v = t := by
    unfold State.tagWritten
    rw [if_neg (by omega), if_neg (by omega), if_neg (by omega)]
  have supply (t : State) : t.supplyWritten k = t := if_neg (by simp; omega)
  have pool (t : State) : t.poolWritten k v = t := by
    simp only [State.poolWritten, queue]
    exact if_neg (by omega)
  have timer (t : State) : t.timerWritten old k = t := by
    unfold State.timerWritten
    rw [if_neg (by omega), if_neg (by omega), if_neg (by omega)]
  have link (t : State) : t.linkWritten old k = t := if_neg (by simp; omega)
  have radio (t : State) : t.radioWritten k v = t := by
    unfold State.radioWritten
    dsimp only
    rw [if_neg (by simp; omega), if_neg (by omega)]
  have cal (t : State) : t.calWritten k v = t := by
    unfold State.calWritten
    rw [if_neg (by omega), if_neg (by simp; omega)]
  have events (t : State) : t.eventsWritten old k v = t := by
    unfold State.eventsWritten
    rw [if_neg (by simp; omega), if_neg (by simp; omega), if_neg (by simp; omega)]
  have pads (t : State) : t.padsWritten k v = t := by
    unfold State.padsWritten
    rw [if_neg (by omega), if_neg (by simp; omega)]
  have security (t : State) : t.securityWritten who k v = t := by
    unfold State.securityWritten
    rw [if_neg (by omega), if_neg (by omega), if_neg (by simp; omega), if_neg (by omega), if_neg (by omega), if_neg (by omega),
      if_neg (by omega)]
  have modes (t : State) : t.modesWritten k v = t := by
    unfold State.modesWritten
    rw [if_neg (by omega), if_neg (by omega), if_neg (by omega)]
  unfold State.chapterWritten
  dsimp only
  rw [rx, frond, rules, tag, supply, pool, timer, link, radio, cal, events, pads, security, modes]

/-- The state t in which value w is stored in entry k of s and its record is made: the rest of the field is as in s. -/
structure State.Stored (s : State) (k : Nat) (w : Val) (t : State) : Prop where
  same : t.val k = w
  other : ∀ j, fieldKey j ∨ notchKey j → j ≠ k → t.val j = s.val j
  now : t.now = s.now
  ports : t.ports = s.ports
  fir : t.fir = s.fir
  firOk : t.firOk = s.firOk
  survey : t.survey = s.survey
  teach : t.teach = s.teach

theorem State.Recorded.stored {s t : State} {k : Nat} {w : Val} (h : (s.put k w).Recorded t) (hk : fieldKey k ∨ notchKey k) : s.Stored k w t :=
  ⟨(h.val k hk).trans (State.val_put_same ..), fun j hj hne => (h.val j hj).trans (State.val_put_ne _ _ hne), h.now, h.ports, h.fir, h.firOk,
    h.survey, h.teach⟩

theorem State.Stored.port {s t : State} {k : Nat} {w : Val} (h : s.Stored k w t) (p : Nat) : t.port p = s.port p := by
  unfold State.port
  rw [h.ports]

theorem State.Stored.nat_same {s t : State} {k : Nat} {n : Nat} (h : s.Stored k (.num n) t) : t.nat k = n := by
  unfold State.nat
  rw [h.same]
  rfl

theorem State.Stored.oct_same {s t : State} {k : Nat} {b : List Byte} (h : s.Stored k (.oct b) t) : t.oct k = b := by
  unfold State.oct
  rw [h.same]
  rfl

/-! ### The command that writes -/

/-- An entry of the field taken at once is stored, recorded, and followed in its chapter. -/
theorem State.takeWrite_of_field {s : State} (who : Who) {k : Nat} (b : List Byte) (v : Val) (h : fieldKey k ∨ notchKey k)
    (hfree : s.defers k = false) :
    s.takeWrite who k b v = ((s.put k (s.merged k v)).recordWrite who k b).chapterWritten s who k v := by
  have slot := slotOf_of_field h
  unfold fieldKey notchKey at h
  have compare : s.cmpFirst k = s := if_neg (by omega)
  have rules (t : State) : t.matchRun who k v b = t := if_neg (by omega)
  unfold State.takeWrite
  rw [hfree, slot, if_neg (by simp), if_neg (by simp), compare]
  dsimp only
  rw [rules]

/-- What the state u of a finished command shows of the state c that its write has left. -/
structure State.Shows (c u : State) : Prop where
  status : u.status = .ok
  val : ∀ k, u.val k = c.val k
  ports : u.ports = sized 8 {} c.ports
  fir : u.fir = c.fir
  survey : u.survey = c.survey
  teach : u.teach = sized 16 {} c.teach

/-- A write that R325 accepts is of an entry that there is. -/
theorem State.odRow_of_accepted {s : State} {who : Who} {k : Nat} {b : List Byte} (h : s.odWriteStatus who k b = .ok) : ∃ r, odRow? k = some r := by
  cases hr : odRow? k with
  | some r => exact ⟨r, rfl⟩
  | none =>
    unfold State.odWriteStatus at h
    rw [hr] at h
    split_ifs at h

/-- A write of an entry of the field that passes the checks ends OK, and shows what its chapter does with the stored and recorded
value. -/
theorem completes_of_writes {c : Instr} {s : State} {who : Who} {k : Nat} {b : List Byte} {v : Val} (hc : exec c s = dictAccess who k (some b) s)
    (hw : s.writes who k b = true) (hk : fieldKey k ∨ notchKey k) (hv : ∀ r, odRow? k = some r → r.valueOf b = v) :
    ∃ t : State, s.Stored k (s.merged k v) t ∧ Completes c s (t.chapterWritten s who k v).Shows := by
  unfold State.writes at hw
  simp only [Bool.and_eq_true, decide_eq_true_eq, Bool.not_eq_true'] at hw
  obtain ⟨⟨⟨⟨hserv, hserves⟩, hrun⟩, hok⟩, hfree⟩ := hw
  obtain ⟨r, hr⟩ := State.odRow_of_accepted hok
  have start (t : State) : t.recoveryStart k v = t := by
    unfold fieldKey notchKey at hk
    exact if_neg (by simp; omega)
  refine ⟨_, (State.recorded_recordWrite _ who k b).stored hk, ?_⟩
  have written := State.odWrite_of_ok hok hr
  rw [hv r hr, State.takeWrite_of_field who b v hk hfree, start] at written
  refine completes_of_nextAny (hc.trans (State.dictAccess_of_running hrun who k (some b))) hserves ?_
  have access := State.access_write_of_service hserv who k b
  rw [written] at access
  have out : s.accessOut who k (some b) = { ((s.put k (s.merged k v)).recordWrite who k b).chapterWritten s who k v with status := .ok } := by
    unfold State.accessOut
    rw [access]
    rfl
  rw [out]
  constructor
  · rfl
  · exact fun k => State.finish_val _ _ k
  · rfl
  · rfl
  · rfl
  · rfl

theorem State.Shows.nat {c u : State} (h : c.Shows u) (k : Nat) : u.nat k = c.nat k := State.nat_of_val (h.val k)

theorem State.Shows.oct {c u : State} (h : c.Shows u) (k : Nat) : u.oct k = c.oct k := by
  unfold State.oct
  rw [h.val]

theorem State.Shows.port {c u : State} (h : c.Shows u) {p : Nat} (hp : p < 8) : u.port p = c.port p := by
  unfold State.port
  rw [h.ports, sized_getD _ _ hp]

/-! ### The type of an entry -/

/-- Entry k has this type, and no res. bits. -/
def rowIs (k : Nat) (ty : OdType) : Prop := (odRow? k).map (fun r => (r.ty, r.mask)) = some (ty, 0)

theorem rowIs.ty {k : Nat} {ty : OdType} (h : rowIs k ty) {r : OdRow} (hr : odRow? k = some r) : r.ty = ty ∧ r.mask = 0 := by
  unfold rowIs at h
  rw [hr] at h
  simpa using h

theorem rowIs.octet {k : Nat} (h : rowIs k .u8) (v : BitVec 8) (r : OdRow) (hr : odRow? k = some r) :
    r.valueOf (leBytes 1 v.toNat) = .num v.toNat := OdRow.valueOf_octet (h.ty hr).1 (h.ty hr).2 v

theorem rowIs.word {k : Nat} (h : rowIs k .u16) (v : BitVec 16) (r : OdRow) (hr : odRow? k = some r) :
    r.valueOf (leBytes 2 v.toNat) = .num v.toNat := OdRow.valueOf_word (h.ty hr).1 (h.ty hr).2 v

theorem rowIs.octets {k : Nat} (h : rowIs k .octets) (b : List Byte) (r : OdRow) (hr : odRow? k = some r) : r.valueOf b = .oct b :=
  OdRow.valueOf_octets (h.ty hr).1 b

/-! ### One chapter each -/

theorem State.angleWritten_of_ge (s old : State) {k : Nat} (h : 0x2161_00 ≤ k) : s.angleWritten old k = s := by
  unfold State.angleWritten
  rw [if_neg (by omega), if_neg (by omega), if_neg (by omega), if_neg (by omega)]

theorem State.portsWritten_of_other (s : State) {k : Nat} (v : Val) (h : k < 0x2200_00 ∨ 0x2300_00 ≤ k) : s.portsWritten k v = s := by
  unfold State.portsWritten
  dsimp only
  rw [if_neg (by omega), if_neg (by omega), if_neg (by omega), if_neg (by omega)]

theorem State.pennantsTaken_of_other (s : State) {k : Nat} (h : k < 0x2300_00 ∨ 0x2400_00 ≤ k) : s.pennantsTaken k = s := by
  unfold State.pennantsTaken
  rw [if_neg (by omega), if_neg (by omega), if_neg (by omega), if_neg (by omega)]

theorem State.plWritten_of_lt (s old : State) {k : Nat} (h : k < 0x2400_00) : s.plWritten old k = s := by
  unfold State.plWritten
  rw [if_neg (by simp; omega), if_neg (by simp; omega), if_neg (by omega)]

theorem State.chapterWritten_angle (s old : State) (who : Who) {k : Nat} (v : Val) (h : 0x2130_01 ≤ k) (h' : k < 0x2200_00) :
    s.chapterWritten old who k v = s.angleWritten old k := by
  rw [State.chapterWritten_of_field _ _ _ _ (.inl ⟨h, by omega⟩), State.portsWritten_of_other _ _ (by omega),
    State.pennantsTaken_of_other _ (by omega), State.plWritten_of_lt _ _ (by omega)]

theorem State.chapterWritten_port (s old : State) (who : Who) {k : Nat} (v : Val) (h : 0x2200_00 ≤ k) (h' : k < 0x2300_00) :
    s.chapterWritten old who k v = s.portsWritten k v := by
  rw [State.chapterWritten_of_field _ _ _ _ (.inl ⟨by omega, by omega⟩), State.angleWritten_of_ge _ _ (by omega),
    State.pennantsTaken_of_other _ (by omega), State.plWritten_of_lt _ _ (by omega)]

theorem State.chapterWritten_pennant (s old : State) (who : Who) {k : Nat} (v : Val) (h : 0x2300_00 ≤ k) (h' : k < 0x2400_00) :
    s.chapterWritten old who k v = s.pennantsTaken k := by
  rw [State.chapterWritten_of_field _ _ _ _ (.inl ⟨by omega, by omega⟩), State.angleWritten_of_ge _ _ (by omega),
    State.portsWritten_of_other _ _ (by omega), State.plWritten_of_lt _ _ (by omega)]

theorem State.chapterWritten_notch (s old : State) (who : Who) {k : Nat} (v : Val) (h : notchKey k) :
    s.chapterWritten old who k v = s.notchWritten := by
  rw [State.chapterWritten_of_field _ _ _ _ (.inr h)]
  unfold notchKey at h
  rw [State.angleWritten_of_ge _ _ (by omega), State.portsWritten_of_other _ _ (by omega), State.pennantsTaken_of_other _ (by omega)]
  unfold State.plWritten
  rw [if_neg (by simp; omega), if_pos (by simp; omega)]

/-! ### Which value stands in the entry -/

/-- The entries of ports that keep their value as they are written: mappings, fault codes and coefficients. -/
def keptKey (k : Nat) : Prop :=
  (0x2200_00 ≤ k ∧ k < 0x2280_00 ∧ (k / 256 % 16 = 4 ∨ (k / 256 % 16 = 2 ∧ k % 256 = 2))) ∨
    (0x2298_00 ≤ k ∧ k < 0x22A0_00 ∧ k % 256 = 1)

/-- The entries of the field that a write does not store as it comes: these, the pairs of pennants, and SURVEY_CMD. -/
def mergedKey (k : Nat) : Prop := keptKey k ∨ (0x2300_00 ≤ k ∧ k < 0x2340_00 ∧ k % 256 = 7) ∨ k = 0x2340_01

theorem State.merged_of_plain (s : State) {k : Nat} (v : Val) (h : fieldKey k ∨ notchKey k) (hk : ¬ mergedKey k) : s.merged k v = v := by
  unfold mergedKey keptKey at hk
  rw [State.merged_of_field s v h]
  have pennants : s.pennantsMerge k v = v := by
    unfold State.pennantsMerge
    rw [if_neg (by omega), if_neg (by omega)]
  unfold State.portsMerge
  dsimp only
  rw [pennants, if_neg (by omega), if_neg (by omega)]

theorem State.merged_of_kept (s : State) {k : Nat} (v : Val) (h : keptKey k) : s.merged k v = s.val k := by
  unfold keptKey at h
  rw [State.merged_of_field s v (.inl ⟨by omega, by omega⟩)]
  unfold State.portsMerge
  dsimp only
  split
  · rfl
  · exact if_pos (by omega)

end Sys2Proof.Machine
end

section
/-!
SUPPORT. The writes of the field whose chapter does little: what each command completes with.
-/

namespace Sys2Proof.Machine

open Sys2Proof

/-! ### Blanking slots -/

theorem boolNat_le (b : Bool) : boolNat b ≤ 1 := by cases b <;> decide

theorem rowIs_blank : ∀ (b : Fin 8) (length : Bool), rowIs (0x2130_01 + 0x100 * b.val + boolNat length) .u16 := by
  unfold rowIs
  decide +kernel

/-- A write of a learned slot makes it manual, with no level. -/
theorem State.angleWritten_learned {t : State} (old : State) {b k : Nat} (hb : b < 8)
    (hk : k = 0x2130_01 + 0x100 * b ∨ k = 0x2130_01 + 0x100 * b + 1) (h : t.nat (0x2130_03 + 0x100 * b) = 1) :
    t.angleWritten old k = (t.setN (0x2130_03 + 0x100 * b) 2).setN (0x2130_04 + 0x100 * b) 0 := by
  have slot : k / 256 - 0x2130 = b := by omega
  unfold State.angleWritten
  rw [if_neg (by omega), if_pos (by omega)]
  dsimp only
  rw [slot, if_neg (by omega), if_pos h]

theorem blankSlotWrite_completes {s : State} {who : Who} {b : Fin 8} {length : Bool} {value : BitVec 16}
    (hw : s.writes who (0x2130_01 + 0x100 * b.val + boolNat length) (leBytes 2 value.toNat) = true)
    (hlearned : s.nat (0x2130_03 + 0x100 * b.val) = 1) :
    Completes (.blankSlotWrite who b length value) s fun t =>
      t.status = .ok ∧ t.nat (0x2130_01 + 0x100 * b.val + boolNat length) = value.toNat ∧ t.nat (0x2130_03 + 0x100 * b.val) = 2 ∧
        t.nat (0x2130_04 + 0x100 * b.val) = 0 := by
  have hb := b.isLt
  have hl := boolNat_le length
  generalize hk : 0x2130_01 + 0x100 * b.val + boolNat length = k at hw ⊢
  have field : fieldKey k ∨ notchKey k := .inl (by unfold fieldKey; omega)
  obtain ⟨t, ht, h⟩ := completes_of_writes (c := .blankSlotWrite who b length value) (by subst hk; rfl) hw field
    (hk ▸ (rowIs_blank b length).word value)
  rw [State.merged_of_plain _ _ field (by unfold mergedKey keptKey; omega)] at ht
  have learned : t.nat (0x2130_03 + 0x100 * b.val) = 1 :=
    (State.nat_of_val (ht.other _ (.inl (by unfold fieldKey; omega)) (by omega))).trans hlearned
  rw [State.chapterWritten_angle _ _ _ _ (by omega) (by omega), State.angleWritten_learned s hb (by omega) learned] at h
  refine h.mono fun u hu => ⟨hu.status, ?_, ?_, ?_⟩
  · rw [hu.nat, State.nat_setN_ne _ _ (by omega), State.nat_setN_ne _ _ (by omega), ht.nat_same]
  · rw [hu.nat, State.nat_setN_ne _ _ (by omega), State.nat_setN_same]
  · rw [hu.nat, State.nat_setN_same]

/-! ### Port entries -/

/-- The parts of a port entry's key: the range of the ports, the entry's place in it, the subindex, and the port. -/
theorem portKey_shape {p d sub : Nat} (hp : p < 8) (hd : d < 16) (hs : sub < 256) :
    (0x2200 ≤ portKey p d sub / 256 ∧ portKey p d sub / 256 < 0x2280) ∧ portKey p d sub / 256 % 16 = d ∧ portKey p d sub % 256 = sub ∧
      (portKey p d sub / 256 - 0x2200) / 16 = p := by
  unfold portKey
  omega

theorem portKey_range {p d sub : Nat} (hp : p < 8) (hd : d < 16) (hs : sub < 256) :
    0x2200_00 ≤ portKey p d sub ∧ portKey p d sub < 0x2280_00 := by
  unfold portKey
  omega

section

variable (s : State) {p : Nat} (hp : p < 8)

include hp

theorem State.portsWritten_cap (v : Val) : s.portsWritten (portKey p 1 1) v = s.fieldCapWritten p := by
  obtain ⟨hrange, hd, hs, hport⟩ := portKey_shape (d := 1) (sub := 1) hp (by decide) (by decide)
  unfold State.portsWritten
  dsimp only
  rw [if_pos hrange, hd, hs, hport]
  rfl

theorem State.portsWritten_fault (v : Val) (h : (s.port p).state = .fault) :
    s.portsWritten (portKey p 2 2) v = s.updPort p fun x => { x with series := some (s.now, 0) } := by
  obtain ⟨hrange, hd, hs, hport⟩ := portKey_shape (d := 2) (sub := 2) hp (by decide) (by decide)
  unfold State.portsWritten
  dsimp only
  rw [if_pos hrange, hd, hs, hport, if_pos h]
  rfl

theorem State.portsWritten_map {m : Nat} (hm : m < 256) (n : Nat) : s.portsWritten (portKey p 4 m) (.num n) = s.firMapWritten p m n := by
  obtain ⟨hrange, hd, hs, hport⟩ := portKey_shape (d := 4) (sub := m) hp (by decide) hm
  unfold State.portsWritten
  dsimp only
  rw [if_pos hrange, hd, hs, hport]
  rfl

theorem State.portsWritten_test (v : Val) : s.portsWritten (portKey p 5 1) v = s.testModeSet p := by
  obtain ⟨hrange, hd, hs, hport⟩ := portKey_shape (d := 5) (sub := 1) hp (by decide) (by decide)
  unfold State.portsWritten
  dsimp only
  rw [if_pos hrange, hd, hs, hport]
  rfl

end

theorem rowIs_faultCode : ∀ p : Fin 8, rowIs (portKey p 2 2) .u8 := by
  unfold rowIs
  decide +kernel

theorem rowIs_fieldCap : ∀ p : Fin 8, rowIs (portKey p 1 1) .u16 := by
  unfold rowIs
  decide +kernel

theorem rowIs_firMap : ∀ (p : Fin 8) (mode : Fin 12), rowIs (portKey p 4 (mode.val + 1)) .u8 := by
  unfold rowIs
  decide +kernel

theorem rowIs_testMode : ∀ p : Fin 8, rowIs (portKey p 5 1) .u8 := by
  unfold rowIs
  decide +kernel

theorem State.updPort_port (s : State) {p : Nat} (f : Port → Port) (h : p < s.ports.length) : (s.updPort p f).port p = f (s.port p) := by
  unfold State.updPort State.port
  simp [List.getD_eq_getElem?_getD, h]

theorem State.ports_length_of_inv {s : State} (h : s.Inv) : s.ports.length = 8 := by
  obtain ⟨_, _, _, ports, _⟩ := h
  exact ports

/-- Every write of a port entry: what is recorded, and what the chapter of the ports makes of it. -/
theorem portWrite_completes {c : Instr} {s : State} {who : Who} {p : Fin 8} {d sub : Nat} {b : List Byte} {v : Val} (hd : d < 16)
    (hs : sub < 256) (hc : exec c s = dictAccess who (portKey p d sub) (some b) s) (hw : s.writes who (portKey p d sub) b = true)
    (hv : ∀ r, odRow? (portKey p d sub) = some r → r.valueOf b = v) :
    ∃ t : State, s.Stored (portKey p d sub) (s.merged (portKey p d sub) v) t ∧
      Completes c s (t.portsWritten (portKey p d sub) v).Shows := by
  obtain ⟨low, high⟩ := portKey_range p.isLt hd hs
  obtain ⟨t, ht, h⟩ := completes_of_writes hc hw (.inl ⟨by omega, by omega⟩) hv
  rw [State.chapterWritten_port _ _ _ _ low (by omega)] at h
  exact ⟨t, ht, h⟩

theorem fieldKey_port {p d sub : Nat} (hp : p < 8) (hd : d < 16) (hs : sub < 256) : fieldKey (portKey p d sub) ∨ notchKey (portKey p d sub) := by
  have range := portKey_range hp hd hs
  exact .inl ⟨by omega, by omega⟩

theorem faultCodeWrite_completes {s : State} {who : Who} {p : Fin 8} {value : BitVec 8} (hinv : s.Inv)
    (hw : s.writes who (portKey p 2 2) (leBytes 1 value.toNat) = true) (hfault : (s.port p).state = .fault) :
    Completes (.faultCodeWrite who p value) s fun t =>
      t.status = .ok ∧ (t.port p).series = some (s.now, 0) ∧ (t.port p).state = .fault ∧ t.val (portKey p 2 2) = s.val (portKey p 2 2) := by
  obtain ⟨t, ht, h⟩ := portWrite_completes (c := .faultCodeWrite who p value) (by decide) (by decide) rfl hw
    ((rowIs_faultCode p).octet value)
  have hport : t.port p = s.port p := ht.port p
  have length : p.val < t.ports.length := by
    rw [ht.ports]
    exact (State.ports_length_of_inv hinv).symm ▸ p.isLt
  rw [State.portsWritten_fault t p.isLt _ (by rw [hport, hfault])] at h
  refine h.mono fun u hu => ⟨hu.status, ?_, ?_, ?_⟩
  · rw [hu.port p.isLt, State.updPort_port _ _ length, ht.now]
  · rw [hu.port p.isLt, State.updPort_port _ _ length]
    exact (congrArg Port.state hport).trans hfault
  · rw [hu.val]
    exact ht.same.trans (s.merged_of_kept _ (by unfold keptKey portKey; omega))

/-! ### FIELD_CAP of a port in OFF -/

theorem profile_zero (shape : Nat) : profile shape 0 = 0 := by
  unfold profile
  split_ifs
  · rfl
  · decide +kernel
  · simp

theorem sqrtRound_zero : sqrtRound 1 0 = 0 := by decide +kernel

theorem State.scaledAmp_of_rest {s : State} {p : Nat} (h : s.rampPos p = 0) (z : Cx) : s.scaledAmp p z = 0 := by
  unfold State.scaledAmp
  rw [h, profile_zero]
  split
  · simp
  · simp [sqrtRound_zero]

/-- A port in OFF drives nothing, so that no cap is below its output. -/
theorem State.outputNow_of_off {s : State} {p : Nat} (h : (s.port p).state = .off) : s.outputNow p = 0 := by
  have rest : s.rampPos p = 0 := by
    unfold State.rampPos
    simp [h]
  have amp : s.ampNow p = 0 := by
    unfold State.ampNow
    rw [State.scaledAmp_of_rest rest (s.wordNow p)]
    simp
  unfold State.outputNow powerMw
  simp [amp]

theorem State.fieldCapWritten_of_off {s : State} {p : Nat} (h : (s.port p).state = .off) : s.fieldCapWritten p = s := by
  unfold State.fieldCapWritten
  rw [State.outputNow_of_off h, if_neg (by simp), h, if_neg (by decide)]

theorem fieldCapWrite_completes {s : State} {who : Who} {p : Fin 8} {value : BitVec 16}
    (hw : s.writes who (portKey p 1 1) (leBytes 2 value.toNat) = true) (hoff : (s.port p).state = .off) :
    Completes (.fieldCapWrite who p value) s fun t => t.status = .ok ∧ t.nat (portKey p 1 1) = value.toNat := by
  obtain ⟨t, ht, h⟩ := portWrite_completes (c := .fieldCapWrite who p value) (by decide) (by decide) rfl hw ((rowIs_fieldCap p).word value)
  rw [State.merged_of_plain _ _ (fieldKey_port p.isLt (by decide) (by decide)) (by unfold mergedKey keptKey portKey; omega)] at ht
  rw [State.portsWritten_cap t p.isLt, State.fieldCapWritten_of_off (by rw [ht.port, hoff])] at h
  exact h.mono fun u hu => ⟨hu.status, (hu.nat _).trans ht.nat_same⟩

/-! ### FIR sets and their mapping -/

theorem rowIs_firSet : ∀ set : Fin 16, 8 ≤ set.val → rowIs (firKey set 1) .octets := by
  unfold rowIs
  decide +kernel

theorem firSetWrite_completes {s : State} {who : Who} {set : Fin 16} {coef : List Byte} (hw : s.writes who (firKey set 1) coef = true)
    (hset : 8 ≤ set.val) :
    Completes (.firSetWrite who set coef) s fun t =>
      t.status = .ok ∧ t.nat (firKey set 2) = 1 ∧ t.val (firKey set 1) = s.val (firKey set 1) ∧
        (∃ c ∈ t.fir, c.set = set.val ∧ c.coef = some coef ∧ c.t0 = s.now) := by
  have range : 0x2298_00 ≤ firKey set 1 ∧ firKey set 1 < 0x22A0_00 ∧ firKey set 1 % 256 = 1 ∧ firKey set 1 / 256 - 0x2290 = set.val := by
    unfold firKey
    omega
  obtain ⟨low, high, hsub, hslot⟩ := range
  obtain ⟨t, ht, h⟩ := completes_of_writes (c := .firSetWrite who set coef) rfl hw (.inl ⟨by omega, by omega⟩)
    ((rowIs_firSet set hset).octets coef)
  rw [State.merged_of_kept _ _ (.inr ⟨low, high, hsub⟩)] at ht
  have follows : t.portsWritten (firKey set 1) (.oct coef) = t.firSetWritten set coef := by
    unfold State.portsWritten
    dsimp only
    rw [if_neg (by omega), if_pos (by omega), hslot]
    rfl
  rw [State.chapterWritten_port _ _ _ _ (by omega) (by omega), follows] at h
  have waits : firKey set 2 ≠ firKey set 1 := by unfold firKey; omega
  refine h.mono fun u hu => ⟨hu.status, (hu.nat _).trans (State.nat_setN_same _ _ _), ?_, ?_⟩
  · exact (hu.val _).trans ((State.val_setN_ne _ _ waits.symm).trans ht.same)
  · rw [hu.fir]
    exact ⟨_, List.mem_append_right _ (List.mem_singleton_self _), rfl, rfl, ht.now⟩

theorem State.firKnown_of_stored {s t : State} {k : Nat} {w : Val} (h : s.Stored k w t) (set mode : Nat) :
    t.firKnown set mode = s.firKnown set mode := by
  unfold State.firKnown
  rw [h.fir, h.firOk]

theorem firMapWrite_completes {s : State} {who : Who} {p : Fin 8} {mode : Fin 12} {set : BitVec 8}
    (hw : s.writes who (portKey p 4 (mode.val + 1)) (leBytes 1 set.toNat) = true) :
    Completes (.firMapWrite who p mode set) s fun t =>
      t.status = .ok ∧ if s.firKnown set.toNat (mode.val + 1) then t.nat (portKey p 4 (mode.val + 1)) = set.toNat
        else t.val (portKey p 4 (mode.val + 1)) = s.val (portKey p 4 (mode.val + 1)) ∧ t.nat (firKey set.toNat 2) = 1 := by
  have hm : mode.val + 1 < 256 := by omega
  obtain ⟨t, ht, h⟩ := portWrite_completes (c := .firMapWrite who p mode set) (by decide) hm rfl hw ((rowIs_firMap p mode).octet set)
  rw [State.merged_of_kept _ _ (by unfold keptKey portKey; omega)] at ht
  rw [State.portsWritten_map t p.isLt hm] at h
  unfold State.firMapWritten at h
  rw [State.firKnown_of_stored ht] at h
  have other : portKey p 4 (mode.val + 1) ≠ firKey set.toNat 2 := by
    unfold portKey firKey
    omega
  split at h
  · next known =>
    rw [known]
    exact h.mono fun u hu => ⟨hu.status, (hu.nat _).trans (State.nat_setN_same _ _ _)⟩
  · next known =>
    rw [eq_false_of_ne_true known]
    refine h.mono fun u hu => ⟨hu.status, ?_, (hu.nat _).trans (State.nat_setN_same _ _ _)⟩
    exact (hu.val _).trans ((State.val_setN_ne _ _ other).trans ht.same)

/-! ### The mask -/

theorem rowIs_mask : rowIs 0x22A0_01 .octets := by
  unfold rowIs
  decide +kernel

/-- What no step of a fold over a short list changes in an entry, the fold does not change. -/
theorem State.val_foldl {α : Type} {f : State → α → State} {k : Nat} {l : List α}
    (h : ∀ t, ∀ x ∈ l, (f t x).val k = t.val k) (s : State) : (l.foldl f s).val k = s.val k := by
  induction l generalizing s with
  | nil => rfl
  | cons x rest ih =>
    exact (ih (fun t y hy => h t y (List.mem_cons_of_mem _ hy)) (f s x)).trans (h s x List.mem_cons_self)

/-- The mask is checked against the sets in use, and stands. -/
theorem State.maskWritten_val (s : State) : s.maskWritten.val 0x22A0_01 = s.val 0x22A0_01 := by
  unfold State.maskWritten
  extract_lets ok mapped pairs known
  have mapping : mapped.val 0x22A0_01 = s.val 0x22A0_01 := by
    refine State.val_foldl (fun t p hp => State.val_foldl (fun u i hi => ?_) t) s
    have port : p < 8 := List.mem_range.mp hp
    have mode : i < 12 := List.mem_range.mp hi
    exact State.val_ite_eq rfl (State.val_setN_ne _ _ (by unfold portKey; omega))
  refine (State.val_foldl (fun t set _ => ?_) known).trans mapping
  exact State.val_ite_eq rfl (State.val_put_ne _ _ (by unfold firKey; omega))

theorem maskWrite_completes {s : State} {who : Who} {mask : List Byte} (hw : s.writes who 0x22A0_01 mask = true) :
    Completes (.maskWrite who mask) s fun t => t.status = .ok ∧ t.oct 0x22A0_01 = mask := by
  have field : fieldKey 0x22A0_01 ∨ notchKey 0x22A0_01 := .inl (by unfold fieldKey; decide)
  obtain ⟨t, ht, h⟩ := completes_of_writes (c := .maskWrite who mask) rfl hw field (rowIs_mask.octets mask)
  rw [State.merged_of_plain _ _ field (by unfold mergedKey keptKey; decide)] at ht
  rw [State.chapterWritten_port _ _ _ _ (by decide) (by decide)] at h
  refine h.mono fun u hu => ⟨hu.status, (hu.oct _).trans ?_⟩
  refine Eq.trans ?_ ht.oct_same
  exact congrArg Val.octets t.maskWritten_val

/-! ### The survey and the zones -/

theorem rowIs_surveyCmd : rowIs 0x2340_01 .u8 := by
  unfold rowIs
  decide +kernel

theorem rowIs_teach : ∀ z : Fin 16, rowIs (zoneKey z 6) .u8 := by
  unfold rowIs
  decide +kernel

theorem State.requestSurvey_of_idle {s : State} (h : s.survey.phase = .idle) :
    s.requestSurvey = { s with survey := { s.survey with phase := .requested, t0 := s.now } } := by
  unfold State.requestSurvey
  rw [h]

theorem surveyCmd_completes {s : State} {who : Who} {value : BitVec 8} (hw : s.writes who 0x2340_01 (leBytes 1 value.toNat) = true)
    (hidle : s.survey.phase = .idle) :
    Completes (.surveyCmd who value) s fun t => t.status = .ok ∧ t.survey.phase = .requested ∧ t.survey.t0 = s.now := by
  obtain ⟨t, ht, h⟩ := completes_of_writes (c := .surveyCmd who value) rfl hw (.inl (by unfold fieldKey; decide)) (rowIs_surveyCmd.octet value)
  have follows : t.pennantsTaken 0x2340_01 = { t with survey := { t.survey with phase := .requested, t0 := t.now } } :=
    State.requestSurvey_of_idle (by rw [ht.survey, hidle])
  rw [State.chapterWritten_pennant _ _ _ _ (by decide) (by decide), follows] at h
  refine h.mono fun u hu => ⟨hu.status, ?_, ?_⟩
  · rw [hu.survey]
  · rw [hu.survey]
    exact ht.now

theorem zoneKey_range {z sub : Nat} (hz : z < 16) (hs : sub < 256) :
    (0x2350_00 ≤ zoneKey z sub ∧ zoneKey z sub < 0x2360_00) ∧ zoneKey z sub % 256 = sub ∧ zoneKey z sub / 256 - 0x2350 = z := by
  unfold zoneKey
  omega

theorem State.teach_length_of_inv {s : State} (h : s.Inv) : s.teach.length = 16 := by
  obtain ⟨_, _, _, _, _, teach, _⟩ := h
  exact teach

theorem teach_completes {s : State} {who : Who} {z : Fin 16} {value : BitVec 8} (hinv : s.Inv)
    (hw : s.writes who (zoneKey z 6) (leBytes 1 value.toNat) = true) :
    Completes (.teach who z value) s fun t =>
      t.status = .ok ∧ t.nat (zoneKey z 6) = value.toNat ∧ (t.teach.getD z {}).t0 = s.now ∧ (t.teach.getD z {}).count = 0 := by
  obtain ⟨hrange, hs, hz⟩ := zoneKey_range (sub := 6) z.isLt (by decide)
  have field : fieldKey (zoneKey z 6) ∨ notchKey (zoneKey z 6) := .inl ⟨by omega, by omega⟩
  obtain ⟨t, ht, h⟩ := completes_of_writes (c := .teach who z value) rfl hw field ((rowIs_teach z).octet value)
  rw [State.merged_of_plain _ _ field (by unfold mergedKey keptKey; omega)] at ht
  have follows : t.pennantsTaken (zoneKey z 6) = t.teachStart z := by
    unfold State.pennantsTaken
    dsimp only
    rw [if_neg (by omega), if_pos hrange, hs, hz]
    rfl
  have length : z.val < t.teach.length := by
    rw [ht.teach, State.teach_length_of_inv hinv]
    exact z.isLt
  rw [State.chapterWritten_pennant _ _ _ _ (by omega) (by omega), follows] at h
  have slot : (t.teachStart z).teach.getD z {} = { t0 := t.now } := by
    unfold State.teachStart
    simp [List.getD_eq_getElem?_getD, length]
  refine h.mono fun u hu => ⟨hu.status, (hu.nat _).trans ht.nat_same, ?_⟩
  rw [hu.teach, sized_getD _ _ z.isLt, slot, ht.now]
  exact ⟨rfl, rfl⟩

/-! ### Notches -/

theorem rowIs_notch : ∀ (x : Fin 8) (high : Bool), rowIs (0x3208_01 + 0x100 * x.val + boolNat high) .u16 := by
  unfold rowIs
  decide +kernel

theorem State.issueMap_val (s : State) (n : Nat) {k : Nat} (hk : k < 0x3240_00) (he : ¬ eventKey k) : (s.issueMap n).val k = s.val k := by
  unfold State.issueMap
  extract_lets key old p off told issued
  have peer (sub : Nat) : k ≠ key sub := by
    unfold key plPeerKey
    omega
  have kept : issued.val k = s.val k := (State.val_setN_ne _ _ (peer 6)).trans (State.val_put_ne _ _ (peer 5))
  exact (State.val_raise _ 83 he).trans kept

/-- A change of the notches issues tone maps, and leaves the entries below the peers'. -/
theorem State.notchWritten_val (s : State) {k : Nat} (hk : k < 0x3240_00) (he : ¬ eventKey k) : s.notchWritten.val k = s.val k := by
  unfold State.notchWritten
  extract_lets issued changed told
  have kept : told.val k = s.val k := State.val_foldl (fun t i _ => t.issueMap_val (i + 1) hk he) s
  split
  · exact (State.val_raise _ 85 he).trans kept
  · exact kept

theorem notchWrite_completes {s : State} {who : Who} {x : Fin 8} {high : Bool} {value : BitVec 16}
    (hw : s.writes who (0x3208_01 + 0x100 * x.val + boolNat high) (leBytes 2 value.toNat) = true) :
    Completes (.notchWrite who x high value) s fun t =>
      t.status = .ok ∧ t.nat (0x3208_01 + 0x100 * x.val + boolNat high) = value.toNat := by
  have hl := boolNat_le high
  generalize hk : 0x3208_01 + 0x100 * x.val + boolNat high = k at hw ⊢
  have notch : notchKey k := by unfold notchKey; omega
  obtain ⟨t, ht, h⟩ := completes_of_writes (c := .notchWrite who x high value) (by subst hk; rfl) hw (.inr notch)
    (hk ▸ (rowIs_notch x high).word value)
  rw [State.merged_of_plain _ _ (.inr notch) (by unfold mergedKey keptKey; omega)] at ht
  rw [State.chapterWritten_notch _ _ _ _ notch] at h
  refine h.mono fun u hu => ⟨hu.status, (hu.nat _).trans ?_⟩
  rw [State.nat_of_val (t.notchWritten_val (by omega) (not_eventKey_of_field (.inr notch))), ht.nat_same]

end Sys2Proof.Machine
end

section
/-!
SUPPORT. What a change of a drive leaves alone: the test mode of each port, the reference vector of each zone and the kind of each
pennant, through claims, components, lanes, slices and Frond states.
-/

namespace Sys2Proof.Machine

open Sys2Proof

/-- The settings that no change of a drive writes: test modes, reference vectors and kinds of pennants. -/
def settingKey (k : Nat) : Prop :=
  (0x2200_00 ≤ k ∧ k < 0x2280_00 ∧ k / 256 % 16 = 5 ∧ k % 256 = 1) ∨ (0x2350_00 ≤ k ∧ k < 0x2360_00 ∧ k % 256 = 5) ∨
    (0x2300_00 ≤ k ∧ k < 0x2340_00 ∧ k % 256 = 3)

/-- t has the time of s, its settings, and its ports with the moments at which their tests began. -/
structure State.KeepsSettings (s t : State) : Prop where
  now : t.now = s.now
  val : ∀ k, settingKey k → t.val k = s.val k
  test : ∀ q, (t.port q).testT0 = (s.port q).testT0
  size : t.ports.length = s.ports.length

namespace State.KeepsSettings

theorem refl (s : State) : s.KeepsSettings s := ⟨rfl, fun _ _ => rfl, fun _ => rfl, rfl⟩

theorem trans {s t u : State} (h : s.KeepsSettings t) (g : t.KeepsSettings u) : s.KeepsSettings u :=
  ⟨g.now.trans h.now, fun k hk => (g.val k hk).trans (h.val k hk), fun q => (g.test q).trans (h.test q), g.size.trans h.size⟩

theorem ite {s t u : State} {c : Prop} [Decidable c] (h : s.KeepsSettings t) (g : s.KeepsSettings u) :
    s.KeepsSettings (if c then t else u) := by
  split
  · exact h
  · exact g

theorem foldl {α : Type} {f : State → α → State} {l : List α} (h : ∀ t, ∀ x ∈ l, State.KeepsSettings t (f t x)) (s : State) :
    s.KeepsSettings (l.foldl f s) := by
  induction l generalizing s with
  | nil => exact refl s
  | cons x rest ih => exact (h s x List.mem_cons_self).trans (ih (fun t y hy => h t y (List.mem_cons_of_mem _ hy)) (f s x))

/-- A change of neither time nor values nor ports. -/
theorem of_same {s t : State} (now : t.now = s.now) (od : t.od = s.od) (ports : t.ports = s.ports) : s.KeepsSettings t := by
  refine ⟨now, fun k _ => ?_, fun q => ?_, congrArg List.length ports⟩
  · unfold State.val
    rw [od]
  · unfold State.port
    rw [ports]

/-- A change of values alone. -/
theorem of_values {s t : State} (h : s.OnlyEvents t) (val : ∀ k, settingKey k → t.val k = s.val k) : s.KeepsSettings t := by
  refine ⟨?_, val, fun q => ?_, ?_⟩
  · rw [h]
  · unfold State.port
    rw [h]
  · rw [h]

end State.KeepsSettings

/-! ### One rule for each change -/

namespace State.KeepsSettings

section

variable {s t : State} (h : s.KeepsSettings t)

include h

theorem put {k : Nat} {v : Val} (hk : ¬ settingKey k) : s.KeepsSettings (t.put k v) :=
  h.trans (.of_values (t.onlyOd_put k v).events fun _ hj => t.val_put_ne v fun e => hk (e ▸ hj))

theorem setFit {k bits n : Nat} (hk : ¬ settingKey k) : s.KeepsSettings (t.setFit k bits n) :=
  h.trans (.of_values (t.onlyOd_setFit k bits n).events fun _ hj => t.val_setFit_ne bits n fun e => hk (e ▸ hj))

theorem raiseAt {e stamp : Nat} {port : Option Nat} : s.KeepsSettings (t.raiseAt e stamp port) :=
  h.trans (.of_values (t.onlyEvents_raiseAt e stamp port) fun _ hj => t.val_raiseAt e stamp port (by unfold settingKey at hj; unfold eventKey; omega))

theorem raise {e : Nat} : s.KeepsSettings (t.raise e) := h.raiseAt

theorem raisePort {e p : Nat} : s.KeepsSettings (t.raisePort e p) := h.raiseAt

theorem updPort {p : Nat} {f : Port → Port} (hf : ∀ x, (f x).testT0 = x.testT0) : s.KeepsSettings (t.updPort p f) := by
  refine h.trans ⟨rfl, fun _ _ => rfl, fun q => ?_, List.length_modify ..⟩
  unfold State.updPort State.port
  simp only [List.getD_eq_getElem?_getD, List.getElem?_modify]
  split
  · cases t.ports[q]? with
    | none => rfl
    | some x => exact hf x
  · cases t.ports[q]? <;> rfl

theorem updSt {f : SelfTest → SelfTest} : s.KeepsSettings (t.updSt f) := h.trans (.of_same rfl rfl rfl)

theorem updRx {p : Nat} {f : Rx → Rx} : s.KeepsSettings (t.updRx p f) := h.trans (.of_same rfl rfl rfl)

theorem updFrond {p : Nat} {f : Frond → Frond} : s.KeepsSettings (t.updFrond p f) := h.trans (.of_same rfl rfl rfl)

theorem updLane {l : Nat} {f : Lane → Lane} : s.KeepsSettings (t.updLane l f) := h.trans (.of_same rfl rfl rfl)

theorem updPennant {n : Nat} {f : Pennant → Pennant} : s.KeepsSettings (t.updPennant n f) := h.trans (.of_same rfl rfl rfl)

theorem setGrant {c : Claimant} {mw : Nat} : s.KeepsSettings (t.setGrant c mw) := h.trans (.of_same rfl rfl rfl)

theorem dropClaim {c : Claimant} : s.KeepsSettings (t.dropClaim c) := h.trans (.of_same rfl rfl rfl)

theorem answer {c : Claimant} {a : ClaimStatus} : s.KeepsSettings (t.answer c a) := h.trans (.of_same rfl rfl rfl)

/-! ### Slices -/

/-- Entries from OD 2380 on are no settings. -/
theorem put_high {k : Nat} {v : Val} (hk : 0x2380_00 ≤ k) : s.KeepsSettings (t.put k v) := h.put (by unfold settingKey; omega)

theorem bump_high {k : Nat} (hk : 0x2380_00 ≤ k) : s.KeepsSettings (t.bump k) := h.setFit (by unfold settingKey; omega)

theorem burgeeRefresh : s.KeepsSettings t.burgeeRefresh := by
  unfold State.burgeeRefresh
  refine h.trans (.foldl (fun u w _ => ?_) t)
  have status (n : Nat) : u.KeepsSettings (u.setN (0x2140_08 + 0x100 * w) n) := .put (.refl u) (by unfold settingKey; omega)
  exact .ite (.refl u) (.ite (.raise (status _)) (status _))

theorem burgeePut {w : Nat} {b : BurgeeSpec} (hw : w < 32) : s.KeepsSettings (t.burgeePut w b) := by
  unfold State.burgeePut
  extract_lets k stored
  have spec (sub : Nat) (hsub : sub < 256) : ¬ settingKey (k + sub) := by
    unfold k settingKey
    omega
  have kept : s.KeepsSettings stored := by
    unfold stored
    generalize k = j at spec
    exact .put (.put (.put (.put (.put (.put (.put h (spec 1 (by decide))) (spec 2 (by decide))) (spec 3 (by decide))) (spec 4 (by decide)))
      (spec 5 (by decide))) (spec 6 (by decide))) (spec 7 (by decide))
  refine .burgeeRefresh (kept.trans ?_)
  exact .of_same rfl rfl rfl

theorem escalate {g : Nat} : s.KeepsSettings (t.escalate g) := by
  unfold State.escalate
  extract_lets first counted
  have kept : s.KeepsSettings counted := .bump_high (.updSt h) (by decide)
  exact .ite h (.ite (.burgeePut kept (by decide)) kept)

theorem deescalate {g : Nat} : s.KeepsSettings (t.deescalate g) := by
  unfold State.deescalate
  extract_lets cleared
  have kept : s.KeepsSettings cleared := .put_high (.updSt h) (by unfold groupKey; omega)
  exact .ite (.burgeePut kept (by decide)) (.burgeePut kept (by decide))

theorem sliceCount {g : Nat} : s.KeepsSettings (t.sliceCount g) :=
  .ite (.bump_high (.put_high (.updSt h) (by decide)) (by decide)) (.put_high (.updSt h) (by decide))

theorem targetAgain {x : Slice} : s.KeepsSettings (t.targetAgain x) := .ite (.updSt h) h

theorem slicePreempted {x : Slice} : s.KeepsSettings (t.slicePreempted x) := by
  have group (g sub : Nat) : 0x2380_00 ≤ groupKey g sub := by
    unfold groupKey
    omega
  unfold State.slicePreempted
  extract_lets g n counted tries
  have kept : s.KeepsSettings counted := .put_high (.bump_high (.updSt h) (by decide)) (group g 1)
  refine .ite (.ite ?_ ?_) (.ite (.targetAgain (.escalate kept)) (.targetAgain kept))
  · exact .deescalate (.raise (.put_high (.bump_high (.ite kept (.sliceCount kept)) (by decide)) (group g 2)))
  · exact .targetAgain (.updSt kept)

theorem sliceYield {g : Nat} {units : Nat → Bool} : s.KeepsSettings (t.sliceYield g units) := by
  unfold State.sliceYield
  split
  · exact .ite (.slicePreempted h) h
  · exact h

/-! ### Claims -/

theorem submitClaim {c : Claim} : s.KeepsSettings (t.submitClaim c) := by
  unfold State.submitClaim
  refine .answer (h.trans ?_)
  split
  · exact .of_same rfl rfl rfl
  · exact .of_same rfl rfl rfl

theorem refuseClaim {c : Claim} {a : ClaimStatus} : s.KeepsSettings (t.refuseClaim c a) := by
  have cls : c.who.cls ≤ 5 := by
    unfold Claimant.cls
    split <;> decide
  unfold State.refuseClaim
  exact .answer (.setFit (.setFit (.dropClaim h) (by unfold settingKey; omega)) (by unfold settingKey; omega))

theorem claim {c : Claim} : s.KeepsSettings (t.claim c) := .ite (.refuseClaim h) (.ite (.refuseClaim h) (.submitClaim h))

/-! ### Ports and their components -/

theorem releasePort {p : Nat} : s.KeepsSettings (t.releasePort p) := .setGrant (.dropClaim h)

variable {p : Nat} (hp : p < 8)

include hp

/-- The counters of a port. -/
theorem addPort {sub n : Nat} (hs : sub < 256) : s.KeepsSettings (t.add (portKey p 3 sub) n) :=
  .setFit h (by unfold settingKey portKey; omega)

theorem reclamp : s.KeepsSettings (t.reclamp p) := by
  unfold State.reclamp
  extract_lets f old from_ clamped
  have kept : s.KeepsSettings clamped := .updPort h fun _ => rfl
  exact .ite h (.ite (.raisePort (.addPort kept hp (by decide))) kept)

theorem relimit : s.KeepsSettings (t.relimit p) := by
  unfold State.relimit
  refine .reclamp ?_ hp
  exact .updPort h fun _ => rfl

theorem regrant {mw : Nat} : s.KeepsSettings (t.regrant p mw) := by
  unfold State.regrant
  exact .ite (.relimit (.setGrant h) hp) (.setGrant h)

theorem countWait : s.KeepsSettings (t.countWait p) := by
  unfold State.countWait
  split
  · exact .updPort (.addPort h hp (by decide)) fun _ => rfl
  · exact h

theorem portClaim : s.KeepsSettings (t.portClaim p) := by
  unfold State.portClaim
  extract_lets need g counts waits settled
  have kept : s.KeepsSettings settled := .countWait (.dropClaim h) hp
  refine .ite ?_ (.ite (.regrant kept hp) kept)
  have waiting : s.KeepsSettings waits := .updPort h fun _ => rfl
  exact .claim waiting

theorem portOff : s.KeepsSettings (t.portOff p) := by
  unfold State.portOff
  refine .portClaim ?_ hp
  refine .updPort ?_ fun _ => rfl
  exact .releasePort (.countWait h hp)

theorem portDown : s.KeepsSettings (t.portDown p) := by
  unfold State.portDown
  extract_lets pos reversal at_ down
  have waited : s.KeepsSettings (t.countWait p) := .countWait h hp
  have kept : s.KeepsSettings down := .updPort waited fun _ => rfl
  exact .ite (.addPort kept hp (by decide)) kept

theorem portUp : s.KeepsSettings (t.portUp p) := by
  unfold State.portUp
  extract_lets amp top was begun hold limited f clamped told target going
  have begins : s.KeepsSettings begun := .updPort (.addPort h hp (by decide)) fun _ => rfl
  have limits : s.KeepsSettings limited := .updPort begins fun _ => rfl
  have clamps : s.KeepsSettings clamped := .updPort limits fun _ => rfl
  have tells : s.KeepsSettings told := .ite (.raisePort (.addPort clamps hp (by decide))) clamps
  have goes : s.KeepsSettings going := .ite (.updPort tells fun _ => rfl) (.updPort tells fun _ => rfl)
  exact .portClaim goes hp

theorem changeComponent {lane amp phase : Nat} : s.KeepsSettings (t.changeComponent p lane amp phase) := by
  unfold State.changeComponent
  extract_lets keeps taken placed claimed
  have puts : s.KeepsSettings placed := .updPort h fun _ => rfl
  have kept : s.KeepsSettings claimed := .portClaim puts hp
  have started : s.KeepsSettings (claimed.startWaiting p) := .updPort kept fun _ => rfl
  exact .ite (.relimit started hp) kept

theorem putComponent {lane amp phase : Nat} : s.KeepsSettings (t.putComponent p lane amp phase) := by
  unfold State.putComponent
  extract_lets x new place
  have placed : s.KeepsSettings (place t) := .updPort (.sliceYield h) fun _ => rfl
  refine .ite h ?_
  split
  · exact .changeComponent h hp
  · exact .changeComponent h hp
  · exact .changeComponent h hp
  · have back : s.KeepsSettings (t.updPort p fun x => x.goes .carrier t.nextWord) := .updPort h fun _ => rfl
    exact .ite h (.ite (.changeComponent back hp) (.portUp placed hp))
  · exact .portClaim placed hp

theorem dropComponent {lane : Nat} : s.KeepsSettings (t.dropComponent p lane) := by
  unfold State.dropComponent
  extract_lets x rest stays gone mark out leave
  have left : s.KeepsSettings gone := .updPort h fun _ => rfl
  have marked (f : Component → Component) : s.KeepsSettings (mark f) := .updPort h fun _ => rfl
  have quiet : s.KeepsSettings (if stays then gone.portClaim p else (gone.countWait p).releasePort p) :=
    .ite (.portClaim left hp) (.releasePort (.countWait left hp))
  have driven : s.KeepsSettings (if stays then (out.portClaim p).reclamp p else leave.portDown p) :=
    .ite (.reclamp (.portClaim (marked _) hp) hp) (.portDown (marked _) hp)
  refine .ite h ?_
  split
  · exact quiet
  · exact quiet
  · exact .ite (.relimit (.portClaim left hp) hp) (.portOff left hp)
  · exact driven
  · exact driven
  · exact marked _
  · exact marked _

end

section

variable {s t : State} (h : s.KeepsSettings t)

include h

/-! ### Lanes and pennants -/

theorem applyDrive {l : Nat} {drive : List (Nat × Nat)} : s.KeepsSettings (t.applyDrive l drive) := by
  unfold State.applyDrive
  refine h.trans (.foldl (fun u p hp => ?_) t)
  have port : p < 8 := List.mem_range.mp hp
  exact .ite (.dropComponent (.refl u) port) (.putComponent (.refl u) port)

theorem laneGap {l : Nat} : s.KeepsSettings (t.laneGap l) := by
  unfold State.laneGap
  split
  · exact .applyDrive (.updLane h)
  · exact h

theorem changeLane {l n : Nat} {drive : List (Nat × Nat)} : s.KeepsSettings (t.changeLane l n drive) := by
  unfold State.changeLane
  exact .ite (.updLane h) (.laneGap (.updLane h))

theorem lanesFollow {n : Nat} : s.KeepsSettings (t.lanesFollow n) := by
  unfold State.lanesFollow
  refine h.trans (.foldl (fun u l _ => ?_) t)
  exact .ite (.changeLane (.updLane (.refl u))) (.refl u)

/-- Subindices 7 to 12 of a pennant are no settings. -/
theorem putPennant {n sub : Nat} {v : Val} (hs : 7 ≤ sub) (hs' : sub ≤ 12) : s.KeepsSettings (t.put (penKey n sub) v) :=
  .put h (by unfold settingKey penKey; omega)

theorem pennantFigures {n : Nat} : s.KeepsSettings (t.pennantFigures n) := by
  unfold State.pennantFigures
  extract_lets ps cleared
  have kept : s.KeepsSettings cleared := .ite (.putPennant h (by decide) (by decide)) h
  refine .ite ?_ kept
  exact .putPennant (.putPennant (.putPennant kept (by decide) (by decide)) (by decide) (by decide)) (by decide) (by decide)

theorem coverZone {z : Nat} : s.KeepsSettings (t.coverZone z) := by
  unfold State.coverZone
  extract_lets n missing d st was covered
  have kept : s.KeepsSettings covered :=
    .put (.put h (by unfold settingKey zoneKey; omega)) (by unfold settingKey zoneKey; omega)
  exact .ite (.raise kept) kept

theorem coverZones : s.KeepsSettings t.coverZones := by
  unfold State.coverZones
  exact h.trans (.foldl (fun u _ _ => .ite (.refl u) (.coverZone (.refl u))) t)

theorem refreshPennant {n : Nat} : s.KeepsSettings (t.refreshPennant n) := by
  unfold State.refreshPennant
  extract_lets x empty missing st eff changed stored figured
  have stores : s.KeepsSettings stored := .putPennant (.updPennant h) (by decide) (by decide)
  have figures : s.KeepsSettings figured := .pennantFigures (.ite (.lanesFollow stores) stores)
  have lost : s.KeepsSettings (if st = .stale then (figured.raise 11).raise 12 else figured.raise 11) :=
    .ite (.raise (.raise figures)) (.raise figures)
  exact .ite (.ite (.raise figures) figures) (.ite lost (.ite (.raise figures) figures))

theorem recompute {n : Nat} : s.KeepsSettings (t.recompute n) := by
  unfold State.recompute
  extract_lets kind sol failed solved
  have fails : s.KeepsSettings failed := .updPennant h
  have solves : s.KeepsSettings solved := by
    clear_value sol
    unfold solved
    cases sol with
    | none => exact fails
    | some ps => exact .putPennant (.ite (.putPennant fails (by decide) (by decide)) fails) (by decide) (by decide)
  exact .ite (.coverZones (.refreshPennant h)) (.coverZones (.refreshPennant solves))

theorem recomputeLater {n : Nat} : s.KeepsSettings (t.recomputeLater n) := by
  unfold State.recomputeLater
  exact .ite (h.trans (.of_same rfl rfl rfl)) (.recompute h)

theorem recomputeZone {z : Nat} : s.KeepsSettings (t.recomputeZone z) := by
  unfold State.recomputeZone
  exact .coverZone (h.trans (.foldl (fun u _ _ => .recomputeLater (.refl u)) t))

/-! ### Receive paths and Frond states -/

theorem enterCancel {p : Nat} {c : CancelState} : s.KeepsSettings (t.enterCancel p c) := by
  unfold State.enterCancel
  extract_lets yielded entered
  have yields : s.KeepsSettings yielded := .ite (.sliceYield h) h
  have enters : s.KeepsSettings entered := .updRx yields
  exact .ite (.put_high enters (by unfold rxKey; omega)) enters

theorem rxMeasured {p : Nat} : s.KeepsSettings (t.rxMeasured p) := by
  unfold State.rxMeasured
  exact .ite (.enterCancel h) h

theorem senseDrawn {p : Nat} : s.KeepsSettings (t.senseDrawn p) := by
  unfold State.senseDrawn
  refine .ite h ?_
  have key (sub : Nat) : 0x2380_00 ≤ rxKey p sub := by
    unfold rxKey
    omega
  have drawn (u : State) : u.KeepsSettings u.draw.2 := .of_same rfl rfl rfl
  exact .updRx (.put_high (.put_high (((h.trans (drawn _)).trans (drawn _)).trans (drawn _)) (key 3)) (key 4))

theorem pingDropped {p : Nat} : s.KeepsSettings (t.pingDropped p) := by
  unfold State.pingDropped
  exact .ite (.rxMeasured (.senseDrawn (.updFrond h))) h

theorem frondFollow {p : Nat} : s.KeepsSettings (t.frondFollow p) := by
  unfold State.frondFollow
  extract_lets f
  refine .ite (.ite h (.updFrond (.pingDropped h))) (.ite h ?_)
  split
  · exact .ite (.updFrond h) (.updFrond h)
  · exact .updFrond h

theorem frondFollowAll : s.KeepsSettings t.frondFollowAll := by
  unfold State.frondFollowAll
  exact h.trans (.foldl (fun u _ _ => .frondFollow (.refl u)) t)

theorem narrow : s.KeepsSettings t.narrow := by
  unfold State.narrow
  extract_lets kept
  have keeps : s.KeepsSettings kept := h.trans (.of_same rfl rfl rfl)
  refine keeps.trans (.foldl (fun u l _ => ?_) kept)
  exact .ite (.refl u) (.put (.refl u) (by unfold settingKey; omega))

theorem coverAll : s.KeepsSettings t.coverAll := by
  unfold State.coverAll
  refine .coverZones ((frondFollowAll (narrow h)).trans (.foldl (fun u n _ => ?_) _))
  exact .ite (.refl u) (.refreshPennant (.refl u))

theorem clearLanes {p : Nat} (hp : p < 8) : s.KeepsSettings (t.clearLanes p) := by
  unfold State.clearLanes
  exact h.trans (.foldl (fun u _ _ => .dropComponent (.refl u) hp) t)

end

end State.KeepsSettings

end Sys2Proof.Machine
end

section
/-!
SUPPORT. The writes of the field that change a drive: a test mode, a reference vector and the pairs of a pennant.
-/

namespace Sys2Proof.Machine

open Sys2Proof

/-- A test mode clears the port of its lanes, and the test begins. -/
theorem State.testModeSet_of_on {t : State} {p : Nat} (hp : p < 8) (hlen : p < t.ports.length) (hon : t.nat (portKey p 5 1) ≠ 0) :
    (t.testModeSet p).val (portKey p 5 1) = t.val (portKey p 5 1) ∧ ((t.testModeSet p).port p).testT0 = t.now := by
  have setting : settingKey (portKey p 5 1) := by
    unfold settingKey portKey
    omega
  have cleared : t.KeepsSettings (t.clearLanes p) := .clearLanes (.refl t) hp
  unfold State.testModeSet
  rw [if_neg hon]
  generalize hu : (t.clearLanes p).updPort p (fun x => { x with testT0 := t.now }) = u
  have begun : (u.port p).testT0 = t.now := by
    rw [← hu, State.updPort_port _ _ (by rw [cleared.size]; exact hlen)]
  have stored : u.val (portKey p 5 1) = t.val (portKey p 5 1) := by
    rw [← hu]
    exact cleared.val _ setting
  have driven : u.KeepsSettings (u.coverAll.putComponent p 5 (u.coverAll.nat (portKey p 5 2)) 0) := .putComponent (.coverAll (.refl u)) hp
  exact ⟨(driven.val _ setting).trans stored, (driven.test p).trans begun⟩

theorem portTestModeWrite_completes {s : State} {who : Who} {p : Fin 8} {value : BitVec 8} (hinv : s.Inv)
    (hw : s.writes who (portKey p 5 1) (leBytes 1 value.toNat) = true) (hon : value.toNat ≠ 0) :
    Completes (.portTestModeWrite who p value) s fun t =>
      t.status = .ok ∧ t.nat (portKey p 5 1) = value.toNat ∧ (t.port p).testT0 = s.now := by
  obtain ⟨t, ht, h⟩ := portWrite_completes (c := .portTestModeWrite who p value) (by decide) (by decide) rfl hw ((rowIs_testMode p).octet value)
  rw [State.merged_of_plain _ _ (fieldKey_port p.isLt (by decide) (by decide)) (by unfold mergedKey keptKey portKey; omega)] at ht
  have length : p.val < t.ports.length := by
    rw [ht.ports]
    exact (State.ports_length_of_inv hinv).symm ▸ p.isLt
  obtain ⟨stored, begun⟩ := State.testModeSet_of_on p.isLt length (by rwa [ht.nat_same])
  rw [State.portsWritten_test t p.isLt] at h
  refine h.mono fun u hu => ⟨hu.status, ?_, ?_⟩
  · rw [hu.nat, State.nat_of_val stored, ht.nat_same]
  · rw [hu.port p.isLt, begun, ht.now]

theorem rowIs_refVector : ∀ z : Fin 16, rowIs (zoneKey z 5) .octets := by
  unfold rowIs
  decide +kernel

theorem refVectorWrite_completes {s : State} {who : Who} {z : Fin 16} {v : List Byte} (hw : s.writes who (zoneKey z 5) v = true) :
    Completes (.refVectorWrite who z v) s fun t => t.status = .ok ∧ t.oct (zoneKey z 5) = v := by
  obtain ⟨hrange, hs, hz⟩ := zoneKey_range (sub := 5) z.isLt (by decide)
  have field : fieldKey (zoneKey z 5) ∨ notchKey (zoneKey z 5) := .inl ⟨by omega, by omega⟩
  obtain ⟨t, ht, h⟩ := completes_of_writes (c := .refVectorWrite who z v) rfl hw field ((rowIs_refVector z).octets v)
  rw [State.merged_of_plain _ _ field (by unfold mergedKey keptKey; omega)] at ht
  have follows : t.pennantsTaken (zoneKey z 5) = t.recomputeZone z := by
    unfold State.pennantsTaken
    dsimp only
    rw [if_neg (by omega), if_pos hrange, hs, hz]
    rfl
  rw [State.chapterWritten_pennant _ _ _ _ (by omega) (by omega), follows] at h
  have kept : t.KeepsSettings (t.recomputeZone z) := .recomputeZone (.refl t)
  have stored := kept.val (zoneKey z 5) (by unfold settingKey; omega)
  refine h.mono fun u hu => ⟨hu.status, ?_⟩
  rw [hu.oct]
  exact (congrArg Val.octets stored).trans ht.oct_same

theorem rowIs_pairs : ∀ n : Fin 64, rowIs (penKey n 7) .octets := by
  unfold rowIs
  decide +kernel

theorem pairsWrite_completes {s : State} {who : Who} {n : Fin 64} {pairs : List Byte} (hw : s.writes who (penKey n 7) pairs = true) :
    Completes (.pairsWrite who n pairs) s fun t => t.status = .ok ∧ t.nat (penKey n 3) = 2 := by
  have hn := n.isLt
  have range : (0x2300_00 ≤ penKey n 7 ∧ penKey n 7 < 0x2340_00) ∧ penKey n 7 % 256 = 7 ∧ penKey n 7 / 256 - 0x2300 = n := by
    unfold penKey
    omega
  obtain ⟨hrange, hs, hslot⟩ := range
  obtain ⟨t, ht, h⟩ := completes_of_writes (c := .pairsWrite who n pairs) rfl hw (.inl ⟨by omega, by omega⟩) ((rowIs_pairs n).octets pairs)
  have follows : t.pennantsTaken (penKey n 7) = (t.setN (penKey n 3) 2).recomputeLater n := by
    unfold State.pennantsTaken
    dsimp only
    rw [if_pos hrange, hslot, if_pos hs]
  rw [State.chapterWritten_pennant _ _ _ _ (by omega) (by omega), follows] at h
  have kept : (t.setN (penKey n 3) 2).KeepsSettings ((t.setN (penKey n 3) 2).recomputeLater n) := .recomputeLater (.refl _)
  have stored := kept.val (penKey n 3) (by unfold settingKey penKey; omega)
  refine h.mono fun u hu => ⟨hu.status, ?_⟩
  rw [hu.nat, State.nat_of_val stored, State.nat_setN_same]

end Sys2Proof.Machine
end

section

open Sys2Proof Sys2Proof.Machine

/-- Settles O23: one lemma for each write; the drives that follow three of them leave the settings (`State.KeepsSettings`). -/
theorem fieldEntryWrites : Obligations.FieldEntryWrites := by
  refine ⟨fun s who b length value _ hw hlearned => blankSlotWrite_completes hw hlearned,
    fun s who p value hinv hw hfault => faultCodeWrite_completes hinv hw hfault,
    fun s who p value _ hw hoff => fieldCapWrite_completes hw hoff,
    fun s who set coef _ hw hset => firSetWrite_completes hw hset,
    fun s who p mode set _ hw known => ?_,
    fun s who p mode set _ hw unknown => ?_,
    fun s who mask _ hw => maskWrite_completes hw,
    fun s who p value hinv hw hon _ => portTestModeWrite_completes hinv hw hon,
    fun s who value _ hw hidle => surveyCmd_completes hw hidle,
    fun s who z value hinv hw => teach_completes hinv hw,
    fun s who z v _ hw => refVectorWrite_completes hw,
    fun s who n pairs _ hw => pairsWrite_completes hw,
    fun s who x high value _ hw => notchWrite_completes hw⟩
  · simpa only [known, if_true] using firMapWrite_completes hw
  · simpa only [unknown, Bool.false_eq_true, if_false] using firMapWrite_completes hw

end

section
/-!
SUPPORT. A step of the field: what changes of ports, drives, lanes, receive paths and exchanges leave alone. Time, links, tag, supply,
security and modes, and every entry below index 2000, stay in any case; a step that is calm leaves ports at rest at rest besides.
-/

namespace Sys2Proof.Machine

open Sys2Proof

/-! ### What a step of the field leaves alone -/

/-- t differs from s at most in dictionary and draws, events with their lines and triggers, angle, ports, FIR checks, survey, pennants,
zones, lanes, Halyard, receive paths, exchanges with holds and lookups, Frond, Moss pool and self-test. -/
def State.OnlyField (s t : State) : Prop :=
  t = { s with
    od := t.od, drawn := t.drawn, lines := t.lines, triggers := t.triggers, raised := t.raised, raisedT := t.raisedT, ma := t.ma
    ports := t.ports, fir := t.fir, firOk := t.firOk, survey := t.survey, pennants := t.pennants, teach := t.teach, lanes := t.lanes
    requests := t.requests, dirty := t.dirty, rrZone := t.rrZone, turned := t.turned, hal := t.hal, rx := t.rx, seqs := t.seqs
    holds := t.holds, firstPoll := t.firstPoll, lookups := t.lookups, fronds := t.fronds, pool := t.pool, st := t.st }

theorem State.OnlyField.trans {s t u : State} (h : s.OnlyField t) (g : t.OnlyField u) : s.OnlyField u := by
  unfold State.OnlyField at *
  rw [g, h]

theorem State.OnlyEvents.onlyField {s t : State} (h : s.OnlyEvents t) : s.OnlyField t := by
  unfold State.OnlyEvents at h
  unfold State.OnlyField
  rw [h]

/-- The readings of a port and its fault code (OD 22p2), and the pending bits: what a calm step does not write, but to raise. -/
def restKey (k : Nat) : Prop := (0x2200_00 ≤ k ∧ k < 0x2280_00 ∧ k / 256 % 16 = 2) ∨ (0x3600_01 ≤ k ∧ k ≤ 0x3600_03)

/-- The entries that a step of the field, calm or not, does not write. -/
def spareKey (calm : Prop) (k : Nat) : Prop := k < 0x2000_00 ∨ (calm ∧ restKey k)

/-- A port that drives, or that ramps down to no FAULT: a calm step may take it anywhere. -/
def Port.atWork (x : Port) : Prop := x.state ≠ .off ∧ x.state ≠ .fault ∧ (x.state = .rampDown → x.faultNext = none)

/-- Port y is x after a calm step: in OFF, in FAULT, and on its way there, it stays; its recheck series and its 1 ms checks go on. -/
structure Port.RestsAs (x y : Port) : Prop where
  series : y.series = x.series
  checkT0 : y.checkT0 = x.checkT0
  off : x.state = .off → y.state = .off
  fault : x.state = .fault → y.state = .fault ∧ (x.comps = [] → y.comps = [])
  falls : x.state = .rampDown → x.faultNext ≠ none → y.state = .rampDown ∧ y.faultNext = x.faultNext ∧ y.measured = x.measured

theorem Port.RestsAs.refl (x : Port) : x.RestsAs x := ⟨rfl, rfl, id, fun h => ⟨h, id⟩, fun h _ => ⟨h, rfl, rfl⟩⟩

theorem Port.RestsAs.trans {x y z : Port} (h : x.RestsAs y) (g : y.RestsAs z) : x.RestsAs z where
  series := g.series.trans h.series
  checkT0 := g.checkT0.trans h.checkT0
  off hx := g.off (h.off hx)
  fault hx := ⟨(g.fault (h.fault hx).1).1, fun hc => (g.fault (h.fault hx).1).2 ((h.fault hx).2 hc)⟩
  falls hx hf := by
    obtain ⟨hy, next, measured⟩ := h.falls hx hf
    obtain ⟨hz, next', measured'⟩ := g.falls hy (next ▸ hf)
    exact ⟨hz, next'.trans next, measured'.trans measured⟩

/-- A port that may hold no grant is in OFF or in FAULT, and stays there. -/
theorem Port.RestsAs.live_eq {x y : Port} (h : x.RestsAs y) (hx : x.state.live = false) : y.state.live = false := by
  cases hs : x.state with
  | off => rw [h.off hs]; rfl
  | fault => rw [(h.fault hs).1]; rfl
  | _ => simp [hs, PortState.live] at hx

/-- Of a port at work only the recheck series and the checks are asked. -/
theorem Port.RestsAs.of_atWork {x y : Port} (h : x.atWork) (series : y.series = x.series) (checkT0 : y.checkT0 = x.checkT0) : x.RestsAs y :=
  ⟨series, checkT0, fun hx => absurd hx h.1, fun hx => absurd hx h.2.1, fun hx hf => absurd (h.2.2 hx) hf⟩

/-- A change of components gives a port that rests in FAULT none. -/
theorem Port.RestsAs.comps {x y : Port} {cs : List Component} (h : x.RestsAs y) (hcs : x.state = .fault → x.comps = [] → cs = []) :
    x.RestsAs { y with comps := cs } :=
  ⟨h.series, h.checkT0, h.off, fun hx => ⟨(h.fault hx).1, hcs hx⟩, h.falls⟩

/-- A change of nothing that rests. -/
theorem Port.RestsAs.of_same {x y : Port} (series : y.series = x.series) (checkT0 : y.checkT0 = x.checkT0) (state : y.state = x.state)
    (comps : y.comps = x.comps) (faultNext : y.faultNext = x.faultNext) (measured : y.measured = x.measured) : x.RestsAs y :=
  ⟨series, checkT0, state.trans, fun hx => ⟨state.trans hx, comps.trans⟩, fun hx _ => ⟨state.trans hx, faultNext, measured⟩⟩

theorem Port.atWork_of_state {x : Port} {st : PortState} (hs : x.state = st) (h : st ≠ .off ∧ st ≠ .fault ∧ st ≠ .rampDown) : x.atWork :=
  ⟨hs ▸ h.1, hs ▸ h.2.1, fun hd => absurd hd (hs ▸ h.2.2)⟩

/-- t is s after a calm step of the field: readings, fault codes, pending events and ports at rest, with their grants. -/
structure State.RestsAs (s t : State) : Prop where
  val : ∀ k, restKey k → k < 0x3600_01 → t.val k = s.val k
  pending : ∀ e, e < 96 → s.isPending e = true → t.isPending e = true
  port : ∀ q, (s.port q).RestsAs (t.port q)
  held : ∀ q, (s.port q).state.live = false → s.held (.port q) = 0 → t.held (.port q) = 0

theorem State.RestsAs.refl (s : State) : s.RestsAs s := ⟨fun _ _ _ => rfl, fun _ _ => id, fun _ => .refl _, fun _ _ => id⟩

theorem State.RestsAs.trans {s t u : State} (h : s.RestsAs t) (g : t.RestsAs u) : s.RestsAs u where
  val k hk hk' := (g.val k hk hk').trans (h.val k hk hk')
  pending e he hs := g.pending e he (h.pending e he hs)
  port q := (h.port q).trans (g.port q)
  held q hq hs := g.held q ((h.port q).live_eq hq) (h.held q hq hs)

/-- t is s after a step of the field, calm where `calm` says so. -/
structure State.FieldStep (calm : Prop) (s t : State) : Prop where
  only : s.OnlyField t
  low : ∀ k, k < 0x2000_00 → t.val k = s.val k
  rests : calm → s.RestsAs t

/-! ### Reads of what has changed -/

theorem State.port_updPort (s : State) (p q : Nat) (f : Port → Port) :
    (s.updPort p f).port q = if q = p ∧ p < s.ports.length then f (s.port p) else s.port q := by
  unfold State.updPort State.port
  simp only [List.getD_eq_getElem?_getD, List.getElem?_modify]
  by_cases hq : q = p
  · subst hq
    by_cases hl : q < s.ports.length
    · simp [hl]
    · simp [hl]
  · simp [hq, Ne.symm hq]

theorem heldOf_filter (h : List (Claimant × Nat)) (c d : Claimant) :
    heldOf (h.filter fun x => x.1 ≠ c) d = if d = c then 0 else heldOf h d := by
  induction h with
  | nil => simp [heldOf]
  | cons x rest ih =>
    by_cases hx : x.1 = c
    · by_cases hd : d = c
      · simp_all
      · simp_all [heldOf, Ne.symm hd]
    · by_cases hd : x.1 = d
      · simp_all [heldOf]
      · simp_all [heldOf]

theorem State.held_setGrant (s : State) (c d : Claimant) (mw : Nat) : (s.setGrant c mw).held d = if d = c then mw else s.held d := by
  unfold State.setGrant State.held setHeld
  dsimp only
  by_cases hm : mw = 0
  · rw [if_pos hm, heldOf_filter, hm]
  · rw [if_neg hm, heldOf]
    by_cases hd : d = c
    · rw [if_pos hd.symm, if_pos hd]
    · rw [if_neg (Ne.symm hd), if_neg hd, heldOf_filter, if_neg hd]

/-- An event's pending bit stands in the three words of OD 3600. -/
theorem State.isPending_of_words {s t : State} (h : ∀ k, 0x3600_01 ≤ k → k ≤ 0x3600_03 → t.val k = s.val k) {e : Nat} (he : e < 96) :
    t.isPending e = s.isPending e := by
  unfold State.isPending State.bit
  rw [State.nat_of_val (h _ (by omega) (by omega))]

namespace State.FieldStep

variable {calm : Prop}

theorem refl (s : State) : s.FieldStep calm s := ⟨rfl, fun _ _ => rfl, fun _ => .refl s⟩

theorem trans {s t u : State} (h : s.FieldStep calm t) (g : t.FieldStep calm u) : s.FieldStep calm u :=
  ⟨h.only.trans g.only, fun k hk => (g.low k hk).trans (h.low k hk), fun c => (h.rests c).trans (g.rests c)⟩

theorem ite {s t u : State} {c : Prop} [Decidable c] (h : s.FieldStep calm t) (g : s.FieldStep calm u) : s.FieldStep calm (if c then t else u) := by
  split
  · exact h
  · exact g

theorem foldl {α : Type} {f : State → α → State} {l : List α} (h : ∀ t, ∀ x ∈ l, State.FieldStep calm t (f t x)) (s : State) :
    s.FieldStep calm (l.foldl f s) := by
  induction l generalizing s with
  | nil => exact refl s
  | cons x rest ih => exact (h s x List.mem_cons_self).trans (ih (fun t y hy => h t y (List.mem_cons_of_mem _ hy)) (f s x))

/-- A step that changes neither values nor ports nor grants. -/
theorem of_same {s t : State} (only : s.OnlyField t) (od : t.od = s.od) (ports : t.ports = s.ports) (held : t.hal.held = s.hal.held) :
    s.FieldStep calm t := by
  have val (k : Nat) : t.val k = s.val k := by
    unfold State.val
    rw [od]
  have port (q : Nat) : t.port q = s.port q := by
    unfold State.port
    rw [ports]
  refine ⟨only, fun k _ => val k, fun _ => ⟨fun k _ _ => val k, fun e he hs => ?_, fun q => port q ▸ .refl _, fun q _ hs => ?_⟩⟩
  · exact (State.isPending_of_words (fun k _ _ => val k) he).trans hs
  · unfold State.held at *
    rw [held, hs]

/-- A step that changes values alone. -/
theorem of_values {s t : State} (h : s.OnlyEvents t) (val : ∀ k, k < 0x2000_00 ∨ (restKey k ∧ k < 0x3600_01 ∧ calm) → t.val k = s.val k)
    (pending : calm → ∀ e, e < 96 → s.isPending e = true → t.isPending e = true) : s.FieldStep calm t := by
  have port (q : Nat) : t.port q = s.port q := by
    rw [h]
    rfl
  refine ⟨h.onlyField, fun k hk => val k (.inl hk), fun c => ⟨fun k hk hk' => val k (.inr ⟨hk, hk', c⟩), pending c, fun q => port q ▸ .refl _,
    fun q _ hs => ?_⟩⟩
  rw [h]
  exact hs

/-! ### One rule for each change -/

section

variable {s t : State} (h : s.FieldStep calm t)

include h

theorem same {u : State} (only : t.OnlyField u) (od : u.od = t.od) (ports : u.ports = t.ports) (held : u.hal.held = t.hal.held) :
    s.FieldStep calm u := h.trans (.of_same only od ports held)

/-- A write of one entry, whatever becomes of the draws. -/
theorem write {k : Nat} {u : State} (only : t.OnlyOd u) (val : ∀ j, j ≠ k → u.val j = t.val j) (hk : ¬ spareKey calm k) : s.FieldStep calm u := by
  unfold spareKey restKey at hk
  refine h.trans (.of_values only.events (fun j hj => val j ?_) fun c e he hs => ?_)
  · rintro rfl
    obtain hj | ⟨hj, -, c⟩ := hj
    · exact hk (.inl hj)
    · exact hk (.inr ⟨c, hj⟩)
  · refine (State.isPending_of_words (fun j hj hj' => val j ?_) he).trans hs
    rintro rfl
    exact hk (.inr ⟨c, .inr ⟨hj, hj'⟩⟩)

theorem put {k : Nat} {v : Val} (hk : ¬ spareKey calm k) : s.FieldStep calm (t.put k v) :=
  h.write (t.onlyOd_put k v) (fun _ hj => t.val_put_ne v hj) hk

theorem setFit {k bits n : Nat} (hk : ¬ spareKey calm k) : s.FieldStep calm (t.setFit k bits n) :=
  h.write (t.onlyOd_setFit k bits n) (fun _ hj => t.val_setFit_ne bits n hj) hk

theorem raiseAt {e stamp : Nat} {port : Option Nat} : s.FieldStep calm (t.raiseAt e stamp port) := by
  refine h.trans (.of_values (t.onlyEvents_raiseAt e stamp port) (fun k hk => t.val_raiseAt e stamp port ?_) fun _ f hf hs => ?_)
  · unfold restKey at hk
    unfold eventKey
    omega
  · exact t.isPending_raiseAt_keep e stamp port f hf hs

theorem raise {e : Nat} : s.FieldStep calm (t.raise e) := h.raiseAt

theorem raisePort {e p : Nat} : s.FieldStep calm (t.raisePort e p) := h.raiseAt

/-- A change of a port: on a calm step, such as leaves it at rest where it is at rest in s. -/
theorem updPort {p : Nat} {f : Port → Port} (hf : calm → (s.port p).RestsAs (t.port p) → (s.port p).RestsAs (f (t.port p))) :
    s.FieldStep calm (t.updPort p f) := by
  refine ⟨h.only.trans rfl, h.low, fun c => ?_⟩
  have kept := h.rests c
  refine ⟨kept.val, kept.pending, fun q => ?_, kept.held⟩
  rw [State.port_updPort]
  split
  next hq =>
    rw [hq.1]
    exact hf c (kept.port p)
  next => exact kept.port q

/-- A change of a port that does not show in what rests. -/
theorem updPort_idle {p : Nat} {f : Port → Port} (hf : ∀ x : Port, x.RestsAs (f x)) : s.FieldStep calm (t.updPort p f) :=
  h.updPort fun _ rests => rests.trans (hf _)

/-- A change of a port that is at work in s, but of its recheck series and its checks. -/
theorem updPort_atWork {p : Nat} {f : Port → Port} (work : calm → (s.port p).atWork) (series : ∀ x, (f x).series = x.series)
    (checkT0 : ∀ x, (f x).checkT0 = x.checkT0) : s.FieldStep calm (t.updPort p f) :=
  h.updPort fun c rests => .of_atWork (work c) ((series _).trans rests.series) ((checkT0 _).trans rests.checkT0)

theorem setGrant {c : Claimant} {mw : Nat} (hc : calm → ∀ q, c = .port q → mw = 0 ∨ (s.port q).state.live = true) :
    s.FieldStep calm (t.setGrant c mw) := by
  refine ⟨h.only.trans rfl, h.low, fun hcalm => ?_⟩
  have kept := h.rests hcalm
  refine ⟨kept.val, kept.pending, kept.port, fun q hq hs => ?_⟩
  rw [State.held_setGrant]
  split
  next e => exact (hc hcalm q e.symm).resolve_right (by rw [hq]; decide)
  next => exact kept.held q hq hs

theorem updSt {f : SelfTest → SelfTest} : s.FieldStep calm (t.updSt f) := h.same rfl rfl rfl rfl

theorem updRx {p : Nat} {f : Rx → Rx} : s.FieldStep calm (t.updRx p f) := h.same rfl rfl rfl rfl

theorem updFrond {p : Nat} {f : Frond → Frond} : s.FieldStep calm (t.updFrond p f) := h.same rfl rfl rfl rfl

theorem updLane {l : Nat} {f : Lane → Lane} : s.FieldStep calm (t.updLane l f) := h.same rfl rfl rfl rfl

theorem updSeq {l : Nat} {f : Seq → Seq} : s.FieldStep calm (t.updSeq l f) := h.same rfl rfl rfl rfl

theorem updHold {l : Nat} {f : Hold → Hold} : s.FieldStep calm (t.updHold l f) := h.same rfl rfl rfl rfl

theorem updPennant {n : Nat} {f : Pennant → Pennant} : s.FieldStep calm (t.updPennant n f) := h.same rfl rfl rfl rfl

theorem updPool {f : Pool → Pool} : s.FieldStep calm (t.updPool f) := h.same rfl rfl rfl rfl

theorem updQueue {q : Nat} {f : Queue → Queue} : s.FieldStep calm (t.updQueue q f) := h.same rfl rfl rfl rfl

theorem dropClaim {c : Claimant} : s.FieldStep calm (t.dropClaim c) := h.same rfl rfl rfl rfl

theorem answer {c : Claimant} {a : ClaimStatus} : s.FieldStep calm (t.answer c a) := h.same rfl rfl rfl rfl

/-- Entries from OD 2280 up to the events are neither readings of ports nor pending bits. -/
theorem put_high {k : Nat} {v : Val} (hk : 0x2280_00 ≤ k) (hk' : k ≤ 0x3600_00) : s.FieldStep calm (t.put k v) :=
  h.put (by unfold spareKey restKey; omega)

theorem bump_high {k : Nat} (hk : 0x2280_00 ≤ k) (hk' : k ≤ 0x3600_00) : s.FieldStep calm (t.bump k) :=
  h.setFit (by unfold spareKey restKey; omega)

end

end State.FieldStep

end Sys2Proof.Machine
end

section
/-!
SUPPORT. Slices, claims, ports with their components, lanes and pennants as steps of the field: each is calm, where it meets a port at
work, or the port at rest that it leaves so.
-/

namespace Sys2Proof.Machine

open Sys2Proof

namespace State.FieldStep

variable {calm : Prop}

section

variable {s t : State} (h : s.FieldStep calm t)

include h

/-! ### Self-test slices -/

/-- Entries of OD 2000 to 21FF are neither readings of ports nor pending bits. -/
theorem put_low {k : Nat} {v : Val} (hk : 0x2000_00 ≤ k) (hk' : k < 0x2200_00) : s.FieldStep calm (t.put k v) :=
  h.put (by unfold spareKey restKey; omega)

theorem burgeeRefresh : s.FieldStep calm t.burgeeRefresh := by
  unfold State.burgeeRefresh
  refine h.trans (.foldl (fun u w hw => ?_) t)
  have window : w < 32 := List.mem_range.mp hw
  have status (n : Nat) : u.FieldStep calm (u.setN (0x2140_08 + 0x100 * w) n) := .put_low (.refl u) (by omega) (by omega)
  exact .ite (.refl u) (.ite (.raise (status _)) (status _))

theorem burgeePut {w : Nat} {b : BurgeeSpec} (hw : w < 32) : s.FieldStep calm (t.burgeePut w b) := by
  unfold State.burgeePut
  extract_lets k stored
  have low : 0x2140_00 ≤ k := Nat.le_add_right ..
  have high : k + 7 < 0x2200_00 := by
    unfold k
    omega
  have sub {u : State} (hu : s.FieldStep calm u) (i n : Nat) (hi : i ≤ 7) : s.FieldStep calm (u.setN (k + i) n) :=
    .put_low hu (by omega) (by omega)
  have stores : s.FieldStep calm stored :=
    sub (sub (sub (sub (sub (sub (sub h 1 _ (by decide)) 2 _ (by decide)) 3 _ (by decide)) 4 _ (by decide)) 5 _ (by decide)) 6 _ (by decide))
      7 _ (by decide)
  exact .burgeeRefresh (stores.same rfl rfl rfl rfl)

theorem escalate {g : Nat} : s.FieldStep calm (t.escalate g) := by
  unfold State.escalate
  extract_lets first counted
  have counts : s.FieldStep calm counted := .bump_high (.updSt h) (by decide) (by decide)
  exact .ite h (.ite (.burgeePut counts (by decide)) counts)

theorem sliceCount {g : Nat} : s.FieldStep calm (t.sliceCount g) := by
  unfold State.sliceCount
  exact .ite (.bump_high (.put_high (.updSt h) (by decide) (by decide)) (by decide) (by decide)) (.put_high (.updSt h) (by decide) (by decide))

theorem targetAgain {x : Slice} : s.FieldStep calm (t.targetAgain x) := by
  unfold State.targetAgain
  exact .ite (.updSt h) h

/-- The groups of slices are eleven. -/
theorem putGroup {g sub n : Nat} (hg : g ≤ 10) (hs : sub ≤ 2) : s.FieldStep calm (t.setN (groupKey g sub) n) :=
  .put_high h (by unfold groupKey; omega) (by unfold groupKey; omega)

theorem deescalate {g : Nat} (hg : g ≤ 10) : s.FieldStep calm (t.deescalate g) := by
  unfold State.deescalate
  extract_lets cleared
  have clears : s.FieldStep calm cleared := .putGroup (.updSt h) hg (by decide)
  exact .ite (.burgeePut clears (by decide)) (.burgeePut clears (by decide))

theorem slicePreempted {x : Slice} (hx : x.group ≤ 10) : s.FieldStep calm (t.slicePreempted x) := by
  unfold State.slicePreempted
  extract_lets g n counted tries
  have counts : s.FieldStep calm counted := .putGroup (.bump_high (.updSt h) (by decide) (by decide)) hx (by decide)
  have skipped : s.FieldStep calm (if x.targeted then counted else counted.sliceCount g) := .ite counts (.sliceCount counts)
  refine .ite (.ite ?_ ?_) (.ite (.targetAgain (.escalate counts)) (.targetAgain counts))
  · exact .deescalate (.raise (.putGroup (.bump_high skipped (by decide) (by decide)) hx (by decide))) hx
  · exact .targetAgain (.updSt counts)

theorem sliceYield {g : Nat} {units : Nat → Bool} (hg : g ≤ 10) : s.FieldStep calm (t.sliceYield g units) := by
  unfold State.sliceYield
  split
  next x _ =>
    split
    next hx =>
      simp only [Bool.and_eq_true, decide_eq_true_eq] at hx
      exact .slicePreempted h (hx.1 ▸ hg)
    next => exact h
  next => exact h

/-! ### Claims -/

theorem submitClaim {c : Claim} : s.FieldStep calm (t.submitClaim c) := by
  unfold State.submitClaim
  refine .answer (h.trans ?_)
  split
  · exact .of_same rfl rfl rfl rfl
  · exact .of_same rfl rfl rfl rfl

theorem refuseClaim {c : Claim} {a : ClaimStatus} : s.FieldStep calm (t.refuseClaim c a) := by
  have cls : c.who.cls ≤ 5 := by
    unfold Claimant.cls
    split <;> decide
  unfold State.refuseClaim
  exact .answer (.setFit (.setFit (.dropClaim h) (by unfold spareKey restKey; omega)) (by unfold spareKey restKey; omega))

theorem claim {c : Claim} : s.FieldStep calm (t.claim c) := by
  unfold State.claim
  exact .ite (.refuseClaim h) (.ite (.refuseClaim h) (.submitClaim h))

/-! ### Ports -/

theorem releasePort {p : Nat} : s.FieldStep calm (t.releasePort p) := by
  unfold State.releasePort
  exact .setGrant (.dropClaim h) fun _ _ _ => .inl rfl

/-- The counters of a port. -/
theorem addPort {p sub n : Nat} (hs : sub < 256) : s.FieldStep calm (t.add (portKey p 3 sub) n) :=
  .setFit h (by unfold spareKey restKey portKey; omega)

theorem reclamp {p : Nat} : s.FieldStep calm (t.reclamp p) := by
  unfold State.reclamp
  extract_lets f old from_ clamped
  have clamps : s.FieldStep calm clamped := .updPort_idle h fun _ => .of_same rfl rfl rfl rfl rfl rfl
  exact .ite h (.ite (.raisePort (.addPort clamps (by decide))) clamps)

theorem relimit {p : Nat} : s.FieldStep calm (t.relimit p) := by
  unfold State.relimit
  refine .reclamp (.updPort_idle h fun _ => ?_)
  exact .of_same rfl rfl rfl rfl rfl rfl

theorem regrant {p mw : Nat} (hp : calm → (s.port p).state.live = true) : s.FieldStep calm (t.regrant p mw) := by
  unfold State.regrant
  have granted : s.FieldStep calm (t.setGrant (.port p) mw) := h.setGrant fun c q hq => .inr (by
    cases hq
    exact hp c)
  exact .ite (.relimit granted) granted

theorem countWait {p : Nat} : s.FieldStep calm (t.countWait p) := by
  unfold State.countWait
  split
  · exact .updPort_idle (.addPort h (by decide)) fun _ => .of_same rfl rfl rfl rfl rfl rfl
  · exact h

/-- Only a port that holds a grant is granted anew, so that one in FAULT keeps none. -/
theorem portClaim {p : Nat} : s.FieldStep calm (t.portClaim p) := by
  unfold State.portClaim
  extract_lets need g counts waits settled
  have waiting : s.FieldStep calm waits := .updPort_idle h fun _ => .of_same rfl rfl rfl rfl rfl rfl
  have settles : s.FieldStep calm settled := .countWait (.dropClaim h)
  refine .ite (.claim waiting) ?_
  split
  next live =>
    refine .regrant settles fun c => ?_
    by_contra rest
    simp only [((settles.rests c).port p).live_eq (by simpa using rest), Bool.false_and, Bool.false_eq_true] at live
  next => exact settles

theorem portOff {p : Nat} (work : calm → (s.port p).atWork) : s.FieldStep calm (t.portOff p) := by
  unfold State.portOff
  refine .portClaim (.updPort_atWork (.releasePort (.countWait h)) work ?_ ?_)
  · exact fun _ => rfl
  · exact fun _ => rfl

theorem portDown {p : Nat} (work : calm → (s.port p).atWork) : s.FieldStep calm (t.portDown p) := by
  unfold State.portDown
  extract_lets pos reversal at_ down
  have downs : s.FieldStep calm down := .updPort_atWork (.countWait h) work (fun _ => rfl) fun _ => rfl
  exact .ite (.addPort downs (by decide)) downs

theorem portUp {p : Nat} (work : calm → (s.port p).atWork) : s.FieldStep calm (t.portUp p) := by
  unfold State.portUp
  extract_lets amp top was begun hold limited f clamped told target going
  have begins : s.FieldStep calm begun := .updPort_atWork (.addPort h (by decide)) work (fun _ => rfl) fun _ => rfl
  have limits : s.FieldStep calm limited := .updPort_atWork begins work (fun _ => rfl) fun _ => rfl
  have clamps : s.FieldStep calm clamped := .updPort_atWork limits work (fun _ => rfl) fun _ => rfl
  have tells : s.FieldStep calm told := .ite (.raisePort (.addPort clamps (by decide))) clamps
  have goes : s.FieldStep calm going :=
    .ite (.updPort_atWork tells work (fun _ => rfl) fun _ => rfl) (.updPort_atWork tells work (fun _ => rfl) fun _ => rfl)
  exact .portClaim goes

theorem changeComponent {p lane amp phase : Nat} (work : calm → (s.port p).atWork) : s.FieldStep calm (t.changeComponent p lane amp phase) := by
  unfold State.changeComponent
  extract_lets keeps taken placed claimed
  have places : s.FieldStep calm placed := .updPort_atWork h work (fun _ => rfl) fun _ => rfl
  have claims : s.FieldStep calm claimed := .portClaim places
  have started : s.FieldStep calm (claimed.startWaiting p) := .updPort_atWork claims work (fun _ => rfl) fun _ => rfl
  exact .ite (.relimit started) claims

end

/-! ### A port's components -/

section

variable {s t : State} (h : s.FieldStep calm t)

include h

/-- A component is put on a port only where the port is usable, so not in FAULT, and a port on its way to FAULT takes none. -/
theorem putComponent {p lane amp phase : Nat} : s.FieldStep calm (t.putComponent p lane amp phase) := by
  refine h.trans ?_
  unfold State.putComponent
  extract_lets x new place
  split
  next => exact .refl t
  next usable =>
    have sound : (t.port p).state ≠ .fault := by
      intro hf
      simp [State.portUsable, hf] at usable
    have placed : t.FieldStep calm (place t) :=
      .updPort (.sliceYield (.refl t) (by decide)) fun _ rests => rests.comps fun hf => absurd hf sound
    have change (hs : x.state ≠ .off ∧ x.state ≠ .fault ∧ x.state ≠ .rampDown) : t.FieldStep calm (t.changeComponent p lane amp phase) :=
      .changeComponent (.refl t) fun _ => Port.atWork_of_state rfl hs
    split
    next hs => exact change (by simp [hs])
    next hs => exact change (by simp [hs])
    next hs => exact change (by simp [hs])
    next hs =>
      split
      next => exact .refl t
      next next_ =>
        have down : (t.port p).state = .rampDown := hs
        have work : (t.port p).atWork := ⟨by simp [down], sound, fun _ => by simpa using next_⟩
        have back : t.FieldStep calm (t.updPort p fun x => x.goes .carrier t.nextWord) :=
          .updPort_atWork (.refl t) (fun _ => work) (fun _ => rfl) fun _ => rfl
        exact .ite (.changeComponent back fun _ => work) (.portUp placed fun _ => work)
    next => exact .portClaim placed

theorem dropComponent {p lane : Nat} : s.FieldStep calm (t.dropComponent p lane) := by
  refine h.trans ?_
  unfold State.dropComponent
  extract_lets x rest stays gone mark out leave
  split
  next => exact .refl t
  next has =>
    have left : t.FieldStep calm gone := .updPort (.refl t) fun _ rests => rests.comps fun _ hc => by simp [x, hc] at has
    have marked (f : Component → Component) : t.FieldStep calm (mark f) := .updPort (.refl t) fun _ rests => rests.comps fun _ hc => by rw [hc]; rfl
    have quiet : t.FieldStep calm (if stays then gone.portClaim p else (gone.countWait p).releasePort p) :=
      .ite (.portClaim left) (.releasePort (.countWait left))
    have driven (hs : x.state ≠ .off ∧ x.state ≠ .fault ∧ x.state ≠ .rampDown) :
        t.FieldStep calm (if stays then (out.portClaim p).reclamp p else leave.portDown p) :=
      .ite (.reclamp (.portClaim (marked _))) (.portDown (marked _) fun _ => Port.atWork_of_state rfl hs)
    split
    next => exact quiet
    next => exact quiet
    next hs => exact .ite (.relimit (.portClaim left)) (.portOff left fun _ => Port.atWork_of_state hs (by decide))
    next hs => exact driven (by simp [hs])
    next hs => exact driven (by simp [hs])
    next => exact marked _
    next => exact marked _

/-! ### Lanes and pennants -/

theorem applyDrive {l : Nat} {drive : List (Nat × Nat)} : s.FieldStep calm (t.applyDrive l drive) := by
  unfold State.applyDrive
  exact h.trans (.foldl (fun u _ _ => .ite (.dropComponent (.refl u)) (.putComponent (.refl u))) t)

theorem laneGap {l : Nat} : s.FieldStep calm (t.laneGap l) := by
  unfold State.laneGap
  split
  · exact .applyDrive (.updLane h)
  · exact h

theorem changeLane {l n : Nat} {drive : List (Nat × Nat)} : s.FieldStep calm (t.changeLane l n drive) := by
  unfold State.changeLane
  exact .ite (.updLane h) (.laneGap (.updLane h))

theorem lanesFollow {n : Nat} : s.FieldStep calm (t.lanesFollow n) := by
  unfold State.lanesFollow
  exact h.trans (.foldl (fun u _ _ => .ite (.changeLane (.updLane (.refl u))) (.refl u)) t)

/-- Entries of pennants, zones and lanes from subindex 4 on, at whatever number. -/
theorem put_sub {base n sub : Nat} {v : Val} (hb : 0x2300_00 ≤ base) (hb' : base % 256 = 0) (hs : 4 ≤ sub) (hs' : sub < 256) :
    s.FieldStep calm (t.put (base + 0x100 * n + sub) v) :=
  h.put (by unfold spareKey restKey; omega)

theorem putPennant {n sub : Nat} {v : Val} (hs : 4 ≤ sub) (hs' : sub < 256) : s.FieldStep calm (t.put (penKey n sub) v) :=
  h.put_sub (by decide) (by decide) hs hs'

theorem putZone {z sub : Nat} {v : Val} (hs : 4 ≤ sub) (hs' : sub < 256) : s.FieldStep calm (t.put (zoneKey z sub) v) :=
  h.put_sub (by decide) (by decide) hs hs'

theorem pennantFigures {n : Nat} : s.FieldStep calm (t.pennantFigures n) := by
  unfold State.pennantFigures
  extract_lets ps cleared
  have clears : s.FieldStep calm cleared := .ite (.putPennant h (by decide) (by decide)) h
  exact .ite (.putPennant (.putPennant (.putPennant clears (by decide) (by decide)) (by decide) (by decide)) (by decide) (by decide)) clears

theorem coverZone {z : Nat} : s.FieldStep calm (t.coverZone z) := by
  unfold State.coverZone
  extract_lets n missing d st was covered
  have covers : s.FieldStep calm covered := .putZone (.putZone h (by decide) (by decide)) (by decide) (by decide)
  exact .ite (.raise covers) covers

theorem coverZones : s.FieldStep calm t.coverZones := by
  unfold State.coverZones
  exact h.trans (.foldl (fun u _ _ => .ite (.refl u) (.coverZone (.refl u))) t)

theorem refreshPennant {n : Nat} : s.FieldStep calm (t.refreshPennant n) := by
  unfold State.refreshPennant
  extract_lets x empty missing st eff changed stored figured
  have stores : s.FieldStep calm stored := .putPennant (.updPennant h) (by decide) (by decide)
  have figures : s.FieldStep calm figured := .pennantFigures (.ite (.lanesFollow stores) stores)
  have told : s.FieldStep calm (if st = .stale then (figured.raise 11).raise 12 else figured.raise 11) :=
    .ite (.raise (.raise figures)) (.raise figures)
  exact .ite (.ite (.raise figures) figures) (.ite told (.ite (.raise figures) figures))

theorem recompute {n : Nat} : s.FieldStep calm (t.recompute n) := by
  unfold State.recompute
  extract_lets kind sol failed solved
  have fails : s.FieldStep calm failed := .updPennant h
  have solves : s.FieldStep calm solved := by
    clear_value sol
    unfold solved
    cases sol with
    | none => exact fails
    | some ps => exact .putPennant (.ite (.putPennant fails (by decide) (by decide)) fails) (by decide) (by decide)
  exact .ite (.coverZones (.refreshPennant h)) (.coverZones (.refreshPennant solves))

theorem recomputeLater {n : Nat} : s.FieldStep calm (t.recomputeLater n) := by
  unfold State.recomputeLater
  exact .ite (h.same rfl rfl rfl rfl) (.recompute h)

theorem recomputeZone {z : Nat} : s.FieldStep calm (t.recomputeZone z) := by
  unfold State.recomputeZone
  exact .coverZone (h.trans (.foldl (fun u _ _ => .recomputeLater (.refl u)) t))

theorem requestSurvey : s.FieldStep calm t.requestSurvey := by
  unfold State.requestSurvey
  split
  · exact h.same rfl rfl rfl rfl
  · exact h
  · exact h.same rfl rfl rfl rfl

/-! ### Receive paths and Frond -/

/-- Entries of the receive paths from subindex 4 on. -/
theorem putRx {p sub : Nat} {v : Val} (hs : 4 ≤ sub) (hs' : sub < 256) : s.FieldStep calm (t.put (rxKey p sub) v) :=
  h.put_sub (by decide) (by decide) hs hs'

theorem enterCancel {p : Nat} {c : CancelState} : s.FieldStep calm (t.enterCancel p c) := by
  unfold State.enterCancel
  extract_lets yielded entered
  have enters : s.FieldStep calm entered := .updRx (.ite (.sliceYield h (by decide)) h)
  exact .ite (.putRx enters (by decide) (by decide)) enters

theorem rxMeasured {p : Nat} : s.FieldStep calm (t.rxMeasured p) := by
  unfold State.rxMeasured
  exact .ite (.enterCancel h) h

theorem draw : s.FieldStep calm t.draw.2 := h.same rfl rfl rfl rfl

theorem senseDrawn {p : Nat} (hp : p < 8) : s.FieldStep calm (t.senseDrawn p) := by
  unfold State.senseDrawn
  have carrier (u : State) (n : Nat) : u.FieldStep calm (u.setN (rxKey p 3) n) :=
    .put_high (.refl u) (by unfold rxKey; omega) (by unfold rxKey; omega)
  exact .ite h (.updRx (.putRx ((draw (draw (draw h))).trans (carrier _ _)) (by decide) (by decide)))

theorem pingDropped {p : Nat} (hp : p < 8) : s.FieldStep calm (t.pingDropped p) := by
  unfold State.pingDropped
  exact .ite (.rxMeasured (.senseDrawn (.updFrond h) hp)) h

theorem frondFollow {p : Nat} (hp : p < 8) : s.FieldStep calm (t.frondFollow p) := by
  unfold State.frondFollow
  extract_lets f
  refine .ite (.ite h (.updFrond (.pingDropped h hp))) (.ite h ?_)
  split
  · exact .ite (.updFrond h) (.updFrond h)
  · exact .updFrond h

theorem frondFollowAll : s.FieldStep calm t.frondFollowAll := by
  unfold State.frondFollowAll
  exact h.trans (.foldl (fun u _ hp => .frondFollow (.refl u) (List.mem_range.mp hp)) t)

theorem narrow : s.FieldStep calm t.narrow := by
  unfold State.narrow
  extract_lets kept
  have keeps : s.FieldStep calm kept := h.same rfl rfl rfl rfl
  refine keeps.trans (.foldl (fun u l _ => ?_) kept)
  exact .ite (.refl u) (.put (.refl u) (by unfold spareKey restKey; omega))

theorem coverAll : s.FieldStep calm t.coverAll := by
  unfold State.coverAll
  refine .coverZones ((frondFollowAll (narrow h)).trans (.foldl (fun u n _ => ?_) _))
  exact .ite (.refl u) (.refreshPennant (.refl u))

end

end State.FieldStep

end Sys2Proof.Machine
end

section
/-!
SUPPORT. Exchanges, the Moss pool's pushes and receive windows as calm steps of the field.
-/

namespace Sys2Proof.Machine

open Sys2Proof

namespace State.FieldStep

variable {calm : Prop}

section

variable {s t : State} (h : s.FieldStep calm t)

include h

/-! ### Subindices of pools, receive paths and lanes -/

theorem bump_sub {base n sub : Nat} (hb : 0x2300_00 ≤ base) (hb' : base % 256 = 0) (hs : 4 ≤ sub) (hs' : sub < 256) :
    s.FieldStep calm (t.bump (base + 0x100 * n + sub)) :=
  h.setFit (by unfold spareKey restKey; omega)

theorem bumpQueue {q sub : Nat} (hs : 4 ≤ sub) (hs' : sub < 256) : s.FieldStep calm (t.bump (qKey q sub)) :=
  h.bump_sub (by decide) (by decide) hs hs'

/-! ### The Moss pool -/

theorem queueEvent {q bit e : Nat} : s.FieldStep calm (t.queueEvent q bit e) := by
  unfold State.queueEvent
  exact .ite (.raise h) h

theorem poolLevel : s.FieldStep calm t.poolLevel := by
  unfold State.poolLevel
  extract_lets f low least
  have counts : s.FieldStep calm least := .put_high (.updPool h) (by decide) (by decide)
  exact .ite (.raise (.updPool counts)) (.ite (.updPool counts) counts)

theorem poolMoved : s.FieldStep calm t.poolMoved := by
  unfold State.poolMoved
  exact .poolLevel (.sliceYield h (by decide))

theorem releaseOpen {q who : Nat} : s.FieldStep calm (t.releaseOpen q who) := by
  unfold State.releaseOpen
  exact .poolMoved (.updQueue h)

theorem cellRefused {q : Nat} : s.FieldStep calm (t.cellRefused q) := by
  unfold State.cellRefused
  exact .raise (.bumpQueue (.bump_high h (by decide) (by decide)) (by decide) (by decide))

theorem openWrite {q who : Nat} {chunks : List (List Byte)} : s.FieldStep calm (t.openWrite q who chunks).1 := by
  induction chunks generalizing t with
  | nil => exact h
  | cons chunk rest ih =>
    unfold State.openWrite
    extract_lets old n placed moved
    have places : s.FieldStep calm placed := .updQueue h
    have moves : s.FieldStep calm moved := .ite places (.poolMoved places)
    split
    · split
      · exact .releaseOpen h
      · exact ih moves
    · split
      · exact .releaseOpen h
      · exact .cellRefused (.releaseOpen h)

theorem pushFull {q : Nat} : s.FieldStep calm (t.pushFull q) := by
  unfold State.pushFull
  exact .queueEvent (.bumpQueue (.updQueue h) (by decide) (by decide))

theorem append {q : Nat} {b : Bunting} : s.FieldStep calm (t.append q b) := by
  unfold State.append
  exact .bumpQueue (.updQueue h) (by decide) (by decide)

theorem nextKey : s.FieldStep calm t.nextKey := by
  unfold State.nextKey
  exact .updPool h

theorem commitOpen {q who : Nat} : s.FieldStep calm (t.commitOpen q who).1 := by
  unfold State.commitOpen
  split
  · exact h
  · extract_lets taken
    have takes : s.FieldStep calm taken := .updQueue h
    split
    · exact .poolMoved (.pushFull takes)
    · exact .nextKey (.append takes)

theorem pushPlain {q who : Nat} {data : List Byte} : s.FieldStep calm (t.pushPlain q who data).1 := by
  have opened : s.FieldStep calm (t.openWrite q who (cellChunks data)).1 := .openWrite h
  unfold State.pushPlain
  split
  next u e =>
    rw [e] at opened
    exact .commitOpen opened
  next => exact opened

theorem queueSettle {q before : Nat} : s.FieldStep calm (t.queueSettle q before) := by
  unfold State.queueSettle
  extract_lets d up down was deepest first
  have depth : s.FieldStep calm deepest := .ite (.put h (by unfold spareKey restKey qKey; omega)) h
  have firsts : s.FieldStep calm first := .ite (.queueEvent depth) depth
  exact .ite (.queueEvent (.updQueue firsts)) (.ite (.queueEvent (.updQueue firsts)) firsts)

theorem mirror {record : List Byte} : s.FieldStep calm (t.mirror record) := by
  unfold State.mirror
  refine .ite ?_ h
  extract_lets r
  have pushed : s.FieldStep calm r.1 := .queueSettle (.pushPlain h)
  exact .ite (.put_high pushed (by decide) (by decide)) pushed

/-! ### A lane's sequencer -/

theorem queueStep {l : Nat} : s.FieldStep calm (t.queueStep l) := by
  unfold State.queueStep
  exact .updLane (.updSeq h)

theorem go {l : Nat} {st : HfStep} : s.FieldStep calm (t.go l st) := by
  unfold State.go
  exact .queueStep (.updSeq h)

theorem rest {l : Nat} : s.FieldStep calm (t.rest l) := by
  unfold State.rest
  exact .updLane (.updSeq h)

theorem presenceBad {l : Nat} : s.FieldStep calm (t.presenceBad l) := by
  unfold State.presenceBad
  exact .updSeq (.rest h)

theorem released {l : Nat} : s.FieldStep calm (t.released l) := by
  unfold State.released
  exact .ite (.presenceBad (.updSeq h)) (.rest (.updSeq h))

theorem leaveSession {l : Nat} : s.FieldStep calm (t.leaveSession l) := by
  unfold State.leaveSession
  exact .ite (.released h) (.go h)

theorem keepCard {l st : Nat} : s.FieldStep calm (t.keepCard l st) := by
  unfold State.keepCard
  exact .updSeq h

theorem saveCur {l : Nat} : s.FieldStep calm (t.saveCur l) := by
  unfold State.saveCur
  exact .updSeq h

theorem closeLane {l : Nat} : s.FieldStep calm (t.closeLane l) := by
  have waited : s.FieldStep calm (t.endWait l) := by
    unfold State.endWait
    split
    · exact .updLane (h.setFit (by unfold spareKey restKey laneKey; omega))
    · exact h
  unfold State.closeLane
  extract_lets dropped unheard
  have drops : s.FieldStep calm dropped := waited.trans (.foldl (fun u p _ => .dropComponent (.refl u)) _)
  have unheards : s.FieldStep calm unheard := by
    clear_value dropped
    exact drops.same rfl rfl rfl rfl
  exact .ite (.updLane unheards) h

theorem stopLane {l : Nat} : s.FieldStep calm (t.stopLane l) := by
  unfold State.stopLane
  exact .ite (.updSeq h) (.closeLane (.rest h))

theorem frondNonCard {p : Nat} : s.FieldStep calm (t.frondNonCard p) := by
  unfold State.frondNonCard
  exact .ite (.raisePort (.bump_sub (.updFrond h) (by decide) (by decide) (by decide) (by decide))) h

/-! ### Cards handed over -/

theorem holdCheck {ident : List Byte} {zone : Nat} : s.FieldStep calm (t.holdCheck ident zone).1 := by
  unfold State.holdCheck
  split
  · exact .bump_high (.updHold h) (by decide) (by decide)
  · exact .updHold (.ite (.raise (.bump_high h (by decide) (by decide))) h)

theorem lookUp {ls : List Lookup} : s.FieldStep calm { t with lookups := ls } := h.same rfl rfl rfl rfl

theorem handOver {l : Nat} {c : Card} {unsure : Bool} {tb : Nat} : s.FieldStep calm (t.handOver l c unsure tb) := by
  have checked : s.FieldStep calm (t.holdCheck c.ident c.zone).1 := .holdCheck h
  unfold State.handOver
  extract_lets startup random
  split
  next u held e =>
    rw [e] at checked
    extract_lets asHeld marked flags rec_ mirrored waiting
    have marks : s.FieldStep calm marked := .ite (.bump_high checked (by decide) (by decide)) checked
    have mirrors : s.FieldStep calm mirrored :=
      .mirror (.raise (.bump_high (marks.put_sub (by decide) (by decide) (by decide) (by decide)) (by decide) (by decide)))
    exact .lookUp (.updSeq mirrors)

theorem dropCard {m : Nat} {ident : List Byte} : s.FieldStep calm (t.dropCard m ident) := by
  unfold State.dropCard
  exact .ite (.updSeq h) (.ite (.updSeq (.updSeq h)) (.updSeq (.updSeq h)))

theorem complete {l tech : Nat} {id : List Byte} {info : Nat} {by_ : Machine.Recorded} : s.FieldStep calm (t.complete l tech id info by_) := by
  unfold State.complete
  split
  next =>
    extract_lets rate c known
    have knows : s.FieldStep calm known := .updSeq h
    split
    · exact .handOver knows
    · exact .ite (.handOver (.dropCard (.raise (.bump_high knows (by decide) (by decide))))) (.updSeq (.raise (.bump_high knows (by decide) (by decide))))

theorem completed {l tech : Nat} {id : List Byte} {info : Nat} {by_ : Machine.Recorded} : s.FieldStep calm (t.completed l tech id info by_) := by
  unfold State.completed
  exact (complete h).trans (.foldl (fun u _ _ => .ite (.closeLane (.rest (.refl u))) (.refl u)) _)

theorem cardOk {l : Nat} : s.FieldStep calm (t.cardOk l) := by
  unfold State.cardOk State.holdSeen
  extract_lets c
  split
  · exact .updHold (.updSeq h)
  · exact .updSeq h

end

/-! ### Polls and host exchanges: the lane has a number below 4 -/

section

variable {s t : State} (h : s.FieldStep calm t) {l : Nat} (hl : l < 4)

include h hl

theorem putHf {sub : Nat} {v : Val} (hs : sub < 256) : s.FieldStep calm (t.put (hfKey l sub) v) :=
  h.put_high (by unfold hfKey; omega) (by unfold hfKey; omega)

theorem hostPollEnd {ok : Bool} {st : ExStatus} : s.FieldStep calm (t.hostPollEnd l ok st) := by
  unfold State.hostPollEnd
  exact .raise (.updSeq (.putHf (.putHf h hl (by decide)) hl (by decide)))

theorem hostEnd {st : ExStatus} {rx : List Byte} : s.FieldStep calm (t.hostEnd l st rx) := by
  unfold State.hostEnd
  exact .raise (.updSeq (.putHf (.putHf (.putHf h hl (by decide)) hl (by decide)) hl (by decide)))

theorem hostDone {st : ExStatus} {rx : List Byte} : s.FieldStep calm (t.hostDone l st rx) := by
  unfold State.hostDone
  exact .rest (.hostEnd (.saveCur (.ite (.cardOk h) h)) hl)

theorem pollEnd : s.FieldStep calm (t.pollEnd l) := by
  unfold State.pollEnd
  extract_lets x rested counted ended told known
  have rests : s.FieldStep calm rested := .rest (.putHf h hl (by decide))
  have counts : s.FieldStep calm counted := rests.same rfl rfl rfl rfl
  have ends : s.FieldStep calm ended := .ite (.hostPollEnd counts hl) counts
  have tells : s.FieldStep calm told := by
    unfold told
    split
    · exact .ite (.frondNonCard ends) ends
    · exact ends
  have knows : s.FieldStep calm known := .updSeq tells
  exact .ite (.stopLane knows) knows

theorem nextTech : s.FieldStep calm (t.nextTech l) := by
  unfold State.nextTech
  extract_lets x
  split
  · exact .pollEnd h hl
  · extract_lets turned
    have turns : s.FieldStep calm turned := .updSeq h
    split
    · exact .go turns
    · exact .go (.updSeq turns)
    · exact .go (.updSeq turns)
    · exact .go (.updSeq turns)

theorem flowOver : s.FieldStep calm (t.flowOver l) := by
  unfold State.flowOver
  split
  · exact .nextTech h hl
  · exact .rest (.hostEnd h hl)
  · exact .presenceBad h

theorem nextSlotB : s.FieldStep calm (t.nextSlotB l) := by
  unfold State.nextSlotB
  exact .ite (.go (.updSeq h)) (.ite (.go (.updSeq h)) (.flowOver h hl))

theorem nextMask : s.FieldStep calm (t.nextMask l) := by
  unfold State.nextMask
  exact .ite (.ite (.pollEnd h hl) (.nextTech h hl)) (.go (.updSeq h))

theorem handV {n : Nat} : s.FieldStep calm (t.handV l n) := by
  induction n generalizing t with
  | zero => exact .nextMask h hl
  | succ n ih =>
    unfold State.handV
    extract_lets x
    split
    · exact .nextMask h hl
    · extract_lets taken handed
      have takes : s.FieldStep calm taken := .updSeq h
      have hands : s.FieldStep calm handed := .completed takes
      exact .ite (.pollEnd takes hl) (.ite (ih (.keepCard hands)) (.go hands))

theorem nextSlotV : s.FieldStep calm (t.nextSlotV l) := by
  unfold State.nextSlotV
  exact .ite (.go (.updSeq h)) (.handV (.updSeq h) hl)

theorem endRoundF : s.FieldStep calm (t.endRoundF l) := by
  unfold State.endRoundF
  refine .ite (.rest h) ?_
  split
  · exact .go (.updSeq h)
  · exact .ite (.pollEnd h hl) (.ite (.go (.updSeq h)) (.flowOver h hl))

theorem nextCard : s.FieldStep calm (t.nextCard l) := by
  unfold State.nextCard
  extract_lets let_ x
  have lets : s.FieldStep calm let_ := .updSeq h
  refine .ite (.ite (.nextSlotB lets hl) (.ite (.endRoundF lets hl) (.rest lets))) (.ite (.pollEnd lets hl) ?_)
  split
  · exact .go lets
  · exact .nextSlotB lets hl
  · exact .handV lets hl
  · exact .endRoundF lets hl

theorem activate : s.FieldStep calm (t.activate l) := by
  unfold State.activate
  extract_lets x takesNone
  have none_ : s.FieldStep calm takesNone := .ite (.rest (.hostEnd h hl)) (.nextCard (.keepCard h) hl)
  split
  · exact .ite (.go (.updSeq h)) (.ite (.go h) none_)
  · exact .go h
  · exact .ite (.go (.updSeq h)) none_
  · exact none_

theorem startHost : s.FieldStep calm (t.startHost l) := by
  unfold State.startHost
  extract_lets x
  split
  · exact .rest h
  · split
    · exact .hostDone h hl
    · extract_lets taken sent
      have takes : s.FieldStep calm taken := .updSeq h
      have sends : s.FieldStep calm sent := .go takes
      refine .ite (.ite (.hostDone sends hl) sends) (.ite (.go takes) ?_)
      split
      · exact .go takes
      · exact .activate (.updSeq takes) hl
      · exact .go takes
      · exact .go takes
      · exact .ite (.go (.updSeq takes)) (.hostDone takes hl)
      · exact .hostDone takes hl

omit hl in
theorem unpark : s.FieldStep calm (t.unpark l) := by
  unfold State.unpark
  split
  · exact h
  · exact .go (.updSeq h)

omit hl in
theorem turnBack : s.FieldStep calm (t.turnBack l) := by
  unfold State.turnBack
  exact .ite (.unpark h) h

theorem hostTurn : s.FieldStep calm (t.hostTurn l) := by
  unfold State.hostTurn
  exact .turnBack (.startHost h hl)

theorem hostPoll : s.FieldStep calm (t.hostPoll l) := by
  unfold State.hostPoll State.startPoll
  exact .turnBack (.nextTech (.updSeq (.updSeq h)) hl)

theorem nextJob : s.FieldStep calm (t.nextJob l) := by
  unfold State.nextJob
  extract_lets x
  have parked : s.FieldStep calm (t.park l) := .updSeq h
  refine .ite h (.ite ?_ (.ite h (.ite (.hostTurn parked hl) (.ite (.hostPoll parked hl) h))))
  exact .ite (.closeLane h) (.ite (.hostTurn h hl) (.ite (.hostPoll h hl) (.ite (.unpark h) (.ite (.hostPoll h hl) h))))

theorem exchEnd : s.FieldStep calm (t.exchEnd l) := by
  unfold State.exchEnd
  extract_lets ended
  have ends : s.FieldStep calm ended := .laneGap (.bump_sub h (by decide) (by decide) (by decide) (by decide))
  exact .ite (.closeLane (.rest ends)) (.nextJob ends hl)

theorem giveUp {st : ExStatus} : s.FieldStep calm (t.giveUp l st) := by
  unfold State.giveUp
  extract_lets x ended
  have ends : s.FieldStep calm ended := .updSeq (.hostEnd (.saveCur h) hl)
  split
  · exact .nextSlotB h hl
  · exact .nextSlotB h hl
  · exact .nextSlotV h hl
  · exact .nextSlotV h hl
  · exact .endRoundF h hl
  · exact .nextCard h hl
  · split
    · exact .ite (.rest h) (.presenceBad h)
    · exact .ite (.rest ends) (.leaveSession ends)
    · exact .nextCard h hl

end

/-! ### Receive windows, and the exchanges that a port's emergency or fault ends -/

section

variable {s t : State} (h : s.FieldStep calm t)

include h

theorem repeatExch {l : Nat} : s.FieldStep calm (t.repeatExch l) := by
  unfold State.repeatExch
  exact .queueStep (.updSeq h)

theorem noiseDrawn {p : Nat} : s.FieldStep calm (t.noiseDrawn p) := by
  unfold State.noiseDrawn State.noiseActive
  exact .updRx (.putRx (.draw h) (by decide) (by decide))

theorem noiseOver {l : Nat} {measure : State → Nat → State} (hm : ∀ u p, State.FieldStep calm u (measure u p)) : s.FieldStep calm (t.noiseOver l measure) := by
  unfold State.noiseOver
  exact .ite (.updSeq (h.trans (.foldl (fun u p _ => hm u p) t))) h

theorem acquire {p mv : Nat} : s.FieldStep calm (t.acquire p mv) := by
  unfold State.acquire
  exact .updRx (.enterCancel h)

theorem countReacquire {p : Nat} : s.FieldStep calm (t.countReacquire p) := by
  unfold State.countReacquire
  exact .bump_sub h (by decide) (by decide) (by decide) (by decide)

theorem exitHold {p : Nat} : s.FieldStep calm (t.exitHold p) := by
  unfold State.exitHold State.leaveHold
  exact .ite h (.ite (.raisePort (.countReacquire (.acquire (.updRx h)))) (.enterCancel (.updRx h)))

theorem windowsClosed : s.FieldStep calm t.windowsClosed := by
  unfold State.windowsClosed
  exact .ite h (h.trans (.foldl (fun u _ _ => .exitHold (.refl u)) t))

theorem heldDrawn : s.FieldStep calm t.heldDrawn := by
  unfold State.heldDrawn
  exact h.trans (.foldl (fun u _ hp => .ite (.senseDrawn (.refl u) (List.mem_range.mp hp)) (.refl u)) t)

theorem absorbAborts : s.FieldStep calm t.absorbAborts := by
  unfold State.absorbAborts
  refine h.trans (.foldl (fun u l hl => ?_) t)
  have lane : l < 4 := List.mem_range.mp hl
  refine .ite ?_ (.refl u)
  extract_lets x told drawn closed
  have tells : u.FieldStep calm told := .updLane (.refl u)
  have draws : u.FieldStep calm drawn := .heldDrawn (.noiseOver tells fun v _ => .noiseDrawn (.refl v))
  have closes : u.FieldStep calm closed := .windowsClosed (.updSeq draws)
  exact .ite (.exchEnd (.ite (.giveUp closes lane) (.repeatExch (.updSeq closes))) lane) tells

end

end State.FieldStep

end Sys2Proof.Machine
end

section
/-!
SUPPORT. What happens at ports, survey and lanes as steps of the field, calm or not.
-/

namespace Sys2Proof.Machine

open Sys2Proof

namespace State.FieldStep

/-! ### Rules of a step that need not be calm -/

section

variable {s t : State} (h : s.FieldStep False t)

include h

theorem put_any {k : Nat} {v : Val} (hk : 0x2000_00 ≤ k) : s.FieldStep False (t.put k v) :=
  h.put fun hk' => hk'.elim (fun hk' => absurd hk (Nat.not_le.mpr hk')) fun hk' => hk'.1

theorem setFit_any {k bits n : Nat} (hk : 0x2000_00 ≤ k) : s.FieldStep False (t.setFit k bits n) :=
  h.setFit fun hk' => hk'.elim (fun hk' => absurd hk (Nat.not_le.mpr hk')) fun hk' => hk'.1

theorem updPort_any {p : Nat} {f : Port → Port} : s.FieldStep False (t.updPort p f) := h.updPort nofun

/-- An entry of a port, of whatever number and subindex. -/
theorem putPort {p d sub : Nat} {v : Val} : s.FieldStep False (t.put (portKey p d sub) v) := h.put_any (by unfold portKey; omega)

end

variable {calm : Prop}

section

variable {s t : State} (h : s.FieldStep calm t)

include h

/-! ### Steps that are calm -/

theorem loseFrames {p : Nat} : s.FieldStep calm (t.loseFrames p) := h.same rfl rfl rfl rfl

theorem stampCarriers : s.FieldStep calm t.stampCarriers := by
  unfold State.stampCarriers
  exact h.trans (.foldl (fun u _ _ => .ite (.updSeq (.refl u)) (.refl u)) t)

theorem noiseStart {p : Nat} : s.FieldStep calm (t.noiseStart p) := by
  unfold State.noiseStart
  exact .putRx h (by decide) (by decide)

theorem surveyRows : s.FieldStep calm t.surveyRows := by
  unfold State.surveyRows
  exact .ite (h.same rfl rfl rfl rfl) h

theorem firReject : s.FieldStep calm t.firReject := by
  unfold State.firReject
  exact .raise (.bump_high h (by decide) (by decide))

theorem loadWarn {p loadR : Nat} : s.FieldStep calm (t.loadWarn p loadR) := by
  unfold State.loadWarn
  extract_lets nom off n counted
  have counts : s.FieldStep calm counted := .updPort_idle h fun _ => .of_same rfl rfl rfl rfl rfl rfl
  exact .ite (.requestSurvey (.raisePort counts)) counts

theorem rxMeasure {p : Nat} : s.FieldStep calm (t.rxMeasure p) := by
  unfold State.rxMeasure
  exact .ite (.enterCancel h) h

theorem rxNewMatrix : s.FieldStep calm t.rxNewMatrix := by
  unfold State.rxNewMatrix
  exact h.trans (.foldl (fun u _ _ => .ite (.countReacquire (.acquire (.refl u))) (.refl u)) t)

theorem pathsBack {was : State} : s.FieldStep calm (t.pathsBack was) := by
  unfold State.pathsBack
  refine .ite (h.trans (.foldl (fun u _ hp => ?_) t)) h
  exact .ite (.rxMeasured (.senseDrawn (.refl u) (List.mem_range.mp hp))) (.refl u)

theorem sense {xs : List Sensed} : s.FieldStep calm (t.sense xs) := by
  unfold State.sense
  refine h.trans (.foldl (fun u x _ => ?_) t)
  have port := x.port.isLt
  exact .updRx (.putRx (.put_high (.refl u) (by unfold rxKey; omega) (by unfold rxKey; omega)) (by decide) (by decide))

theorem clearLanes {p : Nat} : s.FieldStep calm (t.clearLanes p) := by
  unfold State.clearLanes
  exact h.trans (.foldl (fun u _ _ => .dropComponent (.refl u)) t)

theorem surveyOver : s.FieldStep calm t.surveyOver := h.same rfl rfl rfl rfl

theorem refuseLane {counter : Nat} (hc : 0x2280_00 ≤ counter) (hc' : counter ≤ 0x3600_00) : s.FieldStep calm (t.refuseLane counter) := by
  unfold State.refuseLane
  exact .raise (.bump_high h hc hc')

theorem combineAll : s.FieldStep calm t.combineAll := by
  unfold State.combineAll
  exact h.trans (.foldl (fun u _ _ => put_sub (.refl u) (by decide) (by decide) (by decide) (by decide)) t)

/-- Entries of lanes from subindex 4 on. -/
theorem putLane {l sub : Nat} {v : Val} (hs : 4 ≤ sub) (hs' : sub < 256) : s.FieldStep calm (t.put (laneKey l sub) v) :=
  h.put_sub (by decide) (by decide) hs hs'

theorem writeIso {l : Nat} : s.FieldStep calm (t.writeIso l) := by
  unfold State.writeIso
  exact .putLane (.putLane h (by decide) (by decide)) (by decide) (by decide)

theorem reselect {l closed : Nat} : s.FieldStep calm (t.reselect l closed) := by
  unfold State.reselect
  refine .ite ?_ h
  split
  · exact .ite (.changeLane h) h
  · exact h

theorem cardLeft {l : Nat} {c : Card} : s.FieldStep calm (t.cardLeft l c) := by
  unfold State.cardLeft
  split
  · exact .ite (.lookUp (.raise (.updHold h))) h
  · exact h

theorem laneIdle {l : Nat} : s.FieldStep calm (t.laneIdle l) := by
  unfold State.laneIdle
  extract_lets z freed shown now computed order chosen
  have frees : s.FieldStep calm freed := h.same rfl rfl rfl rfl
  have shows_ : s.FieldStep calm shown :=
    .putLane (.putLane (.putLane (.putLane frees (by decide) (by decide)) (by decide) (by decide)) (by decide) (by decide)) (by decide) (by decide)
  have cleans (rest : List Nat) : s.FieldStep calm { shown with dirty := rest } := shows_.same rfl rfl rfl rfl
  have computes : s.FieldStep calm computed := (cleans _).trans (.foldl (fun u _ _ => .recompute (.refl u)) _)
  have chooses : s.FieldStep calm chosen := .combineAll (computes.trans (.foldl (fun u _ _ => .reselect (.refl u)) _))
  split
  · exact .writeIso chooses
  · exact chooses

theorem laneFreed {l : Nat} (hl : l < 4) : s.FieldStep calm (t.laneFreed l) := by
  unfold State.laneFreed
  extract_lets x ended polled left
  have ends : s.FieldStep calm ended := .ite (.hostEnd h hl) h
  have polls : s.FieldStep calm polled := .ite (.hostPollEnd ends hl) ends
  have leaves : s.FieldStep calm left := polls.trans (.foldl (fun u _ _ => .cardLeft (.refl u)) _)
  exact .updSeq (.laneIdle leaves)

theorem admitExpired {l : Nat} (hl : l < 4) : s.FieldStep calm (t.admitExpired l) := by
  unfold State.admitExpired
  extract_lets byHost dropped told answered
  have drops : s.FieldStep calm dropped := h.trans (.foldl (fun u _ _ => .dropComponent (.refl u)) t)
  have tells : s.FieldStep calm told := .updSeq drops
  have answers : s.FieldStep calm answered := .ite (.putHf (.putHf tells hl (by decide)) hl (by decide)) tells
  exact .laneFreed (.refuseLane answers (by decide) (by decide)) hl

theorem liveNull : s.FieldStep calm t.liveNull := by
  unfold State.liveNull
  extract_lets ls drives begun
  have begins : s.FieldStep calm begun := h.same rfl rfl rfl rfl
  exact .ite (begins.trans (.foldl (fun u _ _ => .ite (.refl u) (.changeLane (.refl u))) _)) begins

theorem surveyStart : s.FieldStep calm t.surveyStart := by
  unfold State.surveyStart
  extract_lets survey begun driven
  have begins : s.FieldStep calm begun := h.same rfl rfl rfl rfl
  have drives : s.FieldStep calm driven := begins.trans (.foldl (fun u _ _ => .putComponent (.refl u)) _)
  exact drives.trans (.foldl (fun u _ _ => .rxMeasure (.refl u)) _)

theorem portEmergency {p : Nat} (work : calm → (s.port p).atWork) : s.FieldStep calm (t.portEmergency p) := by
  unfold State.portEmergency
  extract_lets st lost pos down pos'
  have downs : s.FieldStep calm down := .updPort_atWork (.countWait (.loseFrames h)) work (fun _ => rfl) fun _ => rfl
  have steeper : s.FieldStep calm (t.updPort p fun x => { x with t0 := t.nextWord, x0 := pos', emergency := true, lower := false }) :=
    .updPort_atWork h work (fun _ => rfl) fun _ => rfl
  exact .ite (.ite (.addPort downs (by decide)) downs) (.ite steeper (.ite (.portOff h work) h))

theorem settleComponent {p lane : Nat} (work : calm → (s.port p).atWork) : s.FieldStep calm (t.settleComponent p lane) := by
  unfold State.settleComponent
  extract_lets f settled
  have settles : s.FieldStep calm settled := .updPort_atWork h work (fun _ => rfl) fun _ => rfl
  exact .reclamp (.portClaim settles)

end

/-! ### Steps that a port takes out of its rest, or that write its readings -/

section

variable {s t : State} (h : s.FieldStep False t)

include h

theorem portFault {p code : Nat} : s.FieldStep False (t.portFault p code) := by
  unfold State.portFault
  extract_lets waited q faulted told
  have waits : s.FieldStep False waited := .countWait (.loseFrames h)
  have faults : s.FieldStep False faulted := .updPort_any (.releasePort waits)
  exact .requestSurvey (.coverAll (.raisePort (.addPort (.putPort faults) (by decide))))

theorem portFaultRamp {p code : Nat} : s.FieldStep False (t.portFaultRamp p code) := by
  unfold State.portFaultRamp
  exact .ite (.updPort_any (.portEmergency h nofun)) (.portFault h)

theorem bridgeTemp {p : Nat} {temp : Int} : s.FieldStep False (t.bridgeTemp p temp) := by
  unfold State.bridgeTemp
  extract_lets hot was measured
  have measures : s.FieldStep False measured := .updPort_any (.putPort h)
  exact .ite (.raisePort measures) measures

theorem portRecovered {p : Nat} : s.FieldStep False (t.portRecovered p) := by
  unfold State.portRecovered
  exact .requestSurvey (.coverAll (.raisePort (.updFrond (.putPort (.updPort_any h)))))

theorem faultRecheck {p : Nat} {pass : Bool} {temp : Int} : s.FieldStep False (t.faultRecheck p pass temp) := by
  unfold State.faultRecheck
  extract_lets measured ok
  have measures : s.FieldStep False measured := .bridgeTemp h
  split
  · unfold State.seriesRecheck
    exact .ite (.updPort_any measures) (.ite (.portRecovered measures) (.updPort_any measures))
  · unfold State.scheduledRecheck
    exact .ite (.portRecovered measures) (.updPort_any measures)

theorem faultDetect {p code : Nat} : s.FieldStep False (t.faultDetect p code) := by
  unfold State.faultDetect
  exact .ite h (.absorbAborts (.ite (.portFault h) (.portFaultRamp h)))

theorem loadCheck {p loadR power : Nat} {loadX temp : Int} {low : Bool} : s.FieldStep False (t.loadCheck p loadR loadX power temp low) := by
  unfold State.loadCheck
  extract_lets measured due checked warned
  have measures : s.FieldStep False measured := .bridgeTemp (.putPort (.putPort (.putPort h)))
  have checks : s.FieldStep False checked := .updPort_any measures
  have warns : s.FieldStep False warned := .ite (.loadWarn checks) checks
  exact .ite (.absorbAborts (.portFaultRamp warns)) (.ite (.absorbAborts (.portFaultRamp warns)) (.portClaim (.relimit warns)))

theorem carrierOn {p : Nat} : s.FieldStep False (t.carrierOn p) := by
  unfold State.carrierOn
  extract_lets on rows
  have ons : s.FieldStep False on := .updPort_any (.countWait h)
  exact .stampCarriers (.noiseStart (.portClaim (.relimit (.surveyRows ons))))

theorem chargingComplete {p : Nat} {ok : Bool} : s.FieldStep False (t.chargingComplete p ok) := by
  unfold State.chargingComplete
  exact .ite (.updPort_any h) (.portFault h)

theorem rampUpComplete {p loadR : Nat} {loadX : Int} {low : Bool} : s.FieldStep False (t.rampUpComplete p loadR loadX low) := by
  unfold State.rampUpComplete
  extract_lets measured
  have measures : s.FieldStep False measured := .updPort_any (.putPort (.putPort h))
  exact .ite (.absorbAborts (.portFaultRamp measures)) (.carrierOn measures)

theorem rampDownComplete {p : Nat} : s.FieldStep False (t.rampDownComplete p) := by
  unfold State.rampDownComplete
  split
  · exact .portFault h
  · exact .ite (.carrierOn h) (.portOff h nofun)

theorem cutNow {p mw : Nat} : s.FieldStep False (t.cutNow p mw) := by
  unfold State.cutNow
  extract_lets cut
  have cuts : s.FieldStep False cut := .raisePort (.regrant h nofun)
  refine .ite ?_ (.portClaim cuts)
  split
  · exact .portOff cuts nofun
  · exact .portDown cuts nofun
  · exact .portDown cuts nofun
  · exact .portDown cuts nofun
  · exact cuts

theorem frameEnded {p : Nat} : s.FieldStep False (t.frameEnded p) := by
  unfold State.frameEnded
  extract_lets x leaves ended cut
  have ends : s.FieldStep False ended := .updPort_any h
  have cuts : s.FieldStep False cut := by
    unfold cut
    split
    · exact .cutNow (.updPort_any ends)
    · exact ends
  exact .ite (.ite (.reclamp (.portClaim cuts)) (.portDown cuts nofun)) cuts

theorem firTailEnd {p lane mode : Nat} {above : Bool} : s.FieldStep False (t.firTailEnd p lane mode above) := by
  have judged : s.FieldStep False (t.maskMonitor p mode above) := by
    unfold State.maskMonitor
    extract_lets n counted
    have counts : s.FieldStep False counted := .updPort_any h
    refine .ite h (.ite counts (.raisePort (.bump_high ?_ (by decide) (by decide))))
    exact .addPort (.putPort counts) (by decide)
  unfold State.firTailEnd
  extract_lets judged' ended
  have ends : s.FieldStep False ended := .updPort_any judged
  exact .ite (.frameEnded ends) ends

theorem testModeSet {p : Nat} : s.FieldStep False (t.testModeSet p) := by
  unfold State.testModeSet
  exact .ite (.coverAll (.updFrond (.dropComponent h))) (.putComponent (.coverAll (.updPort_any (.clearLanes h))))

theorem putFir {set sub : Nat} {v : Val} : s.FieldStep False (t.put (firKey set sub) v) := h.put_any (by unfold firKey; omega)

theorem dropMaps {set : Nat} : s.FieldStep False (t.dropMaps set) := by
  unfold State.dropMaps
  extract_lets n dropped marked
  have drops : s.FieldStep False dropped := h.same rfl rfl rfl rfl
  have marks : s.FieldStep False marked := .ite drops (.putFir drops)
  exact marks.trans (.foldl (fun u _ _ => .firReject (.refl u)) _)

theorem firChecked {c : FirCheck} : s.FieldStep False (t.firChecked c) := by
  unfold State.firChecked
  extract_lets taken old coef modes margin pending ok status shown figured others coded known stored
  have takes : s.FieldStep False taken := h.same rfl rfl rfl rfl
  have shows_ : s.FieldStep False shown := .putFir takes
  have figures : s.FieldStep False figured := .ite shows_ (.putFir shows_)
  have coefs : s.FieldStep False coded := .putFir figures
  have knows : s.FieldStep False known := coefs.same rfl rfl rfl rfl
  have stores : s.FieldStep False stored := .putFir knows
  refine .ite (.firReject (.ite (.dropMaps shows_) shows_)) ?_
  split
  · exact .putPort stores
  · exact stores

/-! ### Lane requests and the survey that they abandon -/

theorem ownRamps {p : Nat} : s.FieldStep False (t.ownRamps p) := by
  unfold State.ownRamps
  exact .ite h (.updPort_any h)

theorem portCharge {p : Nat} : s.FieldStep False (t.portCharge p) := by
  unfold State.portCharge
  extract_lets q survey counted waited charged
  have counts : s.FieldStep False counted := .ite (.addPort h (by decide)) h
  have charges : s.FieldStep False charged := .updPort_any (.countWait counts)
  exact .relimit charges

theorem grantMet {p : Nat} : s.FieldStep False (t.grantMet p) := by
  unfold State.grantMet
  exact .ite (.portCharge h) h

theorem abandonSurvey {l : Nat} {drive : List (Nat × Nat)} : s.FieldStep False (t.abandonSurvey l drive) := by
  unfold State.abandonSurvey
  extract_lets owned passed
  have owns : s.FieldStep False owned := h.trans (.foldl (fun u _ _ => .ownRamps (.refl u)) t)
  have passes : s.FieldStep False passed := owns.trans (.foldl (fun u _ _ => .ite (.dropComponent (.refl u))
    (.grantMet (.putComponent (.updPort_any (.refl u))))) _)
  refine .ite h ?_
  exact same (.put_any passes (by decide)) rfl rfl rfl rfl

theorem refuseRequest {counter : Nat} (hc : 0x2280_00 ≤ counter) (hc' : counter ≤ 0x3600_00) : s.FieldStep False (t.refuseRequest counter).1 := by
  unfold State.refuseRequest
  exact .abandonSurvey (.refuseLane h hc hc')

theorem admitLane {r : LaneRequest} : s.FieldStep False (t.admitLane r).1 := by
  have refused (counter : Nat) (hc : 0x2280_00 ≤ counter) (hc' : counter ≤ 0x3600_00) := h.refuseRequest hc hc'
  unfold State.admitLane
  split
  · exact refused 0x2371_02 (by decide) (by decide)
  · split
    · exact refused 0x2371_02 (by decide) (by decide)
    · split
      · exact refused 0x2371_03 (by decide) (by decide)
      · split
        · exact refused 0x2371_03 (by decide) (by decide)
        · next n swap _ =>
          extract_lets drive changed opened driven
          split
          · exact refused 0x2371_04 (by decide) (by decide)
          · have changes : s.FieldStep False changed := by
              unfold changed
              split
              · exact .changeLane h
              · exact h
            have opens : s.FieldStep False opened := .updLane changes
            have drives : s.FieldStep False driven := .applyDrive (.abandonSurvey opens)
            exact .combineAll (.bump_high drives (by decide) (by decide))

theorem decideRequest {r : LaneRequest} : s.FieldStep False (t.decideRequest r) := by
  have admitted : s.FieldStep False (t.admitLane r).1 := .admitLane h
  have host (l sub : Nat) : 0x2000_00 ≤ hfKey l sub := by
    unfold hfKey
    omega
  unfold State.decideRequest
  split
  next u l e =>
    rw [e] at admitted
    exact same (.updSeq (.pathsBack admitted)) rfl rfl rfl rfl
  next u e =>
    rw [e] at admitted
    split
    · exact .put_any (.put_any (.pathsBack admitted) (host _ _)) (host _ _)
    · exact .pathsBack admitted

theorem laneAdmission : s.FieldStep False t.laneAdmission := by
  unfold State.laneAdmission
  extract_lets due taken ticks
  have takes : s.FieldStep False taken := h.same rfl rfl rfl rfl
  exact takes.trans (.foldl (fun u _ _ => .foldl (fun v _ _ => .decideRequest (.refl v)) u) _)

/-! ### The survey's end -/

theorem surveyReject : s.FieldStep False t.surveyReject := by
  unfold State.surveyReject
  exact .raise (.bump_high (.put_any h (by decide)) (by decide) (by decide))

theorem surveyAccept {y z yd : List (Int × Int)} : s.FieldStep False (t.surveyAccept y z yd) := by
  unfold State.surveyAccept
  extract_lets kept oldY clamped y' z' yd' survey accepted stored counted computed
  have accepts : s.FieldStep False accepted := h.same rfl rfl rfl rfl
  have stores : s.FieldStep False stored := .put_any (.put_any accepts (by decide)) (by decide)
  have counts : s.FieldStep False counted := .put_any (.put_any (.bump_high stores (by decide) (by decide)) (by decide)) (by decide)
  have computes : s.FieldStep False computed := counts.trans (.foldl (fun u _ _ => .ite (.refl u) (.recompute (.refl u))) _)
  exact .raise (.coverAll (.rxNewMatrix computes))

theorem surveySolve {m : Measured} : s.FieldStep False (t.surveySolve m) := by
  unfold State.surveySolve
  extract_lets ps solved
  refine .surveyOver ?_
  unfold solved
  split
  · exact .surveyReject h
  · extract_lets measured
    have measures : s.FieldStep False measured := .put_any h (by decide)
    exact .ite (.surveyAccept measures) (.surveyReject measures)

theorem teachEnd {z code : Nat} : s.FieldStep False (t.teachEnd z code) := by
  unfold State.teachEnd
  have taught : s.FieldStep False { t with teach := t.teach.set z {} } := h.same rfl rfl rfl rfl
  exact .put_any taught (by unfold zoneKey; omega)

end

end State.FieldStep

end Sys2Proof.Machine
end

section
/-!
SUPPORT. What a command of ports, survey or lanes leaves of a state, writes that waited for a lane included.
-/

namespace Sys2Proof.Machine

open Sys2Proof

namespace State.FieldStep

section

variable {s t : State} (h : s.FieldStep False t)

include h

theorem setSurvey {x : Survey} : s.FieldStep False { t with survey := x } := h.same rfl rfl rfl rfl

theorem pennantsTaken {k : Nat} : s.FieldStep False (t.pennantsTaken k) := by
  unfold State.pennantsTaken
  extract_lets n z survey
  have manual : s.FieldStep False (if k % 256 = 7 then t.setN (penKey n 3) 2 else t) :=
    .ite (.put_any h (by unfold penKey; omega)) h
  have refreshed : s.FieldStep False ((t.pennantsOf z).foldl (fun t n => t.refreshPennant n) t) :=
    h.trans (.foldl (fun u _ _ => .refreshPennant (.refl u)) t)
  refine .ite (.recomputeLater manual) (.ite ?_ (.ite (.requestSurvey h) (.ite (.setSurvey h) h)))
  split
  · exact .recomputeZone h
  · exact .recomputeZone h
  · exact .recomputeZone h
  · exact .coverZone refreshed
  · exact .coverZone refreshed
  · exact .coverZone refreshed
  · exact h.same rfl rfl rfl rfl
  · exact h

end

end State.FieldStep

/-! ### Writes that waited for a lane -/

/-- t is s after a command of the field: its parts alone have changed, and below index 2000 at most the entries whose write
waited. -/
structure State.FieldFramed (s t : State) : Prop where
  only : s.OnlyField { t with deferred := s.deferred }
  low : ∀ k, k < 0x2000_00 → (∀ x ∈ s.deferred, x.1 ≠ k) → t.val k = s.val k

theorem State.OnlyField.deferred_eq {s t : State} (h : s.OnlyField t) : t.deferred = s.deferred := by
  unfold State.OnlyField at h
  rw [h]

theorem State.OnlyField.foldl {α : Type} {f : State → α → State} (h : ∀ t x, State.OnlyField t (f t x)) (l : List α) (s : State) :
    s.OnlyField (l.foldl f s) := by
  induction l generalizing s with
  | nil => rfl
  | cons x rest ih => exact (h s x).trans (ih (f s x))

theorem State.FieldStep.framed {s t : State} (h : s.FieldStep False t) : s.FieldFramed t where
  only := by
    rw [← h.only.deferred_eq]
    exact h.only
  low k hk _ := h.low k hk

theorem State.FieldStep.takeDeferred {s t : State} (h : s.FieldStep False t) : s.FieldFramed t.takeDeferred := by
  unfold State.takeDeferred
  extract_lets ready waiting
  have step (u : State) (x : Nat × Val) : (u.put x.1 (u.pennantsMerge x.1 x.2)).FieldStep False ((u.put x.1 (u.pennantsMerge x.1 x.2)).pennantsTaken x.1) :=
    .pennantsTaken (.refl _)
  constructor
  · have taken := State.OnlyField.foldl (fun u x => (State.onlyOd_put u _ _).events.onlyField.trans (step u x).only) ready waiting
    have only := h.only
    generalize ready.foldl _ waiting = v at taken ⊢
    unfold waiting at taken
    unfold State.OnlyField at *
    rw [taken, only]
  · intro k hk free
    have other (x : Nat × Val) (hx : x ∈ ready) : k ≠ x.1 := by
      have stood : x ∈ t.deferred := List.mem_of_mem_filter hx
      rw [h.only.deferred_eq] at stood
      exact (free x stood).symm
    refine (State.val_foldl (fun u x hx => ?_) waiting).trans (h.low k hk)
    exact ((step u x).low k hk).trans (u.val_put_ne _ (other x hx))

/-! ### The finished state -/

/-- What the statement says of a state that a command of the field leaves. -/
def State.PortFramed (s t : State) : Prop :=
  s.sameLinks t ∧ s.sameTag t ∧ s.samePower t ∧ s.sameSecurity t ∧ s.sameModes t ∧ s.sameClock t ∧ t.noiseT0 = s.noiseT0 ∧
    t.wakes = s.wakes ∧ t.cal = s.cal ∧ t.scenes = s.scenes ∧ t.pulses = s.pulses ∧
    s.sameEntries t fun k => decide (0x2000 ≤ k / 256) || s.deferred.any fun x => x.1 = k

theorem State.portFramed_refl (s : State) : s.PortFramed s := by
  exact ⟨⟨rfl, rfl, rfl, rfl⟩, ⟨rfl, rfl⟩, ⟨rfl, rfl, rfl⟩, ⟨rfl, rfl, rfl, rfl, rfl, rfl, rfl⟩, ⟨rfl, rfl, rfl, rfl, rfl, rfl, rfl, rfl⟩,
    ⟨rfl, rfl⟩, rfl, rfl, rfl, rfl, rfl, fun _ _ => rfl⟩

/-- Where s has its fixed numbers of things, finishing a state that has the parts of s outside the field changes none of them. -/
theorem State.FieldFramed.finish {s t : State} (hinv : s.Inv) (h : s.FieldFramed t) : s.PortFramed (s.finish t) := by
  obtain ⟨-, hstore, -, -, -, -, -, -, -, -, -, hsessions, hpulses, hcmp, hpre, -, -, -, hpl, hlink, -, hslots⟩ := hinv
  have only := h.only
  unfold State.OnlyField at only
  have part {α : Type} (g : State → α) := congrArg g only
  have tb : t.tb = s.tb := part State.tb
  have pl : t.pl = s.pl := part State.pl
  have link : t.link = s.link := part State.link
  have store : t.store = s.store := part State.store
  have sessions : t.sessions = s.sessions := part State.sessions
  have firmware : t.firmware = s.firmware := part State.firmware
  have pulses : t.pulses = s.pulses := part State.pulses
  refine ⟨⟨part State.radio, ?_, ?_, part State.txSeq⟩, ⟨part State.tag, ?_⟩,
    ⟨part State.supply, part State.power, part State.wakeDue⟩,
    ⟨part State.audit, ?_, ?_, part State.tidSeen, part State.attestT0, part State.testAccess,
      part State.testEntered⟩,
    ⟨part State.phase, part State.halted, part State.haltSeen, part State.startT0,
      part State.gateT0, part State.idleT0, part State.waits, part State.rrLocal⟩,
    ⟨part State.now, ?_⟩, part State.noiseT0, part State.wakes, part State.cal,
    part State.scenes, ?_, fun k hk => ?_⟩
  · rw [State.finish_pl, State.shaped_pl, pl, sized_of_length _ hpl]
  · rw [State.finish_link, State.shaped_link, link, sized_of_length _ hlink]
  · rw [State.finish_store, store, StoreCells.canon_of_wf _ hstore]
  · rw [State.finish_sessions, sessions, sized_of_length _ hsessions]
  · rw [State.finish_firmware, State.shaped_firmware, firmware, sized_of_length _ hslots]
  · rw [State.finish_tb, State.shaped_tb, tb, sized_of_length _ hcmp, sized_of_length _ hpre]
  · rw [State.finish_pulses, pulses, sized_of_length _ hpulses]
  · simp only [Bool.or_eq_false_iff, decide_eq_false_iff_not, List.any_eq_false, decide_eq_true_eq] at hk
    rw [State.finish_val]
    exact h.low k (by omega) hk.2

/-- The two forms of an event's answer, where its effect is framed. -/
theorem State.FieldFramed.done {s u t : State} (hinv : s.Inv) (h : s.FieldFramed u) (ht : done s u = .next t) : s.PortFramed t := by
  rw [done_eq] at ht
  cases ht
  split
  · exact h.finish hinv
  · exact s.portFramed_refl

theorem State.FieldFramed.nextWhen {s u t : State} {c : Bool} (hinv : s.Inv) (h : s.FieldFramed u) (ht : nextWhen c s u = .next t) : s.PortFramed t := by
  rw [nextWhen_eq] at ht
  cases ht
  split
  · exact h.finish hinv
  · exact s.portFramed_refl

end Sys2Proof.Machine
end

section

open Sys2Proof Sys2Proof.Machine

/-- Settles O47: each of these commands is a step of the field (`State.FieldStep`), and the end of a lane takes what waited for it. -/
theorem portFrame : Obligations.PortFrame := by
  intro c s t hinv hc ht
  have refl : s.FieldStep False s := .refl s
  change s.PortFramed t
  cases c with
  | chargingComplete => exact refl.chargingComplete.framed.nextWhen hinv ht
  | rampUpComplete => exact refl.rampUpComplete.framed.nextWhen hinv ht
  | rampDownComplete => exact refl.rampDownComplete.framed.nextWhen hinv ht
  | componentTransitionEnd => exact (refl.settleComponent nofun).stampCarriers.framed.nextWhen hinv ht
  | firTailEnd p lane above =>
    change execFirTailEnd p lane above s = .next t at ht
    unfold execFirTailEnd at ht
    split at ht
    · exact refl.firTailEnd.framed.nextWhen hinv ht
    · exact refl.framed.done hinv ht
  | portFaultDetect => exact refl.faultDetect.framed.done hinv ht
  | portLoadCheck => exact refl.loadCheck.framed.nextWhen hinv ht
  | faultRecheck => exact refl.faultRecheck.framed.nextWhen hinv ht
  | firCheckDone set =>
    change execFirCheckDone set s = .next t at ht
    unfold execFirCheckDone at ht
    split at ht
    · exact refl.firChecked.framed.done hinv ht
    · exact refl.framed.done hinv ht
  | portTestTimeEnd => exact refl.putPort.testModeSet.framed.nextWhen hinv ht
  | surveyPeriodExpiry => exact refl.requestSurvey.setSurvey.framed.nextWhen hinv ht
  | surveyStart => exact refl.surveyStart.framed.nextWhen hinv ht
  | surveySolve => exact refl.sense.surveySolve.framed.nextWhen hinv ht
  | teachTimeout => exact refl.teachEnd.framed.nextWhen hinv ht
  | laneAdmission => exact refl.laneAdmission.framed.done hinv ht
  | admitWaitExpiry l => exact (refl.admitExpired l.isLt).takeDeferred.nextWhen hinv ht
  | laneClosed l => exact (refl.laneFreed l.isLt).takeDeferred.nextWhen hinv ht
  | liveNullRecompute => exact refl.liveNull.framed.nextWhen hinv ht
  | _ => cases hc

end

section
/-!
SUPPORT. The course of a port: its state and what it drives, through changes of grants, limits and clamps.
-/

namespace Sys2Proof.Machine

open Sys2Proof

/-! ### What grants, limits and clamps leave of a port -/

/-- A port but for its wait for a grant, its limit and clamp, and the counts of its checks. -/
def Port.course (x : Port) : Port :=
  { x with waitT0 := none, aLim := 0, clampTo := 0, clampFrom := 0, clampT0 := 0, clampUs := 0, deviant := 0, hot := false }

theorem Port.course_limit (x : Port) (n : Nat) : ({ x with aLim := n } : Port).course = x.course := rfl

/-- t has the ports of s, each in its course. -/
structure State.SameCourse (s t : State) : Prop where
  size : t.ports.length = s.ports.length
  course : ∀ q, (t.port q).course = (s.port q).course

namespace State.SameCourse

theorem refl (s : State) : s.SameCourse s := ⟨rfl, fun _ => rfl⟩

/-- What the course of a port shows is as it was. -/
theorem eq {s t : State} (h : s.SameCourse t) {α : Type} (g : Port → α) (q : Nat) (hg : ∀ x : Port, g x.course = g x := by exact fun _ => rfl) :
    g (t.port q) = g (s.port q) := by
  rw [← hg, h.course, hg]

section

variable {s t : State} (h : s.SameCourse t)

include h

theorem same {u : State} (ports : u.ports = t.ports) : s.SameCourse u := by
  refine ⟨(congrArg List.length ports).trans h.size, fun q => ?_⟩
  unfold State.port
  rw [ports]
  exact h.course q

theorem ite {u : State} {c : Prop} [Decidable c] (g : s.SameCourse u) : s.SameCourse (if c then t else u) := by
  split
  · exact h
  · exact g

theorem updPort {p : Nat} {f : Port → Port} (hf : ∀ x : Port, (f x).course = x.course) : s.SameCourse (t.updPort p f) := by
  refine ⟨(List.length_modify ..).trans h.size, fun q => ?_⟩
  rw [State.port_updPort]
  split
  next hq => rw [hf, h.course p, hq.1]
  next => exact h.course q

theorem events {u : State} (only : t.OnlyEvents u) : s.SameCourse u := h.same (by rw [only])

theorem raisePort {e p : Nat} : s.SameCourse (t.raisePort e p) := h.events (t.onlyEvents_raisePort e p)

theorem setFit {k bits n : Nat} : s.SameCourse (t.setFit k bits n) := h.events (t.onlyOd_setFit k bits n).events

theorem requestSurvey : s.SameCourse t.requestSurvey := by
  unfold State.requestSurvey
  split
  · exact h.same rfl
  · exact h
  · exact h.same rfl

theorem setGrant {c : Claimant} {mw : Nat} : s.SameCourse (t.setGrant c mw) := h.same rfl

theorem dropClaim {c : Claimant} : s.SameCourse (t.dropClaim c) := h.same rfl

theorem answer {c : Claimant} {a : ClaimStatus} : s.SameCourse (t.answer c a) := h.same rfl

theorem updSeq {l : Nat} {f : Seq → Seq} : s.SameCourse (t.updSeq l f) := h.same rfl

theorem reclamp {p : Nat} : s.SameCourse (t.reclamp p) := by
  unfold State.reclamp
  extract_lets f old from_ clamped
  have clamps : s.SameCourse clamped := h.updPort fun _ => rfl
  exact .ite h (.ite (.raisePort (.setFit clamps)) clamps)

theorem relimit {p : Nat} : s.SameCourse (t.relimit p) := by
  unfold State.relimit
  exact .reclamp (h.updPort fun x => x.course_limit _)

theorem regrant {p mw : Nat} : s.SameCourse (t.regrant p mw) := by
  unfold State.regrant
  exact .ite (.relimit (.setGrant h)) (.setGrant h)

theorem countWait {p : Nat} : s.SameCourse (t.countWait p) := by
  unfold State.countWait
  split
  · exact (setFit h).updPort fun _ => rfl
  · exact h

theorem refuseClaim {c : Claim} {a : ClaimStatus} : s.SameCourse (t.refuseClaim c a) :=
  .answer (.setFit (.setFit (.dropClaim h)))

theorem submitClaim {c : Claim} : s.SameCourse (t.submitClaim c) := by
  unfold State.submitClaim
  refine .answer ?_
  split
  · exact h.same rfl
  · exact h.same rfl

theorem claim {c : Claim} : s.SameCourse (t.claim c) := .ite (.refuseClaim h) (.ite (.refuseClaim h) (.submitClaim h))

theorem portClaim {p : Nat} : s.SameCourse (t.portClaim p) := by
  unfold State.portClaim
  extract_lets need g counts waits settled
  have waiting : s.SameCourse waits := h.updPort fun _ => rfl
  have settles : s.SameCourse settled := .countWait (.dropClaim h)
  exact .ite (.claim waiting) (.ite (.regrant settles) settles)

theorem noiseStart {p : Nat} : s.SameCourse (t.noiseStart p) := h.same rfl

theorem stampCarriers : s.SameCourse t.stampCarriers := by
  unfold State.stampCarriers
  induction List.range 4 generalizing t with
  | nil => exact h
  | cons l rest ih => exact ih (.ite (.updSeq h) h)

theorem surveyRows : s.SameCourse t.surveyRows := by
  unfold State.surveyRows
  extract_lets ports
  split
  · exact h.same rfl
  · exact h

theorem releasePort {p : Nat} : s.SameCourse (t.releasePort p) := .setGrant (.dropClaim h)

theorem loseFrames {p : Nat} : s.SameCourse (t.loseFrames p) := h.same rfl

theorem bridgeTemp {p : Nat} {temp : Int} : s.SameCourse (t.bridgeTemp p temp) := by
  unfold State.bridgeTemp
  extract_lets hot was measured
  have stores : s.SameCourse (t.setI (portKey p 2 11) temp) := h.same rfl
  have measures : s.SameCourse measured := stores.updPort fun _ => rfl
  exact .ite (.raisePort measures) measures

theorem loadWarn {p loadR : Nat} : s.SameCourse (t.loadWarn p loadR) := by
  unfold State.loadWarn
  extract_lets nom off n counted
  have counts : s.SameCourse counted := h.updPort fun _ => rfl
  exact .ite (.requestSurvey (.raisePort counts)) counts

end

end State.SameCourse

/-! ### The finished state, and readings after a calm step -/

@[simp] theorem State.finish_port (s t : State) (p : Fin 8) : (s.finish t).port p = t.port p := sized_getD (n := 8) ({} : Port) t.ports p.isLt

@[simp] theorem State.finish_held (s t : State) (c : Claimant) : (s.finish t).held c = t.held c := rfl

/-- A reading of a port, or its fault code, after a calm step. -/
theorem State.RestsAs.reading {s t : State} (h : s.RestsAs t) (p : Fin 8) {sub : Nat} (hs : sub < 256) :
    t.val (portKey p 2 sub) = s.val (portKey p 2 sub) :=
  h.val _ (by unfold restKey portKey; omega) (by unfold portKey; omega)

theorem State.Inv.port_lt {s : State} (h : s.Inv) (p : Fin 8) : p.val < s.ports.length := by
  rw [State.ports_length_of_inv h]
  exact p.isLt

/-! ### A port in FAULT -/

/-- Port p is in FAULT with the code, event 0 told, and has neither components nor grant. -/
structure State.FaultedAt (s : State) (p : Fin 8) (code : Nat) : Prop where
  state : (s.port p).state = .fault
  comps : (s.port p).comps = []
  held : s.held (.port p) = 0
  code : s.nat (portKey p 2 2) = code
  told : s.isPending 0 = true

/-- A port stays in FAULT through calm steps. -/
theorem State.FaultedAt.rests {s t : State} {p : Fin 8} {code : Nat} (h : s.FaultedAt p code) (r : s.RestsAs t) : t.FaultedAt p code := by
  obtain ⟨state, comps⟩ := (r.port p).fault h.state
  refine ⟨state, comps h.comps, r.held p ?_ h.held, (State.nat_of_val (r.reading p (by decide))).trans h.code, r.pending 0 (by decide) h.told⟩
  rw [h.state]
  rfl

theorem State.FaultedAt.finish {s t : State} {p : Fin 8} {code : Nat} (h : t.FaultedAt p code) : (s.finish t).FaultedAt p code := by
  obtain ⟨state, comps, held, nat, told⟩ := h
  exact ⟨by rwa [State.finish_port], by rwa [State.finish_port], held, by rwa [State.finish_nat], by rwa [State.finish_isPending]⟩

theorem State.portFault_faultedAt {s : State} {p : Fin 8} (hp : p.val < s.ports.length) (code : Nat) : (s.portFault p code).FaultedAt p code := by
  unfold State.portFault
  extract_lets waited q faulted told
  refine State.FaultedAt.rests (s := told) ?_ (State.FieldStep.requestSurvey (.coverAll (.refl told)) |>.rests trivial)
  have size : (waited.releasePort p).ports.length = s.ports.length :=
    (State.SameCourse.releasePort (.countWait (.loseFrames (.refl s)))).size
  have only : (faulted.setN (portKey p 2 2) code).OnlyEvents told :=
    ((State.onlyOd_setFit _ (portKey p 3 1) 32 _).events).trans (State.onlyEvents_raisePort _ 0 p)
  have port : told.port p = faulted.port p := by
    unfold State.port
    rw [only]
    rfl
  have held : told.held (.port p) = faulted.held (.port p) := by
    unfold State.held
    rw [only]
    rfl
  have driven : (faulted.port p).state = .fault ∧ (faulted.port p).comps = [] := by
    rw [show faulted.port p = _ from State.updPort_port _ _ (by omega)]
    exact ⟨rfl, rfl⟩
  rw [← port] at driven
  refine ⟨driven.1, driven.2, ?_, ?_, State.isPending_raisePort _ 0 p (by decide)⟩
  · rw [held]
    exact (State.held_setGrant _ _ _ _).trans (if_pos rfl)
  · refine (State.nat_of_val ?_).trans (faulted.nat_setN_same (portKey p 2 2) code)
    refine (State.val_raisePort _ 0 p (by unfold eventKey portKey; omega)).trans (State.val_bump_ne _ ?_)
    unfold portKey
    omega

end Sys2Proof.Machine
end

section
/-!
SUPPORT. The ramps of a port: what ends them, and where they lead.
-/

namespace Sys2Proof.Machine

open Sys2Proof

variable {s : State} {p : Fin 8}

/-! ### Charging -/

theorem chargingComplete_good (hinv : s.Inv) (hon : s.coreOn = true) (hs : (s.port p).state = .charging) (hb : 20 ≤ s.bias p) :
    Completes (.chargingComplete p true) s fun t =>
      (t.port p).state = .rampUp ∧ (t.port p).x0 = 0 ∧ (t.port p).t0 = s.nextWord ∧ (∀ q : Fin 8, q ≠ p → t.port q = s.port q) ∧ t.od = s.od := by
  refine completes_of_nextWhen (b := decide ((s.port p).state = .charging) && decide (20 ≤ s.bias p)) rfl (by simp [hs, hb]) hon ?_
  have hod : (s.finish (s.chargingComplete p true)).od = s.od := OdStore.canon_of_wf _ hinv.1
  simp only [State.finish_port]
  rw [show (s.chargingComplete p true).port p = _ from State.updPort_port s _ (hinv.port_lt p)]
  refine ⟨rfl, rfl, rfl, fun q hq => ?_, hod⟩
  exact (State.port_updPort s p q _).trans (if_neg fun h => hq (Fin.ext h.1))

theorem chargingComplete_bad (hinv : s.Inv) (hon : s.coreOn = true) (hs : (s.port p).state = .charging) (hb : 20 ≤ s.bias p) :
    Completes (.chargingComplete p false) s (State.FaultedAt · p 1) :=
  completes_of_nextWhen (b := decide ((s.port p).state = .charging) && decide (20 ≤ s.bias p)) rfl (by simp [hs, hb]) hon
    (State.portFault_faultedAt (hinv.port_lt p) 1).finish

/-! ### The ramp up -/

/-- A port that comes into CARRIER is there, and has its readings and whether its load was measured. -/
theorem State.carrierOn_post (hp : p.val < s.ports.length) :
    ((s.carrierOn p).port p).state = .carrier ∧ ((s.carrierOn p).port p).measured = (s.port p).measured ∧
      ∀ sub, sub < 256 → (s.carrierOn p).val (portKey p 2 sub) = s.val (portKey p 2 sub) := by
  unfold State.carrierOn
  extract_lets on rows
  have waits : s.SameCourse (s.countWait p) := .countWait (.refl s)
  have entered : (on.port p).state = .carrier ∧ (on.port p).measured = ((s.countWait p).port p).measured := by
    rw [show on.port p = _ from State.updPort_port _ _ (waits.size ▸ hp)]
    exact ⟨rfl, rfl⟩
  have course : on.SameCourse (((rows.relimit p).portClaim p).noiseStart p).stampCarriers :=
    .stampCarriers (.noiseStart (.portClaim (.relimit (.surveyRows (.refl on)))))
  have calm : on.FieldStep True (((rows.relimit p).portClaim p).noiseStart p).stampCarriers :=
    .stampCarriers (.noiseStart (.portClaim (.relimit (.surveyRows (.refl on)))))
  have counted : s.FieldStep True (s.countWait p) := .countWait (.refl s)
  refine ⟨(course.eq Port.state p).trans entered.1, (course.eq Port.measured p).trans (entered.2.trans (waits.eq Port.measured p)),
    fun sub hsub => ?_⟩
  exact ((calm.rests trivial).reading p hsub).trans ((counted.rests trivial).reading p hsub)

theorem rampUpComplete_good {loadR loadX : BitVec 16} (hinv : s.Inv) (hon : s.coreOn = true) (hs : (s.port p).state = .rampUp)
    (htop : s.rampPos p = 65536) (hneed : s.portNeeds p ≤ s.held (.port p)) (hload : loadR.toNat ≤ 15000) :
    Completes (.rampUpComplete p loadR loadX false) s fun t =>
      (t.port p).state = .carrier ∧ (t.port p).measured = true ∧ t.nat (portKey p 2 5) = loadR.toNat ∧ t.int (portKey p 2 6) = loadX.toInt := by
  refine completes_of_nextWhen
    (b := decide ((s.port p).state = .rampUp) && decide (s.rampPos p = 65536) && (!(s.port p).hold || decide (s.portNeeds p ≤ s.held (.port p))))
    rfl (by simp [hs, htop, hneed]) hon ?_
  have closed : openLoad loadR.toNat false = false := by simp [openLoad, hload]
  unfold State.rampUpComplete
  extract_lets read
  rw [closed, if_neg Bool.false_ne_true]
  have length : p.val < read.ports.length := (List.length_modify ..).symm ▸ hinv.port_lt p
  have measured : (read.port p).measured = true := by rw [show read.port p = _ from State.updPort_port _ _ (hinv.port_lt p)]
  have resistance : read.nat (portKey p 2 5) = loadR.toNat := by
    refine (State.nat_setN_same s (portKey p 2 5) loadR.toNat ▸ State.nat_of_val ?_)
    exact State.val_put_ne _ _ (by unfold portKey; omega)
  have reactance : read.int (portKey p 2 6) = loadX.toInt := State.int_setI_same ..
  obtain ⟨state, kept, reading⟩ := State.carrierOn_post length
  simp only [State.finish_port, State.finish_nat, State.finish_int]
  refine ⟨state, kept.trans measured, (State.nat_of_val (reading 5 (by decide))).trans resistance, ?_⟩
  exact (congrArg Val.int (reading 6 (by decide))).trans reactance

/-! ### The ramp down -/

theorem State.portOff_post (hp : p.val < s.ports.length) :
    ((s.portOff p).port p).state = .off ∧ (s.portOff p).held (.port p) = 0 ∧ ((s.portOff p).port p).frames = [] := by
  unfold State.portOff
  extract_lets q
  generalize hu : ((s.countWait p).releasePort p).updPort p _ = u
  have size : ((s.countWait p).releasePort p).ports.length = s.ports.length := (State.SameCourse.releasePort (.countWait (.refl s))).size
  have entered : (u.port p).state = .off ∧ (u.port p).frames = [] := by
    rw [← hu, State.updPort_port _ _ (size ▸ hp)]
    exact ⟨rfl, rfl⟩
  have held : u.held (.port p) = 0 := by
    rw [← hu]
    exact (State.held_setGrant _ _ _ _).trans (if_pos rfl)
  have course : u.SameCourse (u.portClaim p) := .portClaim (.refl u)
  have calm : u.FieldStep True (u.portClaim p) := .portClaim (.refl u)
  have still : (u.portClaim p).held (.port p) = 0 := (calm.rests trivial).held p (by rw [entered.1]; rfl) held
  exact ⟨(course.eq Port.state p).trans entered.1, still, (course.eq Port.frames p).trans entered.2⟩

theorem rampDownComplete_off (hinv : s.Inv) (hon : s.coreOn = true) (hs : (s.port p).state = .rampDown) (hpos : s.rampPos p = 0)
    (hnext : (s.port p).faultNext = none) (hlower : s.reachedLower p = false) :
    Completes (.rampDownComplete p) s fun t => (t.port p).state = .off ∧ t.held (.port p) = 0 ∧ (t.port p).frames = [] := by
  refine completes_of_nextWhen
    (b := decide ((s.port p).state = .rampDown) && (decide (s.rampPos p = 0) || ((s.port p).faultNext.isNone && s.reachedLower p)))
    rfl (by simp [hs, hpos]) hon ?_
  have off : s.rampDownComplete p = s.portOff p := by
    unfold State.rampDownComplete
    rw [hnext, hlower]
    rfl
  rw [off, State.finish_port, State.finish_held]
  exact State.portOff_post (hinv.port_lt p)

/-! ### A component's ramp -/

theorem componentTransitionEnd_steady {lane : Fin 6} {c : Component} (hinv : s.Inv) (hon : s.coreOn = true) (hs : (s.port p).state = .carrier)
    (hc : (s.port p).comps = [c]) (hlane : c.lane = lane.val) (hdoing : c.doing = .rampIn) (hout : c.out = none) (hdone : s.componentDone p c = true) :
    Completes (.componentTransitionEnd p lane) s fun t =>
      (t.port p).comps = [{ c with doing := .steady, ramped := some (c.t0, c.x0), t0 := s.now }] ∧ (t.port p).state = .carrier := by
  refine completes_of_nextWhen
    (b := ((s.port p).state.on || (s.port p).state = .rampUp) && (s.port p).comps.any fun c => c.lane = lane.val && s.componentDone p c)
    rfl (by simp [hs, hc, hlane, hdone, PortState.on]) hon ?_
  have settled : c.settled = some { c with doing := .steady, ramped := some (c.t0, c.x0) } := by simp [Component.settled, hout, hdoing]
  rw [State.finish_port]
  unfold State.settleComponent
  extract_lets f u
  have settles : (u.port p).comps = [{ c with doing := .steady, ramped := some (c.t0, c.x0), t0 := s.now }] ∧ (u.port p).state = .carrier := by
    rw [show u.port p = _ from State.updPort_port _ _ (hinv.port_lt p)]
    simp [hc, hs, f, hlane, hdone, settled]
  have course : u.SameCourse ((u.portClaim p).reclamp p).stampCarriers := .stampCarriers (.reclamp (.portClaim (.refl u)))
  exact ⟨(course.eq Port.comps p).trans settles.1, (course.eq Port.state p).trans settles.2⟩

/-! ### A frame's FIR tail -/

/-- The end of a port's last frame, with no cut waiting and no use withdrawn. -/
theorem State.frameEnded_post (hp : p.val < s.ports.length) (hcut : (s.port p).cutAtEnd = none) (huse : (s.port p).inUse = true)
    (hleft : ∀ c ∈ (s.port p).comps, c.left = none) :
    ((s.frameEnded p).port p).state = .carrier ∧ ((s.frameEnded p).port p).frames = [] ∧ ((s.frameEnded p).port p).comps = (s.port p).comps := by
  unfold State.frameEnded
  extract_lets x leaves ended cut
  have uncut : cut = ended := by
    unfold cut
    rw [show x.cutAtEnd = none from hcut]
  have stay : (s.port p).comps.map leaves = (s.port p).comps :=
    (List.map_congr_left fun c hc => by simp [leaves, hleft c hc]).trans (List.map_id _)
  have entered : (ended.port p).state = .carrier ∧ (ended.port p).frames = [] ∧ (ended.port p).comps = (s.port p).comps := by
    rw [show ended.port p = _ from State.updPort_port _ _ hp]
    exact ⟨rfl, rfl, by simp only [huse, if_true, stay]⟩
  obtain ⟨state, frames, comps⟩ := entered
  have used : (ended.port p).inUse = true := by
    unfold Port.inUse Port.targets at huse ⊢
    rw [comps]
    exact huse
  rw [uncut, state, used, if_pos rfl, if_pos (show PortState.carrier.on = true from rfl)]
  have course : ended.SameCourse ((ended.portClaim p).reclamp p) := .reclamp (.portClaim (.refl ended))
  exact ⟨(course.eq Port.state p).trans state, (course.eq Port.frames p).trans frames, (course.eq Port.comps p).trans comps⟩

theorem firTailEnd_carrier {lane : Fin 4} {e m : Nat} (hinv : s.Inv) (hon : s.coreOn = true) (hs : (s.port p).state = .modulating)
    (hframes : (s.port p).frames = [(lane.val, e, m)]) (htail : e + 64 * quantaCarrier ≤ s.now) (hmonitor : s.flag 0x2280_04 = false)
    (hcut : (s.port p).cutAtEnd = none) (hcomps : ((s.port p).comps.all fun c => decide (c.doing = .steady) && c.left.isNone) = true)
    (huse : (s.port p).inUse = true) :
    Completes (.firTailEnd p lane false) s fun t =>
      (t.port p).state = .carrier ∧ (t.port p).frames = [] ∧ (t.port p).comps = (s.port p).comps := by
  have answer : exec (.firTailEnd p lane false) s =
      nextWhen (decide ((s.port p).state = .modulating) && decide (e + 64 * quantaCarrier ≤ s.now)) s (s.firTailEnd p lane m false) := by
    change execFirTailEnd p lane false s = _
    unfold execFirTailEnd
    simp [hframes]
  refine completes_of_nextWhen answer (by simp [hs, htail]) hon ?_
  have unjudged : s.maskMonitor p m false = s := by
    unfold State.maskMonitor
    rw [hmonitor]
    rfl
  unfold State.firTailEnd
  extract_lets judged u
  have port : u.port p = { s.port p with frames := [] } := by
    unfold u judged
    rw [unjudged, State.updPort_port _ _ (hinv.port_lt p), hframes]
    simp
  have length : p.val < u.ports.length := by
    unfold u judged
    rw [unjudged]
    exact (List.length_modify ..).symm ▸ hinv.port_lt p
  have hleft : ∀ c ∈ (s.port p).comps, c.left = none := by
    simp only [List.all_eq_true, Bool.and_eq_true, Option.isNone_iff_eq_none] at hcomps
    exact fun c hc => (hcomps c hc).2
  have ended := State.frameEnded_post length (by rw [port]; exact hcut) (by rw [port]; exact huse) (by rw [port]; exact hleft)
  rw [State.finish_port, if_pos (by rw [port])]
  rw [port] at ended
  exact ended

end Sys2Proof.Machine
end

section

open Sys2Proof Sys2Proof.Machine

/-- Settles O11: what each end of a ramp leaves of the port stands through the claims, limits and clamps that follow. -/
theorem portRamps : Obligations.PortRamps := by
  refine ⟨fun s p hinv hon hs hb => chargingComplete_good hinv hon hs hb, fun s p hinv hon hs hb => ?_,
    fun s p _ _ hinv hon hs htop hneed hload => rampUpComplete_good hinv hon hs htop hneed hload,
    fun s p hinv hon hs hpos hnext hlower => rampDownComplete_off hinv hon hs hpos hnext hlower,
    fun s p _ _ hinv hon hs hc hlane hdoing hout hdone => componentTransitionEnd_steady hinv hon hs hc hlane hdoing hout hdone,
    fun s p _ _ _ hinv hon hs hframes htail hmonitor hcut hcomps huse => firTailEnd_carrier hinv hon hs hframes htail hmonitor hcut hcomps huse⟩
  exact (chargingComplete_bad hinv hon hs hb).mono fun t h => ⟨h.state, h.code, h.comps, h.held⟩

end

section
/-!
SUPPORT. A port's faults, checks, rechecks, test emission and FIR checks.
-/

namespace Sys2Proof.Machine

open Sys2Proof

variable {s : State} {p : Fin 8}

/-! ### Faults -/

theorem portFaultDetect_short (hinv : s.Inv) (hon : s.coreOn = true) (hs : (s.port p).state ≠ .fault) :
    Completes (.portFaultDetect p 1) s (State.FaultedAt · p 1) := by
  refine completes_of_done (t := s.faultDetect p 1) rfl hon ?_
  have fault : s.faultDetect p 1 = (s.portFault p 1).absorbAborts := by
    unfold State.faultDetect
    simp [hs]
  have calm : (s.portFault p 1).FieldStep True (s.portFault p 1).absorbAborts := .absorbAborts (.refl _)
  rw [fault]
  exact ((State.portFault_faultedAt (hinv.port_lt p) 1).rests (calm.rests trivial)).finish

/-! ### The 1 ms check -/

/-- A port that is on takes a fault of the 2 µs ramp to RAMP_DOWN, with the load measured as it was. -/
theorem State.portFaultRamp_of_on {code : Nat} (hp : p.val < s.ports.length) (hs : (s.port p).state.on = true) :
    s.FieldStep True (s.portFaultRamp p code) ∧ ((s.portFaultRamp p code).port p).state = .rampDown ∧
      ((s.portFaultRamp p code).port p).faultNext = some code ∧ ((s.portFaultRamp p code).port p).measured = (s.port p).measured := by
  have work : (s.port p).atWork := by
    cases hst : (s.port p).state with
    | carrier => exact Port.atWork_of_state hst (by decide)
    | modulating => exact Port.atWork_of_state hst (by decide)
    | _ => simp [hst, PortState.on] at hs
  have ramp : s.portFaultRamp p code = (s.portEmergency p).updPort p fun x => { x with faultNext := some code } := by
    unfold State.portFaultRamp
    simp [hs]
  have stopped : p.val < (s.portEmergency p).ports.length ∧ ((s.portEmergency p).port p).state = .rampDown ∧
      ((s.portEmergency p).port p).measured = (s.port p).measured := by
    unfold State.portEmergency
    extract_lets st lost pos down pos'
    have waits : s.SameCourse lost := .countWait (.loseFrames (.refl s))
    have entered : (down.port p).state = .rampDown ∧ (down.port p).measured = (lost.port p).measured := by
      rw [show down.port p = _ from State.updPort_port _ _ (waits.size ▸ hp)]
      exact ⟨rfl, rfl⟩
    have length : p.val < down.ports.length := (List.length_modify ..).symm ▸ waits.size ▸ hp
    have up : ¬ st = .rampUp := fun h => by simp [st, h, PortState.on] at hs
    rw [if_pos (by simp [st, hs]), if_neg up]
    exact ⟨length, entered.1, entered.2.trans (waits.eq Port.measured p)⟩
  obtain ⟨length, state, measured⟩ := stopped
  rw [ramp, State.updPort_port _ _ length]
  refine ⟨?_, state, rfl, measured⟩
  exact .updPort_atWork (.portEmergency (.refl s) fun _ => work) (fun _ => work) (fun _ => rfl) fun _ => rfl

/-- Storing the bridge's temperature tells at most event 7. -/
theorem State.bridgeTemp_calm (s : State) (p : Nat) (temp : Int) : (s.setI (portKey p 2 11) temp).FieldStep True (s.bridgeTemp p temp) := by
  unfold State.bridgeTemp
  extract_lets hot was measured
  have measures : (s.setI (portKey p 2 11) temp).FieldStep True measured :=
    .updPort_idle (.refl _) fun _ => .of_same rfl rfl rfl rfl rfl rfl
  exact .ite (.raisePort measures) measures

theorem State.bridgeTemp_now (s : State) (p : Nat) (temp : Int) : (s.bridgeTemp p temp).now = s.now := by
  rw [(State.bridgeTemp_calm s p temp).only]
  rfl

/-- What a check read of port p stands in the dictionary, and the check is stamped. -/
structure State.CheckedAt (s : State) (p : Fin 8) (loadR power : Nat) (temp : Int) (at_ : Nat) : Prop where
  load : s.nat (portKey p 2 5) = loadR
  power : s.nat (portKey p 2 7) = power
  temp : s.int (portKey p 2 11) = temp
  stamp : (s.port p).checkT0 = at_

theorem State.CheckedAt.rests {s t : State} {loadR power at_ : Nat} {temp : Int} (h : s.CheckedAt p loadR power temp at_) (r : s.RestsAs t) :
    t.CheckedAt p loadR power temp at_ where
  load := (State.nat_of_val (r.reading p (by decide))).trans h.load
  power := (State.nat_of_val (r.reading p (by decide))).trans h.power
  temp := (congrArg Val.int (r.reading p (by decide))).trans h.temp
  stamp := (r.port p).checkT0.trans h.stamp

/-- The readings that a check stores before the bridge's temperature, of which the load's and the power's are asked. -/
theorem State.loadRead_eq (s : State) (p : Fin 8) (loadR power : Nat) (loadX : Int) :
    ∃ t : State, t = ((s.setN (portKey p 2 5) loadR).setI (portKey p 2 6) loadX).setN (portKey p 2 7) power ∧ t.ports = s.ports ∧ t.now = s.now ∧
      t.nat (portKey p 2 5) = loadR ∧ t.nat (portKey p 2 7) = power := by
  refine ⟨_, rfl, rfl, rfl, ?_, State.nat_setN_same ..⟩
  rw [State.nat_setN_ne _ _ (by unfold portKey; omega)]
  exact (State.nat_of_val (State.val_put_ne _ _ (by unfold portKey; omega))).trans (State.nat_setN_same ..)

theorem State.bridgeTemp_reading (s : State) (p : Fin 8) (temp : Int) {sub : Nat} (hs : sub < 256) (hsub : sub ≠ 11) :
    (s.bridgeTemp p temp).val (portKey p 2 sub) = s.val (portKey p 2 sub) :=
  (((s.bridgeTemp_calm p temp).rests trivial).reading p hs).trans (State.val_put_ne _ _ (by unfold portKey; omega))

/-- A check that is due, with no open load: it warns where it must, then takes a hot bridge down, else limits the port anew. -/
theorem State.loadCheck_due {loadR power : Nat} {loadX temp : Int} (hp : p.val < s.ports.length) (hs : (s.port p).state.on = true)
    (hdue : s.passedMs (s.port p).checkT0 1 = true) (hload : loadR ≤ 15000) :
    (s.loadCheck p loadR loadX power temp false).CheckedAt p loadR power temp s.now ∧
      ((s.loadCheck p loadR loadX power temp false).port p).measured = true := by
  obtain ⟨read, hread, ports, now, load, drawn⟩ := s.loadRead_eq p loadR power loadX
  have closed : openLoad loadR false = false := by simp [openLoad, hload]
  unfold State.loadCheck
  rw [← hread]
  extract_lets seen due checked warned
  have course : s.SameCourse seen := .bridgeTemp (.same (.refl s) ports)
  have seenNow : seen.now = s.now := (State.bridgeTemp_now read p temp).trans now
  have isDue : due = true := by
    unfold due State.passedMs State.passedUs
    rw [seenNow, course.eq Port.checkT0 p]
    exact hdue
  have port : checked.port p = { seen.port p with measured := true, checkT0 := s.now } := by
    unfold checked
    rw [State.updPort_port _ _ (course.size ▸ hp), isDue, seenNow]
    rfl
  have stored : checked.CheckedAt p loadR power temp s.now := by
    refine ⟨?_, ?_, ?_, by rw [port]⟩
    · exact (State.nat_of_val (read.bridgeTemp_reading p temp (by decide) (by decide))).trans load
    · exact (State.nat_of_val (read.bridgeTemp_reading p temp (by decide) (by decide))).trans drawn
    · exact (congrArg Val.int (((read.bridgeTemp_calm p temp).rests trivial).reading p (by decide))).trans (State.int_setI_same ..)
  have warns : checked.FieldStep True warned := .ite (.loadWarn (.refl _)) (.refl _)
  have same : checked.SameCourse warned := .ite (.loadWarn (.refl _)) (.refl _)
  have warnedAt : warned.CheckedAt p loadR power temp s.now := stored.rests (warns.rests trivial)
  have on : (warned.port p).state.on = true := by
    rw [same.eq Port.state p, port]
    exact (congrArg PortState.on (course.eq Port.state p)).trans hs
  have measured : (warned.port p).measured = true := by rw [same.eq Port.measured p, port]
  have length : p.val < warned.ports.length := by
    rw [same.size]
    exact (List.length_modify ..).symm ▸ course.size ▸ hp
  rw [closed, Bool.and_false, if_neg Bool.false_ne_true]
  split
  next =>
    obtain ⟨calm, down, next_, kept⟩ := State.portFaultRamp_of_on (code := 3) length on
    have settled : (warned.portFaultRamp p 3).RestsAs (warned.portFaultRamp p 3).absorbAborts :=
      (State.FieldStep.absorbAborts (calm := True) (.refl _)).rests trivial
    refine ⟨(warnedAt.rests (calm.rests trivial)).rests settled, ?_⟩
    obtain ⟨-, -, same'⟩ := (settled.port p).falls down (by rw [next_]; nofun)
    exact same'.trans (kept.trans measured)
  next =>
    have calm : warned.FieldStep True ((warned.relimit p).portClaim p) := .portClaim (.relimit (.refl _))
    have claimed : warned.SameCourse ((warned.relimit p).portClaim p) := .portClaim (.relimit (.refl _))
    exact ⟨warnedAt.rests (calm.rests trivial), (claimed.eq Port.measured p).trans measured⟩

theorem portLoadCheck_stored {loadR loadX power temp : BitVec 16} (hinv : s.Inv) (hon : s.coreOn = true) (hs : (s.port p).state.on = true)
    (hdue : s.passedMs (s.port p).checkT0 1 = true) (hload : loadR.toNat ≤ 15000) :
    Completes (.portLoadCheck p loadR loadX power temp false) s fun t =>
      t.nat (portKey p 2 5) = loadR.toNat ∧ t.nat (portKey p 2 7) = power.toNat ∧ t.int (portKey p 2 11) = temp.toInt ∧
        (t.port p).measured = true ∧ (t.port p).checkT0 = s.now := by
  refine completes_of_nextWhen
    (b := (s.port p).state.on && (s.passedMs (s.port p).checkT0 1 || decide (s.pLim p < ((power.toNat : Nat) : Rat))))
    rfl (by simp [hs, hdue]) hon ?_
  obtain ⟨⟨load, drawn, hot, stamp⟩, measured⟩ :=
    State.loadCheck_due (loadX := loadX.toInt) (power := power.toNat) (temp := temp.toInt) (hinv.port_lt p) hs hdue hload
  simp only [State.finish_port, State.finish_nat, State.finish_int]
  exact ⟨load, drawn, hot, measured, stamp⟩

/-! ### Rechecks -/

theorem State.fault_of_recheckDue (h : s.recheckDue p = true) : (s.port p).state = .fault := by
  unfold State.recheckDue at h
  simp only [Bool.and_eq_true, decide_eq_true_eq] at h
  exact h.1

theorem faultRecheck_fails {temp : BitVec 16} (hinv : s.Inv) (hon : s.coreOn = true) (hdue : s.recheckDue p = true)
    (hseries : (s.port p).series = none) :
    Completes (.faultRecheck p false temp) s fun t =>
      (t.port p).state = .fault ∧ (t.port p).passes = 0 ∧ (t.port p).rechecks = (s.port p).rechecks + 1 := by
  refine completes_of_nextWhen rfl hdue hon ?_
  have course : s.SameCourse (s.bridgeTemp p temp.toInt) := .bridgeTemp (.refl s)
  have state := (course.eq Port.state p).trans (State.fault_of_recheckDue hdue)
  have rechecks := course.eq Port.rechecks p
  have series := (course.eq Port.series p).trans hseries
  rw [State.finish_port]
  unfold State.faultRecheck
  extract_lets seen ok
  rw [show (seen.port p).series = none from series, show ok = false from rfl]
  unfold State.scheduledRecheck
  rw [if_neg (by simp), State.updPort_port _ _ (course.size ▸ hinv.port_lt p)]
  exact ⟨state, rfl, congrArg (· + 1) rechecks⟩

/-- A port that has recovered is in OFF, its fault code 0, with event 1 told and no series of rechecks. -/
theorem State.portRecovered_post (hp : p.val < s.ports.length) :
    ((s.portRecovered p).port p).state = .off ∧ (s.portRecovered p).nat (portKey p 2 2) = 0 ∧ (s.portRecovered p).isPending 1 = true ∧
      ((s.portRecovered p).port p).series = none := by
  unfold State.portRecovered
  extract_lets q entered cleared
  have only : cleared.OnlyEvents (cleared.raisePort 1 p) := State.onlyEvents_raisePort ..
  have port : (cleared.raisePort 1 p).port p = entered.port p := by
    unfold State.port
    rw [only]
    rfl
  have off : (entered.port p).state = .off ∧ (entered.port p).series = none := by
    rw [show entered.port p = _ from State.updPort_port _ _ hp]
    exact ⟨rfl, rfl⟩
  have code : (cleared.raisePort 1 p).nat (portKey p 2 2) = 0 := by
    rw [State.nat_of_val (State.val_raisePort _ 1 p (by unfold eventKey portKey; omega))]
    exact State.nat_setN_same entered (portKey p 2 2) 0
  have rests : (cleared.raisePort 1 p).RestsAs (cleared.raisePort 1 p).coverAll.requestSurvey :=
    (State.FieldStep.requestSurvey (calm := True) (.coverAll (.refl _))).rests trivial
  refine ⟨(rests.port p).off (port ▸ off.1), (State.nat_of_val (rests.reading p (by decide))).trans code,
    rests.pending 1 (by decide) (State.isPending_raisePort _ 1 p (by decide)), (rests.port p).series.trans (port ▸ off.2)⟩

theorem faultRecheck_recovers {t0 : Nat} {temp : BitVec 16} (hinv : s.Inv) (hon : s.coreOn = true) (hdue : s.recheckDue p = true)
    (hseries : (s.port p).series = some (t0, 2)) (hcode : s.nat (portKey p 2 2) ≠ 3) :
    Completes (.faultRecheck p true temp) s fun t =>
      (t.port p).state = .off ∧ t.nat (portKey p 2 2) = 0 ∧ t.isPending 1 = true ∧ (t.port p).series = none := by
  refine completes_of_nextWhen rfl hdue hon ?_
  have course : s.SameCourse (s.bridgeTemp p temp.toInt) := .bridgeTemp (.refl s)
  have series := (course.eq Port.series p).trans hseries
  have code : (s.bridgeTemp p temp.toInt).nat (portKey p 2 2) ≠ 3 := by
    rwa [State.nat_of_val (s.bridgeTemp_reading p temp.toInt (by decide) (by decide))]
  have third : s.faultRecheck p true temp.toInt = (s.bridgeTemp p temp.toInt).portRecovered p := by
    unfold State.faultRecheck
    extract_lets seen ok
    have passes : ok = true := by
      unfold ok State.recheckPasses
      rw [decide_eq_true code]
      rfl
    rw [show (seen.port p).series = some (t0, 2) from series, passes]
    rfl
  simp only [third, State.finish_port, State.finish_nat, State.finish_isPending]
  exact State.portRecovered_post (course.size ▸ hinv.port_lt p)

/-! ### The test emission -/

theorem portTestTimeEnd_off (hon : s.coreOn = true) (hmode : s.nat (portKey p 5 1) ≠ 0)
    (htime : s.passedS (s.port p).testT0 (s.nat (portKey p 5 3)) = true) :
    Completes (.portTestTimeEnd p) s fun t => t.nat (portKey p 5 1) = 0 := by
  refine completes_of_nextWhen (b := decide (s.nat (portKey p 5 1) ≠ 0) && s.passedS (s.port p).testT0 (s.nat (portKey p 5 3)))
    rfl (by simp [hmode, htime]) hon ?_
  have ended := s.nat_setN_same (portKey p 5 1) 0
  generalize s.setN (portKey p 5 1) 0 = u at ended
  have left : u.testModeSet p = ((u.dropComponent p 5).updFrond p fun f => { f with relearn := true }).coverAll := if_pos ended
  have kept : u.KeepsSettings (u.testModeSet p) := by
    rw [left]
    exact .coverAll (.updFrond (.dropComponent (.refl u) p.isLt))
  rw [State.finish_nat, State.nat_of_val (kept.val _ (by unfold settingKey portKey; omega)), ended]

/-! ### FIR checks -/

theorem firKey_ne {set i j : Nat} (h : i ≠ j) : firKey set i ≠ firKey set j := fun e => h (Nat.add_left_cancel e)

section

variable {c : FirCheck} {coef : List Byte} (hfir : s.fir = [c]) (hcoef : c.coef = some coef) (hmap : c.map = none)

include hfir hcoef hmap

/-- Coefficients whose check succeeds, with no other check running, are taken up. -/
theorem State.firChecked_taken (hm : 0 ≤ s.worstMargin coef (s.mappedModes c.set)) :
    (s.firChecked c).fir = [] ∧ (s.firChecked c).oct (firKey c.set 1) = coef ∧ (s.firChecked c).nat (firKey c.set 2) = 0 := by
  unfold State.firChecked
  extract_lets taken old coef' modes margin pending ok status shown figured others coded known stored
  have emptied : taken.fir = [] := by simp [taken, hfir]
  have same : coef' = coef := by simp [coef', hcoef]
  have mapped : modes = s.mappedModes c.set := by
    unfold modes
    rw [hmap]
    rfl
  have good : ok = true := by
    unfold ok margin
    rw [same, mapped]
    exact decide_eq_true hm
  have zero : status = 0 := by simp [status, pending, emptied, good]
  have figures : figured.fir = [] ∧ figured.nat (firKey c.set 2) = 0 := by
    have shows_ : shown.nat (firKey c.set 2) = 0 := (State.nat_setN_same ..).trans zero
    unfold figured
    split
    · exact ⟨emptied, shows_⟩
    · exact ⟨emptied, (State.nat_of_val (State.val_put_ne _ _ (firKey_ne (by decide)))).trans shows_⟩
  rw [good, hmap]
  refine ⟨figures.1, ?_, ?_⟩
  · have kept : stored.val (firKey c.set 1) = coded.val (firKey c.set 1) := State.val_put_ne known _ (firKey_ne (by decide))
    exact (congrArg Val.octets kept).trans ((State.oct_setO_same figured _ _).trans same)
  · have kept : stored.val (firKey c.set 2) = coded.val (firKey c.set 2) := State.val_put_ne known _ (firKey_ne (by decide))
    have coded_ : coded.val (firKey c.set 2) = figured.val (firKey c.set 2) := State.val_put_ne figured _ (firKey_ne (by decide))
    exact (State.nat_of_val (kept.trans coded_)).trans figures.2

/-- Coefficients that fail it, with no other check running, are refused: those before stay, and event 5 tells it. -/
theorem State.firChecked_refused (hm : ¬ 0 ≤ s.worstMargin coef (s.mappedModes c.set)) (hset : c.set < 16) :
    (s.firChecked c).fir = [] ∧ (s.firChecked c).oct (firKey c.set 1) = s.oct (firKey c.set 1) ∧ (s.firChecked c).nat (firKey c.set 2) = 2 ∧
      (s.firChecked c).isPending 5 = true := by
  unfold State.firChecked
  extract_lets taken old coef' modes margin pending ok status shown figured others coded known stored
  have emptied : taken.fir = [] := by simp [taken, hfir]
  have same : coef' = coef := by simp [coef', hcoef]
  have mapped : modes = s.mappedModes c.set := by
    unfold modes
    rw [hmap]
    rfl
  have bad : ok = false := by
    unfold ok margin
    rw [same, mapped]
    exact decide_eq_false hm
  have shownEmptied : shown.fir = [] := emptied
  have drops : shown.dropMaps c.set = ({ shown with fir := [] } : State).setN (firKey c.set 2) 2 := by
    unfold State.dropMaps
    simp [shownEmptied]
  rw [bad, hcoef, Bool.not_false, if_pos rfl, Option.isSome_some, if_pos rfl, drops]
  generalize hu : ({ shown with fir := [] } : State).setN (firKey c.set 2) 2 = u
  have only : u.OnlyEvents u.firReject := (State.onlyOd_setFit _ 0x22A1_02 32 _).events.trans (State.onlyEvents_raise _ 5)
  have kept {sub : Nat} (hs : sub < 256) : u.firReject.val (firKey c.set sub) = u.val (firKey c.set sub) := by
    refine (State.val_raise _ 5 ?_).trans (State.val_bump_ne _ ?_)
    · unfold eventKey firKey
      omega
    · unfold firKey
      omega
  refine ⟨?_, ?_, ?_, State.isPending_raise _ 5 (by decide)⟩
  · rw [only, ← hu]
    rfl
  · refine congrArg Val.octets ((kept (by decide)).trans ?_)
    rw [← hu]
    exact (State.val_put_ne _ _ (firKey_ne (by decide))).trans (State.val_put_ne taken _ (firKey_ne (by decide)))
  · rw [State.nat_of_val (kept (by decide)), ← hu]
    exact State.nat_setN_same ..

end

theorem firCheckDone_judged {set : Fin 16} {c : FirCheck} {coef : List Byte} (hon : s.coreOn = true) (hfir : s.fir = [c]) (hset : c.set = set.val)
    (hcoef : c.coef = some coef) (hmap : c.map = none) :
    Completes (.firCheckDone set) s fun t =>
      t.fir = [] ∧ (if 0 ≤ s.worstMargin coef (s.mappedModes set) then t.oct (firKey set 1) = coef ∧ t.nat (firKey set 2) = 0
       else t.oct (firKey set 1) = s.oct (firKey set 1) ∧ t.nat (firKey set 2) = 2 ∧ t.isPending 5 = true) := by
  have answer : exec (.firCheckDone set) s = done s (s.firChecked c) := by
    change execFirCheckDone set s = _
    unfold execFirCheckDone
    simp [hfir, hset]
  refine completes_of_done answer hon ?_
  simp only [State.finish_fir, State.finish_oct, State.finish_nat, State.finish_isPending, ← hset]
  split
  next hm => exact State.firChecked_taken hfir hcoef hmap hm
  next hm => exact State.firChecked_refused hfir hcoef hmap hm (hset ▸ set.isLt)

end Sys2Proof.Machine
end

section

open Sys2Proof Sys2Proof.Machine

/-- Settles O12: what each check or recheck stores rests through the calm steps that follow it. -/
theorem portFaultsAndChecks : Obligations.PortFaultsAndChecks := by
  refine ⟨fun s p hinv hon hs => ?_,
    fun s p _ _ _ _ hinv hon hs hdue hload => portLoadCheck_stored hinv hon hs hdue hload,
    fun s p _ hinv hon hdue hseries => faultRecheck_fails hinv hon hdue hseries,
    fun s p _ _ hinv hon hdue hseries hcode => faultRecheck_recovers hinv hon hdue hseries hcode,
    fun s p hon hmode htime => portTestTimeEnd_off hon hmode htime,
    fun s set _ _ hon hfir hset hcoef hmap => firCheckDone_judged hon hfir hset hcoef hmap⟩
  exact (portFaultDetect_short hinv hon hs).mono fun t h => ⟨h.state, h.code, h.told, h.comps⟩

end

section
/-!
SUPPORT. What a change of a drive leaves of the survey: its course, its matrices and RECIP_ERR (OD 2341/03), through slices, claims,
ports with their components, lanes, pennants, receive paths and Frond states.
-/

namespace Sys2Proof.Machine

open Sys2Proof

/-- t has the survey of s, and its RECIP_ERR. -/
structure State.LeavesSurvey (s t : State) : Prop where
  survey : t.survey = s.survey
  recipErr : t.val 0x2341_03 = s.val 0x2341_03

namespace State.LeavesSurvey

theorem refl (s : State) : s.LeavesSurvey s := ⟨rfl, rfl⟩

theorem trans {s t u : State} (h : s.LeavesSurvey t) (g : t.LeavesSurvey u) : s.LeavesSurvey u :=
  ⟨g.survey.trans h.survey, g.recipErr.trans h.recipErr⟩

theorem ite {s t u : State} {c : Prop} [Decidable c] (h : s.LeavesSurvey t) (g : s.LeavesSurvey u) : s.LeavesSurvey (if c then t else u) := by
  split
  · exact h
  · exact g

theorem foldl {α : Type} {f : State → α → State} {l : List α} (h : ∀ t, ∀ x ∈ l, State.LeavesSurvey t (f t x)) (s : State) :
    s.LeavesSurvey (l.foldl f s) := by
  induction l generalizing s with
  | nil => exact refl s
  | cons x rest ih => exact (h s x List.mem_cons_self).trans (ih (fun t y hy => h t y (List.mem_cons_of_mem _ hy)) (f s x))

section

variable {s t : State} (h : s.LeavesSurvey t)

include h

/-! ### One rule for each change -/

/-- A change that is neither one of the survey nor one of an entry. -/
theorem same {u : State} (survey : u.survey = t.survey) (od : u.od = t.od) : s.LeavesSurvey u := by
  refine ⟨survey.trans h.survey, ?_⟩
  unfold State.val
  rw [od]
  exact h.recipErr

theorem put {k : Nat} {v : Val} (hk : 0x2341_03 ≠ k) : s.LeavesSurvey (t.put k v) :=
  ⟨h.survey, (t.val_put_ne v hk).trans h.recipErr⟩

theorem setFit {k bits n : Nat} (hk : 0x2341_03 ≠ k) : s.LeavesSurvey (t.setFit k bits n) := by
  refine ⟨?_, (t.val_setFit_ne bits n hk).trans h.recipErr⟩
  rw [t.onlyOd_setFit k bits n]
  exact h.survey

theorem raiseAt {e stamp : Nat} {port : Option Nat} : s.LeavesSurvey (t.raiseAt e stamp port) := by
  refine ⟨?_, (t.val_raiseAt e stamp port (by unfold eventKey; decide)).trans h.recipErr⟩
  rw [t.onlyEvents_raiseAt e stamp port]
  exact h.survey

theorem raise {e : Nat} : s.LeavesSurvey (t.raise e) := h.raiseAt

theorem raisePort {e p : Nat} : s.LeavesSurvey (t.raisePort e p) := h.raiseAt

theorem updSt {f : SelfTest → SelfTest} : s.LeavesSurvey (t.updSt f) := h.same rfl rfl

theorem updPort {p : Nat} {f : Port → Port} : s.LeavesSurvey (t.updPort p f) := h.same rfl rfl

theorem updRx {p : Nat} {f : Rx → Rx} : s.LeavesSurvey (t.updRx p f) := h.same rfl rfl

theorem updFrond {p : Nat} {f : Frond → Frond} : s.LeavesSurvey (t.updFrond p f) := h.same rfl rfl

theorem updLane {l : Nat} {f : Lane → Lane} : s.LeavesSurvey (t.updLane l f) := h.same rfl rfl

theorem updPennant {n : Nat} {f : Pennant → Pennant} : s.LeavesSurvey (t.updPennant n f) := h.same rfl rfl

theorem setGrant {c : Claimant} {mw : Nat} : s.LeavesSurvey (t.setGrant c mw) := h.same rfl rfl

theorem dropClaim {c : Claimant} : s.LeavesSurvey (t.dropClaim c) := h.same rfl rfl

theorem answer {c : Claimant} {a : ClaimStatus} : s.LeavesSurvey (t.answer c a) := h.same rfl rfl

theorem draw : s.LeavesSurvey t.draw.2 := h.same rfl rfl

/-- Entries from OD 2350 on. -/
theorem put_high {k : Nat} {v : Val} (hk : 0x2350_00 ≤ k) : s.LeavesSurvey (t.put k v) := h.put (by omega)

theorem bump_high {k : Nat} (hk : 0x2350_00 ≤ k) : s.LeavesSurvey (t.bump k) := h.setFit (by omega)

/-! ### Self-test slices -/

theorem burgeeRefresh : s.LeavesSurvey t.burgeeRefresh := by
  unfold State.burgeeRefresh
  refine h.trans (.foldl (fun u w hw => ?_) t)
  have window : w < 32 := List.mem_range.mp hw
  have status (n : Nat) : u.LeavesSurvey (u.setN (0x2140_08 + 0x100 * w) n) := .put (.refl u) (by omega)
  exact .ite (.refl u) (.ite (.raise (status _)) (status _))

theorem burgeePut {w : Nat} {b : BurgeeSpec} (hw : w < 32) : s.LeavesSurvey (t.burgeePut w b) := by
  unfold State.burgeePut
  extract_lets k stored
  have field {u : State} (hu : s.LeavesSurvey u) (i n : Nat) (hi : i ≤ 7) : s.LeavesSurvey (u.setN (k + i) n) := hu.put (by omega)
  have stores : s.LeavesSurvey stored :=
    field (field (field (field (field (field (field h 1 _ (by decide)) 2 _ (by decide)) 3 _ (by decide)) 4 _ (by decide)) 5 _ (by decide)) 6 _
      (by decide)) 7 _ (by decide)
  exact .burgeeRefresh (stores.same rfl rfl)

theorem putGroup {g sub n : Nat} : s.LeavesSurvey (t.setN (groupKey g sub) n) := h.put_high (by unfold groupKey; omega)

theorem escalate {g : Nat} : s.LeavesSurvey (t.escalate g) := by
  unfold State.escalate
  extract_lets first counted
  have counts : s.LeavesSurvey counted := .bump_high (.updSt h) (by decide)
  exact .ite h (.ite (.burgeePut counts (by decide)) counts)

theorem deescalate {g : Nat} : s.LeavesSurvey (t.deescalate g) := by
  unfold State.deescalate
  extract_lets cleared
  have clears : s.LeavesSurvey cleared := .putGroup (.updSt h)
  exact .ite (.burgeePut clears (by decide)) (.burgeePut clears (by decide))

theorem sliceCount {g : Nat} : s.LeavesSurvey (t.sliceCount g) := by
  unfold State.sliceCount
  exact .ite (.bump_high (.put_high (.updSt h) (by decide)) (by decide)) (.put_high (.updSt h) (by decide))

theorem targetAgain {x : Slice} : s.LeavesSurvey (t.targetAgain x) := .ite (.updSt h) h

theorem slicePreempted {x : Slice} : s.LeavesSurvey (t.slicePreempted x) := by
  unfold State.slicePreempted
  extract_lets g n counted tries
  have counts : s.LeavesSurvey counted := .putGroup (.bump_high (.updSt h) (by decide))
  have skipped : s.LeavesSurvey (if x.targeted then counted else counted.sliceCount g) := .ite counts (.sliceCount counts)
  refine .ite (.ite ?_ ?_) (.ite (.targetAgain (.escalate counts)) (.targetAgain counts))
  · exact .deescalate (.raise (.putGroup (.bump_high skipped (by decide))))
  · exact .targetAgain (.updSt counts)

theorem sliceYield {g : Nat} {units : Nat → Bool} : s.LeavesSurvey (t.sliceYield g units) := by
  unfold State.sliceYield
  split
  · exact .ite (.slicePreempted h) h
  · exact h

/-! ### Claims -/

theorem submitClaim {c : Claim} : s.LeavesSurvey (t.submitClaim c) := by
  unfold State.submitClaim
  refine .answer ?_
  split
  · exact h.same rfl rfl
  · exact h.same rfl rfl

theorem refuseClaim {c : Claim} {a : ClaimStatus} : s.LeavesSurvey (t.refuseClaim c a) := by
  have cls : c.who.cls ≤ 5 := by
    unfold Claimant.cls
    split <;> decide
  unfold State.refuseClaim
  exact .answer (.setFit (.setFit (.dropClaim h) (by omega)) (by omega))

theorem claim {c : Claim} : s.LeavesSurvey (t.claim c) := .ite (.refuseClaim h) (.ite (.refuseClaim h) (.submitClaim h))

/-! ### Ports and their components -/

/-- The counters of a port, of whatever number. -/
theorem addPort {p sub n : Nat} (hs : sub < 256) : s.LeavesSurvey (t.add (portKey p 3 sub) n) := h.setFit (by unfold portKey; omega)

theorem reclamp {p : Nat} : s.LeavesSurvey (t.reclamp p) := by
  unfold State.reclamp
  extract_lets f old from_ clamped
  have clamps : s.LeavesSurvey clamped := .updPort h
  exact .ite h (.ite (.raisePort (.addPort clamps (by decide))) clamps)

theorem relimit {p : Nat} : s.LeavesSurvey (t.relimit p) := by
  unfold State.relimit
  exact .reclamp (.updPort h)

theorem regrant {p mw : Nat} : s.LeavesSurvey (t.regrant p mw) := by
  unfold State.regrant
  exact .ite (.relimit (.setGrant h)) (.setGrant h)

theorem countWait {p : Nat} : s.LeavesSurvey (t.countWait p) := by
  unfold State.countWait
  split
  · exact .updPort (.addPort h (by decide))
  · exact h

theorem portClaim {p : Nat} : s.LeavesSurvey (t.portClaim p) := by
  unfold State.portClaim
  extract_lets need g counts waits settled
  have settles : s.LeavesSurvey settled := .countWait (.dropClaim h)
  exact .ite (.claim (.updPort h)) (.ite (.regrant settles) settles)

theorem releasePort {p : Nat} : s.LeavesSurvey (t.releasePort p) := .setGrant (.dropClaim h)

theorem portOff {p : Nat} : s.LeavesSurvey (t.portOff p) := by
  unfold State.portOff
  exact .portClaim (.updPort (.releasePort (.countWait h)))

theorem portDown {p : Nat} : s.LeavesSurvey (t.portDown p) := by
  unfold State.portDown
  extract_lets pos reversal at_ down
  have downs : s.LeavesSurvey down := .updPort (.countWait h)
  exact .ite (.addPort downs (by decide)) downs

theorem portUp {p : Nat} : s.LeavesSurvey (t.portUp p) := by
  unfold State.portUp
  extract_lets amp top was begun hold limited f clamped told target going
  have clamps : s.LeavesSurvey clamped := .updPort (.updPort (.updPort (.addPort h (by decide))))
  have tells : s.LeavesSurvey told := .ite (.raisePort (.addPort clamps (by decide))) clamps
  have goes : s.LeavesSurvey going := .ite (.updPort tells) (.updPort tells)
  exact .portClaim goes

theorem changeComponent {p lane amp phase : Nat} : s.LeavesSurvey (t.changeComponent p lane amp phase) := by
  unfold State.changeComponent
  extract_lets keeps taken placed claimed
  have claims : s.LeavesSurvey claimed := .portClaim (.updPort h)
  have started : s.LeavesSurvey (claimed.startWaiting p) := .updPort claims
  exact .ite (.relimit started) claims

theorem putComponent {p lane amp phase : Nat} : s.LeavesSurvey (t.putComponent p lane amp phase) := by
  unfold State.putComponent
  extract_lets x new place
  have placed : s.LeavesSurvey (place t) := .updPort (.sliceYield h)
  refine .ite h ?_
  split
  · exact .changeComponent h
  · exact .changeComponent h
  · exact .changeComponent h
  · exact .ite h (.ite (.changeComponent (.updPort h)) (.portUp placed))
  · exact .portClaim placed

theorem dropComponent {p lane : Nat} : s.LeavesSurvey (t.dropComponent p lane) := by
  unfold State.dropComponent
  extract_lets x rest stays gone mark out leave
  have left : s.LeavesSurvey gone := .updPort h
  have marked (f : Component → Component) : s.LeavesSurvey (mark f) := .updPort h
  have quiet : s.LeavesSurvey (if stays then gone.portClaim p else (gone.countWait p).releasePort p) :=
    .ite (.portClaim left) (.releasePort (.countWait left))
  have driven : s.LeavesSurvey (if stays then (out.portClaim p).reclamp p else leave.portDown p) :=
    .ite (.reclamp (.portClaim (marked _))) (.portDown (marked _))
  refine .ite h ?_
  split
  · exact quiet
  · exact quiet
  · exact .ite (.relimit (.portClaim left)) (.portOff left)
  · exact driven
  · exact driven
  · exact marked _
  · exact marked _

/-! ### Lanes and pennants -/

theorem applyDrive {l : Nat} {drive : List (Nat × Nat)} : s.LeavesSurvey (t.applyDrive l drive) := by
  unfold State.applyDrive
  exact h.trans (.foldl (fun u _ _ => .ite (.dropComponent (.refl u)) (.putComponent (.refl u))) t)

theorem laneGap {l : Nat} : s.LeavesSurvey (t.laneGap l) := by
  unfold State.laneGap
  split
  · exact .applyDrive (.updLane h)
  · exact h

theorem changeLane {l n : Nat} {drive : List (Nat × Nat)} : s.LeavesSurvey (t.changeLane l n drive) := by
  unfold State.changeLane
  exact .ite (.updLane h) (.laneGap (.updLane h))

theorem lanesFollow {n : Nat} : s.LeavesSurvey (t.lanesFollow n) := by
  unfold State.lanesFollow
  exact h.trans (.foldl (fun u _ _ => .ite (.changeLane (.updLane (.refl u))) (.refl u)) t)

/-- Entries of pennants from subindex 4 on, of whatever pennant. -/
theorem putPennant {n sub : Nat} {v : Val} (hs : 4 ≤ sub) (hs' : sub < 256) : s.LeavesSurvey (t.put (penKey n sub) v) :=
  h.put (by unfold penKey; omega)

theorem putZone {z sub : Nat} {v : Val} : s.LeavesSurvey (t.put (zoneKey z sub) v) := h.put_high (by unfold zoneKey; omega)

theorem pennantFigures {n : Nat} : s.LeavesSurvey (t.pennantFigures n) := by
  unfold State.pennantFigures
  extract_lets ps cleared
  have clears : s.LeavesSurvey cleared := .ite (.putPennant h (by decide) (by decide)) h
  exact .ite (.putPennant (.putPennant (.putPennant clears (by decide) (by decide)) (by decide) (by decide)) (by decide) (by decide)) clears

theorem coverZone {z : Nat} : s.LeavesSurvey (t.coverZone z) := by
  unfold State.coverZone
  extract_lets n missing d st was covered
  have covers : s.LeavesSurvey covered := .putZone (.putZone h)
  exact .ite (.raise covers) covers

theorem coverZones : s.LeavesSurvey t.coverZones := by
  unfold State.coverZones
  exact h.trans (.foldl (fun u _ _ => .ite (.refl u) (.coverZone (.refl u))) t)

theorem refreshPennant {n : Nat} : s.LeavesSurvey (t.refreshPennant n) := by
  unfold State.refreshPennant
  extract_lets x empty missing st eff changed stored figured
  have stores : s.LeavesSurvey stored := .putPennant (.updPennant h) (by decide) (by decide)
  have figures : s.LeavesSurvey figured := .pennantFigures (.ite (.lanesFollow stores) stores)
  have told : s.LeavesSurvey (if st = .stale then (figured.raise 11).raise 12 else figured.raise 11) :=
    .ite (.raise (.raise figures)) (.raise figures)
  exact .ite (.ite (.raise figures) figures) (.ite told (.ite (.raise figures) figures))

theorem recompute {n : Nat} : s.LeavesSurvey (t.recompute n) := by
  unfold State.recompute
  extract_lets kind sol failed solved
  have fails : s.LeavesSurvey failed := .updPennant h
  have solves : s.LeavesSurvey solved := by
    clear_value sol
    unfold solved
    cases sol with
    | none => exact fails
    | some ps => exact .putPennant (.ite (.putPennant fails (by decide) (by decide)) fails) (by decide) (by decide)
  exact .ite (.coverZones (.refreshPennant h)) (.coverZones (.refreshPennant solves))

/-! ### Receive paths and Frond -/

theorem putRx {p sub : Nat} {v : Val} : s.LeavesSurvey (t.put (rxKey p sub) v) := h.put_high (by unfold rxKey; omega)

theorem enterCancel {p : Nat} {c : CancelState} : s.LeavesSurvey (t.enterCancel p c) := by
  unfold State.enterCancel
  extract_lets yielded entered
  have enters : s.LeavesSurvey entered := .updRx (.ite (.sliceYield h) h)
  exact .ite (.putRx enters) enters

theorem rxMeasured {p : Nat} : s.LeavesSurvey (t.rxMeasured p) := by
  unfold State.rxMeasured
  exact .ite (.enterCancel h) h

theorem senseDrawn {p : Nat} : s.LeavesSurvey (t.senseDrawn p) := by
  unfold State.senseDrawn
  exact .ite h (.updRx (.putRx (.putRx (draw (draw (draw h))))))

theorem pingDropped {p : Nat} : s.LeavesSurvey (t.pingDropped p) := by
  unfold State.pingDropped
  exact .ite (.rxMeasured (.senseDrawn (.updFrond h))) h

theorem frondFollow {p : Nat} : s.LeavesSurvey (t.frondFollow p) := by
  unfold State.frondFollow
  extract_lets f
  refine .ite (.ite h (.updFrond (.pingDropped h))) (.ite h ?_)
  split
  · exact .ite (.updFrond h) (.updFrond h)
  · exact .updFrond h

theorem narrow : s.LeavesSurvey t.narrow := by
  unfold State.narrow
  extract_lets kept
  have keeps : s.LeavesSurvey kept := h.same rfl rfl
  exact keeps.trans (.foldl (fun u l _ => .ite (.refl u) (.put_high (.refl u) (by omega))) kept)

theorem coverAll : s.LeavesSurvey t.coverAll := by
  unfold State.coverAll State.frondFollowAll
  have follows : s.LeavesSurvey ((List.range 8).foldl (fun u p => u.frondFollow p) t.narrow) :=
    (narrow h).trans (.foldl (fun u _ _ => .frondFollow (.refl u)) _)
  exact .coverZones (follows.trans (.foldl (fun u _ _ => .ite (.refl u) (.refreshPennant (.refl u))) _))

theorem rxMeasure {p : Nat} : s.LeavesSurvey (t.rxMeasure p) := .ite (.enterCancel h) h

theorem rxNewMatrix : s.LeavesSurvey t.rxNewMatrix := by
  unfold State.rxNewMatrix
  refine h.trans (.foldl (fun u p _ => .ite ?_ (.refl u)) t)
  have acquires (mv : Nat) : u.LeavesSurvey (u.acquire p mv) := .updRx (.enterCancel (.refl u))
  exact .bump_high (acquires _) (by unfold rxKey; omega)

end

end State.LeavesSurvey

end Sys2Proof.Machine
end

section
/-!
SUPPORT. The survey from its request to its end, and the end of a teaching.
-/

namespace Sys2Proof.Machine

open Sys2Proof

variable {s : State}

/-! ### Request and start -/

theorem surveyPeriodExpiry_requests (hon : s.coreOn = true) (hperiod : s.nat 0x2340_02 ≠ 0)
    (hdue : s.passedS s.survey.periodT0 (s.nat 0x2340_02) = true) (hidle : s.survey.phase = .idle) :
    Completes .surveyPeriodExpiry s fun t =>
      t.survey.phase = .requested ∧ t.survey.periodT0 = s.now ∧ t.survey.t0 = s.now ∧ t.ports = sized 8 {} s.ports := by
  refine completes_of_nextWhen (b := decide (s.nat 0x2340_02 ≠ 0) && s.passedS s.survey.periodT0 (s.nat 0x2340_02)) rfl (by simp [hperiod, hdue])
    hon ?_
  rw [State.requestSurvey_of_idle hidle]
  exact ⟨rfl, rfl, rfl, rfl⟩

/-- The ports and receive paths that a survey takes leave its course. -/
theorem State.surveyStart_survey (s : State) :
    s.surveyStart.survey = { s.survey with phase := .driving, t0 := s.now, rows := false, fell := none, again := false } := by
  unfold State.surveyStart
  extract_lets survey begun driven
  have drives : begun.LeavesSurvey driven := .foldl (fun u _ _ => .putComponent (.refl u)) begun
  have lends : driven.LeavesSurvey ((List.range 8).foldl (fun t p => t.rxMeasure p) driven) := .foldl (fun u _ _ => .rxMeasure (.refl u)) driven
  exact (drives.trans lends).survey

theorem surveyStart_drives (hon : s.coreOn = true) (hphase : s.phase = .service) (hmay : s.surveyMayStart = true) :
    Completes .surveyStart s fun t => t.survey.phase = .driving ∧ t.survey.t0 = s.now ∧ t.survey.again = false := by
  refine completes_of_nextWhen (b := s.phase = .service && s.surveyMayStart) rfl (by simp [hphase, hmay]) hon ?_
  rw [State.finish_survey, State.surveyStart_survey]
  exact ⟨rfl, rfl, rfl⟩

/-! ### What receive paths sense -/

theorem State.leavesSurvey_sense (s : State) (xs : List Sensed) : s.LeavesSurvey (s.sense xs) := by
  unfold State.sense
  exact .foldl (fun u _ _ => .updRx (.putRx (.putRx (.refl u)))) s

theorem State.val_sense (s : State) (xs : List Sensed) {k : Nat} (hk : k < 0x2400_00) : (s.sense xs).val k = s.val k := by
  have other (p sub : Nat) : k ≠ rxKey p sub := by
    unfold rxKey
    omega
  unfold State.sense
  refine State.val_foldl (fun t x _ => ?_) s
  exact (State.val_put_ne _ _ (other _ _)).trans (State.val_put_ne t _ (other _ _))

/-! ### A result that is refused -/

/-- A refusal shows in SURVEY_RESULT and SURVEY_REJECTS, with event 9, and the survey stands (R68). -/
theorem State.surveyReject_post {s : State} (hfit : s.nat 0x2340_07 + 1 < 2 ^ 32) :
    s.surveyReject.nat 0x2340_06 = 2 ∧ s.surveyReject.nat 0x2340_07 = s.nat 0x2340_07 + 1 ∧ s.surveyReject.isPending 9 = true ∧
      s.surveyReject.survey = s.survey := by
  have plain {k : Nat} (hk : k < 0x2341_00) : ¬ eventKey k := by
    unfold eventKey
    omega
  unfold State.surveyReject
  generalize hu : s.setN 0x2340_06 2 = u
  have result : u.nat 0x2340_06 = 2 := hu ▸ s.nat_setN_same 0x2340_06 2
  have count : u.nat 0x2340_07 = s.nat 0x2340_07 := hu ▸ s.nat_setN_ne 2 (by decide)
  have survey : u.survey = s.survey := hu ▸ rfl
  have only : u.OnlyEvents ((u.bump 0x2340_07).raise 9) := (u.onlyOd_bump 0x2340_07).events.trans (State.onlyEvents_raise _ 9)
  refine ⟨?_, ?_, State.isPending_raise _ 9 (by decide), ?_⟩
  · rw [State.nat_of_val (State.val_raise _ 9 (plain (by decide))), State.nat_of_val (State.val_bump_ne u (by decide)), result]
  · rw [State.nat_of_val (State.val_raise _ 9 (plain (by decide))), State.nat_bump_same (by rwa [count]), count]
  · rw [only]
    exact survey

/-! ### The end of a survey -/

theorem State.surveyOver_nat (s : State) (k : Nat) : s.surveyOver.nat k = s.nat k := rfl

theorem State.surveyOver_isPending (s : State) (e : Nat) : s.surveyOver.isPending e = s.isPending e := rfl

theorem State.surveyOver_accepted (s : State) : s.surveyOver.survey.accepted = s.survey.accepted := rfl

theorem State.surveyOver_phase (s : State) :
    s.surveyOver.survey.phase = if s.survey.again then .requested else .idle := rfl

/-- What t shows of a survey of s that was refused and is over: its result and one reject more, event 9, the request that came while
it ran, and the survey accepted before it, if any (R68, R70). -/
def State.SurveyRefused (s t : State) : Prop :=
  t.nat 0x2340_06 = 2 ∧ t.nat 0x2340_07 = s.nat 0x2340_07 + 1 ∧ t.isPending 9 = true ∧
    t.survey.phase = (if s.survey.again then .requested else .idle) ∧ t.survey.accepted = s.survey.accepted

/-- The refusal of a result, in a state with the survey and the count of refusals of s. -/
theorem State.surveyReject_refused {u : State} (survey : u.survey = s.survey) (count : u.nat 0x2340_07 = s.nat 0x2340_07)
    (hfit : s.nat 0x2340_07 + 1 < 2 ^ 32) : s.SurveyRefused (s.finish u.surveyReject.surveyOver) := by
  obtain ⟨result, counted, told, course⟩ := u.surveyReject_post (by rwa [count])
  unfold State.SurveyRefused
  rw [State.finish_nat, State.finish_nat, State.finish_isPending, State.finish_survey, State.surveyOver_nat, State.surveyOver_nat,
    State.surveyOver_isPending, State.surveyOver_phase, State.surveyOver_accepted, course, survey, counted, count]
  exact ⟨result, rfl, told, rfl, rfl⟩

/-! ### The measurements solved -/

section

variable {m : Measured}

theorem State.surveyPorts_of_survey {u : State} (h : u.survey = s.survey) : u.surveyPorts = s.surveyPorts := by
  unfold State.surveyPorts
  rw [h]

theorem State.surveySolve_of_none (h : m.solve s.surveyPorts = none) : s.surveySolve m = s.surveyReject.surveyOver := by
  unfold State.surveySolve
  dsimp only
  rw [h]

/-- A solution shows in RECIP_ERR, and is accepted, with the columns of the surveyed ports, where it is reciprocal. -/
theorem State.surveySolve_of_some {y z yd : List (Int × Int)} (h : m.solve s.surveyPorts = some (y, z, yd)) :
    ∃ u y' z' yd', u = s.setN 0x2341_03 (min 65535 (recipErr (among s.surveyPorts z))) ∧
      s.surveySolve m = (if reciprocal (among s.surveyPorts z) then u.surveyAccept y' z' yd' else u.surveyReject).surveyOver := by
  unfold State.surveySolve
  dsimp only
  rw [h]
  exact ⟨_, _, _, _, rfl, rfl⟩

end

/-- An accepted result is on record as such, with event 8; its course and its RECIP_ERR stand. -/
theorem State.surveyAccept_post (s : State) (y z yd : List (Int × Int)) :
    (s.surveyAccept y z yd).survey.accepted = true ∧ (s.surveyAccept y z yd).survey.again = s.survey.again ∧
      (s.surveyAccept y z yd).isPending 8 = true ∧ (s.surveyAccept y z yd).nat 0x2341_03 = s.nat 0x2341_03 := by
  unfold State.surveyAccept
  extract_lets kept oldY clamped y' z' yd' survey accepted stored counted computed
  have stores : accepted.LeavesSurvey stored := .put (.put (.refl _) (by decide)) (by decide)
  have counts : accepted.LeavesSurvey counted := .put (.put (.setFit stores (by decide)) (by decide)) (by decide)
  have computes : accepted.LeavesSurvey computed := counts.trans (.foldl (fun u _ _ => .ite (.refl u) (.recompute (.refl u))) counted)
  have tells : accepted.LeavesSurvey (computed.rxNewMatrix.coverAll.raise 8) := .raise (.coverAll (.rxNewMatrix computes))
  rw [tells.survey]
  refine ⟨rfl, rfl, ?_, ?_⟩
  · exact State.isPending_raise _ 8 (by decide)
  · exact State.nat_of_val tells.recipErr

section

variable {drive coil : List (Int × Int) × List (Int × Int)} {sensed : List Sensed} (hon : s.coreOn = true) (hdriven : s.surveyDriven = true)

include hon hdriven

/-- The command solves the measurements after what the paths sense, which touches neither the survey nor its entries. -/
theorem surveySolve_completes {post : State → Prop}
    (h : ∀ u : State, u.survey = s.survey → (∀ k < 0x2400_00, u.val k = s.val k) →
      post (s.finish (u.surveySolve ⟨drive.1, drive.2, coil.1, coil.2⟩))) :
    Completes (.surveySolve drive coil sensed) s post :=
  completes_of_nextWhen rfl hdriven hon (h (s.sense sensed) (s.leavesSurvey_sense sensed).survey fun _ hk => s.val_sense sensed hk)

theorem surveySolve_unsolved (hsolve : (⟨drive.1, drive.2, coil.1, coil.2⟩ : Measured).solve s.surveyPorts = none)
    (hfit : s.nat 0x2340_07 + 1 < 2 ^ 32) :
    Completes (.surveySolve drive coil sensed) s s.SurveyRefused := by
  refine surveySolve_completes hon hdriven fun u survey val => ?_
  have ports := State.surveyPorts_of_survey survey
  rw [State.surveySolve_of_none (ports ▸ hsolve)]
  exact State.surveyReject_refused survey (State.nat_of_val (val _ (by decide))) hfit

variable {y z yd : List (Int × Int)} (hsolve : (⟨drive.1, drive.2, coil.1, coil.2⟩ : Measured).solve s.surveyPorts = some (y, z, yd))

include hsolve

theorem surveySolve_refused (hrecip : reciprocal (among s.surveyPorts z) = false) (hfit : s.nat 0x2340_07 + 1 < 2 ^ 32) :
    Completes (.surveySolve drive coil sensed) s s.SurveyRefused := by
  refine surveySolve_completes hon hdriven fun u survey val => ?_
  have ports := State.surveyPorts_of_survey survey
  obtain ⟨v, y', z', yd', hv, solved⟩ := State.surveySolve_of_some (ports ▸ hsolve)
  have count : v.nat 0x2340_07 = s.nat 0x2340_07 := by
    rw [hv, State.nat_setN_ne u _ (by decide), State.nat_of_val (val _ (by decide))]
  rw [solved, ports, hrecip, if_neg Bool.false_ne_true]
  exact State.surveyReject_refused (hv ▸ survey) count hfit

theorem surveySolve_accepted (hrecip : reciprocal (among s.surveyPorts z) = true) :
    Completes (.surveySolve drive coil sensed) s fun t =>
      t.survey.accepted = true ∧ t.isPending 8 = true ∧ t.survey.phase = (if s.survey.again then .requested else .idle) ∧
        t.nat 0x2341_03 = min 65535 (recipErr (among s.surveyPorts z)) := by
  refine surveySolve_completes hon hdriven fun u survey _ => ?_
  have ports := State.surveyPorts_of_survey survey
  obtain ⟨v, y', z', yd', hv, solved⟩ := State.surveySolve_of_some (ports ▸ hsolve)
  have course : v.survey = s.survey := hv ▸ survey
  have written : v.nat 0x2341_03 = min 65535 (recipErr (among s.surveyPorts z)) := by
    rw [hv, State.nat_setN_same, ports]
  obtain ⟨accepted, again, told, kept⟩ := v.surveyAccept_post y' z' yd'
  rw [solved, ports, if_pos hrecip]
  rw [State.finish_nat, State.finish_isPending, State.finish_survey, State.surveyOver_nat, State.surveyOver_isPending, State.surveyOver_phase,
    State.surveyOver_accepted, again, course]
  exact ⟨accepted, told, rfl, kept.trans written⟩

end

/-! ### Teaching -/

theorem teachTimeout_ends {z : Fin 16} (hinv : s.Inv) (hon : s.coreOn = true) (hteach : s.nat (zoneKey z 6) = 1)
    (hdue : s.passedS (s.teach.getD z {}).t0 60 = true) :
    Completes (.teachTimeout z) s fun t => t.nat (zoneKey z 6) = 3 ∧ t.teach.getD z {} = {} := by
  have due : (decide (s.nat (zoneKey z 6) = 1) && s.passedS (s.teach.getD z {}).t0 60) = true := by
    rw [hdue, decide_eq_true hteach]
    rfl
  refine completes_of_nextWhen rfl due hon ?_
  have length : z.val < s.teach.length := (State.teach_length_of_inv hinv).symm ▸ z.isLt
  rw [State.finish_nat, State.finish_teach, sized_getD _ _ z.isLt]
  refine ⟨State.nat_setN_same .., ?_⟩
  change (s.teach.set z {}).getD z {} = {}
  simp [List.getD_eq_getElem?_getD, length]

end Sys2Proof.Machine
end

section

open Sys2Proof Sys2Proof.Machine

/-- Settles O13: what the drives and pennants that follow a survey's start and its acceptance leave of the survey
(`State.LeavesSurvey`). -/
theorem surveyRuns : Obligations.SurveyRuns :=
  ⟨fun _ hon hperiod hdue hidle => surveyPeriodExpiry_requests hon hperiod hdue hidle,
    fun _ hon hphase hmay => surveyStart_drives hon hphase hmay,
    fun _ _ _ _ _ _ _ hon hdriven hsolve hrecip hfit => surveySolve_refused hon hdriven hsolve hrecip hfit,
    fun _ _ _ _ hon hdriven hsolve hfit => surveySolve_unsolved hon hdriven hsolve hfit,
    fun _ _ _ _ _ _ _ hon hdriven hsolve hrecip => surveySolve_accepted hon hdriven hsolve hrecip,
    fun _ _ hinv hon hteach hdue => teachTimeout_ends hinv hon hteach hdue⟩

end

section
/-!
SUPPORT. What refutes a clause on lanes and one on exchanges: a write that waits for a lane though no lane can hold it up, and a lane
of a zone that there is not.
-/

namespace Sys2Proof.Machine

open Sys2Proof

/-! ### A stray write among those that wait for a lane -/

/-- An entry above pennants and zones waits for no lane: its write takes effect with the next lane's end, and nothing follows it. -/
theorem State.val_takeDeferred_stray {s : State} {k : Nat} {v : Val} (h : s.deferred = [(k, v)]) (hk : 0x2360_00 ≤ k) :
    s.takeDeferred.val k = v := by
  have free (t : State) : t.defers k = false := by
    unfold State.defers
    rw [if_neg (by omega), if_neg (by omega)]
  have plain (t : State) : t.pennantsMerge k v = v := by
    unfold State.pennantsMerge
    rw [if_neg (by omega), if_neg (by omega)]
  have follows (t : State) : t.pennantsTaken k = t := by
    unfold State.pennantsTaken
    dsimp only
    rw [if_neg (by omega), if_neg (by omega), if_neg (by omega), if_neg (by omega)]
  unfold State.takeDeferred
  simp [h, free, plain, follows]

/-- A module in service whose lane 0 closes with no component left, and on whose list of writes that wait for a lane stands one of
that lane's isolation figure, which no lane holds up. -/
def strayWriteAtLaneEnd : State :=
  { State.reset with phase := .service, lanes := [{ state := .closing }, {}, {}, {}], deferred := [(laneKey 0 4, .num 0)] }

/-- The end of that lane leaves the figure that waited, and not 0x7FFF. -/
theorem strayWriteAtLaneEnd_figure : (strayWriteAtLaneEnd.laneFreed 0).takeDeferred.int (laneKey 0 4) = 0 := by
  have freed : strayWriteAtLaneEnd.FieldStep False (strayWriteAtLaneEnd.laneFreed 0) := .laneFreed (.refl _) (by decide)
  exact congrArg Val.int (State.val_takeDeferred_stray freed.only.deferred_eq (by decide))

/-! ### A lane of a zone above 15 -/

/-- A module in service with lanes 0 and 1 ready for a command on port 0, of which lane 0 has waited 100 µs and reads the PRIORITY of
its zone 16, which there is not, from its own WAIT_US. -/
def strayZoneAtTurn : State :=
  { State.reset with
    phase := .service, now := 3471360
    ports := { state := .carrier, comps := [{ lane := 0, amp := 0, phase := 0 }, { lane := 1, amp := 0, phase := 0 }] } ::
      List.replicate 7 {}
    lanes := [{ state := .opening, zone := 16, waitT0 := some 0 }, { state := .opening, zone := 17 }, {}, {}]
    seqs := [{ stage := .ready, guardDone := true, exch := { time := .hltA } }, { stage := .ready, guardDone := true }, {}, {}] }

/-- Against lane 1 the turn is contested, but once the wait has been added to WAIT_US no lane of lane 0's PRIORITY waits, and no
pointer moves. -/
theorem strayZoneAtTurn_turn : strayZoneAtTurn.contested 0 = true ∧ (strayZoneAtTurn.commandStart 0).rrLane = [0, 0, 0, 0] := by
  decide +kernel

end Sys2Proof.Machine
end

section

open Sys2Proof Sys2Proof.Machine

/-- Refutes O14: its clause on the end of a lane asks nothing of the writes that wait for a lane (R92); one of the lane's own isolation
figure lands on it after the lane has gone to IDLE. No module comes to such a state: only entries of pennants and zones wait. -/
theorem not_lanesOpenAndClose : ¬ Obligations.LanesOpenAndClose := by
  rintro ⟨-, -, closed, -⟩
  have gone : strayWriteAtLaneEnd.laneGone 0 = true := by decide +kernel
  obtain ⟨-, -, figure, -⟩ := (closed strayWriteAtLaneEnd 0 (by decide +kernel) rfl gone).post_of_exec (nextWhen_of_on _ gone rfl)
  rw [State.finish_int] at figure
  exact absurd (strayWriteAtLaneEnd_figure.symm.trans figure) (by decide)

/-- Refutes O16: its clause on the turn among conflicting lanes asks nothing of a lane's zone. That of a zone 16 reads its PRIORITY
from WAIT_US of lane 0, to which the end of its wait adds, and so meets no contest when it takes its turn (R81). No module comes to such
a state: the zone of an open lane is below 16. -/
theorem not_exchangesRun : ¬ Obligations.ExchangesRun := by
  rintro ⟨-, start, -⟩
  obtain ⟨contested, kept⟩ := strayZoneAtTurn_turn
  have ready : strayZoneAtTurn.cmdReady 0 = true := by decide +kernel
  obtain ⟨-, -, -, turn⟩ := (start strayZoneAtTurn 0 (by decide +kernel) rfl ready rfl (by decide +kernel) (by decide +kernel)).post_of_exec
    (nextWhen_of_on _ (by rw [show strayZoneAtTurn.cmdReady (0 : Fin 4) = true from ready]; rfl) rfl)
  rw [State.finish_rrLane] at turn
  have moved : (strayZoneAtTurn.commandStart 0).rrLane = [1, 0, 0, 0] := by
    refine turn.trans ?_
    rw [show strayZoneAtTurn.contested (0 : Fin 4) = true from contested]
    decide +kernel
  exact absurd (kept.symm.trans moved) (by decide)

end

section
/-!
SUPPORT. What a slice that yields and a component that is withdrawn leave alone: receive paths, lanes and their sequencers, and every
entry from index 2300 up to the counters of the trigger queue.
-/

namespace Sys2Proof.Machine

open Sys2Proof

/-- t differs from s at most in dictionary and draws, events with their lines and triggers, angle, ports, Halyard and self-test. -/
def State.OnlyDrive (s t : State) : Prop :=
  t = { s with
    od := t.od, drawn := t.drawn, lines := t.lines, triggers := t.triggers, raised := t.raised, raisedT := t.raisedT, ma := t.ma
    ports := t.ports, hal := t.hal, st := t.st }

theorem State.OnlyDrive.trans {s t u : State} (h : s.OnlyDrive t) (g : t.OnlyDrive u) : s.OnlyDrive u := by
  unfold State.OnlyDrive at *
  rw [g, h]

theorem State.OnlyEvents.onlyDrive {s t : State} (h : s.OnlyEvents t) : s.OnlyDrive t := by
  unfold State.OnlyEvents at h
  unfold State.OnlyDrive
  rw [h]

/-- The entries of survey, pennants, zones, lanes, receive paths, protocol engine, Frond and tag. -/
def engineKey (k : Nat) : Prop := 0x2300_00 ≤ k ∧ k < 0x2820_03

theorem not_eventKey_of_engine {k : Nat} (h : engineKey k) : ¬ eventKey k := not_eventKey_of_low h.2

/-- t is s after slices that yield and changes of what ports drive. -/
structure State.LeavesEngine (s t : State) : Prop where
  only : s.OnlyDrive t
  val : ∀ k, engineKey k → t.val k = s.val k

namespace State.LeavesEngine

theorem refl (s : State) : s.LeavesEngine s := ⟨rfl, fun _ _ => rfl⟩

theorem trans {s t u : State} (h : s.LeavesEngine t) (g : t.LeavesEngine u) : s.LeavesEngine u :=
  ⟨h.only.trans g.only, fun k hk => (g.val k hk).trans (h.val k hk)⟩

theorem ite {s t u : State} {c : Prop} [Decidable c] (h : s.LeavesEngine t) (g : s.LeavesEngine u) : s.LeavesEngine (if c then t else u) := by
  split
  · exact h
  · exact g

theorem foldl {α : Type} {f : State → α → State} {l : List α} (h : ∀ t, ∀ x ∈ l, State.LeavesEngine t (f t x)) (s : State) :
    s.LeavesEngine (l.foldl f s) := by
  induction l generalizing s with
  | nil => exact refl s
  | cons x rest ih => exact (h s x List.mem_cons_self).trans (ih (fun t y hy => h t y (List.mem_cons_of_mem _ hy)) (f s x))

/-! ### One rule for each change -/

section

variable {s t : State} (h : s.LeavesEngine t)

include h

/-- What is neither drive nor entry is as it was. -/
theorem eq {α : Type} (g : State → α) (hg : ∀ v : State, v.OnlyDrive t → g t = g v := by intro v hv; rw [hv]) : g t = g s := hg s h.only

theorem same {u : State} (only : t.OnlyDrive u) (od : u.od = t.od) : s.LeavesEngine u := by
  refine h.trans ⟨only, fun k _ => ?_⟩
  unfold State.val
  rw [od]

theorem put {k : Nat} {v : Val} (hk : ¬ engineKey k) : s.LeavesEngine (t.put k v) :=
  h.trans ⟨(t.onlyOd_put k v).events.onlyDrive, fun _ hj => t.val_put_ne v fun e => hk (e ▸ hj)⟩

theorem setFit {k bits n : Nat} (hk : ¬ engineKey k) : s.LeavesEngine (t.setFit k bits n) :=
  h.trans ⟨(t.onlyOd_setFit k bits n).events.onlyDrive, fun _ hj => t.val_setFit_ne bits n fun e => hk (e ▸ hj)⟩

theorem raiseAt {e stamp : Nat} {port : Option Nat} : s.LeavesEngine (t.raiseAt e stamp port) :=
  h.trans ⟨(t.onlyEvents_raiseAt e stamp port).onlyDrive, fun _ hj => t.val_raiseAt e stamp port (not_eventKey_of_engine hj)⟩

theorem raise {e : Nat} : s.LeavesEngine (t.raise e) := h.raiseAt

theorem raisePort {e p : Nat} : s.LeavesEngine (t.raisePort e p) := h.raiseAt

theorem updSt {f : SelfTest → SelfTest} : s.LeavesEngine (t.updSt f) := h.same rfl rfl

theorem updPort {p : Nat} {f : Port → Port} : s.LeavesEngine (t.updPort p f) := h.same rfl rfl

theorem setGrant {c : Claimant} {mw : Nat} : s.LeavesEngine (t.setGrant c mw) := h.same rfl rfl

theorem dropClaim {c : Claimant} : s.LeavesEngine (t.dropClaim c) := h.same rfl rfl

theorem answer {c : Claimant} {a : ClaimStatus} : s.LeavesEngine (t.answer c a) := h.same rfl rfl

theorem put_high {k : Nat} {v : Val} (hk : 0x2820_03 ≤ k) : s.LeavesEngine (t.put k v) := h.put (by unfold engineKey; omega)

theorem bump_high {k : Nat} (hk : 0x2820_03 ≤ k) : s.LeavesEngine (t.bump k) := h.setFit (by unfold engineKey; omega)

theorem put_low {k : Nat} {v : Val} (hk : k < 0x2300_00) : s.LeavesEngine (t.put k v) := h.put (by unfold engineKey; omega)

theorem add_low {k n : Nat} (hk : k < 0x2300_00) : s.LeavesEngine (t.add k n) := h.setFit (by unfold engineKey; omega)

/-! ### Self-test slices -/

theorem burgeeRefresh : s.LeavesEngine t.burgeeRefresh := by
  unfold State.burgeeRefresh
  refine h.trans (.foldl (fun u w hw => ?_) t)
  have window : w < 32 := List.mem_range.mp hw
  have status (n : Nat) : u.LeavesEngine (u.setN (0x2140_08 + 0x100 * w) n) := .put_low (.refl u) (by omega)
  exact .ite (.refl u) (.ite (.raise (status _)) (status _))

theorem burgeePut {w : Nat} {b : BurgeeSpec} (hw : w < 32) : s.LeavesEngine (t.burgeePut w b) := by
  unfold State.burgeePut
  extract_lets k stored
  have field {u : State} (hu : s.LeavesEngine u) (i n : Nat) (hi : i ≤ 7) : s.LeavesEngine (u.setN (k + i) n) := hu.put_low (by omega)
  have stores : s.LeavesEngine stored :=
    field (field (field (field (field (field (field h 1 _ (by decide)) 2 _ (by decide)) 3 _ (by decide)) 4 _ (by decide)) 5 _ (by decide)) 6 _
      (by decide)) 7 _ (by decide)
  exact .burgeeRefresh (stores.same rfl rfl)

theorem putGroup {g sub n : Nat} : s.LeavesEngine (t.setN (groupKey g sub) n) := h.put_high (by unfold groupKey; omega)

theorem escalate {g : Nat} : s.LeavesEngine (t.escalate g) := by
  unfold State.escalate
  extract_lets first counted
  have counts : s.LeavesEngine counted := .bump_high (.updSt h) (by decide)
  exact .ite h (.ite (.burgeePut counts (by decide)) counts)

theorem deescalate {g : Nat} : s.LeavesEngine (t.deescalate g) := by
  unfold State.deescalate
  extract_lets cleared
  have clears : s.LeavesEngine cleared := .putGroup (.updSt h)
  exact .ite (.burgeePut clears (by decide)) (.burgeePut clears (by decide))

theorem sliceCount {g : Nat} : s.LeavesEngine (t.sliceCount g) := by
  unfold State.sliceCount
  exact .ite (.bump_high (.put_high (.updSt h) (by decide)) (by decide)) (.put_high (.updSt h) (by decide))

theorem targetAgain {x : Slice} : s.LeavesEngine (t.targetAgain x) := .ite (.updSt h) h

theorem slicePreempted {x : Slice} : s.LeavesEngine (t.slicePreempted x) := by
  unfold State.slicePreempted
  extract_lets g n counted tries
  have counts : s.LeavesEngine counted := .putGroup (.bump_high (.updSt h) (by decide))
  have skipped : s.LeavesEngine (if x.targeted then counted else counted.sliceCount g) := .ite counts (.sliceCount counts)
  refine .ite (.ite ?_ (.targetAgain (.updSt counts))) (.ite (.targetAgain (.escalate counts)) (.targetAgain counts))
  exact .deescalate (.raise (.putGroup (.bump_high skipped (by decide))))

theorem sliceYield {g : Nat} {units : Nat → Bool} : s.LeavesEngine (t.sliceYield g units) := by
  unfold State.sliceYield
  split
  · exact .ite (.slicePreempted h) h
  · exact h

/-! ### Claims, and components withdrawn from a port -/

theorem claim {c : Claim} : s.LeavesEngine (t.claim c) := by
  have cls : c.who.cls ≤ 5 := by
    unfold Claimant.cls
    split <;> decide
  have refused (a : ClaimStatus) : s.LeavesEngine (t.refuseClaim c a) :=
    .answer (.add_low (.add_low (.dropClaim h) (by omega)) (by omega))
  have waits : s.LeavesEngine (t.submitClaim c) := by
    unfold State.submitClaim
    split
    · exact h.same rfl rfl
    · exact h.same rfl rfl
  exact .ite (refused _) (.ite (refused _) waits)

variable {p : Nat}

theorem releasePort : s.LeavesEngine (t.releasePort p) := .setGrant (.dropClaim h)

variable (hp : p < 8)

include hp

/-- The counters of a port. -/
theorem addPort {sub n : Nat} (hs : sub < 256) : s.LeavesEngine (t.add (portKey p 3 sub) n) := h.add_low (by unfold portKey; omega)

theorem reclamp : s.LeavesEngine (t.reclamp p) := by
  unfold State.reclamp
  extract_lets f old from_ clamped
  have clamps : s.LeavesEngine clamped := .updPort h
  exact .ite h (.ite (.raisePort (.addPort clamps hp (by decide))) clamps)

theorem relimit : s.LeavesEngine (t.relimit p) := by
  unfold State.relimit
  exact .reclamp (.updPort h) hp

theorem countWait : s.LeavesEngine (t.countWait p) := by
  unfold State.countWait
  split
  · exact .updPort (.addPort h hp (by decide))
  · exact h

theorem portClaim : s.LeavesEngine (t.portClaim p) := by
  unfold State.portClaim State.regrant
  extract_lets need g counts waits settled granted
  have waiting : s.LeavesEngine waits := .updPort h
  have settles : s.LeavesEngine settled := .countWait (.dropClaim h) hp
  have grants : s.LeavesEngine granted := .setGrant settles
  exact .ite (.claim waiting) (.ite (.ite (.relimit grants hp) grants) settles)

theorem portOff : s.LeavesEngine (t.portOff p) := by
  unfold State.portOff
  exact .portClaim (.updPort (.releasePort (.countWait h hp))) hp

theorem portDown : s.LeavesEngine (t.portDown p) := by
  unfold State.portDown
  extract_lets pos reversal at_ down
  have downs : s.LeavesEngine down := .updPort (.countWait h hp)
  exact .ite (.addPort downs hp (by decide)) downs

theorem dropComponent {lane : Nat} : s.LeavesEngine (t.dropComponent p lane) := by
  unfold State.dropComponent
  extract_lets x rest stays gone mark out leave
  have left : s.LeavesEngine gone := .updPort h
  have marked (f : Component → Component) : s.LeavesEngine (mark f) := .updPort h
  have quiet : s.LeavesEngine (if stays then gone.portClaim p else (gone.countWait p).releasePort p) :=
    .ite (.portClaim left hp) (.releasePort (.countWait left hp))
  have driven : s.LeavesEngine (if stays then (out.portClaim p).reclamp p else leave.portDown p) :=
    .ite (.reclamp (.portClaim (marked _) hp) hp) (.portDown (marked _) hp)
  refine .ite h ?_
  split
  · exact quiet
  · exact quiet
  · exact .ite (.relimit (.portClaim left hp) hp) (.portOff left hp)
  · exact driven
  · exact driven
  · exact marked _
  · exact marked _

end

end State.LeavesEngine

end Sys2Proof.Machine
end

section
/-!
SUPPORT. Receive paths, sequencers and lanes, one by one, and what a move of a canceller leaves of its path and of the entries.
-/

namespace Sys2Proof.Machine

open Sys2Proof

/-! ### One receive path, one sequencer, one lane -/

theorem State.Inv.rx_lt {s : State} (h : s.Inv) (p : Fin 8) : p.val < s.rx.length := by
  obtain ⟨_, _, _, _, _, _, _, rx, _⟩ := h
  exact rx.symm ▸ p.isLt

theorem State.Inv.seq_lt {s : State} (h : s.Inv) (l : Fin 4) : l.val < s.seqs.length := by
  obtain ⟨_, _, _, _, _, _, _, _, seqs, _⟩ := h
  exact seqs.symm ▸ l.isLt

theorem State.Inv.lane_lt {s : State} (h : s.Inv) (l : Fin 4) : l.val < s.lanes.length := by
  obtain ⟨_, _, _, _, _, _, lanes, _⟩ := h
  exact lanes.symm ▸ l.isLt

@[simp] theorem State.finish_rxp (s t : State) (p : Fin 8) : (s.finish t).rxp p = t.rxp p := sized_getD (n := 8) ({} : Rx) t.rx p.isLt

@[simp] theorem State.finish_seq (s t : State) (l : Fin 4) : (s.finish t).seq l = t.seq l := sized_getD (n := 4) ({} : Seq) t.seqs l.isLt

@[simp] theorem State.finish_lane (s t : State) (l : Fin 4) : (s.finish t).lane l = t.lane l := sized_getD (n := 4) ({} : Lane) t.lanes l.isLt

theorem State.updRx_rxp (s : State) {p : Nat} (f : Rx → Rx) (h : p < s.rx.length) : (s.updRx p f).rxp p = f (s.rxp p) := by
  unfold State.updRx State.rxp
  simp [List.getD_eq_getElem?_getD, h]

@[simp] theorem State.updRx_isPending (s : State) (p : Nat) (f : Rx → Rx) (e : Nat) : (s.updRx p f).isPending e = s.isPending e := rfl

@[simp] theorem State.updRx_assigned (s : State) (p : Nat) (f : Rx → Rx) : (s.updRx p f).assigned = s.assigned := rfl

@[simp] theorem State.updRx_nat (s : State) (p : Nat) (f : Rx → Rx) (k : Nat) : (s.updRx p f).nat k = s.nat k := rfl

@[simp] theorem State.updRx_rx_length (s : State) (p : Nat) (f : Rx → Rx) : (s.updRx p f).rx.length = s.rx.length := List.length_modify ..

theorem State.updSeq_seq (s : State) {l : Nat} (f : Seq → Seq) (h : l < s.seqs.length) : (s.updSeq l f).seq l = f (s.seq l) := by
  unfold State.updSeq State.seq
  simp [List.getD_eq_getElem?_getD, h]

theorem State.updLane_lane (s : State) {l : Nat} (f : Lane → Lane) (h : l < s.lanes.length) : (s.updLane l f).lane l = f (s.lane l) := by
  unfold State.updLane State.lane
  simp [List.getD_eq_getElem?_getD, h]

@[simp] theorem State.draw_rx (s : State) : s.draw.2.rx = s.rx := rfl

@[simp] theorem State.draw_nat (s : State) (k : Nat) : s.draw.2.nat k = s.nat k := rfl

theorem State.rxp_of_rx {s t : State} (h : t.rx = s.rx) (p : Nat) : t.rxp p = s.rxp p := by
  unfold State.rxp
  rw [h]

theorem State.seq_of_seqs {s t : State} (h : t.seqs = s.seqs) (l : Nat) : t.seq l = s.seq l := by
  unfold State.seq
  rw [h]

theorem State.lane_of_lanes {s t : State} (h : t.lanes = s.lanes) (l : Nat) : t.lane l = s.lane l := by
  unfold State.lane
  rw [h]

theorem State.OnlyEvents.rx_eq {s t : State} (h : s.OnlyEvents t) : t.rx = s.rx := by rw [h]

theorem State.OnlyEvents.assigned_eq {s t : State} (h : s.OnlyEvents t) : t.assigned = s.assigned := by rw [h]

/-! ### The canceller's moves -/

variable (s : State) {p : Nat} (c : CancelState) (mv : Nat)

theorem State.leavesEngine_yield (b : Bool) (units : Nat → Bool) : s.LeavesEngine (if b then s.sliceYield 6 units else s) :=
  .ite (.sliceYield (.refl s)) (.refl s)

/-- The path x with its canceller in state c from now on. -/
def Rx.entered (x : Rx) (c : CancelState) (now : Nat) : Rx := { x with cancel := c, t0 := now, ticked := x.ticked || decide (c ≠ .off) }

theorem State.enterCancel_rxp (hp : p < s.rx.length) : (s.enterCancel p c).rxp p = (s.rxp p).entered c s.now := by
  unfold State.enterCancel
  extract_lets yielded entered
  have yields : s.LeavesEngine yielded := s.leavesEngine_yield _ _
  have same : yielded.rx = s.rx := yields.eq State.rx
  have path : entered.rxp p = (s.rxp p).entered c s.now := by
    rw [← State.rxp_of_rx same, ← yields.eq State.now]
    exact yielded.updRx_rxp _ (same ▸ hp)
  split
  · exact path
  · exact path

/-- Going OFF alone writes an entry: SUPPRESSION reads 0 there. -/
theorem State.enterCancel_val {k : Nat} (hk : engineKey k) (h : c = .off → k ≠ rxKey p 4) : (s.enterCancel p c).val k = s.val k := by
  unfold State.enterCancel
  extract_lets yielded entered
  have kept : entered.val k = s.val k := (s.leavesEngine_yield _ _).val k hk
  split
  next off => exact (State.val_setN_ne _ _ (h off)).trans kept
  next => exact kept

theorem State.enterCancel_rx_length : (s.enterCancel p c).rx.length = s.rx.length := by
  unfold State.enterCancel
  extract_lets yielded entered
  have kept : entered.rx.length = s.rx.length :=
    (List.length_modify ..).trans (congrArg List.length ((s.leavesEngine_yield _ _).eq State.rx))
  split
  · exact kept
  · exact kept

theorem State.acquire_rxp (hp : p < s.rx.length) :
    (s.acquire p mv).rxp p = ((s.rxp p).entered .acquire s.now).choose mv := by
  unfold State.acquire
  rw [State.updRx_rxp _ _ (by rwa [State.enterCancel_rx_length]), State.enterCancel_rxp s _ hp]

theorem State.acquire_val {k : Nat} (hk : engineKey k) : (s.acquire p mv).val k = s.val k := s.enterCancel_val .acquire hk nofun

theorem State.acquire_isPending {e : Nat} (he : e < 96) (h : s.isPending e = true) : (s.acquire p mv).isPending e = true := by
  have calm : s.FieldStep True (s.acquire p mv) := .acquire (.refl s)
  exact (calm.rests trivial).pending e he h

end Sys2Proof.Machine
end

section
/-!
SUPPORT. The receive path's commands: what each leaves of the canceller, of the gain and of the path's readings.
-/

namespace Sys2Proof.Machine

open Sys2Proof

theorem engineKey_rx (p : Fin 8) {sub : Nat} (hs : sub < 256) : engineKey (rxKey p sub) := by
  unfold engineKey rxKey
  omega

theorem rxKey_ne (p : Nat) {i j : Nat} (h : i ≠ j) : rxKey p i ≠ rxKey p j := by
  unfold rxKey
  omega

theorem exec_acquisitionEnd (s : State) (p : Fin 8) (suppression predicted : BitVec 16) :
    exec (.acquisitionEnd p (suppression, predicted)) s =
      nextWhen ((s.rxp p).cancel = .acquire && (decide (600 ≤ suppression.toNat) || s.passedUs (s.rxp p).t0 12)) s
        (if 600 ≤ suppression.toNat then (s.setN (rxKey p 4) suppression.toNat).acquired p
        else (s.setN (rxKey p 4) suppression.toNat).acquireFailed p predicted.toNat) := rfl

variable {s : State} {p : Fin 8} (hinv : s.Inv) (hon : s.coreOn = true)

include hinv hon

theorem cancellerAcquire_acquires {predicted measured : BitVec 16} (hoff : (s.rxp p).cancel = .off) (hbarred : s.rxBarred p = false)
    (hcarrier : 10 ≤ predicted.toNat) :
    Completes (.cancellerAcquire p predicted measured) s fun t =>
      (t.rxp p).cancel = .acquire ∧ t.nat (rxKey p 3) = measured.toNat ∧ (t.rxp p).t0 = s.now := by
  refine completes_of_nextWhen
    (b := (s.rxp p).cancel = .off && !s.rxBarred p && (decide (10 ≤ predicted.toNat) || decide (10 ≤ measured.toNat)))
    rfl (by simp [hoff, hbarred, hcarrier]) hon ?_
  unfold State.cancellerAcquire
  generalize hu : (s.setN (rxKey p 3) measured.toNat).updRx p _ = u
  have length : p.val < u.rx.length := hu ▸ (State.updRx_rx_length ..).symm ▸ hinv.rx_lt p
  have now : u.now = s.now := hu ▸ rfl
  have stored : u.nat (rxKey p 3) = measured.toNat := hu ▸ s.nat_setN_same _ _
  rw [State.finish_rxp, State.finish_nat, u.acquire_rxp _ length, State.nat_of_val (u.acquire_val _ (engineKey_rx p (by decide)))]
  exact ⟨rfl, stored, now⟩

theorem acquisitionEnd_tracks {suppression predicted : BitVec 16} (hacq : (s.rxp p).cancel = .acquire) (hsup : 600 ≤ suppression.toNat)
    (hwindow : s.windowOpen = false) (hsurvey : s.survey.phase ≠ .driving) :
    Completes (.acquisitionEnd p (suppression, predicted)) s fun t =>
      (t.rxp p).cancel = .track ∧ (t.rxp p).failed = 0 ∧ t.nat (rxKey p 4) = suppression.toNat := by
  refine completes_of_nextWhen (exec_acquisitionEnd s p suppression predicted) (by simp [hacq, hsup]) hon ?_
  generalize hv : s.setN (rxKey p 4) suppression.toNat = v
  have length : p.val < v.rx.length := hv ▸ hinv.rx_lt p
  have stored : v.nat (rxKey p 4) = suppression.toNat := hv ▸ s.nat_setN_same _ _
  have window : v.windowOpen = false := hv ▸ hwindow
  have survey : v.survey.phase ≠ .driving := hv ▸ hsurvey
  rw [if_pos hsup]
  unfold State.acquired
  rw [window, if_neg Bool.false_ne_true, if_neg survey]
  generalize hu : v.updRx p (fun x => { x with failed := 0 }) = u
  have path : (u.rxp p).failed = 0 := by rw [← hu, State.updRx_rxp _ _ length]
  have kept : u.nat (rxKey p 4) = suppression.toNat := hu ▸ stored
  rw [State.finish_rxp, State.finish_nat, u.enterCancel_rxp _ (by rwa [← hu, State.updRx_rx_length]),
    State.nat_of_val (u.enterCancel_val .track (engineKey_rx p (by decide)) nofun)]
  exact ⟨rfl, path, kept⟩

theorem acquisitionEnd_restarts {suppression predicted : BitVec 16} (hacq : (s.rxp p).cancel = .acquire) (hsup : suppression.toNat < 600)
    (htime : s.passedUs (s.rxp p).t0 12 = true) (hfailed : (s.rxp p).failed < 2) :
    Completes (.acquisitionEnd p (suppression, predicted)) s fun t =>
      (t.rxp p).cancel = .acquire ∧ (t.rxp p).failed = (s.rxp p).failed + 1 ∧ t.isPending 25 = true := by
  refine completes_of_nextWhen (exec_acquisitionEnd s p suppression predicted) (by simp [hacq, htime]) hon ?_
  rw [if_neg (by omega)]
  unfold State.acquireFailed State.countReacquire
  generalize hv : ((s.setN (rxKey p 4) suppression.toNat).bump (rxKey p 11)).raisePort 25 p = v
  have told : s.OnlyEvents v := hv ▸ ((s.onlyOd_put _ _).trans (State.onlyOd_bump _ _)).events.trans (State.onlyEvents_raisePort _ 25 p)
  have pending : v.isPending 25 = true := hv ▸ State.isPending_raisePort _ 25 p (by decide)
  have length : p.val < v.rx.length := told.rx_eq ▸ hinv.rx_lt p
  dsimp only
  generalize hu : v.updRx p (fun x => { x with failed := x.failed + 1 }) = u
  have path : (u.rxp p).failed = (s.rxp p).failed + 1 := by rw [← hu, State.updRx_rxp _ _ length, State.rxp_of_rx told.rx_eq]
  have kept : u.isPending 25 = true := by rw [← hu, State.updRx_isPending, pending]
  rw [if_neg (by omega), State.finish_rxp, State.finish_isPending, u.acquire_rxp _ (by rwa [← hu, State.updRx_rx_length])]
  exact ⟨rfl, path, u.acquire_isPending _ (by decide) kept⟩

theorem suppressionLoss_reacquires {suppression predicted : BitVec 16} (htrack : (s.rxp p).cancel = .track) (hsup : suppression.toNat < 450) :
    Completes (.suppressionLoss p suppression predicted) s fun t =>
      (t.rxp p).cancel = .acquire ∧ t.isPending 25 = true ∧ t.nat (rxKey p 4) = suppression.toNat := by
  refine completes_of_nextWhen (b := (s.rxp p).cancel = .track && decide (suppression.toNat < 450)) rfl (by simp [htrack, hsup]) hon ?_
  generalize hu : s.setN (rxKey p 4) suppression.toNat = u
  have length : p.val < u.rx.length := hu ▸ hinv.rx_lt p
  have stored : u.nat (rxKey p 4) = suppression.toNat := hu ▸ s.nat_setN_same _ _
  have told : (u.acquire p predicted.toNat).OnlyEvents (((u.acquire p predicted.toNat).countReacquire p).raisePort 25 p) :=
    (State.onlyOd_bump _ _).events.trans (State.onlyEvents_raisePort _ 25 p)
  have kept : (((u.acquire p predicted.toNat).countReacquire p).raisePort 25 p).val (rxKey p 4) = u.val (rxKey p 4) :=
    (State.val_raisePort _ 25 p (not_eventKey_of_engine (engineKey_rx p (by decide)))).trans
      ((State.val_bump_ne _ (rxKey_ne p (by decide))).trans (u.acquire_val _ (engineKey_rx p (by decide))))
  rw [State.finish_rxp, State.finish_isPending, State.finish_nat, State.rxp_of_rx told.rx_eq, u.acquire_rxp _ length, State.nat_of_val kept]
  exact ⟨rfl, State.isPending_raisePort _ 25 p (by decide), stored⟩

theorem cancellerIdle_off {predicted measured : BitVec 16} (htrack : (s.rxp p).cancel = .track) (hpred : predicted.toNat < 5)
    (hmeas : measured.toNat < 5) :
    Completes (.cancellerIdle p predicted measured) s fun t => (t.rxp p).cancel = .off ∧ t.nat (rxKey p 3) = measured.toNat := by
  refine completes_of_nextWhen
    (b := ((s.rxp p).cancel = .acquire || (s.rxp p).cancel = .track) && decide (predicted.toNat < 5) && decide (measured.toNat < 5))
    rfl (by simp [htrack, hpred, hmeas]) hon ?_
  generalize hu : s.setN (rxKey p 3) measured.toNat = u
  have length : p.val < u.rx.length := hu ▸ hinv.rx_lt p
  have stored : u.nat (rxKey p 3) = measured.toNat := hu ▸ s.nat_setN_same _ _
  rw [State.finish_rxp, State.finish_nat, u.enterCancel_rxp _ length,
    State.nat_of_val (u.enterCancel_val _ (engineKey_rx p (by decide)) fun _ => rxKey_ne p (by decide))]
  exact ⟨rfl, stored⟩


omit hinv hon in
/-- What an overload outside HOLD does first: it is told, counted, and the gain goes a step down (R97). -/
def State.steppedDown (s : State) (p : Nat) : State :=
  (((s.updRx p fun x => { x with overT0 := s.now, stepUp := false }).raisePort 24 p).bump (rxKey p 10)).updRx p fun x =>
    { x with gain := min 4 (x.gain + 1) }

omit hon in
theorem State.steppedDown_rxp :
    (s.steppedDown p).rxp p = { s.rxp p with overT0 := s.now, stepUp := false, gain := min 4 ((s.rxp p).gain + 1) } := by
  unfold State.steppedDown
  generalize hmarked : s.updRx p _ = marked
  have told : marked.OnlyEvents ((marked.raisePort 24 p).bump (rxKey p 10)) := (marked.onlyEvents_raisePort 24 p).trans (State.onlyOd_bump _ _).events
  have length : p.val < marked.rx.length := by
    rw [← hmarked, State.updRx_rx_length]
    exact hinv.rx_lt p
  rw [State.updRx_rxp _ _ (told.rx_eq ▸ length), State.rxp_of_rx told.rx_eq, ← hmarked, State.updRx_rxp _ _ (hinv.rx_lt p)]

omit hinv hon in
theorem State.steppedDown_rx_length : (s.steppedDown p).rx.length = s.rx.length := by
  unfold State.steppedDown
  generalize hmarked : s.updRx p _ = marked
  have told : marked.OnlyEvents ((marked.raisePort 24 p).bump (rxKey p 10)) := (marked.onlyEvents_raisePort 24 p).trans (State.onlyOd_bump _ _).events
  rw [State.updRx_rx_length, told.rx_eq, ← hmarked, State.updRx_rx_length]

omit hinv hon in
theorem State.steppedDown_assigned : (s.steppedDown p).assigned = s.assigned := by
  unfold State.steppedDown
  rw [State.updRx_assigned, (State.onlyOd_bump _ _).events.assigned_eq, (State.onlyEvents_raisePort _ 24 p).assigned_eq, State.updRx_assigned]

omit hinv hon in
theorem State.steppedDown_count (hfit : s.nat (rxKey p 10) + 1 < 2 ^ 32) : (s.steppedDown p).nat (rxKey p 10) = s.nat (rxKey p 10) + 1 := by
  unfold State.steppedDown
  generalize hmarked : s.updRx p _ = marked
  have told : (marked.raisePort 24 p).nat (rxKey p 10) = s.nat (rxKey p 10) := by
    rw [State.nat_of_val (marked.val_raisePort 24 p (not_eventKey_of_engine (engineKey_rx p (by decide)))), ← hmarked, State.updRx_nat]
  rw [State.updRx_nat, State.nat_bump_same (by rwa [told]), told]

omit hinv hon in
theorem State.steppedDown_isPending : (s.steppedDown p).isPending 24 = true := by
  unfold State.steppedDown
  generalize s.updRx p _ = marked
  have counted : (marked.raisePort 24 p).FieldStep True ((marked.raisePort 24 p).bump (rxKey p 10)) :=
    .bump_sub (.refl _) (by decide) (by decide) (by decide) (by decide)
  rw [State.updRx_isPending]
  exact (counted.rests trivial).pending 24 (by decide) (marked.isPending_raisePort 24 p (by decide))

omit hon in
/-- An overload of a tracking path that is not barred ends in an acquisition that counts (R97). -/
theorem State.overload_of_track (htrack : (s.rxp p).cancel = .track) (hbarred : s.rxBarred p = false) :
    ∃ mv, s.overload p = ((s.steppedDown p).countReacquire p).draw.2.acquire p mv := by
  generalize hstepped : s.steppedDown p = stepped
  have free : stepped.rxBarred p = false := by
    unfold State.rxBarred at hbarred ⊢
    rw [← hstepped, State.steppedDown_rxp hinv, State.steppedDown_assigned]
    exact hbarred
  have told : (((s.updRx p fun x => { x with overT0 := s.now, stepUp := false }).raisePort 24 p).rxp p).cancel = .track := by
    rw [State.rxp_of_rx (State.onlyEvents_raisePort _ 24 p).rx_eq, State.updRx_rxp _ _ (hinv.rx_lt p)]
    exact htrack
  unfold State.overload
  dsimp only
  unfold State.steppedDown at hstepped
  rw [told, if_neg (by decide), hstepped, free, if_neg Bool.false_ne_true, if_pos rfl]
  exact ⟨_, rfl⟩

theorem rxOverload_reacquires (htrack : (s.rxp p).cancel = .track) (hbarred : s.rxBarred p = false) (hfit : s.nat (rxKey p 10) + 1 < 2 ^ 32) :
    Completes (.rxOverload p) s fun t =>
      (t.rxp p).cancel = .acquire ∧ t.nat (rxKey p 10) = s.nat (rxKey p 10) + 1 ∧
        ((s.rxp p).allowed < min 4 ((s.rxp p).gain + 1) → min 4 ((s.rxp p).gain + 1) ≤ (t.rxp p).gain) ∧ t.isPending 24 = true ∧
        (t.rxp p).overT0 = s.now := by
  obtain ⟨mv, hoverload⟩ := State.overload_of_track hinv htrack hbarred
  have path := State.steppedDown_rxp hinv (p := p)
  have count := State.steppedDown_count hfit
  have pending := State.steppedDown_isPending (s := s) (p := p)
  have length : p.val < (s.steppedDown p).rx.length := State.steppedDown_rx_length.symm ▸ hinv.rx_lt p
  refine completes_of_done rfl hon ?_
  rw [hoverload]
  generalize s.steppedDown p = stepped at path count pending length ⊢
  have counted : stepped.OnlyOd (stepped.countReacquire p) := stepped.onlyOd_bump (rxKey p 11)
  have kept : (stepped.countReacquire p).draw.2.rx = stepped.rx := (State.draw_rx _).trans counted.events.rx_eq
  have calm : stepped.FieldStep True (stepped.countReacquire p).draw.2 := .draw (.countReacquire (.refl stepped))
  have counted10 : (stepped.countReacquire p).draw.2.nat (rxKey p 10) = s.nat (rxKey p 10) + 1 := by
    rw [State.draw_nat, ← count]
    exact State.nat_of_val (State.val_bump_ne _ (rxKey_ne p (by decide)))
  rw [State.finish_rxp, State.finish_nat, State.finish_isPending, State.acquire_rxp _ mv (kept.symm ▸ length),
    State.nat_of_val (State.acquire_val _ mv (engineKey_rx p (by decide))), State.rxp_of_rx kept, path]
  refine ⟨rfl, counted10, fun above => ?_,
    State.acquire_isPending _ mv (by decide) ((calm.rests trivial).pending 24 (by decide) pending), rfl⟩
  unfold Rx.choose
  rw [if_pos (by exact above)]
  exact Nat.le_max_left _ _

theorem gainRestore_steps (htrack : (s.rxp p).cancel = .track) (hgain : (s.rxp p).allowed < (s.rxp p).gain) (hup : (s.rxp p).stepUp = false)
    (htime : s.passedMs (s.rxp p).overT0 ((s.rxp p).cfg.getD 2 100) = true) :
    Completes (.gainRestore p) s fun t =>
      (t.rxp p).gain = (s.rxp p).gain - 1 ∧ (t.rxp p).cancel = .track ∧ (t.rxp p).overT0 = s.now := by
  refine completes_of_nextWhen
    (b := decide ((s.rxp p).allowed < (s.rxp p).gain) && !(s.rxp p).stepUp && s.passedMs (s.rxp p).overT0 ((s.rxp p).cfg.getD 2 100))
    rfl (by rw [htime, hup, decide_eq_true hgain]; rfl) hon ?_
  unfold State.gainRestore
  rw [State.finish_rxp, State.updRx_rxp _ _ (hinv.rx_lt p), if_neg (by simp [htrack])]
  exact ⟨rfl, htrack, rfl⟩

end Sys2Proof.Machine
end

section

open Sys2Proof Sys2Proof.Machine

/-- Settles O15: each clause is its command on one receive path; what a slice that yields and what is told on the way leave the path and
its readings alone. -/
theorem receivePathFollowsCarrier : Obligations.ReceivePathFollowsCarrier :=
  ⟨fun _ _ _ _ hinv hon hoff hbarred hcarrier => cancellerAcquire_acquires hinv hon hoff hbarred hcarrier,
    fun _ _ _ _ hinv hon hacq hsup hwindow hsurvey => acquisitionEnd_tracks hinv hon hacq hsup hwindow hsurvey,
    fun _ _ _ _ hinv hon hacq hsup htime hfailed => acquisitionEnd_restarts hinv hon hacq hsup htime hfailed,
    fun _ _ _ _ hinv hon htrack hsup => suppressionLoss_reacquires hinv hon htrack hsup,
    fun _ _ _ _ hinv hon htrack hpred hmeas => cancellerIdle_off hinv hon htrack hpred hmeas,
    fun _ _ hinv hon htrack hbarred hfit => rxOverload_reacquires hinv hon htrack hbarred hfit,
    fun _ _ hinv hon htrack hgain hup htime => gainRestore_steps hinv hon htrack hgain hup htime⟩

end

section
/-!
SUPPORT. A canceller that starts while a slice on its path is in progress, at the eighth pre-emption in a row.
-/

namespace Sys2Proof.Machine

open Sys2Proof

/-- Whatever else of self-test may change with a slice that ends, the occurrence tried last stays. -/
theorem State.sameButNoise_tried {s t : State} (h : s.sameButNoise t) : t.st.tried = s.st.tried := by
  obtain ⟨⟨-, -, -, selftest, -⟩, -⟩ := h
  have tried := congrArg SelfTest.tried selftest
  exact tried

/-- A module in service whose slice on receive path 0 is in progress, after seven pre-empted ones in a row; the last occurrence tried
stands from an escalation that is over. -/
def eighthPreemption : State :=
  { State.reset with phase := .service, od := [(groupKey 6 1, .num 7)], st := { run := some { group := 6, index := 0 }, tried := some 0 } }

end Sys2Proof.Machine
end

section

open Sys2Proof Sys2Proof.Machine

/-- Refutes O48: it lets a canceller that starts end the slice on its path, count it and escalate its group, but holds the last
occurrence of slot 31 tried, which the first group to escalate forgets (R377, R380; log 67). -/
theorem not_receivePathFrame : ¬ Obligations.ReceivePathFrame := by
  intro frame
  obtain ⟨-, -, -, -, -, -, -, -, -, work, -⟩ := frame (.cancellerAcquire 0 10 10) eighthPreemption _ (by decide +kernel) rfl
    (nextWhen_of_on _ (by decide +kernel) rfl)
  have kept := State.sameButNoise_tried work
  have forgotten : (eighthPreemption.cancellerAcquire (0 : Fin 8) (10 : BitVec 16).toNat (10 : BitVec 16).toNat).st.tried = none := by
    decide +kernel
  rw [State.finish_st, forgotten] at kept
  exact absurd kept (by decide +kernel)

end

section
/-!
SUPPORT. Sequencers between exchanges: a step that is queued, a verdict that is late, a host exchange that ends, an entry of the hold
table that is freed.
-/

namespace Sys2Proof.Machine

open Sys2Proof

theorem State.OnlyEvents.seqs_eq {s t : State} (h : s.OnlyEvents t) : t.seqs = s.seqs := by rw [h]

theorem State.OnlyEvents.lanes_eq {s t : State} (h : s.OnlyEvents t) : t.lanes = s.lanes := by rw [h]

@[simp] theorem State.updSeq_nat (s : State) (l : Nat) (f : Seq → Seq) (k : Nat) : (s.updSeq l f).nat k = s.nat k := rfl

@[simp] theorem State.updSeq_lanes (s : State) (l : Nat) (f : Seq → Seq) : (s.updSeq l f).lanes = s.lanes := rfl

@[simp] theorem State.updLane_seqs (s : State) (l : Nat) (f : Lane → Lane) : (s.updLane l f).seqs = s.seqs := rfl

@[simp] theorem State.updSeq_seqs_length (s : State) (l : Nat) (f : Seq → Seq) : (s.updSeq l f).seqs.length = s.seqs.length := List.length_modify ..

@[simp] theorem State.updLane_lanes_length (s : State) (l : Nat) (f : Lane → Lane) : (s.updLane l f).lanes.length = s.lanes.length :=
  List.length_modify ..

theorem State.sense_seqs (s : State) (xs : List Sensed) : (s.sense xs).seqs = s.seqs := by
  unfold State.sense
  exact foldl_proj State.seqs (by intro t x; rfl) xs s

theorem State.nat_setO_ne (s : State) {k j : Nat} (b : List Byte) (h : j ≠ k) : (s.setO k b).nat j = s.nat j :=
  State.nat_of_val (s.val_put_ne _ h)

/-! ### Keys of a lane's exchanges -/

theorem hfKey_ne (l : Nat) {i j : Nat} (h : i ≠ j) : hfKey l i ≠ hfKey l j := by
  unfold hfKey
  omega

theorem engineKey_hf (l : Fin 4) {sub : Nat} (hs : sub < 256) : engineKey (hfKey l sub) := by
  unfold engineKey hfKey
  omega

/-- The count of late verdicts is no lane's. -/
theorem hfKey_ne_late (l : Fin 4) {sub : Nat} (hs : sub < 256) : 0x2560_0A ≠ hfKey l sub := by
  unfold hfKey
  omega

/-! ### A new exchange -/

/-- The job and the card of a sequencer that goes to a step stay, and the exchange waits to be sent. -/
theorem State.go_seq (s : State) {l : Nat} (step : HfStep) (h : l < s.seqs.length) :
    ((s.go l step).seq l).job = (s.seq l).job ∧ ((s.go l step).seq l).cur = (s.seq l).cur ∧ ((s.go l step).seq l).stage = .ready := by
  unfold State.go
  generalize hu : s.updSeq l _ = u
  have length : l < u.seqs.length := by rwa [← hu, State.updSeq_seqs_length]
  unfold State.queueStep
  rw [State.seq_of_seqs (State.updLane_seqs ..), State.updSeq_seq _ _ length, ← hu, State.updSeq_seq _ _ h]
  exact ⟨rfl, rfl, rfl⟩

theorem State.presenceStart_seq (s : State) {l : Nat} (c : Card) (h : l < s.seqs.length) :
    ((s.presenceStart l c).seq l).job = .presence ∧ ((s.presenceStart l c).seq l).cur = c ∧ ((s.presenceStart l c).seq l).stage = .ready := by
  unfold State.presenceStart
  generalize hu : s.updSeq l _ = u
  have length : l < u.seqs.length := by rwa [← hu, State.updSeq_seqs_length]
  have starts : (u.seq l).job = .presence ∧ (u.seq l).cur = c := by
    rw [← hu, State.updSeq_seq _ _ h]
    exact ⟨rfl, rfl⟩
  have goes (step : HfStep) : ((u.go l step).seq l).job = .presence ∧ ((u.go l step).seq l).cur = c ∧ ((u.go l step).seq l).stage = .ready := by
    obtain ⟨job, cur, stage⟩ := u.go_seq step length
    exact ⟨job.trans starts.1, cur.trans starts.2, stage⟩
  dsimp only
  split
  · exact goes _
  split
  · exact goes _
  split
  · exact goes _
  · exact goes _
  · exact goes _
  · exact goes _

/-! ### The end of a host exchange -/

theorem State.hostEnd_told (s : State) (l : Fin 4) (st : ExStatus) (rx : List Byte) (h : l.val < s.seqs.length) (hst : st ≠ .ok) :
    ((s.hostEnd l st rx).seq l).hostJob = none ∧ (s.hostEnd l st rx).nat (hfKey l 1) = 3 ∧
      (s.hostEnd l st rx).nat (hfKey l 5) = st.code ∧ (s.hostEnd l st rx).isPending 18 = true := by
  unfold State.hostEnd
  rw [if_neg hst]
  dsimp only
  generalize hu : ((s.setN (hfKey l 1) 3).setN (hfKey l 5) st.code).setO (hfKey l 4) rx = u
  have stored : u.nat (hfKey l 1) = 3 ∧ u.nat (hfKey l 5) = st.code := by
    rw [← hu, State.nat_setO_ne _ _ (hfKey_ne l (by decide)), State.nat_setO_ne _ _ (hfKey_ne l (by decide)),
      State.nat_setN_ne _ _ (hfKey_ne l (by decide)), State.nat_setN_same, State.nat_setN_same]
    exact ⟨rfl, rfl⟩
  have length : l.val < u.seqs.length := by rwa [← hu]
  have told (k : Nat) (hk : engineKey k) : ((u.updSeq l fun x => { x with hostJob := none, hostTx := [], hostRx := [] }).raise 18).nat k = u.nat k :=
    State.nat_of_val (State.val_raise _ 18 (not_eventKey_of_engine hk))
  rw [told _ (engineKey_hf l (by decide)), told _ (engineKey_hf l (by decide)), State.seq_of_seqs (State.onlyEvents_raise _ 18).seqs_eq,
    State.updSeq_seq _ _ length]
  exact ⟨rfl, stored.1, stored.2, State.isPending_raise _ 18 (by decide)⟩

/-! ### The commands -/

section

variable {s : State} {l : Fin 4} (hinv : s.Inv) (hon : s.coreOn = true)

include hinv hon

theorem verdictLate_counts {stamp : Nat} {rest : List Nat} (hwaits : (s.seq l).waits = stamp :: rest)
    (hlate : s.hfSet l 23 * 2712 ≤ (s.tb64 - stamp) * 100) (hfit : s.nat 0x2560_0A + 1 < 2 ^ 32) :
    Completes (.verdictLate l) s fun t => (t.seq l).waits = rest ∧ t.isPending 22 = true ∧ t.nat 0x2560_0A = s.nat 0x2560_0A + 1 := by
  have meaning : exec (.verdictLate l) s = nextWhen (decide (s.hfSet l 23 * 2712 ≤ (s.tb64 - stamp) * 100)) s (s.verdictLate l stamp) := by
    change execVerdictLate l s = _
    unfold execVerdictLate
    rw [hwaits]
  refine completes_of_nextWhen meaning (decide_eq_true hlate) hon ?_
  unfold State.verdictLate
  extract_lets mark looked marked
  generalize hu : marked.updSeq l _ = u
  have path : (u.seq l).waits = rest := by
    rw [← hu, State.updSeq_seq _ _ (show l.val < marked.seqs.length from hinv.seq_lt l)]
    exact (congrArg (List.erase · stamp) hwaits).trans (List.erase_cons_head ..)
  have count : u.nat 0x2560_0A = s.nat 0x2560_0A := by
    rw [← hu, State.updSeq_nat]
    exact looked.nat_setO_ne _ (hfKey_ne_late l (by decide))
  have events : u.OnlyEvents ((u.bump 0x2560_0A).raise 22) := (u.onlyOd_bump _).events.trans (State.onlyEvents_raise _ 22)
  rw [State.finish_seq, State.finish_isPending, State.finish_nat, State.seq_of_seqs events.seqs_eq, path,
    State.nat_of_val (State.val_raise _ 22 (not_eventKey_of_engine ⟨by decide, by decide⟩)), State.nat_bump_same (by rwa [count]), count]
  exact ⟨rfl, State.isPending_raise _ 22 (by decide), rfl⟩

theorem presenceCheck_starts {c : Card} (hdue : s.dueCard l = some c) (hrun : (s.lane l).running = true) (hjob : (s.seq l).job = .none) :
    Completes (.presenceCheck l) s fun t => (t.seq l).job = .presence ∧ (t.seq l).cur = c ∧ (t.seq l).stage = .ready := by
  have meaning : exec (.presenceCheck l) s =
      nextWhen ((s.lane l).running && ((s.seq l).job = .none || (s.seq l).job = .host)) s (s.presenceCheck l c) := by
    change execPresenceCheck l s = _
    unfold execPresenceCheck
    rw [hdue]
  refine completes_of_nextWhen meaning (by simp [hrun, hjob]) hon ?_
  unfold State.presenceCheck
  rw [if_neg (by simp [hjob]), State.finish_seq]
  exact s.presenceStart_seq c (hinv.seq_lt l)

theorem exchTimeout_ends {sensed : List Sensed} {mode t0 : Nat} (hhost : (s.seq l).hostJob = some (mode, t0))
    (htime : s.passedMs t0 (s.nat (hfKey l 6)) = true) (hjob : (s.seq l).job ≠ .host) :
    Completes (.exchTimeout (l, sensed)) s fun t =>
      (t.seq l).hostJob = none ∧ t.nat (hfKey l 1) = 3 ∧ t.nat (hfKey l 5) = 1 ∧ t.isPending 18 = true := by
  have meaning : exec (.exchTimeout (l, sensed)) s = nextWhen (s.passedMs t0 (s.nat (hfKey l 6))) s ((s.sense sensed).exchTimeout l) := by
    change execExchTimeout (l, sensed) s = _
    unfold execExchTimeout
    dsimp only
    rw [hhost]
  refine completes_of_nextWhen meaning htime hon ?_
  have senses := s.sense_seqs sensed
  unfold State.exchTimeout
  rw [State.seq_of_seqs senses]
  dsimp only
  rw [if_neg hjob, State.finish_seq, State.finish_nat, State.finish_nat, State.finish_isPending]
  exact (s.sense sensed).hostEnd_told l .timeout [] (senses ▸ hinv.seq_lt l) nofun

end

theorem State.updHold_same (s : State) (h : Nat) : (s.updHold h fun _ => {}).holds.getD h {} = {} := by
  unfold State.updHold
  by_cases lt : h < s.holds.length
  · simp [List.getD_eq_getElem?_getD, lt]
  · simp [List.getD_eq_getElem?_getD, lt]

theorem State.updHold_ne (s : State) {h g : Nat} (f : Hold → Hold) (hg : g ≠ h) : (s.updHold h f).holds.getD g {} = s.holds.getD g {} := by
  unfold State.updHold
  simp [List.getD_eq_getElem?_getD, List.getElem?_modify_ne, hg.symm]

theorem holdRelease_frees {s : State} {h : Fin 64} (hinv : s.Inv) (hon : s.coreOn = true) (habsent : (s.holds.getD h {}).state = 2)
    (htime : s.nat 0x2501_03 * 27120 ≤ s.tb64 - (s.holds.getD h {}).last) :
    Completes (.holdRelease h) s fun t =>
      t.holds.getD h {} = {} ∧ (∀ g : Fin 64, g ≠ h → t.holds.getD g {} = s.holds.getD g {}) ∧ t.od = s.od := by
  obtain ⟨hod, -⟩ := hinv
  refine completes_of_nextWhen
    (b := decide ((s.holds.getD h {}).state = 2) && decide (s.nat 0x2501_03 * 27120 ≤ s.tb64 - (s.holds.getD h {}).last))
    rfl (by rw [decide_eq_true habsent, decide_eq_true htime]; rfl) hon ⟨?_, fun g hg => ?_, s.od.canon_of_wf hod⟩
  · rw [State.finish_holds, sized_getD _ _ h.isLt]
    exact s.updHold_same h
  · rw [State.finish_holds, sized_getD _ _ g.isLt]
    exact s.updHold_ne _ fun e => hg (Fin.ext e)

end Sys2Proof.Machine
end

section
/-!
SUPPORT. A lane whose cards have left, and the idle measurement of noise on the eight receive paths.
-/

namespace Sys2Proof.Machine

open Sys2Proof

/-! ### A lane that closes -/

theorem State.endWait_lanes_length (s : State) (l : Nat) : (s.endWait l).lanes.length = s.lanes.length := by
  unfold State.endWait
  split
  next t _ =>
    have counted : (s.add (laneKey l 10) (s.sinceUs t)).lanes = s.lanes := (State.onlyOd_setFit s _ 32 _).events.lanes_eq
    rw [State.updLane_lanes_length, counted]
  next => rfl

theorem State.endWait_seqs (s : State) (l : Nat) : (s.endWait l).seqs = s.seqs := by
  unfold State.endWait
  split
  next t _ =>
    have counted : (s.add (laneKey l 10) (s.sinceUs t)).seqs = s.seqs := (State.onlyOd_setFit s _ 32 _).events.seqs_eq
    exact (State.updLane_seqs ..).trans counted
  next => rfl

/-- What a lane that closes withdraws from the ports leaves the sequencers and the lanes. -/
theorem State.leavesEngine_dropComponents (s : State) (l : Nat) : s.LeavesEngine ((List.range 8).foldl (fun t p => t.dropComponent p l) s) :=
  .foldl (fun t _ hp => .dropComponent (.refl t) (List.mem_range.mp hp)) s

theorem State.closeLane_closing (s : State) {l : Nat} (h : l < s.lanes.length) (hrun : (s.lane l).running = true) :
    (s.closeLane l).seqs = s.seqs ∧ ((s.closeLane l).lane l).state = .closing := by
  unfold State.closeLane
  rw [if_pos hrun]
  have drops := (s.endWait l).leavesEngine_dropComponents l
  generalize (List.range 8).foldl (fun t p => t.dropComponent p l) (s.endWait l) = dropped at drops
  have length : l < dropped.lanes.length := by rwa [drops.eq State.lanes, State.endWait_lanes_length]
  dsimp only
  refine ⟨(State.updLane_seqs ..).trans ((drops.eq State.seqs).trans (s.endWait_seqs l)), ?_⟩
  exact congrArg Lane.state (State.updLane_lane _ _ (by exact length))

/-- A lane between exchanges that stops keeps its cards and closes at once. -/
theorem State.stopLane_closing (s : State) {l : Nat} (hseq : l < s.seqs.length) (hlane : l < s.lanes.length) (hidle : (s.seq l).stage = .idle)
    (hrun : (s.lane l).running = true) :
    ((s.stopLane l).seq l).cards = (s.seq l).cards ∧ ((s.stopLane l).seq l).job = .none ∧ ((s.stopLane l).lane l).state = .closing := by
  unfold State.stopLane
  rw [if_neg (by simp [hidle])]
  have rests : ((s.rest l).seq l).cards = (s.seq l).cards ∧ ((s.rest l).seq l).job = .none := by
    unfold State.rest
    rw [State.seq_of_seqs (State.updLane_seqs ..), State.updSeq_seq _ _ hseq]
    unfold Seq.letGo
    split
    · exact ⟨rfl, rfl⟩
    · exact ⟨rfl, rfl⟩
  have lane : ((s.rest l).lane l).running = true := by
    unfold State.rest
    rw [State.updLane_lane _ _ (by exact hlane)]
    exact hrun
  have length : l < (s.rest l).lanes.length := by
    unfold State.rest
    rwa [State.updLane_lanes_length]
  obtain ⟨seqs, closing⟩ := (s.rest l).closeLane_closing length lane
  rw [State.seq_of_seqs seqs]
  exact ⟨rests.1, rests.2, closing⟩

/-! ### Cards that have left -/

/-- t has the sequencers and the lanes of s. -/
def State.SameEngine (s t : State) : Prop := t.seqs = s.seqs ∧ t.lanes = s.lanes

namespace State.SameEngine

theorem refl (s : State) : s.SameEngine s := ⟨rfl, rfl⟩

theorem ite {s t u : State} {c : Prop} [Decidable c] (h : s.SameEngine t) (g : s.SameEngine u) : s.SameEngine (if c then t else u) := by
  split
  · exact h
  · exact g

theorem updHold {s t : State} {i : Nat} {f : Hold → Hold} (h : s.SameEngine t) : s.SameEngine (t.updHold i f) := h

theorem lookUp {s t : State} {xs : List Lookup} (h : s.SameEngine t) : s.SameEngine { t with lookups := xs } := h

theorem raise {s t : State} {e : Nat} (h : s.SameEngine t) : s.SameEngine (t.raise e) :=
  ⟨(t.onlyEvents_raise e).seqs_eq.trans h.1, (t.onlyEvents_raise e).lanes_eq.trans h.2⟩

theorem cardLeft (s : State) (l : Nat) (c : Card) : s.SameEngine (s.cardLeft l c) := by
  unfold State.cardLeft
  split
  · exact .ite (.lookUp (.raise (.updHold (refl s)))) (refl s)
  · exact refl s

end State.SameEngine
theorem presenceTimeout_closes {s : State} {l : Fin 4} {c : Card} (hinv : s.Inv) (hon : s.coreOn = true) (hrun : (s.lane l).running = true)
    (hidle : (s.seq l).stage = .idle) (hcards : (s.seq l).cards = [c]) (htime : s.passedMs c.okT0 (s.nat 0x2501_02) = true) :
    Completes (.presenceTimeout l) s fun t => (t.seq l).cards = [] ∧ (t.seq l).job = .none ∧ (t.lane l).state = .closing := by
  refine completes_of_nextWhen
    (b := (s.lane l).running && (((s.seq l).cards ++ (s.seq l).dropped).any (fun c => s.passedMs c.okT0 (s.nat 0x2501_02)) ||
      ((s.seq l).cards.isEmpty && ((s.seq l).guardDone && s.passedMs (s.seq l).okT0 (s.nat 0x2501_02)) && (s.seq l).job ≠ .poll)))
    rfl (by simp [hrun, hcards, htime]) hon ?_
  unfold State.presenceTimeout
  extract_lets old gone left quiet
  have seqs : left.seqs = s.seqs := foldl_proj State.seqs (fun t c => (State.SameEngine.cardLeft t l c).1) gone s
  have lanes : left.lanes = s.lanes := foldl_proj State.lanes (fun t c => (State.SameEngine.cardLeft t l c).2) gone s
  have inGone : c ∈ gone := List.mem_append_left _ (List.mem_filter.mpr ⟨hcards ▸ List.mem_singleton_self c, htime⟩)
  have sequencer : quiet.seq l = _ := left.updSeq_seq _ (seqs ▸ hinv.seq_lt l)
  have empty : (quiet.seq l).cards = [] := by
    rw [sequencer, State.seq_of_seqs seqs]
    simp [hcards, inGone]
  have stage : (quiet.seq l).stage = .idle := by
    rw [sequencer, State.seq_of_seqs seqs]
    exact hidle
  have running : (quiet.lane l).running = true := by
    rw [State.lane_of_lanes ((left.updSeq_lanes ..).trans lanes)]
    exact hrun
  obtain ⟨cards, job, closing⟩ := quiet.stopLane_closing (by rw [State.updSeq_seqs_length, seqs]; exact hinv.seq_lt l)
    (by rw [State.updSeq_lanes, lanes]; exact hinv.lane_lt l) stage running
  rw [empty, if_pos List.isEmpty_nil, State.finish_seq, State.finish_lane]
  exact ⟨cards.trans empty, job, closing⟩

/-! ### Idle noise -/

/-- What holds before a step of a list comes to hold with it, where the other steps keep both. -/
theorem foldl_at {α : Type} {f : State → α → State} {before after : State → Prop} {a : α}
    (skip : ∀ t, ∀ x ≠ a, before t → before (f t x)) (hit : ∀ t, before t → after (f t a)) (keep : ∀ t, ∀ x ≠ a, after t → after (f t x))
    {l : List α} (nodup : l.Nodup) (mem : a ∈ l) {s : State} (h : before s) : after (l.foldl f s) := by
  induction l generalizing s with
  | nil => exact absurd mem List.not_mem_nil
  | cons x rest ih =>
    obtain ⟨fresh, nodupRest⟩ := List.nodup_cons.mp nodup
    obtain rfl | later := List.mem_cons.mp mem
    · exact List.foldlRecOn rest f (hit s h) fun t ht y hy => keep t y (fun e => fresh (e ▸ hy)) ht
    · exact ih nodupRest later (skip s x (fun e => fresh (e ▸ later)) h)

theorem rxKey_ne_path {p q : Nat} (h : p ≠ q) {i j : Nat} (hi : i < 256) (hj : j < 256) : rxKey p i ≠ rxKey q j := by
  unfold rxKey
  omega

/-- An alert is told of and remembered, and nothing else. -/
theorem State.noiseAlert_kept (s : State) (p : Nat) :
    (s.noiseAlert p).noiseT0 = s.noiseT0 ∧ (s.noiseAlert p).ma = s.ma ∧ ∀ k, engineKey k → (s.noiseAlert p).val k = s.val k := by
  unfold State.noiseAlert
  extract_lets x level hi lo counted
  split
  · have told : counted.OnlyEvents (counted.raisePort 26 p) := State.onlyEvents_raisePort _ 26 p
    refine ⟨?_, ?_, fun k hk => counted.val_raisePort 26 p (not_eventKey_of_engine hk)⟩
    · rw [told]
      rfl
    · rw [told]
      rfl
  · exact ⟨rfl, rfl, fun _ _ => rfl⟩

theorem State.noisePort_kept (s : State) (p dens : Nat) :
    (s.noisePort p dens).noiseT0 = s.noiseT0 ∧ (s.noisePort p dens).ma = s.ma ∧
      ∀ k, engineKey k → k ≠ rxKey p 5 → k ≠ rxKey p 7 → (s.noisePort p dens).val k = s.val k := by
  unfold State.noisePort
  extract_lets sector old prof stored
  obtain ⟨time, angle, entries⟩ := stored.noiseAlert_kept p
  refine ⟨time, angle, fun k hk h5 h7 => ?_⟩
  exact (entries k hk).trans ((State.val_setN_ne _ _ h5).trans (s.val_put_ne _ h7))

/-- The middle of a path's noise profile once density dens is smoothed into the sector of the angle (R113). -/
def State.smoothedMedian (s : State) (p dens : Nat) : Nat :=
  median16 ((s.noiseProfile p).set (s.angle / 4096) (smooth 8 ((s.noiseProfile p).getD (s.angle / 4096) 0) dens))

theorem State.noisePort_median (s : State) (p : Fin 8) (dens : Nat) : (s.noisePort p dens).nat (rxKey p 5) = s.smoothedMedian p dens := by
  unfold State.noisePort
  extract_lets sector old prof stored
  obtain ⟨-, -, entries⟩ := stored.noiseAlert_kept p
  rw [State.nat_of_val (entries _ (engineKey_rx p (by decide)))]
  exact State.nat_setN_same _ _ _

/-- A measurement finds the path as it is in s: same angle, same profile. -/
structure State.NoiseAsIn (s : State) (p : Nat) (t : State) : Prop where
  time : t.noiseT0 = s.now
  acc : t.ma.acc = s.ma.acc
  profile : t.val (rxKey p 7) = s.val (rxKey p 7)

theorem State.NoiseAsIn.smoothedMedian_eq {s t : State} {p : Nat} (h : s.NoiseAsIn p t) (dens : Nat) :
    t.smoothedMedian p dens = s.smoothedMedian p dens := by
  unfold State.smoothedMedian State.noiseProfile State.angle State.oct
  rw [h.acc, h.profile]

theorem State.noiseAsIn_learnHear (s : State) (p : Nat) (levels : List Nat) : s.NoiseAsIn p ({ s with noiseT0 := s.now }.learnHear levels) := by
  unfold State.learnHear
  split
  · exact ⟨rfl, rfl, rfl⟩
  · exact ⟨rfl, rfl, rfl⟩

/-- The measurement of the eight paths gives each its own median. -/
theorem State.noisePorts_median {s t : State} {p : Fin 8} (h : s.NoiseAsIn p t) (dens : Nat → Nat) :
    ((List.range 8).foldl (fun u q => u.noisePort q (dens q)) t).noiseT0 = s.now ∧
      ((List.range 8).foldl (fun u q => u.noisePort q (dens q)) t).nat (rxKey p 5) = s.smoothedMedian p (dens p) := by
  refine foldl_at (before := s.NoiseAsIn p) (after := fun u => u.noiseT0 = s.now ∧ u.nat (rxKey p 5) = s.smoothedMedian p (dens p)) (a := p.val)
    ?skip ?hit ?keep List.nodup_range (List.mem_range.mpr p.isLt) h
  case skip =>
    intro u q hq ⟨time, acc, profile⟩
    obtain ⟨sameTime, sameAngle, sameEntry⟩ := u.noisePort_kept q (dens q)
    have other (i : Nat) (hi : i < 256) : rxKey p 7 ≠ rxKey q i := rxKey_ne_path (Ne.symm hq) (by decide) hi
    exact ⟨sameTime.trans time, (congrArg Angle.acc sameAngle).trans acc,
      (sameEntry _ (engineKey_rx p (by decide)) (other 5 (by decide)) (other 7 (by decide))).trans profile⟩
  case hit =>
    intro u asIn
    obtain ⟨sameTime, -, -⟩ := u.noisePort_kept p (dens p)
    exact ⟨sameTime.trans asIn.time, (u.noisePort_median p (dens p)).trans (asIn.smoothedMedian_eq _)⟩
  case keep =>
    intro u q hq ⟨time, median⟩
    obtain ⟨sameTime, -, sameEntry⟩ := u.noisePort_kept q (dens q)
    have other (i : Nat) (hi : i < 256) : rxKey p 5 ≠ rxKey q i := rxKey_ne_path (Ne.symm hq) (by decide) hi
    have kept := sameEntry _ (engineKey_rx p (by decide)) (other 5 (by decide)) (other 7 (by decide))
    exact ⟨sameTime.trans time, (State.nat_of_val kept).trans median⟩

theorem noiseMeasurement_smooths {s : State} {p : Fin 8} {dens : List (BitVec 16)} (hon : s.coreOn = true)
    (htime : s.passedMs s.noiseT0 (s.nat 0x2410_07) = true) (hquiet : s.noCarrier = true) (hping : s.pinging = false)
    (htag : (s.assigned && s.tagBusy) = false) :
    Completes (.noiseMeasurement dens) s fun t => t.noiseT0 = s.now ∧ t.nat (rxKey p 5) = s.smoothedMedian p (dens.getD p 0).toNat := by
  refine completes_of_nextWhen
    (b := s.passedMs s.noiseT0 (s.nat 0x2410_07) && s.noCarrier && !s.pinging && !(s.assigned && s.tagBusy))
    rfl (by rw [htime, hquiet, hping, htag]; rfl) hon ?_
  rw [State.finish_noiseT0, State.finish_nat]
  exact State.noisePorts_median (s.noiseAsIn_learnHear p (dens.map BitVec.toNat)) fun q => (dens.getD q 0).toNat

end Sys2Proof.Machine
end

section

open Sys2Proof Sys2Proof.Machine

/-- Settles O17: the sequencer's commands by what each leaves of its job, its cards and its verdicts, the closing of the lane by what the
withdrawn components leave, and the noise of a path by the path's own step among the eight. -/
theorem cardsAndHosts : Obligations.CardsAndHosts :=
  ⟨fun _ _ _ _ hinv hon hwaits hlate hfit => verdictLate_counts hinv hon hwaits hlate hfit,
    fun _ _ _ hinv hon hdue hrun hjob => presenceCheck_starts hinv hon hdue hrun hjob,
    fun _ _ _ hinv hon hrun hidle hcards htime => presenceTimeout_closes hinv hon hrun hidle hcards htime,
    fun _ _ hinv hon habsent htime => holdRelease_frees hinv hon habsent htime,
    fun _ _ _ _ _ hinv hon hhost htime hjob => exchTimeout_ends hinv hon hhost htime hjob,
    fun _ _ _ _ hon htime hquiet hping htag => noiseMeasurement_smooths hon htime hquiet hping htag⟩

end

section
/-!
SUPPORT. A free ping that starts on a port whose receive path has a slice in progress, at the eighth pre-emption in a row.
-/

namespace Sys2Proof.Machine

open Sys2Proof

/-- Whatever else of self-test may change with a slice that ends, the occurrence tried last stays. -/
theorem State.sameButSlice_tried {s t : State} (h : s.sameButSlice t) : t.st.tried = s.st.tried := by
  obtain ⟨-, -, -, selftest, -⟩ := h
  have tried := congrArg SelfTest.tried selftest
  exact tried

/-- The module of `eighthPreemption` while an occurrence of port 0's window, slot 3, is open and has had no ping. -/
def eighthPreemptionAtPing : State :=
  { eighthPreemption.setN (frondKey 0 12) 3 with
    now := quantaSecond, fronds := eighthPreemption.fronds.set 0 { state := .absent }
    ma := { eighthPreemption.ma with burgee := eighthPreemption.ma.burgee.set 3 { openAt := some 0, openLen := 1000 } } }

/-- The ping takes the path from the slice, whose group is the first to escalate. -/
theorem eighthPreemptionAtPing_forgets :
    eighthPreemptionAtPing.st.tried = some 0 ∧
      ((eighthPreemptionAtPing.freePing (0 : Fin 8) (0 : BitVec 8).toNat).pingYields (0 : Fin 8)).st.tried = none := by
  decide +kernel

end Sys2Proof.Machine
end

section

open Sys2Proof Sys2Proof.Machine

/-- Refutes O49: its clause on the start of a ping lets the ping end the slice on its port, count it and escalate its group (R162, R379),
but holds the last occurrence of slot 31 tried, which the first group to escalate forgets (R377, R380; log 67). -/
theorem not_engineFrame : ¬ Obligations.EngineFrame := by
  rintro ⟨-, -, starts, -⟩
  have ready : (eighthPreemptionAtPing.freePingReady (0 : Fin 8) && !eighthPreemptionAtPing.lowerPing (0 : Fin 8)) = true := by decide +kernel
  obtain ⟨-, -, -, -, -, -, -, -, -, work, -⟩ :=
    starts (.freePing 0 0) eighthPreemptionAtPing _ (by decide +kernel) rfl (nextWhen_of_on _ ready rfl)
  have kept := State.sameButSlice_tried work
  obtain ⟨stood, forgotten⟩ := eighthPreemptionAtPing_forgets
  rw [State.finish_st, stood, forgotten] at kept
  exact absurd kept (by decide)

end

section
/-!
SUPPORT. One port's Frond: what is made of it by an update, and what slices, receive paths, events and wakes leave of it and of its entries.
-/

namespace Sys2Proof.Machine

open Sys2Proof

/-! ### One Frond and its entries -/

theorem State.Inv.frond_lt {s : State} (h : s.Inv) (p : Fin 8) : p.val < s.fronds.length := by
  obtain ⟨_, _, _, _, _, _, _, _, _, _, fronds, _⟩ := h
  exact fronds.symm ▸ p.isLt

@[simp] theorem State.finish_frond (s t : State) (p : Fin 8) : (s.finish t).frond p = t.frond p :=
  sized_getD (n := 8) ({} : Frond) t.fronds p.isLt

theorem State.frond_of_fronds {s t : State} (h : t.fronds = s.fronds) (p : Nat) : t.frond p = s.frond p := by
  unfold State.frond
  rw [h]

/-- Port p has a Frond, and it is f. -/
def State.FrondIs (s : State) (p : Nat) (f : Frond) : Prop := s.fronds[p]? = some f

theorem State.Inv.frondIs {s : State} (h : s.Inv) (p : Fin 8) : s.FrondIs p (s.frond p) := by
  unfold State.FrondIs State.frond
  simp [List.getD_eq_getElem?_getD, h.frond_lt p]

theorem State.FrondIs.frond_eq {s : State} {p : Nat} {f : Frond} (h : s.FrondIs p f) : s.frond p = f := by
  unfold State.FrondIs at h
  unfold State.frond
  rw [List.getD_eq_getElem?_getD, h, Option.getD_some]

theorem State.FrondIs.of_fronds {s t : State} {p : Nat} {f : Frond} (h : s.FrondIs p f) (same : t.fronds = s.fronds) : t.FrondIs p f := by
  unfold State.FrondIs at *
  rw [same, h]

theorem State.FrondIs.updFrond {s : State} {p : Nat} {f : Frond} (h : s.FrondIs p f) (g : Frond → Frond) : (s.updFrond p g).FrondIs p (g f) := by
  unfold State.FrondIs at *
  simp [State.updFrond, h]

@[simp] theorem State.updFrond_isPending (s : State) (p : Nat) (f : Frond → Frond) (e : Nat) : (s.updFrond p f).isPending e = s.isPending e := rfl

theorem frondKey_ne (p : Nat) {i j : Nat} (h : i ≠ j) : frondKey p i ≠ frondKey p j := by
  unfold frondKey
  omega

/-- The entries of Frond, of the module and of its ports. -/
def frondEntry (k : Nat) : Prop := 0x2600_00 ≤ k ∧ k < 0x2618_00

theorem frondEntry_port (p : Fin 8) {sub : Nat} (hs : sub < 256) : frondEntry (frondKey p sub) := by
  unfold frondEntry frondKey
  omega

theorem frondEntry.engine {k : Nat} (h : frondEntry k) : engineKey k := by
  unfold frondEntry at h
  unfold engineKey
  omega

theorem frondEntry.not_event {k : Nat} (h : frondEntry k) : ¬ eventKey k := not_eventKey_of_engine h.engine

theorem frondEntry.ne_rx {k : Nat} (h : frondEntry k) (p : Fin 8) {sub : Nat} (hs : sub < 256) : k ≠ rxKey p sub := by
  unfold frondEntry at h
  unfold rxKey
  omega

theorem State.int_of_val {s t : State} {k : Nat} (h : t.val k = s.val k) : t.int k = s.int k := by
  unfold State.int
  rw [h]

theorem State.oct_of_val {s t : State} {k : Nat} (h : t.val k = s.val k) : t.oct k = s.oct k := by
  unfold State.oct
  rw [h]

theorem State.OnlyEvents.fronds_eq {s t : State} (h : s.OnlyEvents t) : t.fronds = s.fronds := by rw [h]

theorem State.OnlyEvents.angle_eq {s t : State} (h : s.OnlyEvents t) : t.ma = s.ma := by rw [h]

/-! ### What slices and receive paths leave of Frond -/

/-- t has the Fronds of s, and every entry of Frond reads as in s. -/
structure State.LeavesFrond (s t : State) : Prop where
  fronds : t.fronds = s.fronds
  val : ∀ k, frondEntry k → t.val k = s.val k

namespace State.LeavesFrond

theorem refl (s : State) : s.LeavesFrond s := ⟨rfl, fun _ _ => rfl⟩

theorem trans {s t u : State} (h : s.LeavesFrond t) (g : t.LeavesFrond u) : s.LeavesFrond u :=
  ⟨g.fronds.trans h.fronds, fun k hk => (g.val k hk).trans (h.val k hk)⟩

theorem ite {s t u : State} {c : Prop} [Decidable c] (h : s.LeavesFrond t) (g : s.LeavesFrond u) : s.LeavesFrond (if c then t else u) := by
  split
  · exact h
  · exact g

theorem of_engine {s t : State} (h : s.LeavesEngine t) : s.LeavesFrond t := ⟨h.eq State.fronds, fun k hk => h.val k hk.engine⟩

theorem pingYields (s : State) (p : Nat) : s.LeavesFrond (s.pingYields p) := .of_engine (.sliceYield (.sliceYield (.refl s)))

theorem enterCancel (s : State) (p : Fin 8) (c : CancelState) : s.LeavesFrond (s.enterCancel p c) := by
  refine ⟨?_, fun k hk => s.enterCancel_val c hk.engine fun _ => hk.ne_rx p (by decide)⟩
  unfold State.enterCancel
  extract_lets yielded entered
  have kept : entered.fronds = s.fronds := (s.leavesEngine_yield _ _).eq State.fronds
  split
  · exact kept
  · exact kept

theorem rxMeasure (s : State) (p : Fin 8) : s.LeavesFrond (s.rxMeasure p) := .ite (.enterCancel s p _) (.refl s)

theorem rxMeasured (s : State) (p : Fin 8) : s.LeavesFrond (s.rxMeasured p) := by
  unfold State.rxMeasured
  exact .ite (.enterCancel s p _) (.refl s)

theorem sense (s : State) (xs : List Sensed) : s.LeavesFrond (s.sense xs) := by
  unfold State.sense
  refine ⟨foldl_proj State.fronds (by intro t x; rfl) xs s, fun k hk => State.val_foldl (fun t x _ => ?_) s⟩
  exact (State.val_put_ne _ _ (hk.ne_rx x.port (by decide))).trans (State.val_put_ne t _ (hk.ne_rx x.port (by decide)))

end State.LeavesFrond

/-! ### What follows the decision of a ping -/

/-- t is s after what may follow a ping of port p: a view of the port's Frond, the count of its pings, the impedance shown and every
pending event stay. -/
structure State.FrondStep {α : Type} (view : Frond → α) (p : Nat) (s t : State) : Prop where
  frond : ∀ f, s.FrondIs p f → ∃ g, t.FrondIs p g ∧ view g = view f
  count : t.val (frondKey p 13) = s.val (frondKey p 13)
  shown : t.val (frondKey p 18) = s.val (frondKey p 18)
  pending : ∀ e < 96, s.isPending e = true → t.isPending e = true

namespace State.FrondStep

variable {α : Type} {view : Frond → α} {p : Fin 8} {s t u : State}

theorem refl (s : State) : s.FrondStep view p s := ⟨fun f hf => ⟨f, hf, rfl⟩, rfl, rfl, fun _ _ => id⟩

theorem ite {c : Prop} [Decidable c] (h : s.FrondStep view p t) (g : s.FrondStep view p u) : s.FrondStep view p (if c then t else u) := by
  split
  · exact h
  · exact g

section

variable {g : Frond → Frond} {e q sub zone : Nat} {b : List Byte} {lane wake : Option Nat} (h : s.FrondStep view p t)

include h

theorem trans (g : t.FrondStep view p u) : s.FrondStep view p u where
  frond f hf := by
    obtain ⟨f', hf', same'⟩ := h.frond f hf
    obtain ⟨f'', hf'', same''⟩ := g.frond f' hf'
    exact ⟨f'', hf'', same''.trans same'⟩
  count := g.count.trans h.count
  shown := g.shown.trans h.shown
  pending e he hs := g.pending e he (h.pending e he hs)

/-- Changes of what is neither Frond nor entry. -/
theorem same (fronds : u.fronds = t.fronds) (od : u.od = t.od) : s.FrondStep view p u := by
  have entry (k : Nat) : u.val k = t.val k := by
    unfold State.val
    rw [od]
  refine h.trans ⟨fun f hf => ⟨f, hf.of_fronds fronds, rfl⟩, entry _, entry _, fun e he hs => ?_⟩
  rw [State.isPending_of_nat e (fun k _ _ => entry k) he, hs]

theorem updFrond (hg : ∀ f, view (g f) = view f) : s.FrondStep view p (t.updFrond p g) :=
  h.trans ⟨fun f hf => ⟨g f, hf.updFrond g, hg f⟩, rfl, rfl, fun _ _ => id⟩

theorem raisePort : s.FrondStep view p (t.raisePort e q) :=
  h.trans ⟨fun f hf => ⟨f, hf.of_fronds (t.onlyEvents_raisePort e q).fronds_eq, rfl⟩,
    t.val_raisePort e q (frondEntry_port p (by decide)).not_event, t.val_raisePort e q (frondEntry_port p (by decide)).not_event,
    fun f hf hs => t.isPending_raiseAt_keep e _ _ f hf hs⟩

/-- An entry of the port other than the two that show the ping is written. -/
theorem entry (hu : t.OnlyOd u) (hval : ∀ k, k ≠ frondKey p sub → u.val k = t.val k) (hs : sub < 256) (h13 : 13 ≠ sub)
    (h18 : 18 ≠ sub) : s.FrondStep view p u := by
  refine h.trans ⟨fun f hf => ⟨f, hf.of_fronds hu.events.fronds_eq, rfl⟩, hval _ (frondKey_ne p h13), hval _ (frondKey_ne p h18),
    fun e he pending => ?_⟩
  rw [← pending]
  refine State.isPending_of_nat e (fun k low _ => hval k ?_) he
  unfold frondKey
  omega

theorem setO (hs : sub < 256) (h13 : 13 ≠ sub) (h18 : 18 ≠ sub) : s.FrondStep view p (t.setO (frondKey p sub) b) :=
  h.entry (t.onlyOd_put _ _) (fun _ hk => t.val_put_ne _ hk) hs h13 h18

theorem bump (hs : sub < 256) (h13 : 13 ≠ sub) (h18 : 18 ≠ sub) : s.FrondStep view p (t.bump (frondKey p sub)) :=
  h.entry (t.onlyOd_bump _) (fun _ hk => t.val_bump_ne hk) hs h13 h18

theorem requestLane : s.FrondStep view p (t.requestLane zone lane wake) := by
  unfold State.requestLane
  dsimp only
  split
  · exact h.same rfl rfl
  · exact h.same rfl rfl

theorem frondWake : s.FrondStep view p (t.frondWake p) := by
  unfold State.frondWake
  split
  · exact h
  next z _ =>
    have asked {wakes : List (Nat × Nat)} : s.FrondStep view p { t with wakes := wakes } := h.same rfl rfl
    exact .ite h (.ite (h.bump (by decide) (by decide) (by decide))
      (.raisePort (.requestLane (asked.bump (by decide) (by decide) (by decide)))))

theorem storeBase (hview : ∀ f t0, view { f with storeT0 := t0 } = view f) : s.FrondStep view p (t.storeBase p) := by
  unfold State.storeBase
  exact .ite (.updFrond (h.setO (by decide) (by decide) (by decide)) fun f => hview f _) h

theorem frondDrift (hview : ∀ f b, view { f with drifted := b } = view f) : s.FrondStep view p (t.frondDrift p) := by
  unfold State.frondDrift
  exact .ite (.raisePort (.updFrond h fun f => hview f _)) h

end

end State.FrondStep

/-! ### The states that a decision leads to -/

/-- A Frond that has met an object of class cls (R158). -/
def Frond.seen (f : Frond) (cls : Nat) : Frond := { f with state := .present, cls := cls, onRun := 0, offRun := 0 }

/-- The object is told of (event 28); the action that its class sets is still to come (R160). -/
def State.frondSeen (s : State) (p cls : Nat) : State := (s.updFrond p fun f => f.seen cls).raisePort 28 p

/-- The entry to PRESENT for an object other than an external field. -/
theorem State.frondPresent_of_object (s : State) (p : Nat) {cls : Nat} (hcls : cls ≠ 4) :
    s.frondPresent p cls =
      if (s.frondSeen p cls).actionOf p cls = 1 then (s.frondSeen p cls).frondWake p else s.frondSeen p cls := by
  unfold State.frondPresent
  exact if_neg hcls

/-- The action of a class leaves the Frond as the object made it. -/
theorem State.FrondStep.frondPresent {α : Type} {view : Frond → α} {p : Fin 8} (s : State) {cls : Nat} (hcls : cls ≠ 4) :
    (s.frondSeen p cls).FrondStep view p (s.frondPresent p cls) := by
  rw [s.frondPresent_of_object p hcls]
  exact .ite (.frondWake (.refl _)) (.refl _)

variable {s : State} {p : Fin 8} {f : Frond} (hf : s.FrondIs p f)

include hf

theorem State.FrondIs.frondPresent {cls : Nat} (hcls : cls ≠ 4) :
    (s.frondPresent p cls).FrondIs p (f.seen cls) ∧ (s.frondPresent p cls).isPending 28 = true := by
  have step : (s.frondSeen p cls).FrondStep id p (s.frondPresent p cls) := .frondPresent s hcls
  have seen : (s.frondSeen p cls).FrondIs p (f.seen cls) := (hf.updFrond _).of_fronds (State.onlyEvents_raisePort _ 28 p).fronds_eq
  obtain ⟨g, hg, (rfl : g = _)⟩ := step.frond _ seen
  exact ⟨hg, step.pending 28 (by decide) (State.isPending_raisePort _ 28 p (by decide))⟩

theorem State.FrondIs.frondAbsent : (s.frondAbsent p).FrondIs p { f with state := .absent, cls := 0, onRun := 0, offRun := 0 } :=
  (hf.updFrond _).of_fronds (State.onlyEvents_raisePort _ 29 p).fronds_eq

end Sys2Proof.Machine
end

section
/-!
SUPPORT. The decision of a ping: what every one does first, what Table 7-4 makes of it from each state, and how the command completes.
-/

namespace Sys2Proof.Machine

open Sys2Proof

/-! ### What every decision of a ping with a probe does first -/

/-- The impedance of a decision in pΩ, and what it is away from the baseline (R146). -/
def State.detuning (s : State) (p : Nat) (zu : Int × Int) : Int × Int :=
  (zu.1 * 1000000 - (s.frond p).base.1, zu.2 * 1000000 - (s.frond p).base.2)

/-- The Frond once its ping with detuning d is over. -/
def Frond.pinged (f : Frond) (now : Nat) (d : Int × Int) : Frond :=
  { f with ping := none, overT0 := now, skips := 0, relearn := false, last := d }

/-- The ping is over and counted, and shows its impedance zu (R146). -/
def State.pingCounted (s : State) (p : Nat) (zu : Int × Int) : State :=
  ((s.updFrond p fun f => f.pinged s.now (s.detuning p zu)).bump (frondKey p 13)).setO (frondKey p 18) (leBytesI 4 zu.1 ++ leBytesI 4 zu.2)

/-- It also shows the detuning, and gives the path back (R148). -/
def State.pingShown (s : State) (p : Nat) (zu : Int × Int) : State :=
  ((s.pingCounted p zu).writeDetune p (s.detuning p zu) (s.frond p).base).rxMeasured p

theorem State.pingDecision_of_probed (s : State) (p : Nat) {ping : Ping} (zu : Int × Int) (hext : ping.ext = false) :
    s.pingDecision p ping zu =
      if ping.inLane then
        (if (s.frond p).state = .learn then s.pingShown p zu else (s.pingShown p zu).laneDecide p ping (s.detuning p zu))
      else (s.pingShown p zu).frondDecide p ping (zu.1 * 1000000, zu.2 * 1000000) (s.detuning p zu) := by
  unfold State.pingDecision
  simp only [hext, Bool.false_eq_true, if_false]
  rfl

/-- DETUNE_MAG and DETUNE_ANGLE are written, after at most two draws. -/
theorem State.writeDetune_eq (s : State) (p : Nat) (z b : Int × Int) :
    ∃ (n mag : Nat) (ang : Int), s.writeDetune p z b = (({ s with drawn := n } : State).setN (frondKey p 9) mag).setI (frondKey p 10) ang := by
  unfold State.writeDetune
  dsimp only
  split
  · split
    · exact ⟨_, _, _, rfl⟩
    · exact ⟨_, _, _, rfl⟩
  · split
    · exact ⟨_, _, _, rfl⟩
    · exact ⟨s.drawn, _, _, rfl⟩

theorem State.writeDetune_fronds (s : State) (p : Nat) (z b : Int × Int) : (s.writeDetune p z b).fronds = s.fronds := by
  obtain ⟨n, mag, ang, written⟩ := s.writeDetune_eq p z b
  rw [written]
  rfl

theorem State.writeDetune_val (s : State) (p : Nat) (z b : Int × Int) {k : Nat} (h9 : k ≠ frondKey p 9) (h10 : k ≠ frondKey p 10) :
    (s.writeDetune p z b).val k = s.val k := by
  obtain ⟨n, mag, ang, written⟩ := s.writeDetune_eq p z b
  rw [written]
  exact (State.val_put_ne _ _ h10).trans (State.val_setN_ne _ _ h9)

theorem State.storeBase_val_ne (s : State) (p : Nat) {k : Nat} (h : k ≠ frondKey p 11) : (s.storeBase p).val k = s.val k := by
  unfold State.storeBase
  dsimp only
  split
  · exact State.val_put_ne _ _ h
  · rfl

/-- The entries in which port p shows a ping: DETUNE_MAG, DETUNE_ANGLE, PINGS and Z_LAST. -/
def shownKey (p k : Nat) : Prop := k = frondKey p 9 ∨ k = frondKey p 10 ∨ k = frondKey p 13 ∨ k = frondKey p 18

/-- The state u in which Table 7-4 finds a ping of s that measured zu on port p. -/
structure State.Shown (s u : State) (p : Fin 8) (zu : Int × Int) : Prop where
  frond : u.FrondIs p ((s.frond p).pinged s.now (s.detuning p zu))
  val : ∀ k, frondEntry k → ¬ shownKey p k → u.val k = s.val k
  count : s.nat (frondKey p 13) + 1 < 2 ^ 32 → u.nat (frondKey p 13) = s.nat (frondKey p 13) + 1
  impedance : u.oct (frondKey p 18) = leBytesI 4 zu.1 ++ leBytesI 4 zu.2

/-- Each part of Frond is found as the ping leaves it, where v is s but for what is not Frond's. -/
theorem State.LeavesFrond.shown {s v : State} {p : Fin 8} (h : s.LeavesFrond v) (now : v.now = s.now) (hf : s.FrondIs p (s.frond p))
    (zu : Int × Int) : s.Shown (v.pingShown p zu) p zu := by
  have detuning : v.detuning p zu = s.detuning p zu := by
    unfold State.detuning
    rw [State.frond_of_fronds h.fronds]
  have returned := State.LeavesFrond.rxMeasured ((v.pingCounted p zu).writeDetune p (v.detuning p zu) (v.frond p).base) p
  have entry (k : Nat) (hk : frondEntry k) (h9 : k ≠ frondKey p 9) (h10 : k ≠ frondKey p 10) :
      (v.pingShown p zu).val k = (v.pingCounted p zu).val k :=
    (returned.val k hk).trans (State.writeDetune_val _ _ _ _ h9 h10)
  have old (k : Nat) (hk : frondEntry k) : (v.updFrond p fun f => f.pinged v.now (v.detuning p zu)).val k = s.val k := h.val k hk
  have port (sub : Nat) (hs : sub < 256) : frondEntry (frondKey p sub) := frondEntry_port p hs
  refine ⟨?_, fun k hk hother => ?_, fun hfit => ?_, ?_⟩
  · rw [← now, ← detuning]
    have counted : (v.pingCounted p zu).FrondIs p _ := ((hf.of_fronds h.fronds).updFrond _).of_fronds (State.onlyOd_bump _ _).events.fronds_eq
    exact counted.of_fronds (returned.fronds.trans (State.writeDetune_fronds ..))
  · unfold shownKey at hother
    push Not at hother
    obtain ⟨h9, h10, h13, h18⟩ := hother
    rw [entry k hk h9 h10]
    exact (State.val_put_ne _ _ h18).trans ((State.val_bump_ne _ h13).trans (old k hk))
  · rw [State.nat_of_val (entry _ (port 13 (by decide)) (frondKey_ne p (by decide)) (frondKey_ne p (by decide)))]
    have before := State.nat_of_val (old (frondKey p 13) (port 13 (by decide)))
    refine (State.nat_of_val (State.val_put_ne _ _ (frondKey_ne p (by decide)))).trans ?_
    rw [State.nat_bump_same (by rwa [before]), before]
  · rw [State.oct_of_val (entry _ (port 18 (by decide)) (frondKey_ne p (by decide)) (frondKey_ne p (by decide)))]
    exact State.oct_setO_same _ _ _

/-- A setting of Frond is no entry in which a port shows a ping. -/
theorem State.Shown.val_setting {s u : State} {p : Fin 8} {zu : Int × Int} (h : s.Shown u p zu) {k : Nat} (low : 0x2600_00 ≤ k)
    (high : k < 0x2610_00) : u.val k = s.val k := by
  refine h.val k ⟨low, by omega⟩ ?_
  unfold shownKey frondKey
  omega

theorem State.Shown.nat_onCount {s u : State} {p : Fin 8} {zu : Int × Int} (h : s.Shown u p zu) : u.nat (frondKey p 5) = s.nat (frondKey p 5) := by
  refine State.nat_of_val (h.val _ (frondEntry_port p (by decide)) ?_)
  unfold shownKey frondKey
  omega

theorem State.sense_now (s : State) (xs : List Sensed) : (s.sense xs).now = s.now := by
  unfold State.sense
  exact foldl_proj State.now (by intro t x; rfl) xs s

theorem State.detuning_sense (s : State) (p : Nat) (xs : List Sensed) (zu : Int × Int) : (s.sense xs).detuning p zu = s.detuning p zu := by
  unfold State.detuning
  rw [State.frond_of_fronds (State.LeavesFrond.sense s xs).fronds]

theorem State.Inv.shown {s : State} (hinv : s.Inv) (p : Fin 8) (zu : Int × Int) (sensed : List Sensed) :
    s.Shown ((s.sense sensed).pingShown p zu) p zu :=
  (State.LeavesFrond.sense s sensed).shown (s.sense_now sensed) (hinv.frondIs p) zu

/-! ### What Table 7-4 makes of a ping -/

/-- Table 7-5 has no external field. -/
theorem State.classOf_ne_external (s : State) (deg : Int) : s.classOf deg ≠ 4 := by
  unfold State.classOf
  split
  · decide
  · split
    · decide
    · split <;> decide

theorem State.classOf_of_bounds {s t : State} (h : ∀ k, 0x2600_07 ≤ k → k ≤ 0x2600_0A → t.val k = s.val k) (deg : Int) :
    t.classOf deg = s.classOf deg := by
  unfold State.classOf
  rw [State.int_of_val (h 0x2600_07 (by decide) (by decide)), State.int_of_val (h 0x2600_08 (by decide) (by decide)),
    State.int_of_val (h 0x2600_09 (by decide) (by decide)), State.int_of_val (h 0x2600_0A (by decide) (by decide))]

/-- The ping in progress on a port, and the skips counted since its last one: no transition touches either. -/
def Frond.idle (f : Frond) : Option Ping × Nat := (f.ping, f.skips)

section

variable {s : State} {p : Fin 8} {ping : Ping} {z d : Int × Int}

theorem State.learnPing_idle : s.FrondStep Frond.idle p (s.learnPing p z) := by
  unfold State.learnPing
  exact .ite (.updFrond (.refl s) fun _ => rfl)
    (.storeBase (.setO (.updFrond (.refl s) fun _ => rfl) (by decide) (by decide) (by decide)) fun _ _ => rfl)

theorem State.updateBase_idle {t : State} (h : s.FrondStep Frond.idle p t) : s.FrondStep Frond.idle p (t.updateBase p z) := by
  unfold State.updateBase
  exact .frondDrift (.storeBase (.updFrond h fun _ => rfl) fun _ _ => rfl) fun _ _ => rfl

theorem State.frondPresent_idle {cls : Nat} (hcls : cls ≠ 4) : s.FrondStep Frond.idle p (s.frondPresent p cls) := by
  refine State.FrondStep.trans ?_ (.frondPresent s hcls)
  unfold State.frondSeen
  exact .raisePort (.updFrond (.refl s) fun _ => rfl)

theorem State.frondAbsent_idle {t : State} (h : s.FrondStep Frond.idle p t) : s.FrondStep Frond.idle p (t.frondAbsent p) := by
  unfold State.frondAbsent
  exact .raisePort (.updFrond h fun _ => rfl)

theorem State.disarmAbsorb_idle : s.FrondStep Frond.idle p (s.disarmAbsorb p z) := by
  unfold State.disarmAbsorb
  exact State.frondAbsent_idle
    (.frondDrift (.raisePort (.storeBase (.updFrond (.refl s) fun _ => rfl) fun _ _ => rfl)) fun _ _ => rfl)

theorem State.laneDecide_idle : s.FrondStep Frond.idle p (s.laneDecide p ping d) := by
  unfold State.laneDecide
  extract_lets ls first moved compared
  have compares : s.FrondStep Frond.idle p compared := .updFrond (.refl s) fun _ => rfl
  exact .ite (.raisePort compares) compares

theorem State.frondDecide_idle (hext : ping.ext = false) : s.FrondStep Frond.idle p (s.frondDecide p ping z d) := by
  have counts {g : Frond → Frond} (hg : ∀ f, (g f).idle = f.idle) : s.FrondStep Frond.idle p (s.updFrond p g) := .updFrond (.refl s) hg
  have absent : s.FrondStep Frond.idle p (s.frondAbsent p) := State.frondAbsent_idle (.refl s)
  unfold State.frondDecide
  simp only [hext, Bool.false_eq_true, if_false]
  split
  · exact .ite (.refl s) State.learnPing_idle
  · exact .ite (.ite (State.frondPresent_idle (s.classOf_ne_external _)) (counts fun _ => rfl))
      (.ite (State.updateBase_idle (counts fun _ => rfl)) (counts fun _ => rfl))
  · exact .ite (.ite absent (counts fun _ => rfl)) (counts fun _ => rfl)
  · have seen : (if d = (0, 0) then 5 else s.classOf (deciDegrees (Cx.ofInts d))) ≠ 4 := by
      split
      · decide
      · exact s.classOf_ne_external _
    exact .ite (State.frondPresent_idle seen)
      (.ite State.disarmAbsorb_idle (.ite (.ite absent (counts fun _ => rfl)) (counts fun _ => rfl)))
  · exact .refl s

end

/-! ### LEARN (R156) -/

section

variable {s : State} {p : Fin 8} {f : Frond} (hf : s.FrondIs p f)

include hf

theorem State.FrondIs.learnPing_counts {z : Int × Int} (hmore : f.learned + 1 < s.nat 0x2600_0E) :
    (s.learnPing p z).FrondIs p { f with sum := (f.sum.1 + z.1, f.sum.2 + z.2), learned := f.learned + 1 } := by
  unfold State.learnPing
  rw [hf.frond_eq]
  dsimp only
  rw [if_pos hmore]
  exact hf.updFrond _

/-- What the last ping of LEARN makes of a Frond, the mean being b. -/
def Frond.learnt (f : Frond) (b : Int × Int) : Frond :=
  { f with state := .absent, base := b, sum := (0, 0), learned := 0, drifted := false, onRun := 0, offRun := 0 }

/-- The mean of the pings of LEARN, z the last of them. -/
def Frond.mean (f : Frond) (z : Int × Int) : Int × Int := ((f.sum.1 + z.1) / (f.learned + 1 : Nat), (f.sum.2 + z.2) / (f.learned + 1 : Nat))

theorem State.FrondIs.learnPing_completes {z : Int × Int} (hlast : s.nat 0x2600_0E ≤ f.learned + 1) :
    (∃ g, (s.learnPing p z).FrondIs p g ∧ (g.state, g.base, g.ping) = (.absent, f.mean z, f.ping)) ∧
      (s.learnPing p z).oct (frondKey p 19) = baseBytes (f.mean z) := by
  have learns : s.learnPing p z = ((s.updFrond p fun g => g.learnt (f.mean z)).setO (frondKey p 19) (baseBytes (f.mean z))).storeBase p := by
    unfold State.learnPing
    rw [hf.frond_eq]
    exact if_neg (by omega)
  rw [learns]
  generalize hset : (s.updFrond p fun g => g.learnt (f.mean z)).setO (frondKey p 19) (baseBytes (f.mean z)) = set
  have learnt : set.FrondIs p (f.learnt (f.mean z)) := hset ▸ hf.updFrond _
  have stores : set.FrondStep (fun g => (g.state, g.base, g.ping)) p (set.storeBase p) := .storeBase (.refl set) fun _ _ => rfl
  refine ⟨stores.frond _ learnt, ?_⟩
  rw [State.oct_of_val (set.storeBase_val_ne p (frondKey_ne p (by decide))), ← hset]
  exact State.oct_setO_same _ _ _

/-! ### The object that joins the baseline (Table 7-4) -/

omit hf in
theorem State.frondAbsent_isPending : (s.frondAbsent p).isPending 29 = true := State.isPending_raisePort _ 29 p (by decide)

theorem State.FrondIs.disarmAbsorb {z : Int × Int} :
    (∃ g, (s.disarmAbsorb p z).FrondIs p g ∧ (g.state, g.cls, g.base) = (.absent, 0, z)) ∧
      (s.disarmAbsorb p z).isPending 35 = true ∧ (s.disarmAbsorb p z).isPending 29 = true := by
  have joins := hf.updFrond fun f => { f with base := z, absorb := false }
  unfold State.disarmAbsorb
  dsimp only
  generalize s.updFrond p (fun f => { f with base := z, absorb := false }) = joined at joins ⊢
  have told : ((joined.storeBase p).raisePort 35 p).isPending 35 = true := State.isPending_raisePort _ 35 p (by decide)
  have tells : joined.FrondStep Frond.base p ((joined.storeBase p).raisePort 35 p) := .raisePort (.storeBase (.refl joined) fun _ _ => rfl)
  generalize (joined.storeBase p).raisePort 35 p = stored at told tells ⊢
  have drifts : stored.FrondStep Frond.base p (stored.frondDrift p) := .frondDrift (.refl stored) fun _ _ => rfl
  generalize stored.frondDrift p = drifted at drifts ⊢
  have leaves : drifted.FrondStep Frond.base p (drifted.frondAbsent p) := .raisePort (.updFrond (.refl drifted) fun _ => rfl)
  obtain ⟨g, hg, base⟩ := (tells.trans drifts).frond _ joins
  exact ⟨⟨_, hg.frondAbsent, by rw [base]⟩, (drifts.trans leaves).pending 35 (by decide) told, drifted.frondAbsent_isPending⟩

end

/-! ### The rows of Table 7-4 that a free ping's decision takes -/

section

variable {s : State} {p : Fin 8} {f : Frond} (hf : s.FrondIs p f) {ping : Ping} (htrack : ping.track = false) (hext : ping.ext = false)

include hf htrack hext

theorem State.FrondIs.frondDecide_of_learn (hstate : f.state = .learn) (z d : Int × Int) : s.frondDecide p ping z d = s.learnPing p z := by
  unfold State.frondDecide
  simp [hf.frond_eq, hstate, htrack, hext]

/-- THRESH_ON is reached at the last of ON_COUNT pings. -/
theorem State.FrondIs.frondDecide_of_object {d : Int × Int} (hstate : f.state = .absent) (hon : atLeast d f.base ping.on = true) (hd : d ≠ (0, 0))
    (hrun : s.nat (frondKey p 5) ≤ f.onRun + 1) (z : Int × Int) :
    s.frondDecide p ping z d = s.frondPresent p (s.classOf (deciDegrees (Cx.ofInts d))) := by
  unfold State.frondDecide
  simp [hf.frond_eq, hstate, htrack, hext, thresholdOf, hon, hd, hrun]

omit htrack in
/-- The object in DISARMED is the one that was there at its entry, and is due for absorption. -/
theorem State.FrondIs.frondDecide_of_absorb (hstate : f.state = .disarmed) (habsorb : f.absorb = true) (z : Int × Int) :
    s.frondDecide p ping z f.ref = s.disarmAbsorb p z := by
  unfold State.frondDecide
  simp [hf.frond_eq, hstate, hext, habsorb]

end

end Sys2Proof.Machine
end

section
/-!
SUPPORT. The commands of Frond's pings: what each completes with.
-/

namespace Sys2Proof.Machine

open Sys2Proof

/-! ### Pings that start -/

/-- A path that tracks lends itself to a ping (Table 5-2), and no slice that yields takes it back. -/
theorem State.rxMeasure_lends {s : State} {p : Fin 8} (hlt : p.val < s.rx.length) (htrack : (s.rxp p).cancel = .track) :
    (((s.rxMeasure p).pingYields p).rxp p).cancel = .measure := by
  have yields : (s.rxMeasure p).LeavesEngine ((s.rxMeasure p).pingYields p) := .sliceYield (.sliceYield (.refl _))
  rw [State.rxp_of_rx (yields.eq State.rx)]
  unfold State.rxMeasure
  rw [if_pos htrack, s.enterCancel_rxp _ hlt]
  rfl

/-- A ping that starts leaves the Frond as g makes it, and takes the path where that tracks. -/
theorem State.Inv.pingStarts {s : State} (hinv : s.Inv) (p : Fin 8) (g : Frond → Frond) :
    ((s.finish (((s.updFrond p g).rxMeasure p).pingYields p)).frond p = g (s.frond p)) ∧
      ((s.rxp p).cancel = .track → ((s.finish (((s.updFrond p g).rxMeasure p).pingYields p)).rxp p).cancel = .measure) := by
  have leaves := (State.LeavesFrond.rxMeasure (s.updFrond p g) p).trans (.pingYields _ p)
  rw [State.finish_frond, State.finish_rxp]
  exact ⟨(((hinv.frondIs p).updFrond g).of_fronds leaves.fronds).frond_eq, State.rxMeasure_lends (s := s.updFrond p g) (hinv.rx_lt p)⟩

/-! ### Occurrences without a ping -/

section

variable {s : State} {p : Fin 8}

/-- The open occurrence of a port is read from the angle and from SLOT. -/
theorem State.frondOpening_of_angle {t : State} (angle : t.ma = s.ma) (slot : t.val (frondKey p 12) = s.val (frondKey p 12)) :
    t.frondOpening p = s.frondOpening p := by
  unfold State.frondOpening State.burgeeOpen State.ma32 State.angle
  rw [State.nat_of_val slot, angle]

/-- The skip is counted in the Frond and in SKIPPED. -/
def State.skipCounted (s : State) (p : Nat) : State := (s.updFrond p fun f => { f with skips := (s.frond p).skips + 1 }).bump (frondKey p 14)

/-- Besides, the eighth in a row raises event 34 (R164). -/
theorem State.frondSkip_eq : s.frondSkip p = if (s.frond p).skips + 1 = 8 then (s.skipCounted p).raisePort 34 p else s.skipCounted p := rfl

theorem State.frondSkip_tells : (s.skipCounted p).OnlyEvents (s.frondSkip p) := by
  rw [State.frondSkip_eq]
  split
  · exact State.onlyEvents_raisePort _ 34 p
  · exact .refl _

theorem State.frondSkip_val {sub : Nat} (hs : sub < 256) : (s.frondSkip p).val (frondKey p sub) = (s.skipCounted p).val (frondKey p sub) := by
  rw [State.frondSkip_eq]
  split
  · exact State.val_raisePort _ 34 p (frondEntry_port p hs).not_event
  · rfl

end

/-! ### The commands beside the decision -/

section

variable {s : State} {p : Fin 8} (hinv : s.Inv) (hon : s.coreOn = true)

include hinv hon

theorem freePing_starts {extMv : BitVec 8} (hready : s.freePingReady p = true) (hlower : s.lowerPing p = false) :
    Completes (.freePing p extMv) s fun t =>
      (t.frond p).ping = some (s.newPing p false (decide ((s.rxp p).cancel = .track))
          (decide ((s.rxp p).cancel ≠ .track) && decide (s.nat 0x2600_0B ≤ extMv.toNat))) ∧
        (t.frond p).handled = s.frondOpening p ∧ (t.frond p).state = (s.frond p).state ∧
        ((s.rxp p).cancel = .track → (t.rxp p).cancel = .measure) := by
  refine completes_of_nextWhen (b := s.freePingReady p && !s.lowerPing p) rfl (by rw [hready, hlower]; rfl) hon ?_
  unfold State.freePing
  obtain ⟨frond, lends⟩ := hinv.pingStarts p _
  dsimp only
  rw [frond]
  exact ⟨by simp, rfl, rfl, lends⟩

theorem lanePing_starts (hready : s.lanePingReady p = true) (hlower : s.lowerPing p = false) :
    Completes (.lanePing p) s fun t =>
      (t.frond p).ping = some (s.newPing p true false false) ∧ (t.frond p).laneDue = false ∧ (t.frond p).handled = s.frondOpening p ∧
        ((s.rxp p).cancel = .track → (t.rxp p).cancel = .measure) := by
  refine completes_of_nextWhen (b := s.lanePingReady p && !s.lowerPing p) rfl (by rw [hready, hlower]; rfl) hon ?_
  unfold State.lanePing
  obtain ⟨frond, lends⟩ := hinv.pingStarts p _
  rw [frond]
  exact ⟨rfl, rfl, rfl, lends⟩

theorem occurrenceSkip_counts (hdue : s.skipDue p = true) (hlane : s.lanePingDue p = false) (hfit : s.nat (frondKey p 14) + 1 < 2 ^ 32) :
    Completes (.frondOccurrenceSkip p) s fun t =>
      t.nat (frondKey p 14) = s.nat (frondKey p 14) + 1 ∧ (t.frond p).skips = (s.frond p).skips + 1 ∧
        (t.frond p).handled = s.frondOpening p ∧ ((s.frond p).skips = 7 → t.isPending 34 = true) := by
  have counts : (s.updFrond p fun f => { f with skips := (s.frond p).skips + 1 }).OnlyEvents (s.skipCounted p) := (State.onlyOd_bump _ _).events
  have skips := counts.trans s.frondSkip_tells
  have frond : (s.frondSkip p).FrondIs p _ := ((hinv.frondIs p).updFrond _).of_fronds skips.fronds_eq
  have slot : (s.frondSkip p).val (frondKey p 12) = s.val (frondKey p 12) :=
    (State.frondSkip_val (by decide)).trans (State.val_bump_ne _ (frondKey_ne p (by decide)))
  have opening : (s.frondSkip p).frondOpening p = s.frondOpening p := State.frondOpening_of_angle skips.angle_eq slot
  refine completes_of_nextWhen rfl hdue hon ?_
  unfold State.frondPasses State.frondHandled
  rw [hlane, if_neg Bool.false_ne_true, opening, State.finish_frond, State.finish_nat, State.finish_isPending, (frond.updFrond _).frond_eq]
  refine ⟨(State.nat_of_val (s.frondSkip_val (by decide))).trans (State.nat_bump_same hfit), rfl, rfl, fun seventh => ?_⟩
  rw [State.updFrond_isPending, State.frondSkip_eq, if_pos (by rw [seventh])]
  exact (s.skipCounted p).isPending_raisePort 34 p (by decide)

theorem occurrenceSkip_waits (hdue : s.skipDue p = true) (hlane : s.lanePingDue p = true) :
    Completes (.frondOccurrenceSkip p) s fun t =>
      (t.frond p).laneDue = true ∧ (t.frond p).skips = (s.frond p).skips ∧ (t.frond p).handled = s.frondOpening p ∧ t.od = s.od := by
  obtain ⟨canonical, -⟩ := id hinv
  refine completes_of_nextWhen rfl hdue hon ?_
  unfold State.frondPasses State.frondHandled
  rw [if_pos hlane, State.finish_frond, (((hinv.frondIs p).updFrond _).updFrond _).frond_eq]
  exact ⟨rfl, rfl, rfl, OdStore.canon_of_wf _ canonical⟩

theorem disarmAbsorb_marks (hstate : (s.frond p).state = .disarmed) (hset : s.nat 0x2600_0F ≠ 0)
    (htime : s.passedS (s.frond p).disarmT0 (s.nat 0x2600_0F) = true) :
    Completes (.disarmAbsorb p) s fun t => (t.frond p).absorb = true ∧ (t.frond p).state = .disarmed := by
  refine completes_of_nextWhen
    (b := (s.frond p).state = .disarmed && decide (s.nat 0x2600_0F ≠ 0) && s.passedS (s.frond p).disarmT0 (s.nat 0x2600_0F))
    rfl (by simp [hstate, hset, htime]) hon ?_
  rw [State.finish_frond, ((hinv.frondIs p).updFrond _).frond_eq]
  exact ⟨rfl, hstate⟩

/-! ### Decisions -/

variable {z : BitVec 32 × BitVec 32} {sensed : List Sensed} {ping : Ping} (hping : (s.frond p).ping = some ping)
  (htime : 52 * 347136 ≤ (s.now - ping.t0) * 100) (hquiet : s.quietSince ping.t0 = true) (hext : ping.ext = false)

include hping htime hquiet

omit hinv in
/-- A ping that nothing broke into is decided 5.2 µs after its start. -/
theorem completes_of_decision {post : State → Prop}
    (h : post (s.finish ((s.sense sensed).pingDecision p ping (z.1.toInt, z.2.toInt)))) : Completes (.frondPingDecision p z sensed) s post := by
  refine completes_of_nextWhen (b := decide (52 * 347136 ≤ (s.now - ping.t0) * 100))
    (t := if s.quietSince ping.t0 then (s.sense sensed).pingDecision p ping (z.1.toInt, z.2.toInt) else (s.sense sensed).pingSpoiled p ping)
    ?_ (decide_eq_true htime) hon ?_
  · show execFrondPingDecision p z sensed s = _
    unfold execFrondPingDecision
    rw [hping]
  · rwa [if_pos hquiet]

include hext

/-- It leaves the ping over and counted, and its impedance shown. -/
theorem decision_shows (hfit : s.nat (frondKey p 13) + 1 < 2 ^ 32) :
    Completes (.frondPingDecision p z sensed) s fun t =>
      (t.frond p).ping = none ∧ (t.frond p).skips = 0 ∧ t.oct (frondKey p 18) = leBytesI 4 z.1.toInt ++ leBytesI 4 z.2.toInt ∧
        t.nat (frondKey p 13) = s.nat (frondKey p 13) + 1 := by
  refine completes_of_decision hon hping htime hquiet ?_
  have shown := hinv.shown p (z.1.toInt, z.2.toInt) sensed
  rw [State.pingDecision_of_probed _ _ _ hext]
  generalize (s.sense sensed).pingShown p (z.1.toInt, z.2.toInt) = u at shown ⊢
  generalize hdecided : (if ping.inLane = true then _ else _ : State) = decided
  have step : u.FrondStep Frond.idle p decided :=
    hdecided ▸ .ite (.ite (.refl u) State.laneDecide_idle) (State.frondDecide_idle hext)
  obtain ⟨g, hg, idle⟩ := step.frond _ shown.frond
  obtain ⟨ended, restarted⟩ := Prod.mk.inj idle
  rw [State.finish_frond, State.finish_oct, State.finish_nat, hg.frond_eq, State.oct_of_val step.shown, State.nat_of_val step.count]
  exact ⟨ended, restarted, shown.impedance, shown.count hfit⟩

/-- A free ping is decided by Table 7-4, from a state that shows it. -/
theorem completes_of_freeDecision {post : State → Prop} (hlane : ping.inLane = false)
    (h : ∀ u, s.Shown u p (z.1.toInt, z.2.toInt) →
      post (s.finish (u.frondDecide p ping (z.1.toInt * 1000000, z.2.toInt * 1000000) (s.detuning p (z.1.toInt, z.2.toInt))))) :
    Completes (.frondPingDecision p z sensed) s post := by
  refine completes_of_decision hon hping htime hquiet ?_
  rw [State.pingDecision_of_probed _ _ _ hext, hlane, if_neg Bool.false_ne_true, State.detuning_sense]
  exact h _ (hinv.shown p _ sensed)

variable (hlane : ping.inLane = false) (htrack : ping.track = false)

include hlane htrack

theorem decision_learns (hstate : (s.frond p).state = .learn) (hmore : (s.frond p).learned + 1 < s.nat 0x2600_0E) :
    Completes (.frondPingDecision p z sensed) s fun t =>
      (t.frond p).state = .learn ∧ (t.frond p).learned = (s.frond p).learned + 1 ∧
        (t.frond p).sum = ((s.frond p).sum.1 + z.1.toInt * 1000000, (s.frond p).sum.2 + z.2.toInt * 1000000) ∧ (t.frond p).ping = none := by
  refine completes_of_freeDecision hinv hon hping htime hquiet hext hlane fun u shown => ?_
  rw [shown.frond.frondDecide_of_learn htrack hext hstate, State.finish_frond,
    (shown.frond.learnPing_counts (by rwa [State.nat_of_val (shown.val_setting (by decide) (by decide))])).frond_eq]
  exact ⟨hstate, rfl, rfl, rfl⟩

theorem decision_ends_learning (hstate : (s.frond p).state = .learn) (hlast : s.nat 0x2600_0E ≤ (s.frond p).learned + 1) :
    Completes (.frondPingDecision p z sensed) s fun t =>
      (t.frond p).state = .absent ∧ (t.frond p).base = (s.frond p).mean (z.1.toInt * 1000000, z.2.toInt * 1000000) ∧
        (t.frond p).ping = none ∧ t.oct (frondKey p 19) = baseBytes (t.frond p).base := by
  refine completes_of_freeDecision hinv hon hping htime hquiet hext hlane fun u shown => ?_
  obtain ⟨⟨g, hg, same⟩, stored⟩ := shown.frond.learnPing_completes (z := (z.1.toInt * 1000000, z.2.toInt * 1000000))
    (by rwa [State.nat_of_val (shown.val_setting (by decide) (by decide))])
  obtain ⟨state, base, ended⟩ : g.state = .absent ∧ g.base = _ ∧ g.ping = _ := by simpa using same
  rw [shown.frond.frondDecide_of_learn htrack hext hstate, State.finish_frond, State.finish_oct, hg.frond_eq, base]
  exact ⟨state, rfl, ended, stored⟩

theorem decision_wakes (hstate : (s.frond p).state = .absent)
    (hreached : atLeast (s.detuning p (z.1.toInt, z.2.toInt)) (s.frond p).base ping.on = true)
    (hmoved : (z.1.toInt * 1000000, z.2.toInt * 1000000) ≠ (s.frond p).base) (hrun : s.nat (frondKey p 5) ≤ (s.frond p).onRun + 1) :
    Completes (.frondPingDecision p z sensed) s fun t =>
      (t.frond p).state = .present ∧ (t.frond p).cls = s.classOf (deciDegrees (Cx.ofInts (s.detuning p (z.1.toInt, z.2.toInt)))) ∧
        (t.frond p).ping = none ∧ t.isPending 28 = true := by
  have detuned : s.detuning p (z.1.toInt, z.2.toInt) ≠ (0, 0) := by
    intro zero
    obtain ⟨real, imaginary⟩ := Prod.mk.inj zero
    exact hmoved (Prod.ext (Int.eq_of_sub_eq_zero real) (Int.eq_of_sub_eq_zero imaginary))
  refine completes_of_freeDecision hinv hon hping htime hquiet hext hlane fun u shown => ?_
  have cls (deg : Int) : u.classOf deg = s.classOf deg := State.classOf_of_bounds (fun k low high => shown.val_setting (by omega) (by omega)) deg
  obtain ⟨frond, told⟩ := shown.frond.frondPresent (u.classOf_ne_external (deciDegrees (Cx.ofInts (s.detuning p (z.1.toInt, z.2.toInt)))))
  rw [shown.frond.frondDecide_of_object htrack hext hstate hreached detuned (by rwa [shown.nat_onCount]), State.finish_frond,
    State.finish_isPending, frond.frond_eq]
  exact ⟨rfl, cls _, rfl, told⟩

omit htrack in
theorem decision_absorbs (hstate : (s.frond p).state = .disarmed) (habsorb : (s.frond p).absorb = true)
    (href : (s.frond p).ref = s.detuning p (z.1.toInt, z.2.toInt)) :
    Completes (.frondPingDecision p z sensed) s fun t =>
      (t.frond p).state = .absent ∧ (t.frond p).cls = 0 ∧ (t.frond p).base = (z.1.toInt * 1000000, z.2.toInt * 1000000) ∧
        t.isPending 35 = true ∧ t.isPending 29 = true := by
  refine completes_of_freeDecision hinv hon hping htime hquiet hext hlane fun u shown => ?_
  have decided := shown.frond.frondDecide_of_absorb hext hstate habsorb (z.1.toInt * 1000000, z.2.toInt * 1000000)
  obtain ⟨⟨g, hg, same⟩, drifted, left⟩ := shown.frond.disarmAbsorb (z := (z.1.toInt * 1000000, z.2.toInt * 1000000))
  obtain ⟨state, cls, base⟩ : g.state = .absent ∧ g.cls = 0 ∧ g.base = _ := by simpa using same
  rw [← href, State.finish_frond, State.finish_isPending, State.finish_isPending]
  rw [show (s.frond p).ref = ((s.frond p).pinged s.now (s.detuning p (z.1.toInt, z.2.toInt))).ref from rfl, decided, hg.frond_eq]
  exact ⟨state, cls, base, drifted, left⟩

end

end Sys2Proof.Machine
end

section

open Sys2Proof Sys2Proof.Machine

/-- Settles O18: the commands that start or skip a ping by what they make of one Frond, the decisions by the row of Table 7-4 that each
takes from the state that shows the ping (`State.Shown`). -/
theorem frondPings : Obligations.FrondPings :=
  ⟨fun _ _ _ hinv hon hready hlower => freePing_starts hinv hon hready hlower,
    fun _ _ hinv hon hdue hlane hfit => occurrenceSkip_counts hinv hon hdue hlane hfit,
    fun _ _ hinv hon hdue hlane => occurrenceSkip_waits hinv hon hdue hlane,
    fun _ _ hinv hon hready hlower => lanePing_starts hinv hon hready hlower,
    fun _ _ _ _ _ hinv hon hping htime hquiet hext hfit => decision_shows hinv hon hping htime hquiet hext hfit,
    fun _ _ _ _ _ hinv hon hping htime hquiet hlane htrack hext hstate hmore =>
      decision_learns hinv hon hping htime hquiet hext hlane htrack hstate hmore,
    fun _ _ _ _ _ hinv hon hping htime hquiet hlane htrack hext hstate hlast =>
      decision_ends_learning hinv hon hping htime hquiet hext hlane htrack hstate hlast,
    fun _ _ _ _ _ hinv hon hping htime hquiet hlane htrack hext hstate hreached hmoved hrun =>
      decision_wakes hinv hon hping htime hquiet hext hlane htrack hstate hreached hmoved hrun,
    fun _ _ hinv hon hstate hset htime => disarmAbsorb_marks hinv hon hstate hset htime,
    fun _ _ _ _ _ hinv hon hping htime hquiet hlane _ hext hstate habsorb href =>
      decision_absorbs hinv hon hping htime hquiet hext hlane hstate habsorb href⟩

end

section
/-!
SUPPORT. What a command answers while the core domain is off: the three forms of an answer that ask for it are the fourth under a
condition that then fails.
-/

namespace Sys2Proof.Machine

open Sys2Proof

/-- An event that has not come about changes nothing (log 5); `done` and `nextWhen` are `nextAny` under a condition that has the core
domain on, and an access of the dictionary is one that has it serve. -/
theorem nextAny_of_not {c : Bool} {s t : State} (hc : c = false) : nextAny c s t = .next s := by rw [nextAny_eq, hc, if_neg Bool.false_ne_true]

variable {s : State} (hoff : s.phase = .off)

include hoff

theorem State.coreOn_of_off : s.coreOn = false := by simp [State.coreOn, hoff]

theorem State.coreRuns_of_off : s.coreRuns = false := by simp [State.coreRuns, hoff]

theorem State.powered_of_off : s.powered = false := by simp [State.powered, hoff]

theorem State.serves_of_off (who : Who) : s.serves who = false := by simp [State.serves, hoff]

theorem State.reads_of_off (x : Sess) : s.reads x = false := by cases x <;> exact State.serves_of_off hoff _

/-- An effect under any condition, of the core domain. -/
theorem nextWhen_of_off (c : Bool) (t : State) : nextWhen c s t = .next s :=
  nextAny_of_not (by rw [State.coreOn_of_off hoff, Bool.and_false])

theorem done_of_off (t : State) : done s t = .next s := nextAny_of_not (State.coreOn_of_off hoff)

theorem dictAccess_of_off (who : Who) (k : Nat) (value : Option (List Byte)) : dictAccess who k value s = .next s :=
  nextAny_of_not (State.serves_of_off hoff who)

theorem execSelfTestSlice_of_off (x : SliceStep) : execSelfTestSlice x s = .next s := by
  unfold execSelfTestSlice
  cases x with
  | start | startEscalated => exact done_of_off hoff _
  | passed | preempted | found =>
    dsimp only
    split
    · exact done_of_off hoff _
    · rfl

/-- Commands of one form at once; those that ask whether the thing in progress that they concern is there answer in the same forms in
either case. -/
theorem exec_of_off {c : Instr} (hc : needsNoCore c = false) : exec c s = .next s := by
  cases c with
  | sourceLoss | sourcePresence | switchoverComplete | storeLevelCrossing | voutCurrentLimit | voutFault | voutRetry | lineStateChange
  | coreStart | tagFieldOn | tagFieldLoss | lichenLatchExpiry | inventory | stayQuiet | selectCard | resetToReady | readSingleBlock
  | extendedReadSingleBlock | readMultipleBlocks | extendedReadMultipleBlocks | writeSingleBlock | extendedWriteSingleBlock
  | writeMultipleBlocks | extendedWriteMultipleBlocks | writeAfi | writeDsfid | getSystemInformation | extendedGetSystemInformation
  | getMultipleBlockSecurityStatus | extGetMultiBlockSecurityStatus | tagUnsupportedCommand | getPwdNonce | presentPwd | authBegin
  | authFinish | logout | getTagStatus | stageApply | tagLockoutEnd | rollForward =>
    exact Bool.noConfusion (show true = false from hc)
  | holdMaxExpiry | preferredSourceReturn | uartFrame | claimLockoutEnd | roleIdleExpiry | fwCmdComplete | startGate | startupSurvey
  | readyForService | sleepWake | sleepLimit =>
    exact nextAny_of_not (by simp [hoff, State.gateMetNow, State.readyDue])
  | tbWrap | poweredSecond | halyardTick => exact nextAny_of_not (by simp [State.coreRuns_of_off hoff])
  | shutdown | rstN | watchdogExpiry => exact nextAny_of_not (by simp [State.powered_of_off hoff])
  | port0Release => exact nextAny_of_not (by simp [State.coreOn_of_off hoff])
  | odAddrWrite | odDataAccess | odRead | odAbort | fastRegisterWrite => exact nextAny_of_not (State.reads_of_off hoff _)
  | odWrite via =>
    cases via with
    | command => exact nextAny_of_not (State.reads_of_off hoff _)
    | entry => exact dictAccess_of_off hoff _ _ _
  | selfTestSlice x => exact execSelfTestSlice_of_off hoff x
  | firTailEnd | verdictLate | presenceCheck | exchTimeout | frondPingDecision | gpioPulseEnd | firCheckDone | verdictReady
  | radioTimedStart =>
    dsimp only [exec, execFirTailEnd, execVerdictLate, execPresenceCheck, execExchTimeout, execFrondPingDecision, execGpioPulseEnd,
      execFirCheckDone, execVerdictReady, execRadioTimedStart]
    split <;> exact nextAny_of_not (by simp [State.coreOn_of_off hoff])
  | sceneStep | radioTransitionComplete | radioDeadline | radioTxEnd | radioTestTimeEnd | plTimedStart | plTxEnd | replyCacheExpiry =>
    dsimp only [exec, execSceneStep, execRadioTransitionComplete, execRadioDeadline, execRadioTxEnd, execRadioTestTimeEnd,
      execPlTimedStart, execPlTxEnd, execReplyCacheExpiry]
    split
    · exact nextWhen_of_off hoff _ _
    · rfl
  | radioRxFrame | plRxFrame =>
    dsimp only [exec, execRadioRxFrame, execPlRxFrame]
    split
    · exact done_of_off hoff _
    · rfl
  | frondConfigWrite | gpOutWrite =>
    dsimp only [exec, execFrondConfigWrite, execGpOutWrite]
    split <;> exact dictAccess_of_off hoff _ _ _
  | transactionTimeout | calibrationComplete =>
    dsimp only [exec, execTransactionTimeout, execCalibrationComplete]
    split <;> split
    · exact nextWhen_of_off hoff _ _
    · rfl
    · exact nextWhen_of_off hoff _ _
    · rfl
  | angleRead | firSetWrite | maskWrite | refVectorWrite | pairsWrite | tableWindowWrite | captureValueRead | roleNonce | roleClaim
  | keyWrite | annotate | fwChunkWrite | blankSlotWrite | faultCodeWrite | fieldCapWrite | firMapWrite | portTestModeWrite | surveyCmd
  | teach | hostExchange | pollRequest | baseReset | storeRead | storeWriteGroup | holdWrite | tableInsert | tableDelete | tableLookup
  | tableClearAll | compareValueWrite | compareCtrlWrite | lcCountWrite | lcPrescaleWrite | radioTestModeWrite | notchWrite | tidReset
  | audAckWrite | erase | verifyImage | activate | confirm | revert | attestCmd | testAccess | calRequest | softReset
  | restoreDefaults | sleepCmd | routeWrite | lineModeWrite | gpDirWrite =>
    exact dictAccess_of_off hoff _ _ _
  | _ => exact nextAny_of_not (by simp [State.coreOn_of_off hoff])

end Sys2Proof.Machine
end

section

open Sys2Proof Sys2Proof.Machine

/-- Settles O7: every form of answer but that of the supply, the tag domain and CORE_START asks for a core domain that is on. -/
theorem unpoweredModuleIgnoresCommands : Obligations.UnpoweredModuleIgnoresCommands :=
  fun _ _ hoff hc => exec_of_off hoff hc

end

section
/-!
SUPPORT. A read through the field while a slice on the store is in progress, at the eighth pre-emption in a row.
-/

namespace Sys2Proof.Machine

open Sys2Proof

/-- A well-formed request in the mode that every tag hears. -/
def openRequest : TagReq := { mode := .all, option := false, dual := false, high := true, good := true }

/-- A module without a core supply, its tag READY in a field, whose slice on the store is in progress after seven pre-empted ones in a
row; the last occurrence tried stands from an escalation that is over. -/
def eighthPreemptionAtRead : State :=
  { State.reset with
    tag := { State.reset.tag with state := .ready, field := true }, od := [(groupKey 5 1, .num 7)]
    st := { run := some { group := 5, index := 0 }, tried := some 0 } }

/-- The read takes the store from the slice, whose group is the first to escalate. -/
theorem eighthPreemptionAtRead_forgets :
    eighthPreemptionAtRead.st.tried = some 0 ∧
      (eighthPreemptionAtRead.onRequest openRequest fun t => t.tagRead false (0 : BitVec 8).toNat 1 256).st.tried = none := by
  decide +kernel

end Sys2Proof.Machine
end

section

open Sys2Proof Sys2Proof.Machine

/-- Refutes O50: its first clause lets a read end the slice on the store, count it and escalate its group (R379), but holds the last
occurrence of slot 31 tried, which the first group to escalate forgets (R377, R380; log 67). -/
theorem not_tagFrame : ¬ Obligations.TagFrame := by
  rintro ⟨quiet, -⟩
  obtain ⟨-, -, -, -, -, -, -, -, -, work, -⟩ :=
    quiet (.readSingleBlock openRequest 0) eighthPreemptionAtRead _ (by decide +kernel) rfl rfl
  have kept := State.sameButSlice_tried work
  obtain ⟨stood, forgotten⟩ := eighthPreemptionAtRead_forgets
  rw [State.finish_st, stood] at kept
  exact absurd (forgotten.symm.trans kept) (by decide)

end

section
/-!
SUPPORT. A COMMITTED group whose shadow is longer than what is left of the store from its first block on.
-/

namespace Sys2Proof.Machine

open Sys2Proof

/-- A tag in a field whose COMMITTED group begins at the last block, 991, with a shadow of 33 bytes. -/
def longShadow : State :=
  { State.reset with
    tag := { State.reset.tag with
      state := .ready, field := true, shadow := List.replicate 33 7, commit := { State.reset.tag.commit with first := 991, committed := true } } }

/-- The last byte of the shadow has no place in the store. -/
theorem longShadow_cut : (longShadow.finish longShadow.rollForward).storeByte (32 * 991 + 32) = 0 := by decide +kernel

end Sys2Proof.Machine
end

section

open Sys2Proof Sys2Proof.Machine

/-- Refutes O21: its last clause bounds the first block of the COMMITTED group but not the length of its shadow, and of a shadow of 33
bytes for block 991 the last byte lies past the 992 blocks of the store (R175). -/
theorem not_tagWrites : ¬ Obligations.TagWrites := by
  rintro ⟨-, -, -, -, -, -, -, -, completed⟩
  obtain ⟨-, -, -, held⟩ :=
    (completed longShadow 2600 2350 (by decide +kernel) rfl (by decide) (by decide) (by decide) (by decide) (by decide +kernel)).post_of_exec
      (t := longShadow.finish longShadow.rollForward) rfl
  exact absurd (longShadow_cut.symm.trans (held 32 (by decide))) (by decide +kernel)

end

section
/-!
SUPPORT. The commissioning tag's requests: what a request that is heard is answered from, and what the tag's own operations leave alone.
-/

namespace Sys2Proof.Machine

open Sys2Proof

/-! ### The tag's own state -/

@[simp] theorem State.updTag_tag (s : State) (f : Tag → Tag) : (s.updTag f).tag = f s.tag := rfl
@[simp] theorem State.updTag_store (s : State) (f : Tag → Tag) : (s.updTag f).store = s.store := rfl
@[simp] theorem State.updTag_val (s : State) (f : Tag → Tag) (k : Nat) : (s.updTag f).val k = s.val k := rfl
@[simp] theorem State.updTag_nat (s : State) (f : Tag → Tag) (k : Nat) : (s.updTag f).nat k = s.nat k := rfl
@[simp] theorem State.updTag_now (s : State) (f : Tag → Tag) : (s.updTag f).now = s.now := rfl
@[simp] theorem State.updTag_coreOn (s : State) (f : Tag → Tag) : (s.updTag f).coreOn = s.coreOn := rfl
@[simp] theorem State.updTag_coreRuns (s : State) (f : Tag → Tag) : (s.updTag f).coreRuns = s.coreRuns := rfl
@[simp] theorem State.updTag_isPending (s : State) (f : Tag → Tag) (e : Nat) : (s.updTag f).isPending e = s.isPending e := rfl

/-! ### Counters and events -/

theorem State.OnlyEvents.tag_eq {s t : State} (h : s.OnlyEvents t) : t.tag = s.tag := by rw [h]
theorem State.OnlyEvents.store_eq {s t : State} (h : s.OnlyEvents t) : t.store = s.store := by rw [h]
theorem State.OnlyEvents.now_eq {s t : State} (h : s.OnlyEvents t) : t.now = s.now := by rw [h]

@[simp] theorem State.bump_tag (s : State) (k : Nat) : (s.bump k).tag = s.tag := (s.onlyOd_bump k).events.tag_eq
@[simp] theorem State.bump_store (s : State) (k : Nat) : (s.bump k).store = s.store := (s.onlyOd_bump k).events.store_eq
@[simp] theorem State.setN_tag (s : State) (k n : Nat) : (s.setN k n).tag = s.tag := rfl
@[simp] theorem State.setN_store (s : State) (k n : Nat) : (s.setN k n).store = s.store := rfl
@[simp] theorem State.raise_tag (s : State) (e : Nat) : (s.raise e).tag = s.tag := (s.onlyEvents_raise e).tag_eq
@[simp] theorem State.raise_store (s : State) (e : Nat) : (s.raise e).store = s.store := (s.onlyEvents_raise e).store_eq

theorem State.onlyEvents_tagEvent (s : State) (e : Nat) : s.OnlyEvents (s.tagEvent e) := by
  unfold State.tagEvent
  split
  · exact s.onlyEvents_raise e
  · exact .refl s

theorem State.onlyEvents_tagCount (s : State) (k : Nat) : s.OnlyEvents (s.tagCount k) := by
  unfold State.tagCount
  split
  · exact (s.onlyOd_bump k).events
  · exact .refl s

@[simp] theorem State.tagEvent_tag (s : State) (e : Nat) : (s.tagEvent e).tag = s.tag := (s.onlyEvents_tagEvent e).tag_eq
@[simp] theorem State.tagEvent_store (s : State) (e : Nat) : (s.tagEvent e).store = s.store := (s.onlyEvents_tagEvent e).store_eq
@[simp] theorem State.tagCount_tag (s : State) (k : Nat) : (s.tagCount k).tag = s.tag := (s.onlyEvents_tagCount k).tag_eq
@[simp] theorem State.tagCount_store (s : State) (k : Nat) : (s.tagCount k).store = s.store := (s.onlyEvents_tagCount k).store_eq

theorem State.OnlyEvents.coreOn_eq {s t : State} (h : s.OnlyEvents t) : t.coreOn = s.coreOn := by rw [h]; rfl

@[simp] theorem State.tagCount_coreOn (s : State) (k : Nat) : (s.tagCount k).coreOn = s.coreOn := (s.onlyEvents_tagCount k).coreOn_eq

theorem State.tagEvent_isPending {s : State} {e : Nat} (hon : s.coreOn = true) (he : e < 96) : (s.tagEvent e).isPending e = true := by
  unfold State.tagEvent
  rw [if_pos hon]
  exact s.isPending_raise e he

theorem State.val_tagEvent (s : State) (e : Nat) {k : Nat} (h : ¬ eventKey k) : (s.tagEvent e).val k = s.val k := by
  unfold State.tagEvent
  split
  · exact s.val_raise e h
  · rfl

/-! ### A request that is heard -/

/-- The state that a request is answered from, once the tag hears it. -/
def State.listening (s : State) : State := s.updTag fun t => { t with reply := none, slot := 0 }

theorem State.onRequest_of_heard {s : State} {r : TagReq} (h : s.heardReq r = true) (f : State → State) : s.onRequest r f = f s.listening := by
  unfold State.heardReq at h
  simp only [Bool.and_eq_true, Bool.not_eq_true'] at h
  obtain ⟨⟨⟨⟨answers, good⟩, single⟩, high⟩, hears⟩ := h
  have field : s.tag.state ≠ .noField := by
    unfold State.tagHears at hears
    simp only [Bool.and_eq_true, decide_eq_true_eq] at hears
    exact hears.1
  unfold State.onRequest
  rw [if_neg (by simp [answers, field]), if_neg (by simp [good, single, high]), if_pos hears]
  rfl

/-- A request that is heard is carried out. -/
theorem completes_of_heard {c : Instr} {s : State} {r : TagReq} {f : State → State} {post : State → Prop}
    (hc : exec c s = doneAny s (s.onRequest r f)) (hr : s.heardReq r = true) (h : post (s.finish (f s.listening))) : Completes c s post :=
  ⟨_, hc.trans (doneAny_eq s _), by rwa [State.onRequest_of_heard hr]⟩

@[simp] theorem State.listening_store (s : State) : s.listening.store = s.store := rfl

@[simp] theorem State.listening_nat (s : State) (k : Nat) : s.listening.nat k = s.nat k := rfl
@[simp] theorem State.listening_oct (s : State) (k : Nat) : s.listening.oct k = s.oct k := rfl

@[simp] theorem State.tagReply_reply (s : State) (b : List Byte) : (s.tagReply b).tag.reply = some b := rfl
@[simp] theorem State.tagOk_reply (s : State) (b : List Byte) : (s.tagOk b).tag.reply = some (0x00 :: b) := rfl
@[simp] theorem State.tagError_reply (s : State) (e : Byte) : (s.tagError e).tag.reply = some [0x01, e] := rfl
@[simp] theorem State.tagOk_store (s : State) (b : List Byte) : (s.tagOk b).store = s.store := rfl

end Sys2Proof.Machine
end

section
/-!
SUPPORT. The states of the commissioning tag: the field, the Lichen latch, the selection and the lockout.
-/

namespace Sys2Proof.Machine

open Sys2Proof

/-! ### The field -/

/-- The tag leaves NO FIELD for READY, or for QUIET. -/
def State.rises (s : State) (quiet : Bool) : State :=
  ((s.updTag fun t => { t with state := if quiet then .quiet else .ready, lichen := quiet, field := true }).tagCount 0x2740_01).tagEvent 36

theorem State.rises_facts (s : State) (quiet : Bool) :
    (s.rises quiet).tag.state = (if quiet then .quiet else .ready) ∧ (s.rises quiet).tag.lichen = quiet ∧ (s.rises quiet).tag.field = true ∧
      (s.coreOn = true → (s.rises quiet).isPending 36 = true) := by
  unfold State.rises
  rw [State.tagEvent_tag, State.tagCount_tag]
  exact ⟨rfl, rfl, rfl, fun hon => State.tagEvent_isPending (by rwa [State.tagCount_coreOn]) (by decide)⟩

/-- Where the latch shows `quiet` without a draw, the field brings the tag to the state that it asks for. -/
theorem State.tagFieldOn_eq {s : State} {quiet : Bool} (here : s.lichenNow = (quiet, s))
    (resumed : s.lockResume.lichenNow = (quiet, s.lockResume)) :
    s.tagFieldOn = (if s.tagSupplied then s else s.lockResume).rises quiet := by
  have shown : (if s.tagSupplied then s else s.lockResume).lichenNow = (quiet, if s.tagSupplied then s else s.lockResume) := by
    split
    · exact here
    · exact resumed
  simp only [State.tagFieldOn, shown]
  rfl

theorem State.coreOn_resumed (s : State) : (if s.tagSupplied then s else s.lockResume).coreOn = s.coreOn := by
  split <;> rfl

theorem State.lichenNow_of_clear {s : State} (h : s.tag.lichen = false) : s.lichenNow = (false, s) := by
  unfold State.lichenNow
  rw [if_pos (by simp [h])]

/-- In passive operation the latch still holds for 2 s from the loss of the field (R170). -/
theorem State.lichenNow_of_recent {s : State} (hpassive : s.coreRuns = false) (h : s.tag.lichen = true)
    (htime : s.passedMs s.tag.lostT0 2000 = false) : s.lichenNow = (true, s) := by
  unfold State.lichenNow
  rw [if_neg (by simp [h]), if_neg (by simp [hpassive]), if_pos (by simp [htime])]

theorem tagFieldOn_readies {s : State} (hstate : s.tag.state = .noField) (h : s.tag.lichen = false) :
    Completes .tagFieldOn s fun t =>
      t.tag.state = .ready ∧ t.tag.lichen = false ∧ t.tag.field = true ∧ (s.coreOn = true → t.isPending 36 = true) := by
  refine completes_of_nextAny rfl (decide_eq_true hstate) ?_
  rw [State.finish_tag, State.finish_isPending, State.tagFieldOn_eq (State.lichenNow_of_clear h) (State.lichenNow_of_clear h),
    ← State.coreOn_resumed]
  exact State.rises_facts _ false

theorem tagFieldOn_quiets {s : State} (hpassive : s.coreRuns = false) (hstate : s.tag.state = .noField) (h : s.tag.lichen = true)
    (htime : s.passedMs s.tag.lostT0 2000 = false) : Completes .tagFieldOn s fun t => t.tag.state = .quiet ∧ t.tag.lichen = true := by
  refine completes_of_nextAny rfl (decide_eq_true hstate) ?_
  rw [State.finish_tag, State.tagFieldOn_eq (State.lichenNow_of_recent hpassive h htime)
    (State.lichenNow_of_recent (s := s.lockResume) hpassive h htime)]
  obtain ⟨state, lichen, -⟩ := State.rises_facts (if s.tagSupplied then s else s.lockResume) true
  exact ⟨state, lichen⟩

theorem tagFieldLoss_empties {s : State} (hstate : s.tag.state ≠ .noField) :
    Completes .tagFieldLoss s fun t =>
      t.tag.state = .noField ∧ t.tag.level = .opened ∧ t.tag.nonce = none ∧ t.tag.begun = none ∧ t.tag.lichen = s.tag.lichen ∧
        t.tag.lostT0 = s.now := by
  refine completes_of_nextAny rfl (decide_eq_true hstate) ?_
  rw [State.finish_tag, State.tagFieldLoss, State.tagEvent_tag]
  split <;> exact ⟨rfl, rfl, rfl, rfl, rfl, rfl⟩

theorem lichenLatch_expires {s : State} (hstate : s.tag.state = .noField) (hpassive : s.coreRuns = false)
    (htime : s.passedMs s.tag.lostT0 2000 = true) : Completes .lichenLatchExpiry s fun t => t.tag.lichen = false := by
  by_cases h : s.tag.lichen = true
  · exact completes_of_nextAny rfl (by simp [hstate, h, hpassive, htime]) rfl
  · exact ⟨s, nextAny_of_not (by simp [h]), by simpa using h⟩

/-! ### Requests -/

@[simp] theorem State.slotWait_reply (s : State) (slot : Nat) : (s.slotWait slot).tag.reply = s.tag.reply := by
  unfold State.slotWait
  split <;> rfl

@[simp] theorem State.slotWait_state (s : State) (slot : Nat) : (s.slotWait slot).tag.state = s.tag.state := by
  unfold State.slotWait
  split <;> rfl

theorem inventory_answers {s : State} {r : TagReq} {slots16 : Bool} {mask : List Bool} (hr : s.heardReq r = true) (hall : r.mode = .all)
    (hlen : mask.length ≤ if slots16 then 60 else 64) (hfit : s.maskFits mask = true) :
    Completes (.inventory r none slots16 mask) s fun t =>
      t.tag.reply = some (0x00 :: BitVec.ofNat 8 (s.nat 0x2700_04) :: s.uidAir) ∧ t.tag.state = s.tag.state := by
  refine completes_of_heard rfl hr ?_
  have fits : s.listening.maskFits mask = true := hfit
  rw [if_pos hall, State.finish_tag, State.inventory]
  dsimp only
  rw [if_pos (by simp [fits, hlen]), State.slotWait_reply, State.slotWait_state]
  exact ⟨rfl, rfl⟩

theorem stayQuiet_quiets {s : State} {r : TagReq} {u : List Byte} (hmode : r.mode = .addressed u) (hr : s.heardReq r = true) :
    Completes (.stayQuiet r) s fun t => t.tag.state = .quiet ∧ t.tag.lichen = true ∧ t.tag.reply = none := by
  refine completes_of_heard rfl hr ?_
  rw [hmode]
  exact ⟨rfl, rfl, rfl⟩

/-- A tag that hears an addressed request has its UID. -/
theorem State.uid_of_heard {s : State} {r : TagReq} {u : List Byte} (hmode : r.mode = .addressed u) (hr : s.heardReq r = true) : u = s.uidAir := by
  unfold State.heardReq State.tagHears at hr
  rw [hmode] at hr
  simp only [Bool.and_eq_true, decide_eq_true_eq] at hr
  exact hr.2.2

theorem selectCard_selects {s : State} {r : TagReq} {u : List Byte} (hmode : r.mode = .addressed u) (hr : s.heardReq r = true) :
    Completes (.selectCard r) s fun t => t.tag.state = .selected ∧ t.tag.reply = some [0x00] := by
  refine ⟨_, doneAny_eq s _, ?_⟩
  have uid (t : State) (h : t.uidAir = s.uidAir) : t.selectOther r = t := by
    simp [State.selectOther, hmode, h, State.uid_of_heard hmode hr]
  rw [State.onRequest_of_heard hr, uid _ (by rw [hmode]; rfl), hmode]
  exact ⟨rfl, rfl⟩

theorem resetToReady_readies {s : State} {r : TagReq} {u : List Byte} (hmode : r.mode = .addressed u) (hr : s.heardReq r = true) :
    Completes (.resetToReady r) s fun t => t.tag.state = .ready ∧ t.tag.reply = some [0x00] := by
  refine completes_of_heard rfl hr ?_
  rw [hmode]
  exact ⟨rfl, rfl⟩

theorem tagLockout_ends {s : State} {x : Nat} (h : s.tag.lockLeft = some x) (hsup : s.tagSupplied = true) (htime : x ≤ s.now - s.tag.lockT0) :
    Completes .tagLockoutEnd s fun t => t.tag.lockLeft = none ∧ t.nat 0x2720_04 = 0 ∧ t.nat 0x2740_05 = s.nat 0x2740_05 := by
  refine completes_of_nextAny rfl (by rw [h]; simp [hsup, htime]) ?_
  rw [State.finish_tag, State.finish_nat, State.finish_nat, State.nat_setN_same, State.nat_setN_ne _ _ (by decide)]
  exact ⟨rfl, rfl, rfl⟩

end Sys2Proof.Machine
end

section

open Sys2Proof Sys2Proof.Machine

/-- Settles O19: the field and the latch by Table 8-2, the requests from the state that a tag which hears them answers from. -/
theorem tagStates : Obligations.TagStates :=
  ⟨fun _ _ hstate hclear => tagFieldOn_readies hstate hclear,
    fun _ _ hpassive hstate hset htime => tagFieldOn_quiets hpassive hstate hset htime,
    fun _ _ hstate => tagFieldLoss_empties hstate,
    fun _ _ hstate hpassive htime => lichenLatch_expires hstate hpassive htime,
    fun _ _ _ _ _ hr hall hlen hfit => inventory_answers hr hall hlen hfit,
    fun _ _ _ _ hmode hr => stayQuiet_quiets hmode hr,
    fun _ _ _ _ hmode hr => selectCard_selects hmode hr,
    fun _ _ _ _ hmode hr => resetToReady_readies hmode hr,
    fun _ _ _ hset hsup htime => tagLockout_ends hset hsup htime⟩

end

section
/-!
SUPPORT. A slice on the store that yields, as the tag sees it.
-/

namespace Sys2Proof.Machine

open Sys2Proof

theorem State.leavesEngine_storeBusy (s : State) : s.LeavesEngine s.storeBusy := (State.LeavesEngine.refl s).sliceYield

@[simp] theorem State.storeBusy_tag (s : State) : s.storeBusy.tag = s.tag := s.leavesEngine_storeBusy.eq State.tag
@[simp] theorem State.storeBusy_store (s : State) : s.storeBusy.store = s.store := s.leavesEngine_storeBusy.eq State.store
@[simp] theorem State.storeBusy_now (s : State) : s.storeBusy.now = s.now := s.leavesEngine_storeBusy.eq State.now
@[simp] theorem State.storeBusy_coreOn (s : State) : s.storeBusy.coreOn = s.coreOn :=
  s.leavesEngine_storeBusy.eq State.coreOn (by intro v hv; rw [hv]; rfl)
@[simp] theorem State.storeBusy_coreRuns (s : State) : s.storeBusy.coreRuns = s.coreRuns :=
  s.leavesEngine_storeBusy.eq State.coreRuns (by intro v hv; rw [hv]; rfl)

/-- The entries of the tag, OD 2700 to 2740, stand. -/
theorem State.val_storeBusy (s : State) {k : Nat} (low : 0x2700_00 ≤ k) (high : k < 0x2741_00) : s.storeBusy.val k = s.val k :=
  s.leavesEngine_storeBusy.val k ⟨by omega, by omega⟩

end Sys2Proof.Machine
end

section
/-!
SUPPORT. What the reads of the commissioning tag answer (R175, R176, R182).
-/

namespace Sys2Proof.Machine

open Sys2Proof

variable {s : State} {option : Bool} {b n top : Nat}

/-! ### Blocks -/

theorem State.tagRead_of_long (h : 8 < n) : s.tagRead option b n top = s.tagError 0xA5 := by
  unfold State.tagRead
  rw [if_pos h]

theorem State.tagRead_of_past (hn : n ≤ 8) (h : top < b + n) : s.tagRead option b n top = s.tagError 0x10 := by
  unfold State.tagRead
  rw [if_neg (by omega), if_pos h]

theorem State.tagRead_of_level (hn : n ≤ 8) (htop : b + n ≤ top) (h : ∃ i < n, s.mayReadBlock (b + i) = false) :
    s.tagRead option b n top = s.tagError 0xA3 := by
  obtain ⟨i, hi, barred⟩ := h
  unfold State.tagRead
  rw [if_neg (by omega), if_neg (by omega), if_pos]
  intro all
  exact absurd (List.all_eq_true.mp all i (List.mem_range.mpr hi)) (by simp [barred])

theorem State.tagRead_plain (hn : n ≤ 8) (htop : b + n ≤ top) (h : ∀ i < n, s.mayReadBlock (b + i) = true) :
    s.tagRead false b n top = s.storeBusy.tagOk (s.readBlocks b n) := by
  unfold State.tagRead State.readBlocks
  rw [if_neg (by omega), if_neg (by omega), if_neg (not_not_intro (List.all_eq_true.mpr fun i hi => h i (List.mem_range.mp hi)))]
  simp

/-- A plain read that the tag hears, of blocks that it has and shows at its level. -/
theorem completes_of_read {c : Instr} {r : TagReq} (hc : exec c s = doneAny s (s.onRequest r fun t => t.tagRead r.option b n top))
    (hr : s.heardReq r = true) (hplain : r.option = false) (htop : b + n ≤ top) (hn : n ≤ 8) (h : ∀ i < n, s.mayReadBlock (b + i) = true) :
    Completes c s fun t => t.tag.reply = some (0x00 :: s.readBlocks b n) ∧ t.tag.state = s.tag.state ∧ t.tag.level = s.tag.level := by
  refine completes_of_heard hc hr ?_
  have shown : ∀ i < n, s.listening.mayReadBlock (b + i) = true := h
  rw [hplain, State.tagRead_plain hn htop shown, State.finish_tag, State.tagOk, State.tagReply, State.updTag_tag, State.storeBusy_tag]
  exact ⟨rfl, rfl, rfl⟩

/-- A read that the tag refuses. -/
theorem completes_of_refusedRead {c : Instr} {r : TagReq} {e : Byte}
    (hc : exec c s = doneAny s (s.onRequest r fun t => t.tagRead r.option b n top)) (hr : s.heardReq r = true)
    (h : s.listening.tagRead r.option b n top = s.listening.tagError e) : Completes c s fun t => t.tag.reply = some [0x01, e] := by
  refine completes_of_heard hc hr ?_
  rw [h]
  rfl

/-! ### Security status -/

theorem completes_of_security {c : Instr} {r : TagReq} (hc : exec c s = doneAny s (s.onRequest r fun t => t.tagSecurity b n top))
    (hr : s.heardReq r = true) (htop : b + n ≤ top) :
    Completes c s fun t => t.tag.reply = some (0x00 :: (List.range n).map fun i => s.blockStatus (b + i)) := by
  refine completes_of_heard hc hr ?_
  unfold State.tagSecurity
  rw [if_neg (by omega)]
  rfl

/-! ### Custom commands -/

/-- A custom command of the tag's own manufacturer that is heard is carried out. -/
theorem completes_of_custom {c : Instr} {r : TagReq} {mfg : BitVec 8} {f : State → State} {post : State → Prop}
    (hc : exec c s = doneAny s (s.onCustom r mfg f)) (hr : s.heardReq r = true) (hmfg : mfg.toNat = s.nat 0x2700_02)
    (h : post (s.finish (f s.listening))) : Completes c s post := by
  refine completes_of_heard (f := fun t => if mfg.toNat = t.nat 0x2700_02 then f t else t) hc hr ?_
  have same : mfg.toNat = s.listening.nat 0x2700_02 := hmfg
  rwa [if_pos same]

end Sys2Proof.Machine
end

section

open Sys2Proof Sys2Proof.Machine

/-- Settles O20: every read by the branch of the tag's checks that its conditions lead to, from the state of a tag that hears it. -/
theorem tagReads : Obligations.TagReads :=
  ⟨fun _ _ _ _ hr hplain htop h => completes_of_read rfl hr hplain htop (by decide) h,
    fun _ _ _ _ hr hplain htop h => completes_of_read rfl hr hplain htop (by decide) h,
    fun _ _ _ _ _ hr hplain htop hn h => completes_of_read rfl hr hplain htop hn h,
    fun _ _ _ _ _ hr hplain htop hn h => completes_of_read rfl hr hplain htop hn h,
    fun _ _ _ _ _ hr hlong => completes_of_refusedRead rfl hr (State.tagRead_of_long (Nat.lt_succ_of_le hlong)),
    fun _ _ _ _ hr hpast => completes_of_refusedRead rfl hr (State.tagRead_of_past (by decide) (Nat.lt_succ_of_le hpast)),
    fun _ _ block _ hr hlevel =>
      completes_of_refusedRead rfl hr (State.tagRead_of_level (by decide) block.isLt ⟨0, by decide, hlevel⟩),
    fun _ _ _ hr => completes_of_heard rfl hr (by simp [State.systemInfo]; rfl),
    fun _ _ _ hr => completes_of_heard rfl hr (by simp [State.systemInfo]; rfl),
    fun _ _ _ _ _ hr htop => completes_of_security rfl hr htop,
    fun _ _ _ _ _ hr htop => completes_of_security rfl hr htop,
    fun _ _ _ _ _ hmode hr => completes_of_heard rfl hr (by rw [hmode]; rfl),
    fun _ _ _ _ hr hmfg => completes_of_custom rfl hr hmfg rfl⟩

end

section
/-!
SUPPORT. A group as it joins those in progress and those that wait, and what an audit record leaves alone.
-/

namespace Sys2Proof.Machine

open Sys2Proof

theorem State.Inv.store_canon {s : State} (h : s.Inv) : s.store.canon = s.store := by
  obtain ⟨_, store, _⟩ := h
  exact StoreCells.canon_of_wf s.store store

/-! ### Groups -/

/-- The blocks and the writer of a group: what stays of it when those before it are timed. -/
def Group.isOf (g : Group) (b n : Nat) (field host : Bool) : Bool := decide (g.first = b) && decide (g.n = n) && g.field == field && g.host == host

theorem State.groupAt_eq (s : State) (b n : Nat) (field host : Bool) : s.groupAt b n field host = s.tag.groups.any fun g => g.isOf b n field host := rfl

theorem Group.isOf_timed (g : Group) (t b n : Nat) (field host : Bool) : { g with to_ := t }.isOf b n field host = g.isOf b n field host := rfl

theorem timeGroups_any (b n : Nat) (field host : Bool) (gs : List Group) (t : Nat) :
    ((timeGroups t gs).any fun g => g.isOf b n field host) = gs.any fun g => g.isOf b n field host := by
  induction gs generalizing t with
  | nil => rfl
  | cons g rest ih =>
    rw [timeGroups, List.any_cons, List.any_cons, ih, Group.isOf_timed]

/-- A group that starts stands among those in progress or waiting. -/
theorem Tag.groupStarts_any (t : Tag) (now b n : Nat) (prior data : List Byte) (field host : Bool) :
    ((t.groupStarts now b n prior data field host).groups.any fun g => g.isOf b n field host) = true := by
  rw [Tag.groupStarts, List.any_append, timeGroups_any, List.any_append, List.any_cons]
  simp [Group.isOf]

theorem State.groupAt_of_starts {s : State} {t : Tag} {now b n : Nat} {prior data : List Byte} {field host : Bool}
    (h : s.tag.groups = (t.groupStarts now b n prior data field host).groups) : s.groupAt b n field host = true := by
  rw [State.groupAt_eq, h]
  exact t.groupStarts_any now b n prior data field host

@[simp] theorem State.finish_groupAt (s t : State) (b n : Nat) (field host : Bool) : (s.finish t).groupAt b n field host = t.groupAt b n field host := rfl

/-! ### An audit record -/

theorem State.auditPut_kept {α : Type} (g : State → α) (hg : ∀ {t u : State}, t.OnlyEvents u → g u = g t)
    (ring : ∀ (t : State) (a : List (List Byte)) (b : List Nat), g { t with audit := a, auditTb := b } = g t) (s : State)
    (e : AuditEntry) : g (s.auditPut e) = g s := by
  unfold State.auditPut
  extract_lets seq lost kept counted
  have first : g lost = g s := by
    unfold lost
    split
    · exact hg (s.onlyOd_bump _).events
    · rfl
  have joined : g counted = g s := (hg (kept.onlyOd_setFit _ _ _).events).trans ((ring lost _ _).trans first)
  split
  · exact (hg (counted.onlyEvents_security 2)).trans joined
  · exact joined

@[simp] theorem State.auditPut_tag (s : State) (e : AuditEntry) : (s.auditPut e).tag = s.tag :=
  State.auditPut_kept State.tag State.OnlyEvents.tag_eq (fun _ _ _ => rfl) s e

@[simp] theorem State.auditPut_store (s : State) (e : AuditEntry) : (s.auditPut e).store = s.store :=
  State.auditPut_kept State.store State.OnlyEvents.store_eq (fun _ _ _ => rfl) s e

end Sys2Proof.Machine
end

section
/-!
SUPPORT. Passwords, keys and the system bytes at the tag (R171 to R174, R176).
-/

namespace Sys2Proof.Machine

open Sys2Proof

/-! ### The system bytes -/

/-- What follows a field group's write: its counter, its event and its answer. -/
def State.groupDone (s : State) : State := ((s.bump 0x2740_02).tagEvent 37).tagWritten_

@[simp] theorem State.groupDone_store (s : State) : s.groupDone.store = s.store := by
  unfold State.groupDone State.tagWritten_
  rw [State.updTag_store, State.tagEvent_store, State.bump_store]

@[simp] theorem State.groupDone_reply (s : State) : s.groupDone.tag.reply = some [0x00] := rfl

theorem State.groupDone_groups (s : State) : s.groupDone.tag.groups = s.tag.groups := by
  unfold State.groupDone State.tagWritten_
  rw [State.updTag_tag, State.tagEvent_tag, State.bump_tag]

theorem State.val_groupDone (s : State) {k : Nat} (hk : ¬ eventKey k) (hcount : k ≠ 0x2740_02) : s.groupDone.val k = s.val k := by
  unfold State.groupDone State.tagWritten_
  rw [State.updTag_val, State.val_tagEvent _ _ hk, State.val_bump_ne _ hcount]

/-- A field group that keeps its supply runs to its end (R178). -/
theorem State.fieldGroupRun_of_kept {s : State} {p : TagPower} (h : s.coreRuns = true ∨ p.loss = .none) (write : State → State) :
    s.fieldGroupRun p write = (write s).groupDone := by
  unfold State.fieldGroupRun
  dsimp only
  split
  · rfl
  · next passive =>
    rw [h.resolve_left passive]
    rfl

section

variable (s : State) (block : Nat) (v : BitVec 8)

@[simp] theorem State.systemWrite_store (k : Nat) : (s.systemWrite block k v).store = s.store := by
  unfold State.systemWrite
  dsimp only
  split <;> simp

theorem State.systemWrite_tag (k : Nat) : (s.systemWrite block k v).tag = s.tag.groupStarts s.storeBusy.now block 1 [] [v] true false := by
  unfold State.systemWrite
  dsimp only
  split <;> simp

theorem State.systemWrite_nat {k : Nat} (hk : k = 0x2700_03 ∨ k = 0x2700_04) : (s.systemWrite block k v).nat k = v.toNat := by
  unfold State.systemWrite
  dsimp only
  split
  · rw [State.nat_of_val (State.val_auditPut _ _ (by unfold eventKey; omega) (by omega) (by omega)), State.nat_setN_same]
  · rw [State.nat_setN_same]

end

/-- AFI or DSFID is written as a group of one. -/
theorem completes_of_systemWrite {c : Instr} {s : State} {r : TagReq} {p : TagPower} {block k : Nat} {v : BitVec 8} (hinv : s.Inv)
    (hc : exec c s = doneAny s (s.onRequest r fun t => t.tagSystemWrite r p block k v)) (hk : k = 0x2700_03 ∨ k = 0x2700_04)
    (hr : s.heardReq r = true) (hplain : r.option = false) (hlevel : s.tag.level ≠ .opened) (hgate : s.gateError p = none)
    (hkept : s.coreRuns = true ∨ p.loss = .none) :
    Completes c s fun t => t.nat k = v.toNat ∧ t.tag.reply = some [0x00] ∧ t.groupAt block 1 true false = true ∧ t.store = s.store := by
  refine completes_of_heard hc hr ?_
  have gate : s.listening.gateError p = none := hgate
  have level : s.listening.tag.level ≠ .opened := hlevel
  have run : s.listening.tagSystemWrite r p block k v = (s.listening.systemWrite block k v).groupDone := by
    unfold State.tagSystemWrite
    rw [hplain, if_neg Bool.false_ne_true, if_neg level, gate]
    exact State.fieldGroupRun_of_kept (s := s.listening) hkept _
  rw [run, State.finish_nat, State.finish_tag, State.finish_groupAt, State.finish_store, State.groupDone_reply, State.groupDone_store,
    State.systemWrite_store, State.nat_of_val (State.val_groupDone _ (by unfold eventKey; omega) (by omega)), State.systemWrite_nat _ _ _ hk]
  have groups : (s.listening.systemWrite block k v).groupDone.tag.groups =
      (s.listening.tag.groupStarts s.listening.storeBusy.now block 1 [] [v] true false).groups := by
    rw [State.groupDone_groups, State.systemWrite_tag]
  exact ⟨rfl, rfl, State.groupAt_of_starts groups, hinv.store_canon⟩

/-! ### Passwords -/

/-- A password command outside the lockout is carried out. -/
theorem completes_of_pwd {c : Instr} {s : State} {r : TagReq} {mfg : BitVec 8} {f : State → State} {post : State → Prop}
    (hc : exec c s = doneAny s (s.onCustom r mfg fun t => t.onPwd f)) (hr : s.heardReq r = true) (hmfg : mfg.toNat = s.nat 0x2700_02)
    (hfree : s.tag.lockLeft = none) (h : post (s.finish (f s.listening))) : Completes c s post := by
  refine completes_of_custom hc hr hmfg ?_
  have free : s.listening.tag.lockLeft = none := hfree
  rwa [State.onPwd, free, if_neg (by simp)]

/-- An authentication command outside the lockout is carried out. -/
theorem completes_of_auth {c : Instr} {s : State} {r : TagReq} {mfg : BitVec 8} {f : State → State} {post : State → Prop}
    (hc : exec c s = doneAny s (s.onCustom r mfg fun t => t.onAuth f)) (hr : s.heardReq r = true) (hmfg : mfg.toNat = s.nat 0x2700_02)
    (hfree : s.tag.lockLeft = none) (h : post (s.finish (f s.listening))) : Completes c s post := by
  refine completes_of_custom hc hr hmfg ?_
  have free : s.listening.tag.lockLeft = none := hfree
  rwa [State.onAuth, free, if_neg (by simp)]

/-- An authentication that passes takes its level and forgets the failures (R171, R174). -/
theorem State.authPass_tag (s : State) (l : TagLevel) : (s.authPass l).tag = { s.tag with level := l } := by
  unfold State.authPass
  dsimp only
  split <;> simp

theorem State.authPass_failures (s : State) (l : TagLevel) : (s.authPass l).nat 0x2720_04 = 0 := by
  unfold State.authPass
  dsimp only
  split
  · rw [State.nat_of_val (State.val_tagEvent _ _ (by unfold eventKey; omega)), State.nat_setN_same]
  · exact State.nat_setN_same _ _ _

/-- The third failure in a row: the level falls and the lockout starts (R174). -/
theorem State.authFail_third {s : State} (hcount : s.nat 0x2720_04 = 2) (hfit : s.nat 0x2740_04 + 1 < 2 ^ 32)
    (hfit' : s.nat 0x2740_05 + 1 < 2 ^ 32) :
    s.authFail.tag.level = .opened ∧ s.authFail.tag.nonce = s.tag.nonce ∧ s.authFail.tag.lockLeft = some (usQuanta 10000000) ∧
      s.authFail.nat 0x2740_04 = s.nat 0x2740_04 + 1 ∧ s.authFail.nat 0x2740_05 = s.nat 0x2740_05 + 1 ∧
        s.authFail.tag.reply = some [0x01, 0xA2] := by
  unfold State.authFail
  rw [hcount]
  dsimp only
  rw [if_pos (by decide)]
  simp only [State.tagError, State.tagReply, State.updTag_tag, State.updTag_nat, State.tagEvent_tag, State.bump_tag, State.setN_tag, true_and,
    and_true]
  constructor
  · rw [State.nat_of_val (State.val_tagEvent _ _ (by unfold eventKey; omega)), State.nat_of_val (State.val_bump_ne _ (by decide)),
      State.updTag_nat, State.nat_setN_ne _ _ (by decide)]
    exact State.nat_bump_same hfit
  · have before : ((s.updTag fun t => { t with level := .opened }).bump 0x2740_04).nat 0x2740_05 = s.nat 0x2740_05 :=
      State.nat_of_val (State.val_bump_ne _ (by decide))
    rw [State.nat_of_val (State.val_tagEvent _ _ (by unfold eventKey; omega)), State.nat_bump_same, State.updTag_nat,
      State.nat_setN_ne _ _ (by decide), before]
    rwa [State.updTag_nat, State.nat_setN_ne _ _ (by decide), before]

section

variable {s : State} {mfg : BitVec 8} {r : TagReq} (hr : s.heardReq r = true) (hmfg : mfg.toNat = s.nat 0x2700_02)

include hr hmfg

theorem getPwdNonce_answers (hfree : s.tag.lockLeft = none) :
    Completes (.getPwdNonce r mfg) s fun t =>
      t.tag.nonce = some (BitVec.ofNat 32 (leNat s.freshFour)) ∧ t.tag.reply = some (0x00 :: s.freshFour) ∧ t.drawn = s.drawn + 4 :=
  completes_of_pwd rfl hr hmfg hfree ⟨rfl, rfl, rfl⟩

variable {pn x : BitVec 32}

theorem presentPwd_passes (hfree : s.tag.lockLeft = none) (hnonce : s.tag.nonce = some x) (hset : s.nat 0x2720_01 ≠ 0)
    (hpw : (pn ^^^ x).toNat = s.nat 0x2720_01) :
    Completes (.presentPwd r mfg pn) s fun t =>
      t.tag.level = .password ∧ t.tag.nonce = none ∧ t.nat 0x2720_04 = 0 ∧ t.tag.reply = some [0x00] := by
  refine completes_of_pwd rfl hr hmfg hfree ?_
  have nonce : s.listening.tag.nonce = some x := hnonce
  have pass : s.listening.presentPwd pn = ((s.listening.updTag fun t => { t with nonce := none }).authPass .password).tagOk [] := by
    unfold State.presentPwd
    dsimp only
    rw [State.listening_nat, if_neg hset, nonce, if_pos (by simpa using hpw)]
  rw [pass, State.finish_tag, State.finish_nat, State.tagOk, State.tagReply, State.updTag_tag, State.updTag_nat, State.authPass_failures,
    State.authPass_tag]
  exact ⟨rfl, rfl, rfl, rfl⟩

theorem presentPwd_fails (hfree : s.tag.lockLeft = none) (hnonce : s.tag.nonce = some x) (hset : s.nat 0x2720_01 ≠ 0)
    (hpw : (pn ^^^ x).toNat ≠ s.nat 0x2720_01) (hcount : s.nat 0x2720_04 = 2) (hfit : s.nat 0x2740_04 + 1 < 2 ^ 32)
    (hfit' : s.nat 0x2740_05 + 1 < 2 ^ 32) :
    Completes (.presentPwd r mfg pn) s fun t =>
      t.tag.level = .opened ∧ t.tag.nonce = none ∧ t.tag.lockLeft = some (usQuanta 10000000) ∧ t.nat 0x2740_04 = s.nat 0x2740_04 + 1 ∧
        t.nat 0x2740_05 = s.nat 0x2740_05 + 1 ∧ t.tag.reply = some [0x01, 0xA2] := by
  refine completes_of_pwd rfl hr hmfg hfree ?_
  have nonce : s.listening.tag.nonce = some x := hnonce
  have fail : s.listening.presentPwd pn = (s.listening.updTag fun t => { t with nonce := none }).authFail := by
    unfold State.presentPwd
    dsimp only
    rw [State.listening_nat, if_neg hset, nonce, if_neg (by simpa using hpw)]
  rw [fail]
  simp only [State.finish_tag, State.finish_nat]
  exact State.authFail_third (s := s.listening.updTag fun t => { t with nonce := none }) hcount hfit hfit'

omit x
theorem presentPwd_locked (hlock : s.tag.lockLeft ≠ none) :
    Completes (.presentPwd r mfg pn) s fun t =>
      t.tag.reply = some [0x01, 0xA1] ∧ t.tag.level = s.tag.level ∧ t.nat 0x2720_04 = s.nat 0x2720_04 := by
  refine completes_of_custom rfl hr hmfg ?_
  have locked : s.listening.tag.lockLeft.isSome = true := Option.isSome_iff_ne_none.mpr hlock
  rw [State.onPwd, if_pos locked, State.finish_nat, State.finish_tag, State.tagError, State.tagReply, State.updTag_tag, State.updTag_tag]
  exact ⟨rfl, rfl, rfl⟩

/-! ### Keys -/

theorem authFinish_passes {rndR macR rndT key : List Byte} {slot : Nat} (hfree : s.tag.lockLeft = none)
    (hbegun : s.tag.begun = some (slot, rndT)) (hkey : s.slotSecret slot = some key)
    (hmac : macR = authMac key rndT rndR (0x01 :: s.oct 0x2700_01 ++ rndT ++ rndR)) :
    Completes (.authFinish r mfg rndR macR) s fun t =>
      t.tag.level = .auth slot ∧ t.nat 0x2720_04 = 0 ∧
        t.tag.reply = some (0x00 :: authMac key rndT rndR (0x02 :: s.oct 0x2700_01 ++ rndR ++ rndT)) := by
  refine completes_of_auth rfl hr hmfg hfree ?_
  have begun : s.listening.tag.begun = some (slot, rndT) := hbegun
  have secret : s.listening.slotSecret slot = some key := hkey
  have pass : s.listening.authFinish rndR macR =
      (s.listening.authPass (.auth slot)).tagOk (authMac key rndT rndR (0x02 :: s.oct 0x2700_01 ++ rndR ++ rndT)) := by
    unfold State.authFinish
    rw [begun]
    dsimp only
    rw [secret]
    dsimp only
    rw [State.listening_oct, if_pos hmac]
  rw [pass, State.finish_tag, State.finish_nat, State.tagOk, State.tagReply, State.updTag_tag, State.updTag_nat, State.authPass_failures,
    State.authPass_tag]
  exact ⟨rfl, rfl, rfl⟩

variable {slot : BitVec 8}

theorem authBegin_answers (hfree : s.tag.lockLeft = none) (hslot : slot.toNat ≤ 1) (hkey : noKey (s.oct (0x2720_02 + slot.toNat)) = false) :
    Completes (.authBegin r mfg slot) s fun t => ∃ b, t.tag.begun = some (slot.toNat, b) ∧ t.tag.reply = some (0x00 :: b) ∧ b.length = 8 := by
  refine completes_of_auth rfl hr hmfg hfree ?_
  have secret : s.listening.slotSecret slot.toNat = some (s.oct (0x2720_02 + slot.toNat)) := by
    unfold State.slotSecret
    exact if_pos (by simpa [hslot] using hkey)
  rw [State.authBegin, secret]
  exact ⟨(s.listening.randomBytes 8).1, rfl, rfl, by simp [State.randomBytes]⟩

theorem authBegin_refuses (hfree : s.tag.lockLeft = none) (hnone : s.slotSecret slot.toNat = none) :
    Completes (.authBegin r mfg slot) s fun t => t.tag.reply = some [0x01, 0xA3] ∧ t.tag.begun = s.tag.begun := by
  refine completes_of_auth rfl hr hmfg hfree ?_
  have none : s.listening.slotSecret slot.toNat = none := hnone
  rw [State.authBegin, none]
  exact ⟨rfl, rfl⟩

theorem logout_opens : Completes (.logout r mfg) s fun t => t.tag.level = .opened ∧ t.tag.reply = some [0x00] :=
  completes_of_custom rfl hr hmfg ⟨rfl, rfl⟩

end

end Sys2Proof.Machine
end

section

open Sys2Proof Sys2Proof.Machine

/-- Settles O22: every command by the branch of the tag's checks that its conditions lead to, from the state of a tag that hears it. -/
theorem tagAuthentication : Obligations.TagAuthentication :=
  ⟨fun _ _ _ _ hinv hr hplain hlevel hgate hkept => completes_of_systemWrite hinv rfl (.inl rfl) hr hplain hlevel hgate hkept,
    fun _ _ _ _ hinv hr hplain hlevel hgate hkept => completes_of_systemWrite hinv rfl (.inr rfl) hr hplain hlevel hgate hkept,
    fun _ _ _ _ hr hmfg hfree => getPwdNonce_answers hr hmfg hfree,
    fun _ _ _ _ _ _ hr hmfg hfree hnonce hset hpw => presentPwd_passes hr hmfg hfree hnonce hset hpw,
    fun _ _ _ _ _ _ hr hmfg hfree hnonce hset hpw hcount hfit hfit' =>
      presentPwd_fails hr hmfg hfree hnonce hset hpw hcount hfit hfit',
    fun _ _ _ _ _ hr hmfg hlock => presentPwd_locked hr hmfg hlock,
    fun _ _ _ _ _ hr hmfg hfree hslot hkey => authBegin_answers hr hmfg hfree hslot hkey,
    fun _ _ _ _ _ hr hmfg hfree hnone => authBegin_refuses hr hmfg hfree hnone,
    fun _ _ _ _ _ _ _ _ _ hr hmfg hfree hbegun hkey hmac => authFinish_passes hr hmfg hfree hbegun hkey hmac,
    fun _ _ _ _ hr hmfg => logout_opens hr hmfg⟩

end

section
/-!
SUPPORT. The store's bytes under writes: what is written is read, and nothing else changes, whatever form its cells are in.
-/

namespace Sys2Proof.Machine

open Sys2Proof

/-! ### Cells in any form -/

theorem StoreCells.get_put_ne (m : StoreCells) {a j : Nat} (v : Byte) (h : j ≠ a) : (m.put a v).get j = m.get j := by
  induction m with
  | nil => by_cases hv : v = 0#8 <;> simp [StoreCells.put, StoreCells.get, hv, Ne.symm h]
  | cons x rest ih =>
    obtain ⟨b, w⟩ := x
    simp only [StoreCells.put]
    split
    · simp only [StoreCells.get, ih]
    · split
      · next hb =>
        subst hb
        split <;> simp [StoreCells.get, Ne.symm h]
      · split
        · rfl
        · simp [StoreCells.get, Ne.symm h]

theorem StoreCells.get_put_nonzero (m : StoreCells) (a : Nat) {v : Byte} (hv : v ≠ 0#8) : (m.put a v).get a = v := by
  induction m with
  | nil => simp [StoreCells.put, StoreCells.get, hv]
  | cons x rest ih =>
    obtain ⟨b, w⟩ := x
    simp only [StoreCells.put]
    split
    · next hb => simp only [StoreCells.get, if_neg (Nat.ne_of_lt hb), ih]
    · split <;> simp [StoreCells.get, hv]

theorem StoreCells.get_put_same (m : StoreCells) (a : Nat) {v : Byte} (h : m.wf = true ∨ v ≠ 0) : (m.put a v).get a = v := by
  obtain wf | hv := h
  · rw [StoreCells.get_put m wf, if_pos rfl]
  · exact m.get_put_nonzero a hv

theorem StoreCells.get_write_outside (b : List Byte) (m : StoreCells) {a j : Nat} (h : j < a ∨ a + b.length ≤ j) : (m.write a b).get j = m.get j := by
  induction b generalizing m a with
  | nil => rfl
  | cons x rest ih =>
    rw [List.length_cons] at h
    rw [StoreCells.write, ih _ (by omega)]
    split
    · exact m.get_put_ne x (by omega)
    · rfl

/-- A byte written is read: in canonical form any byte, in any other form one that is not 0. -/
theorem StoreCells.get_write_inside (b : List Byte) (m : StoreCells) {a i : Nat} (hi : i < b.length) (ha : a + i < 31744)
    (h : m.wf = true ∨ b.getD i 0 ≠ 0) : (m.write a b).get (a + i) = b.getD i 0 := by
  induction b generalizing m a i with
  | nil => exact absurd hi (Nat.not_lt_zero i)
  | cons x rest ih =>
    rw [StoreCells.write, if_pos (by omega)]
    cases i with
    | zero =>
      rw [StoreCells.get_write_outside rest _ (by omega)]
      exact m.get_put_same a h
    | succ i =>
      rw [List.length_cons] at hi
      rw [show a + (i + 1) = a + 1 + i by omega, ih (m.put a x) (by omega) (by omega) (h.imp_left (m.wf_put x (by omega)))]
      rfl

theorem StoreCells.get_foldr (m : StoreCells) {j : Nat} (hj : j < 31744) :
    StoreCells.get (m.foldr (fun (c : Host.Cell) (acc : StoreCells) => if c.1 < 31744 then acc.put c.1 c.2 else acc) []) j = m.get j := by
  induction m with
  | nil => rfl
  | cons x rest ih =>
    obtain ⟨b, w⟩ := x
    rw [List.foldr_cons, StoreCells.get]
    by_cases e : b = j
    · rw [if_pos e, if_pos (e ▸ hj), StoreCells.get_put _ (StoreCells.wf_foldr rest), if_pos e.symm]
    · rw [if_neg e, ← ih]
      split
      · exact StoreCells.get_put_ne _ _ (Ne.symm e)
      · rfl

/-- A byte of blocks 0 to 991 is the same in canonical form. -/
theorem StoreCells.get_canon (m : StoreCells) {j : Nat} (hj : j < 31744) : m.canon.get j = m.get j := by
  unfold StoreCells.canon
  split
  · rfl
  · exact m.get_foldr hj

end Sys2Proof.Machine
end

section
/-!
SUPPORT. A group write, said once: the bytes that it leaves, its place among the groups, and what of tag and entries stays (R178 to R182).
-/

namespace Sys2Proof.Machine

open Sys2Proof

/-! ### Bytes spliced -/

theorem splice_length {b v : List Byte} {o : Nat} (h : o + v.length ≤ b.length) : (splice b o v).length = b.length := by
  simp only [splice, List.length_append, List.length_take, List.length_drop]
  omega

theorem splice_getD_outside {b v : List Byte} {o i : Nat} (h : o + v.length ≤ b.length) (hi : i < o ∨ o + v.length ≤ i) :
    (splice b o v).getD i 0 = b.getD i 0 := by
  unfold splice
  obtain low | high := hi
  · rw [List.getD_append _ _ _ _ (by simp; omega), List.getD_append _ _ _ _ (by simp; omega)]
    simp [List.getD_eq_getElem?_getD, low]
  · rw [List.getD_append_right _ _ _ _ (by simp; omega)]
    simp only [List.length_append, List.length_take, List.getD_eq_getElem?_getD, List.getElem?_drop]
    congr 2
    omega

theorem splice_getD_inside {b v : List Byte} {o i : Nat} (h : o + v.length ≤ b.length) (hi : i < v.length) :
    (splice b o v).getD (o + i) 0 = v.getD i 0 := by
  unfold splice
  rw [List.getD_append _ _ _ _ (by simp; omega), List.getD_append_right _ _ _ _ (by simp)]
  simp only [List.length_take]
  congr 1
  omega

/-! ### Home blocks -/

@[simp] theorem State.homeBlock_length (s : State) (b : Nat) : (s.homeBlock b).length = 32 := by simp [State.homeBlock]

@[simp] theorem State.updTag_homeBlock (s : State) (f : Tag → Tag) (b : Nat) : (s.updTag f).homeBlock b = s.homeBlock b := rfl

theorem State.homeBlock_getD (s : State) (b : Nat) {i : Nat} (hi : i < 32) : (s.homeBlock b).getD i 0 = s.storeByte (32 * b + i) := by
  simp [State.homeBlock, List.getD_eq_getElem?_getD, hi]

theorem State.homeBlock_of_bytes {s : State} {b : Nat} {d : List Byte} (hd : d.length = 32)
    (h : ∀ i < 32, s.storeByte (32 * b + i) = d.getD i 0) : s.homeBlock b = d := by
  apply List.ext_getElem
  · rw [State.homeBlock_length, hd]
  · intro i hi hi'
    rw [State.homeBlock_length] at hi
    rw [← List.getD_eq_getElem _ 0, s.homeBlock_getD b hi, h i hi, List.getD_eq_getElem _ _ hi']

theorem State.finish_storeByte (s t : State) {a : Nat} (ha : a < 31744) : (s.finish t).storeByte a = t.storeByte a :=
  t.store.get_canon ha

/-! ### The header's STATE -/

theorem State.stageReady_of_ne {s : State} (before : Nat) (h : s.stageState ≠ 2) : s.stageReady before = s := by
  unfold State.stageReady
  rw [if_neg (by simp [h])]

/-- Where the header's STATE becomes 2, an event and the set's own marks follow, and no more. -/
theorem State.stageReady_kept {α : Type} (g : State → α) (raised : ∀ t e, g (State.raise t e) = g t)
    (marked : ∀ t : State, g (t.updTag fun x => { x with stageDue := true, stageStart := false }) = g t) (s : State) (before : Nat) :
    g (s.stageReady before) = g s := by
  unfold State.stageReady
  split
  · dsimp only
    split
    · exact (marked _).trans (raised s 40)
    · exact raised s 40
  · rfl

@[simp] theorem State.raise_phase (s : State) (e : Nat) : (s.raise e).phase = s.phase := by rw [s.onlyEvents_raise e]

/-! ### The write -/

section

variable (s : State) (b n : Nat) (data : List Byte) (field host : Bool)

/-- The group has joined the others and the blocks hold its data. -/
def State.grouped : State :=
  (s.storeBusy.updTag fun t => t.groupStarts s.now b n ((List.range n).flatMap fun i => s.homeBlock (b + i)) data field host).storeWrite b
    (s.lasting (s.tag.overtaken s.now field host) b n data)

theorem State.groupWrite_eq : s.groupWrite b n data field host = (s.grouped b n data field host).stageReady s.stageState := rfl

theorem State.grouped_tag : (s.grouped b n data field host).tag =
    s.tag.groupStarts s.now b n ((List.range n).flatMap fun i => s.homeBlock (b + i)) data field host := by
  rw [← s.storeBusy_tag]
  rfl

theorem State.groupWrite_store :
    (s.groupWrite b n data field host).store = s.store.write (32 * b) (s.lasting (s.tag.overtaken s.now field host) b n data) := by
  rw [State.groupWrite_eq, State.stageReady_kept State.store State.raise_store (fun _ => rfl), ← s.storeBusy_store]
  rfl

@[simp] theorem State.groupWrite_phase : (s.groupWrite b n data field host).phase = s.phase := by
  rw [State.groupWrite_eq, State.stageReady_kept State.phase State.raise_phase (fun _ => rfl)]
  exact s.leavesEngine_storeBusy.eq State.phase

theorem State.groupWrite_groups :
    (s.groupWrite b n data field host).tag.groups =
      (s.tag.groupStarts s.now b n ((List.range n).flatMap fun i => s.homeBlock (b + i)) data field host).groups := by
  rw [State.groupWrite_eq, State.stageReady_kept (fun t => t.tag.groups) (fun t e => congrArg Tag.groups (t.raise_tag e)) (fun _ => rfl),
    State.grouped_tag]

theorem State.val_groupWrite {k : Nat} (low : 0x2700_00 ≤ k) (high : k < 0x2741_00) : (s.groupWrite b n data field host).val k = s.val k := by
  rw [State.groupWrite_eq, State.stageReady_kept (fun t => t.val k) (fun t e => t.val_raise e (by unfold eventKey; omega)) (fun _ => rfl)]
  exact s.val_storeBusy low high

theorem State.nat_groupWrite {k : Nat} (low : 0x2700_00 ≤ k) (high : k < 0x2741_00) : (s.groupWrite b n data field host).nat k = s.nat k :=
  State.nat_of_val (s.val_groupWrite b n data field host low high)

end

/-! ### Writes of the module -/

/-- The module's groups wait for all others, so none is overtaken (R186). -/
theorem Tag.overtaken_module (t : Tag) (now : Nat) : t.overtaken now false false = [] := by
  simp [Tag.overtaken, Tag.groupRank]

theorem State.lasting_module (s : State) (b n : Nat) (data : List Byte) : s.lasting (s.tag.overtaken s.now false false) b n data = data := by
  rw [Tag.overtaken_module, State.lasting, if_pos rfl]

/-- Of a group that overtakes none which covers its block, the block holds the data. -/
theorem State.lasting_block {s : State} {later : List Group} {b : Nat} {data : List Byte} (h : (later.any fun g => g.covers b) = false)
    (hd : data.length = 32) : s.lasting later b 1 data = data := by
  unfold State.lasting
  split
  · rfl
  · have whole : slice data 0 32 = data := by
      apply List.ext_getElem
      · rw [slice_length, hd]
      · intro i hi _
        rw [slice_length] at hi
        simp [slice, List.getD_eq_getElem?_getD, hd, hi]
    simp only [List.range_one, List.flatMap_cons, List.flatMap_nil, Nat.add_zero, h, Bool.false_eq_true, if_false, Nat.mul_zero, whole,
      List.append_nil]

theorem State.moduleWrite_store (s : State) (b : Nat) (data : List Byte) : (s.moduleWrite b data).store = s.store.write (32 * b) data :=
  (s.groupWrite_store b 1 data false false).trans (congrArg _ (s.lasting_module b 1 data))

theorem State.moduleWrite_storeByte_outside (s : State) (b : Nat) {data : List Byte} {a : Nat} (h : a < 32 * b ∨ 32 * b + data.length ≤ a) :
    (s.moduleWrite b data).storeByte a = s.storeByte a := by
  rw [State.storeByte, State.moduleWrite_store, StoreCells.get_write_outside _ _ h, State.storeByte]

end Sys2Proof.Machine
end

section
/-!
SUPPORT. The header's STATE as the module writes it, and the end of a staged set (R184).
-/

namespace Sys2Proof.Machine

open Sys2Proof

/-! ### STATE of the header -/

theorem State.stageState_of_store {s t : State} (h : t.store = s.store) : t.stageState = s.stageState := by
  unfold State.stageState State.storeByte
  rw [h]

/-- A write that leaves a STATE other than 2 makes no set due. -/
theorem State.groupWrite_stageDue {s : State} {b n : Nat} {data : List Byte} {field host : Bool}
    (h : (s.groupWrite b n data field host).stageState ≠ 2) : (s.groupWrite b n data field host).tag.stageDue = s.tag.stageDue := by
  have state : (s.groupWrite b n data field host).stageState = (s.grouped b n data field host).stageState :=
    State.stageState_of_store (State.stageReady_kept State.store State.raise_store (fun _ => rfl) _ _)
  rw [State.groupWrite_eq, State.stageReady_of_ne _ (state ▸ h), State.grouped_tag]
  rfl

section

variable (s : State) {v : Nat}

theorem State.setStageState_store : (s.setStageState v).store = s.store.write (32 * 16) (splice (s.homeBlock 16) 3 [BitVec.ofNat 8 v]) :=
  s.moduleWrite_store 16 _

theorem State.setStageState_stageState (hpos : v ≠ 0) (hfit : v < 256) : (s.setStageState v).stageState = v := by
  have nonzero : BitVec.ofNat 8 v ≠ 0 := by
    intro h
    have zero := congrArg BitVec.toNat h
    rw [BitVec.toNat_ofNat, Nat.mod_eq_of_lt hfit] at zero
    exact hpos zero
  have spliced : (splice (s.homeBlock 16) 3 [BitVec.ofNat 8 v]).getD 3 0 = BitVec.ofNat 8 v :=
    splice_getD_inside (i := 0) (by simp) (by simp)
  have inside : (splice (s.homeBlock 16) 3 [BitVec.ofNat 8 v]).length = 32 := by rw [splice_length] <;> simp
  unfold State.stageState
  rw [State.storeByte, State.setStageState, State.moduleWrite_store,
    StoreCells.get_write_inside _ _ (by rw [inside]; decide) (by decide) (.inr (by rwa [spliced])), spliced, BitVec.toNat_ofNat,
    Nat.mod_eq_of_lt hfit]

/-- A STATE other than 2 makes no set due. -/
theorem State.setStageState_stageDue (hpos : v ≠ 0) (hfit : v < 256) (hv : v ≠ 2) : (s.setStageState v).tag.stageDue = s.tag.stageDue :=
  State.groupWrite_stageDue (b := 16) (n := 1) (field := false) (host := false) (by
    have state := s.setStageState_stageState hpos hfit
    unfold State.setStageState State.moduleWrite at state
    omega)

@[simp] theorem State.setStageState_phase : (s.setStageState v).phase = s.phase := State.groupWrite_phase ..

theorem State.nat_setStageState {k : Nat} (low : 0x2700_00 ≤ k) (high : k < 0x2741_00) : (s.setStageState v).nat k = s.nat k :=
  State.nat_groupWrite _ _ _ _ _ _ low high

end

/-! ### The end of a set -/

section

variable (s : State) {state : Nat} (result failed : Nat) (hpos : state ≠ 0) (hfit : state < 256) (hstate : state ≠ 2)

/-- The state that a set ends in, before its block 17: STATE, APPLY_RESULT and APPLY_FAIL_REC. -/
def State.setMarked (state result failed : Nat) : State := ((s.setStageState state).setN 0x2710_04 result).setN 0x2710_05 failed

theorem State.setMarked_store : (s.setMarked state result failed).store = (s.setStageState state).store := rfl

/-- Block 17 of a set that ends (Table 8-10). -/
def State.resultBlock (result failed : Nat) : List Byte :=
  slice ([BitVec.ofNat 8 result, 0] ++ leBytes 2 failed ++ leBytes 4 (s.nat 0x2710_06) ++ s.poweredStamp) 0 32

theorem State.stageEnd_eq : s.stageEnd state result failed =
    ((s.setMarked state result failed).moduleWrite 17 ((s.setMarked state result failed).resultBlock result failed)).raise 41 := rfl

theorem State.nat_stageEnd {k : Nat} (low : 0x2700_00 ≤ k) (high : k < 0x2741_00) :
    (s.stageEnd state result failed).nat k = (s.setMarked state result failed).nat k := by
  rw [State.stageEnd_eq, State.nat_of_val (State.val_raise _ 41 (by unfold eventKey; omega)), State.moduleWrite, State.nat_groupWrite _ _ _ _ _ _ low high]

theorem State.stageEnd_result : (s.stageEnd state result failed).nat 0x2710_04 = result := by
  rw [State.nat_stageEnd _ _ _ (by decide) (by decide), State.setMarked, State.nat_setN_ne _ _ (by decide), State.nat_setN_same]

theorem State.stageEnd_failed : (s.stageEnd state result failed).nat 0x2710_05 = failed := by
  rw [State.nat_stageEnd _ _ _ (by decide) (by decide), State.setMarked, State.nat_setN_same]

theorem State.stageEnd_applied : (s.stageEnd state result failed).nat 0x2710_06 = s.nat 0x2710_06 := by
  rw [State.nat_stageEnd _ _ _ (by decide) (by decide), State.setMarked, State.nat_setN_ne _ _ (by decide), State.nat_setN_ne _ _ (by decide),
    State.nat_setStageState _ (by decide) (by decide)]

theorem State.stageEnd_isPending : (s.stageEnd state result failed).isPending 41 = true := State.isPending_raise _ 41 (by decide)

include hpos hfit

theorem State.resultWritten_stageState :
    ((s.setMarked state result failed).moduleWrite 17 ((s.setMarked state result failed).resultBlock result failed)).stageState = state := by
  unfold State.stageState
  rw [State.moduleWrite_storeByte_outside _ _ (by omega), State.storeByte, State.setMarked_store]
  exact s.setStageState_stageState hpos hfit

theorem State.stageEnd_stageState : (s.stageEnd state result failed).stageState = state :=
  (State.stageState_of_store (State.raise_store _ 41)).trans (s.resultWritten_stageState result failed hpos hfit)

include hstate

theorem State.stageEnd_stageDue : (s.stageEnd state result failed).tag.stageDue = s.tag.stageDue := by
  have written := s.resultWritten_stageState result failed hpos hfit
  rw [State.stageEnd_eq, State.raise_tag, State.moduleWrite, State.groupWrite_stageDue (by rw [State.moduleWrite] at written; omega)]
  exact s.setStageState_stageDue hpos hfit hstate

end

/-- A group's counter counts (R180). -/
theorem State.nat_groupDone {s : State} (h : s.nat 0x2740_02 + 1 < 2 ^ 32) : s.groupDone.nat 0x2740_02 = s.nat 0x2740_02 + 1 := by
  unfold State.groupDone State.tagWritten_
  rw [State.updTag_nat, State.nat_of_val (State.val_tagEvent _ 37 (by unfold eventKey; omega)), State.nat_bump_same h]

end Sys2Proof.Machine
end

section
/-!
SUPPORT. The staged set, STAGE_APPLY, the status blocks, HOLD and port 0 (R183 to R188).
-/

namespace Sys2Proof.Machine

open Sys2Proof

/-! ### STAGE_APPLY -/

/-- The header's STATE, ROLE and SEQ as a state finishes. -/
theorem State.finish_stageState (s t : State) : (s.finish t).stageState = t.stageState := by
  unfold State.stageState
  rw [State.finish_storeByte _ _ (by decide)]

theorem State.finish_stageRole (s t : State) : (s.finish t).stageRole = t.stageRole := by
  unfold State.stageRole
  rw [State.finish_storeByte _ _ (by decide)]

theorem State.finish_stageSeq (s t : State) : (s.finish t).stageSeq = t.stageSeq := by
  have bytes : ∀ i ∈ List.range 4, (s.finish t).storeByte (512 + 4 + i) = t.storeByte (512 + 4 + i) := fun i hi =>
    State.finish_storeByte s t (by rw [List.mem_range] at hi; omega)
  unfold State.stageSeq
  rw [List.map_congr_left bytes]

/-- The header that STAGE_APPLY writes: STATE 2 and the role of the level (R183). -/
def State.appliedHeader (s : State) : List Byte := splice (splice (s.homeBlock 16) 3 [2]) 16 [BitVec.ofNat 8 s.levelRole]

theorem State.appliedHeader_length (s : State) : s.appliedHeader.length = 32 := by
  rw [State.appliedHeader, splice_length] <;> rw [splice_length] <;> simp

theorem State.appliedHeader_getD (s : State) {i : Nat} (hi : i < 32) :
    s.appliedHeader.getD i 0 = if i = 16 then BitVec.ofNat 8 s.levelRole else if i = 3 then 2 else s.storeByte (512 + i) := by
  have inner : (splice (s.homeBlock 16) 3 [2]).length = 32 := by rw [splice_length] <;> simp
  unfold State.appliedHeader
  split
  · next h =>
    subst h
    exact splice_getD_inside (i := 0) (by rw [inner]; simp) (by simp)
  · next h =>
    rw [splice_getD_outside (by rw [inner]; simp) (by simp; omega)]
    split
    · next h =>
      subst h
      exact splice_getD_inside (i := 0) (by simp) (by simp)
    · rw [splice_getD_outside (by simp) (by simp; omega), State.homeBlock_getD _ _ hi]

/-- A set's header that STAGE_APPLY has written, with no group overtaken that writes it afterwards. -/
theorem State.storeByte_appliedHeader {s : State} (hwf : s.store.wf = true) (hover : s.overtakenAt 16 true = false) {i : Nat} (hi : i < 32) :
    (s.groupWrite 16 1 s.appliedHeader true false).storeByte (512 + i) =
      if i = 16 then BitVec.ofNat 8 s.levelRole else if i = 3 then 2 else s.storeByte (512 + i) := by
  have held : s.lasting (s.tag.overtaken s.now true false) 16 1 s.appliedHeader = s.appliedHeader :=
    State.lasting_block hover s.appliedHeader_length
  rw [State.storeByte, State.groupWrite_store, held, ← s.appliedHeader_getD hi]
  exact StoreCells.get_write_inside _ _ (by rw [s.appliedHeader_length]; exact hi) (by omega) (.inl hwf)

theorem stageApply_applies {s : State} {r : TagReq} {p : TagPower} {mfg : BitVec 8} {seq : BitVec 32} (hinv : s.Inv)
    (hr : s.heardReq r = true) (hmfg : mfg.toNat = s.nat 0x2700_02) (hplain : r.option = false) (hlevel : s.stageLevel = true)
    (hseq : seq.toNat = s.stageSeq) (hstate : s.stageState = 1) (hgate : s.gateError p = none) (hover : s.overtakenAt 16 true = false)
    (hloss : p.loss = .none) (hfit : s.nat 0x2740_02 + 1 < 2 ^ 32) :
    Completes (.stageApply r p mfg seq) s fun t =>
      t.stageState = 2 ∧ t.stageRole = s.levelRole % 256 ∧ t.stageSeq = s.stageSeq ∧ t.tag.reply = some [0x00] ∧
        t.nat 0x2740_02 = s.nat 0x2740_02 + 1 ∧ t.groupAt 16 1 true false = true := by
  refine completes_of_custom rfl hr hmfg ?_
  have level : s.listening.stageLevel = true := hlevel
  have same : seq.toNat = s.listening.stageSeq := hseq
  have waiting : s.listening.stageState = 1 := hstate
  have gate : s.listening.gateError p = none := hgate
  have run : s.listening.stageApply r p seq = (s.listening.groupWrite 16 1 s.listening.appliedHeader true false).groupDone := by
    unfold State.stageApply
    rw [hplain, if_neg Bool.false_ne_true, if_neg (not_not_intro level), if_neg (by simp [same, waiting]), gate]
    exact State.fieldGroupRun_of_kept (.inr hloss) _
  have header {i : Nat} (hi : i < 32) := State.storeByte_appliedHeader (s := s.listening) hinv.2.1 hover hi
  have kept : (s.listening.groupWrite 16 1 s.listening.appliedHeader true false).groupDone.store =
      (s.listening.groupWrite 16 1 s.listening.appliedHeader true false).store := State.groupDone_store _
  have groups := (State.groupDone_groups _).trans (s.listening.groupWrite_groups 16 1 s.listening.appliedHeader true false)
  rw [run, State.finish_stageState, State.finish_stageRole, State.finish_stageSeq, State.finish_nat, State.finish_groupAt]
  refine ⟨?_, ?_, ?_, rfl, ?_, State.groupAt_of_starts groups⟩
  · rw [State.stageState_of_store kept, State.stageState, header (by decide)]
    rfl
  · rw [State.stageRole, State.storeByte, kept, ← State.storeByte, header (by decide)]
    exact BitVec.toNat_ofNat _ _
  · have bytes : ∀ i ∈ List.range 4, (s.listening.groupWrite 16 1 s.listening.appliedHeader true false).groupDone.storeByte (512 + 4 + i) =
        s.storeByte (512 + 4 + i) := by
      intro i hi
      rw [List.mem_range] at hi
      rw [State.storeByte, kept, ← State.storeByte, Nat.add_assoc, header (by omega), if_neg (by omega), if_neg (by omega)]
      rfl
    rw [State.stageSeq, List.map_congr_left bytes, State.stageSeq]
  · have counted : (s.listening.groupWrite 16 1 s.listening.appliedHeader true false).nat 0x2740_02 = s.nat 0x2740_02 :=
      State.nat_groupWrite _ _ _ _ _ _ (by decide) (by decide)
    rw [State.nat_groupDone (by rwa [counted]), counted]

theorem stageApply_refuses {s : State} {r : TagReq} {p : TagPower} {mfg : BitVec 8} {seq : BitVec 32} (hinv : s.Inv)
    (hr : s.heardReq r = true) (hmfg : mfg.toNat = s.nat 0x2700_02) (hplain : r.option = false) (hlevel : s.stageLevel = true)
    (hseq : seq.toNat ≠ s.stageSeq) : Completes (.stageApply r p mfg seq) s fun t => t.tag.reply = some [0x01, 0x12] ∧ t.store = s.store := by
  refine completes_of_custom rfl hr hmfg ?_
  have level : s.listening.stageLevel = true := hlevel
  have other : seq.toNat ≠ s.listening.stageSeq := hseq
  rw [State.stageApply, hplain, if_neg Bool.false_ne_true, if_neg (not_not_intro level), if_pos (by simp [other])]
  exact ⟨rfl, hinv.store_canon⟩

/-! ### The staged set -/

/-- A set that waits, is free to go on and is still to be applied (R184, R327). -/
theorem completes_of_staged {s : State} {post : State → Prop} (hservice : s.phase = .service) (hpower : s.power ≠ .sleep)
    (hhalt : s.halted = false) (hdue : s.tag.stageDue = true) (hfree : s.actionWaits = false) (hempty : (s.queue 3).items = [])
    (hdone : s.tag.commit.committed = false) (hallowed : s.stageAllowed = true)
    (h : post (s.finish (s.updTag fun t => { t with stageDue := false }).applySet)) : Completes .stagedSetApply s post := by
  refine completes_of_nextWhen
    (t := if s.stageAllowed then (s.updTag fun t => { t with stageDue := false }).applySet else s.updTag fun t => { t with stageDue := false })
    rfl (by simp [hservice, hdue, hhalt, hfree, hempty, hdone]) (by simp [State.coreOn, hservice, hpower]) ?_
  rwa [if_pos hallowed]

theorem State.stagedRecords_of_store {s t : State} (h : t.store = s.store) : t.stagedRecords = s.stagedRecords := by
  have block : t.homeBlock 16 = s.homeBlock 16 := by simp only [State.homeBlock, State.storeByte, h]
  have bytes : t.storeBytes = s.storeBytes := by
    funext a n
    simp only [State.storeBytes, State.storeByte, h]
  unfold State.stagedRecords
  rw [block, bytes]

/-- What the set in the store, with STATE 3, reads as does not turn on the mark that made it due. -/
theorem State.stagedRecords_undue (s : State) :
    ((s.updTag fun t => { t with stageDue := false }).setStageState 3).stagedRecords = (s.setStageState 3).stagedRecords :=
  State.stagedRecords_of_store (by rw [State.setStageState_store, State.setStageState_store]; rfl)

section

variable {s : State}

/-- A set that has been applied before ends at once with RESULT 8. -/
theorem State.applySet_of_applied (h : s.stageSeq = s.nat 0x2710_06) : s.applySet = (s.setStageState 3).stageEnd 4 8 0xFFFF := by
  unfold State.applySet
  dsimp only
  rw [if_pos (by rw [State.nat_setStageState _ (by decide) (by decide)]; exact h)]

/-- A set that does not parse, or whose CRC fails, ends with that RESULT. -/
theorem State.applySet_of_unread (hnew : s.stageSeq ≠ s.nat 0x2710_06) (hrole : 1 ≤ s.stageRole) (hrole' : s.stageRole ≤ 2)
    (h : (s.setStageState 3).stagedRecords.2 ≠ 0) :
    s.applySet = (s.setStageState 3).stageEnd 5 (s.setStageState 3).stagedRecords.2 0xFFFF := by
  unfold State.applySet
  dsimp only
  rw [if_neg (by rw [State.nat_setStageState _ (by decide) (by decide)]; exact hnew),
    if_neg (by simp only [Bool.or_eq_true, decide_eq_true_eq]; omega), if_pos h]

/-- The role that a set is applied under. -/
def State.stager (s : State) : Who := .staged (roleOfCode s.stageRole)

/-- A set whose records all pass is written and ends with RESULT 1, its SEQ applied. -/
theorem State.applySet_of_good (hnew : s.stageSeq ≠ s.nat 0x2710_06) (hrole : 1 ≤ s.stageRole) (hrole' : s.stageRole ≤ 2)
    (hread : (s.setStageState 3).stagedRecords.2 = 0)
    (hgood : (s.setStageState 3).firstBadRecord s.stager (s.setStageState 3).stagedRecords.1 = none)
    (hphase : ((s.setStageState 3).writeRecords s.stager (s.setStageState 3).stagedRecords.1).phase = s.phase) :
    s.applySet = (((s.setStageState 3).writeRecords s.stager (s.setStageState 3).stagedRecords.1).setN 0x2710_06 s.stageSeq).stageEnd 4 1 0xFFFF := by
  unfold State.stager at hgood hphase
  unfold State.applySet
  dsimp only
  rw [if_neg (by rw [State.nat_setStageState _ (by decide) (by decide)]; exact hnew),
    if_neg (by simp only [Bool.or_eq_true, decide_eq_true_eq]; omega), if_neg (not_not_intro hread), hgood]
  exact if_pos (by rw [hphase, State.setStageState_phase])

variable (hservice : s.phase = .service) (hpower : s.power ≠ .sleep) (hhalt : s.halted = false) (hdue : s.tag.stageDue = true)
  (hfree : s.actionWaits = false) (hempty : (s.queue 3).items = []) (hdone : s.tag.commit.committed = false)
  (hallowed : s.stageAllowed = true)

include hservice hpower hhalt hdue hfree hempty hdone hallowed

theorem stagedSet_repeated (h : s.stageSeq = s.nat 0x2710_06) :
    Completes .stagedSetApply s fun t =>
      t.tag.stageDue = false ∧ t.stageState = 4 ∧ t.nat 0x2710_04 = 8 ∧ t.nat 0x2710_06 = s.nat 0x2710_06 ∧ t.isPending 41 = true := by
  refine completes_of_staged hservice hpower hhalt hdue hfree hempty hdone hallowed ?_
  rw [State.applySet_of_applied (s := s.updTag fun t => { t with stageDue := false }) h, State.finish_tag, State.finish_stageState, State.finish_nat, State.finish_nat, State.finish_isPending,
    State.stageEnd_stageDue _ _ _ (by decide) (by decide) (by decide), State.setStageState_stageDue _ (by decide) (by decide) (by decide),
    State.stageEnd_stageState _ _ _ (by decide) (by decide), State.stageEnd_result, State.stageEnd_applied,
    State.nat_setStageState _ (by decide) (by decide)]
  exact ⟨rfl, rfl, rfl, rfl, State.stageEnd_isPending ..⟩

theorem stagedSet_unread (hnew : s.stageSeq ≠ s.nat 0x2710_06) (hrole : 1 ≤ s.stageRole) (hrole' : s.stageRole ≤ 2)
    (h : (s.setStageState 3).stagedRecords.2 ≠ 0) :
    Completes .stagedSetApply s fun t =>
      t.tag.stageDue = false ∧ t.stageState = 5 ∧ t.nat 0x2710_04 = (s.setStageState 3).stagedRecords.2 ∧
        t.nat 0x2710_06 = s.nat 0x2710_06 ∧ t.isPending 41 = true := by
  refine completes_of_staged hservice hpower hhalt hdue hfree hempty hdone hallowed ?_
  rw [← s.stagedRecords_undue] at h ⊢
  rw [State.applySet_of_unread (s := s.updTag fun t => { t with stageDue := false }) hnew hrole hrole' h, State.finish_tag, State.finish_stageState, State.finish_nat, State.finish_nat, State.finish_isPending,
    State.stageEnd_stageDue _ _ _ (by decide) (by decide) (by decide), State.setStageState_stageDue _ (by decide) (by decide) (by decide),
    State.stageEnd_stageState _ _ _ (by decide) (by decide), State.stageEnd_result, State.stageEnd_applied,
    State.nat_setStageState _ (by decide) (by decide)]
  exact ⟨rfl, rfl, rfl, rfl, State.stageEnd_isPending ..⟩

theorem stagedSet_applied (hnew : s.stageSeq ≠ s.nat 0x2710_06) (hrole : 1 ≤ s.stageRole) (hrole' : s.stageRole ≤ 2)
    (hread : (s.setStageState 3).stagedRecords.2 = 0)
    (hgood : ((s.updTag fun t => { t with stageDue := false }).setStageState 3).firstBadRecord (.staged (roleOfCode s.stageRole))
      (s.setStageState 3).stagedRecords.1 = none)
    (hphase : (((s.updTag fun t => { t with stageDue := false }).setStageState 3).writeRecords (.staged (roleOfCode s.stageRole))
      (s.setStageState 3).stagedRecords.1).phase = .service) :
    Completes .stagedSetApply s fun t =>
      t.stageState = 4 ∧ t.nat 0x2710_04 = 1 ∧ t.nat 0x2710_05 = 0xFFFF ∧ t.nat 0x2710_06 = s.stageSeq ∧ t.isPending 41 = true := by
  refine completes_of_staged hservice hpower hhalt hdue hfree hempty hdone hallowed ?_
  rw [← s.stagedRecords_undue] at hread hgood hphase
  rw [State.applySet_of_good (s := s.updTag fun t => { t with stageDue := false }) hnew hrole hrole' hread hgood (hphase.trans hservice.symm), State.finish_stageState, State.finish_nat, State.finish_nat, State.finish_nat,
    State.finish_isPending, State.stageEnd_stageState _ _ _ (by decide) (by decide), State.stageEnd_result, State.stageEnd_failed,
    State.stageEnd_applied, State.nat_setN_same]
  exact ⟨rfl, rfl, rfl, rfl, State.stageEnd_isPending ..⟩

end

/-! ### The status blocks -/

theorem timeGroups_concat (gs : List Group) (g : Group) (t : Nat) :
    ∃ x, timeGroups t (gs ++ [g]) = timeGroups t gs ++ [{ g with to_ := x }] := by
  induction gs generalizing t with
  | nil => exact ⟨_, rfl⟩
  | cons y rest ih =>
    obtain ⟨x, timed⟩ := ih (t + groupQuanta y.n)
    exact ⟨x, by rw [List.cons_append, timeGroups, timed]; rfl⟩

/-- A group of the module comes after all others (R186). -/
theorem Tag.groupStarts_module_last (t : Tag) (now b n : Nat) (prior data : List Byte) :
    ∃ g, (t.groupStarts now b n prior data false false).groups.getLast? = some g ∧ g.first = b ∧ g.n = n ∧ g.field = false := by
  unfold Tag.groupStarts
  dsimp only
  have none (later : List Group) (h : later = []) (l : List Nat) (f : Nat → List Byte) :
      l.foldl (fun gs i => patchPrior gs (b + i) (f i)) later = [] := by
    subst h
    induction l with
    | nil => rfl
    | cons i rest ih => exact ih
  rw [none _ (t.overtaken_module now)]
  obtain ⟨x, timed⟩ := timeGroups_concat ((t.waiting now).take (t.groupRank now false false))
    { first := b, n := n, field := false, host := false, prior := priorTo (t.overtaken now false false) b n prior, to_ := 0 }
    ((t.groups.filter fun g => decide (now < g.to_) && decide (g.from_ ≤ now)).foldl (fun m g => max m g.to_) now)
  rw [timed, ← List.append_assoc, List.getLast?_concat]
  exact ⟨_, rfl, rfl, rfl, rfl⟩

section

variable {s : State}

theorem State.statusBlocks_read {d d' : List Byte} (hd : d.length = 32) (hd' : d'.length = 32) (hwf : s.store.wf = true) :
    (s.groupWrite 4 2 (d ++ d') false false).homeBlock 4 = d ∧ (s.groupWrite 4 2 (d ++ d') false false).homeBlock 5 = d' := by
  have held (i : Nat) (hi : i < 64) : (s.groupWrite 4 2 (d ++ d') false false).storeByte (128 + i) = (d ++ d').getD i 0 := by
    rw [State.storeByte, State.groupWrite_store, State.lasting_module]
    exact StoreCells.get_write_inside _ _ (by rw [List.length_append]; omega) (by omega) (.inl hwf)
  constructor
  · refine State.homeBlock_of_bytes hd fun i hi => ?_
    rw [held i (by omega), List.getD_append _ _ _ _ (by omega)]
  · refine State.homeBlock_of_bytes hd' fun i hi => ?_
    rw [show 32 * 5 + i = 128 + (32 + i) by omega, held (32 + i) (by omega), List.getD_append_right _ _ _ _ (by omega), hd,
      Nat.add_sub_cancel_left]

theorem State.statusBlocks_halves : ∃ d d', s.statusBlocks = d ++ d' ∧ d.length = 32 ∧ d'.length = 32 :=
  ⟨_, _, rfl, slice_length _ 0 32, slice_length _ 0 32⟩

theorem State.writeStatus_of_free (hdone : s.tag.commit.committed = false) :
    s.writeStatus = (s.groupWrite 4 2 s.statusBlocks false false).updTag fun t => { t with statusT0 := s.now } := by
  unfold State.writeStatus
  rw [if_neg (by simp [hdone])]

theorem State.finish_homeBlock (t : State) {b : Nat} (hb : b < 992) : (s.finish t).homeBlock b = t.homeBlock b := by
  unfold State.homeBlock
  refine List.map_congr_left fun i hi => State.finish_storeByte s t ?_
  rw [List.mem_range] at hi
  omega

theorem statusBlocks_written (hinv : s.Inv) (hon : s.coreOn = true) (hchanged : s.statusChanged = true)
    (htime : s.passedS s.tag.statusT0 1 = true) (hfree : s.groupRuns = false) (hdone : s.tag.commit.committed = false) :
    Completes .statusBlockWrite s fun t =>
      t.homeBlock 4 ++ t.homeBlock 5 = s.statusBlocks ∧ t.tag.statusT0 = s.now ∧
        (t.tag.lastGroup.first, t.tag.lastGroup.n, t.tag.lastGroup.field) = (4, 2, false) := by
  refine completes_of_nextWhen (t := s.writeStatus) rfl (by simp [hchanged, htime, hfree, hdone]) hon ?_
  obtain ⟨d, d', blocks, hd, hd'⟩ := s.statusBlocks_halves
  obtain ⟨low, high⟩ := State.statusBlocks_read (s := s) hd hd' hinv.2.1
  obtain ⟨g, last, first, n, field⟩ :=
    s.tag.groupStarts_module_last s.now 4 2 ((List.range 2).flatMap fun i => s.homeBlock (4 + i)) s.statusBlocks
  rw [← s.groupWrite_groups] at last
  rw [State.finish_homeBlock _ (by decide), State.finish_homeBlock _ (by decide), State.finish_tag, State.writeStatus_of_free hdone]
  refine ⟨?_, by rw [State.updTag_tag], ?_⟩
  · rw [← blocks] at low high
    rw [State.updTag_homeBlock, State.updTag_homeBlock, low, high, blocks]
  · rw [State.updTag_tag, Tag.lastGroup, last, Option.getD_some, first, n, field]

/-! ### HOLD and port 0 -/

theorem holdMax_ends (hinv : s.Inv) (hpowered : s.powered = true) (h : s.holdExpired = true) :
    Completes .holdMaxExpiry s fun t => t.tag.hold = none ∧ t.isPending 43 = true ∧ t.store = s.store := by
  unfold State.powered at hpowered
  refine completes_of_nextAny rfl (by rw [h, hpowered]; rfl) ?_
  rw [State.finish_tag, State.finish_isPending, State.finish_store, State.raise_tag, State.raise_store]
  exact ⟨rfl, State.isPending_raise _ 43 (by decide), hinv.store_canon⟩

theorem port0_releases (hon : s.coreOn = true) (hassigned : s.assigned = true) (hmode : s.nat 0x2701_01 ≠ 2) (hfield : s.tag.field = false)
    (htime : s.passedMs s.tag.fieldT0 (s.nat 0x2701_02) = true) (hidle : s.tagBusy = false) :
    Completes .port0Release s fun t => t.assigned = false ∧ t.isPending 43 = true ∧ t.tag = s.tag := by
  refine completes_of_nextAny rfl (by simp [hassigned, hon, hmode, hfield, htime, hidle]) ?_
  rw [State.finish_assigned, State.finish_isPending, State.finish_tag, State.releaseTag, State.raise_tag,
    (State.onlyEvents_raise _ 43).assigned_eq]
  have covered : State.OnlyField { s with assigned := false } ({ s with assigned := false } : State).coverAll :=
    (State.FieldStep.coverAll (calm := false) (.refl _)).only
  rw [State.OnlyField] at covered
  rw [covered]
  exact ⟨rfl, State.isPending_raise _ 43 (by decide), rfl⟩

end

end Sys2Proof.Machine
end

section

open Sys2Proof Sys2Proof.Machine

/-- Settles O40: STAGE_APPLY by the group that it runs, a staged set by how `applySet` ends it, the rest by their own commands. -/
theorem storeAndTagWork : Obligations.StoreAndTagWork :=
  ⟨fun _ _ _ _ _ hinv hr hmfg hplain hlevel hseq hstate hgate hover hloss hfit =>
      stageApply_applies hinv hr hmfg hplain hlevel hseq hstate hgate hover hloss hfit,
    fun _ _ _ _ _ hinv hr hmfg hplain hlevel hseq => stageApply_refuses hinv hr hmfg hplain hlevel hseq,
    fun _ _ hservice hpower hhalt hdue hfree hempty hdone hallowed h =>
      stagedSet_repeated hservice hpower hhalt hdue hfree hempty hdone hallowed h,
    fun _ _ hservice hpower hhalt hdue hfree hempty hdone hallowed hnew hrole hrole' h =>
      stagedSet_unread hservice hpower hhalt hdue hfree hempty hdone hallowed hnew hrole hrole' h,
    fun _ _ hservice hpower hhalt hdue hfree hempty hdone hallowed hnew hrole hrole' hread hgood hphase _ =>
      stagedSet_applied hservice hpower hhalt hdue hfree hempty hdone hallowed hnew hrole hrole' hread hgood hphase,
    fun _ hinv hon hchanged htime hfree hdone => statusBlocks_written hinv hon hchanged htime hfree hdone,
    fun _ hinv hpowered h => holdMax_ends hinv hpowered h,
    fun _ _ hon hassigned hmode hfield htime hidle => port0_releases hon hassigned hmode hfield htime hidle⟩

end

section
/-!
SUPPORT. What the effects of the commands leave of the commissioning store: a rule for each of the model's operations that does not
write it, in the order of the model (R178, R184 to R186, R350).
-/

namespace Sys2Proof.Machine

open Sys2Proof

/-- Every byte of the store in t is as it is in s. -/
def State.KeepsStore (s t : State) : Prop := t.store = s.store

namespace State.KeepsStore

theorem refl (s : State) : s.KeepsStore s := rfl

theorem trans {s t u : State} (h : s.KeepsStore t) (g : t.KeepsStore u) : s.KeepsStore u := Eq.trans g h

theorem ite {s t u : State} {c : Prop} [Decidable c] (h : s.KeepsStore t) (g : s.KeepsStore u) : s.KeepsStore (if c then t else u) := by
  split
  · exact h
  · exact g

theorem ite_fst {α : Type} {s : State} {t u : State × α} {c : Prop} [Decidable c] (h : s.KeepsStore t.1) (g : s.KeepsStore u.1) :
    s.KeepsStore (if c then t else u).1 := by
  split
  · exact h
  · exact g

theorem ite_snd {α : Type} {s : State} {t u : α × State} {c : Prop} [Decidable c] (h : s.KeepsStore t.2) (g : s.KeepsStore u.2) :
    s.KeepsStore (if c then t else u).2 := by
  split
  · exact h
  · exact g

theorem foldl {α : Type} {f : State → α → State} {l : List α} {s t : State} (hf : ∀ u x, State.KeepsStore u (f u x)) (h : s.KeepsStore t) :
    s.KeepsStore (l.foldl f t) := (foldl_proj State.store hf l t).trans h

theorem of_fst {α : Type} {s t : State} {p : State × α} {x : α} (h : s.KeepsStore p.1) (e : p = (t, x)) : s.KeepsStore t := by
  rw [e] at h
  exact h

theorem of_snd {α : Type} {s t : State} {p : α × State} {x : α} (h : s.KeepsStore p.2) (e : p = (x, t)) : s.KeepsStore t := by
  rw [e] at h
  exact h

section

variable {s t : State} (h : s.KeepsStore t)

include h

section

variable {now drawn raisedT causeLevel rrZone txSeq noiseT0 lookTurn startT0 gateT0 idleT0 : Nat} {od : OdStore} {out : Val} {status : Status}
  {lines : List LineSt} {raised : List (Nat × Bool)} {triggers : List Trigger} {tb : TimeBase} {ma : Angle}
  {halted assigned testAccess testEntered haltSeen : Bool} {ports : List Port} {fir : List FirCheck} {firOk wakes : List (Nat × Nat)}
  {survey : Survey} {pennants : List Pennant} {teach : List Teach} {lanes : List Lane} {requests : List LaneRequest} {deferred : List (Nat × Val)}
  {dirty rrLane turned auditTb : List Nat} {portCal : List (Option Nat)} {supply : Supply} {hal : Halyard} {power : PowerState}
  {wakeDue attestT0 : Option Nat} {rx : List Rx} {radio : Radio} {pl : Powerline} {link : Link} {seqs : List Seq} {holds : List Hold}
  {firstPoll : BitVec 4} {lookups : List Lookup} {scenes : List Scene} {fronds : List Frond} {tag : Tag} {audit : List (List Byte)}
  {phase : Phase} {sessions : List Session} {firmware : Firmware} {tidSeen : BitVec 64} {pool : Pool} {st : SelfTest} {cal : Cal}
  {pulses : List (Option Pulse)} {waits : List Wait} {rrLocal : Who} {pending : List Instr}

/-- Whatever is written beside it, the store stays. -/
theorem same : s.KeepsStore
    { t with
      now := now, drawn := drawn, od := od, out := out, status := status, lines := lines, raised := raised, raisedT := raisedT,
      triggers := triggers, causeLevel := causeLevel, tb := tb, ma := ma, halted := halted, ports := ports, fir := fir, firOk := firOk,
      survey := survey, pennants := pennants, teach := teach, lanes := lanes, requests := requests, deferred := deferred, dirty := dirty,
      rrZone := rrZone, rrLane := rrLane, turned := turned, portCal := portCal, assigned := assigned, supply := supply, hal := hal,
      power := power, wakeDue := wakeDue, rx := rx, radio := radio, pl := pl, link := link, txSeq := txSeq, seqs := seqs, holds := holds,
      firstPoll := firstPoll, noiseT0 := noiseT0, lookups := lookups, lookTurn := lookTurn, scenes := scenes, fronds := fronds,
      wakes := wakes, tag := tag, audit := audit, auditTb := auditTb, phase := phase, sessions := sessions, firmware := firmware,
      tidSeen := tidSeen, attestT0 := attestT0, testAccess := testAccess, testEntered := testEntered, haltSeen := haltSeen, pool := pool,
      st := st, cal := cal, startT0 := startT0, gateT0 := gateT0, idleT0 := idleT0, pulses := pulses, waits := waits, rrLocal := rrLocal,
      pending := pending } := h

end

theorem events {u : State} (g : t.OnlyEvents u) : s.KeepsStore u := h.trans g.store_eq

theorem field {u : State} (g : t.FieldStep False u) : s.KeepsStore u := h.trans (by rw [State.KeepsStore, g.only])

/-! ### Entries, counters and events -/

theorem put {k : Nat} {v : Val} : s.KeepsStore (t.put k v) := h.events (t.onlyOd_put _ _).events

theorem setI {k : Nat} {i : Int} : s.KeepsStore (t.setI k i) := .put h

theorem setN {k n : Nat} : s.KeepsStore (t.setN k n) := .put h

theorem setB {k : Nat} {b : Bool} : s.KeepsStore (t.setB k b) := .put h

theorem setO {k : Nat} {b : List Byte} : s.KeepsStore (t.setO k b) := .put h

theorem setBit {k i : Nat} {b : Bool} : s.KeepsStore (t.setBit k i b) := h.events (t.onlyOd_setBit _ _ _).events

theorem draw : s.KeepsStore t.draw.2 := h.field (.draw (.refl t))

theorem random {n : Nat} : s.KeepsStore (t.random n).2 := h

theorem randomBytes {n : Nat} : s.KeepsStore (t.randomBytes n).2 := h

theorem setFit {k bits n : Nat} : s.KeepsStore (t.setFit k bits n) := h.events (t.onlyOd_setFit _ _ _).events

theorem add {k n : Nat} : s.KeepsStore (t.add k n) := .setFit h

theorem bump {k : Nat} : s.KeepsStore (t.bump k) := h.events (t.onlyOd_bump _).events

theorem newlyReach {l : Nat} : s.KeepsStore (t.newlyReach l) := h.events (t.onlyEvents_newlyReach _)

theorem pulseNew {old : State} : s.KeepsStore (t.pulseNew old) := .foldl (fun _ _ => .ite (.newlyReach (.refl _)) (.refl _)) h

theorem asHardware {f : State → State} (hf : ∀ u, State.KeepsStore u (f u)) : s.KeepsStore (t.asHardware f) :=
  .trans h (hf { t with causeLevel := 0 })

theorem trigger {t' : Trigger} : s.KeepsStore (t.trigger t') := h.events (t.onlyEvents_trigger _)

theorem raise {e : Nat} : s.KeepsStore (t.raise e) := h.events (t.onlyEvents_raise _)

theorem raisePort {e p : Nat} : s.KeepsStore (t.raisePort e p) := h.events (t.onlyEvents_raisePort _ _)

/-! ### Capture channels (R247, R248) -/

theorem capLand {c stamp : Nat} : s.KeepsStore (t.capLand c stamp) := h.events (t.onlyEvents_capLand _ _)

theorem capFlush : s.KeepsStore t.capFlush := by
  unfold State.capFlush
  exact .foldl (fun _ _ => .capLand (.refl _)) (.same h)

theorem capTake {c stamp : Nat} : s.KeepsStore (t.capTake c stamp) := by
  unfold State.capTake
  exact .ite (.same (.ite (.capFlush h) h)) (.same (.capLand h))

theorem capEdge {src : Nat} {rising : Bool} {stamp : Nat} : s.KeepsStore (t.capEdge src rising stamp) :=
  .foldl (fun _ _ => .ite (.capTake (.refl _)) (.refl _)) h

theorem readCapture {c : Nat} : s.KeepsStore (t.readCapture c) := by
  unfold State.readCapture
  split
  · exact .same (.capLand (.setBit h))
  · exact .same h
  · exact .setBit (.same h)

/-! ### The mains-angle block (chapter 2) -/

theorem burgeeRefresh : s.KeepsStore t.burgeeRefresh := h.field (.burgeeRefresh (.refl t))

theorem burgeeRefuse : s.KeepsStore t.burgeeRefuse := h.events (t.onlyEvents_burgeeRefuse)

theorem burgeePut {w : Nat} {b : BurgeeSpec} : s.KeepsStore (t.burgeePut w b) := by
  unfold State.burgeePut
  exact .burgeeRefresh (.same (.setN (.setN (.setN (.setN (.setN (.setN (.setN h))))))))

theorem burgeeFree {w : Nat} : s.KeepsStore (t.burgeeFree w) := .burgeePut h

theorem burgeeBook {b : BurgeeSpec} : s.KeepsStore (t.burgeeBook b).1 := by
  unfold State.burgeeBook
  split
  · split
    · exact .burgeeRefuse h
    · dsimp only
      exact .burgeePut h
  · exact .burgeeRefuse h

theorem updBurgee {w : Nat} {f : Burgee → Burgee} : s.KeepsStore (t.updBurgee w f) := h

theorem burgeeSkip : s.KeepsStore t.burgeeSkip := .raise (.bump h)

theorem occurrence {w : Nat} {half jumped : Bool} : s.KeepsStore (t.occurrence w half jumped) :=
  .ite (.updBurgee h) (.ite (.burgeeSkip (.updBurgee h)) (.ite (.updBurgee h) (.ite (.raise (.updBurgee (.updBurgee h))) (.updBurgee
    (.updBurgee h)))))

theorem jumpOver {from_ upto : Nat} : s.KeepsStore (t.jumpOver from_ upto) :=
  .foldl (fun _ _ => .foldl (fun _ _ => .ite (.occurrence (.refl _)) (.refl _)) (.refl _)) h

theorem driveSync {level : Bool} : s.KeepsStore (t.driveSync level) := by
  unfold State.driveSync
  exact .ite h (.ite (.capEdge (.same h)) (.same h))

theorem syncStill : s.KeepsStore t.syncStill := h

theorem syncFollow : s.KeepsStore t.syncFollow := by
  unfold State.syncFollow
  split
  · exact .syncStill (.driveSync h)
  · exact .syncStill (.driveSync h)
  · exact .syncStill (.driveSync h)
  · exact h

theorem blankLoad : s.KeepsStore t.blankLoad := by
  unfold State.blankLoad
  exact .burgeeRefresh (.same h)

theorem burgeeShut : s.KeepsStore t.burgeeShut := .foldl (fun _ _ => .ite (.refl _) (.updBurgee (.refl _))) h

theorem learnHear {levels : List Nat} : s.KeepsStore (t.learnHear levels) := by
  unfold State.learnHear
  exact .ite (.same h) h

theorem maWrap {acc : Nat} : s.KeepsStore (t.maWrap acc) := by
  unfold State.maWrap
  exact .syncFollow (.blankLoad (.burgeeShut (.same (.same h))))

theorem maHalf {acc : Nat} : s.KeepsStore (t.maHalf acc) := by
  unfold State.maHalf
  exact .syncFollow (.same h)

theorem maTick : s.KeepsStore t.maTick := by
  unfold State.maTick
  exact .ite (.maWrap (.same h)) (.ite (.maHalf (.same h)) (.same (.same h)))

/-! ### Pre-emption of self-test slices (R379, R380) -/

theorem updSt {f : SelfTest → SelfTest} : s.KeepsStore (t.updSt f) := h.field (.updSt (.refl t))

theorem escalate {g : Nat} : s.KeepsStore (t.escalate g) := h.field (.escalate (.refl t))

theorem deescalate {g : Nat} : s.KeepsStore (t.deescalate g) := .ite (.burgeeFree (.setN (.updSt h))) (.burgeePut (.setN (.updSt h)))

theorem sliceCount {g : Nat} : s.KeepsStore (t.sliceCount g) := h.field (.sliceCount (.refl t))

theorem targetAgain {x : Slice} : s.KeepsStore (t.targetAgain x) := h.field (.targetAgain (.refl t))

theorem slicePreempted {x : Slice} : s.KeepsStore (t.slicePreempted x) :=
  .ite (.ite (.deescalate (.raise (.setN (.bump (.ite (.setN (.bump (.updSt h))) (.sliceCount (.setN (.bump (.updSt h))))))))) (.targetAgain
    (.updSt (.setN (.bump (.updSt h)))))) (.ite (.targetAgain (.escalate (.setN (.bump (.updSt h))))) (.targetAgain (.setN (.bump (.updSt h)))))

theorem sliceYield {g : Nat} {units : Nat → Bool} : s.KeepsStore (t.sliceYield g units) := by
  unfold State.sliceYield
  split
  · exact .ite (.slicePreempted h) h
  · exact h

/-! ### The clocks (chapters 1 and 12) -/

theorem addUp {k n : Nat} : s.KeepsStore (t.addUp k n) := .setN h

theorem poweredSecond : s.KeepsStore t.poweredSecond := by
  unfold State.poweredSecond
  exact .addUp (.same h)

theorem secondTick : s.KeepsStore t.secondTick := by
  unfold State.secondTick
  exact .ite (.poweredSecond h) (.same h)

theorem tbWrap : s.KeepsStore t.tbWrap := by
  unfold State.tbWrap
  exact .raise (.same h)

theorem tbTick : s.KeepsStore t.tbTick := by
  unfold State.tbTick
  exact .ite (.tbWrap h) (.same h)

theorem lcWrap {i : Nat} : s.KeepsStore (t.lcWrap i) := .ite (.raise (.setN (.setN h))) (.setN (.setN h))

theorem lcCount {i : Nat} : s.KeepsStore (t.lcCount i).1 := .ite_fst h (.ite_fst (.lcWrap h) (.setN h))

theorem lcCarry {i : Nat} : s.KeepsStore (t.lcCarry i) := .ite (.lcCount h) h

theorem lcStep {i : Nat} : s.KeepsStore (t.lcStep i) := by
  unfold State.lcStep
  exact .ite (.lcCarry (.lcCount (.same h))) (.lcCount (.same h))

theorem busTick : s.KeepsStore t.busTick := by
  unfold State.busTick
  exact .same (.foldl (fun _ _ => .ite (.lcStep (.refl _)) (.ite (.same (.refl _)) (.refl _))) h)

theorem crystalTick {frozen : Bool} : s.KeepsStore (t.crystalTick frozen) :=
  .maTick (.ite (.setN (.secondTick (.capFlush h))) (.tbTick (.secondTick (.capFlush h))))

theorem fabricTick {frozen : Bool} : s.KeepsStore (t.fabricTick frozen) := by
  unfold State.fabricTick
  exact .ite (.busTick (.ite (.crystalTick (.same h)) (.same h))) (.ite (.crystalTick (.same h)) (.same h))

theorem fabricTicks {n : Nat} : s.KeepsStore (t.fabricTicks n) := by
  induction n generalizing t with
  | zero => exact h
  | succ n ih => exact ih (.fabricTick h)

theorem toCrystal : s.KeepsStore t.toCrystal := .fabricTicks h

theorem toBus : s.KeepsStore t.toBus := .fabricTicks h

/-! ### The commands of the mains angle (chapter 2) -/

theorem loopCorrect {e : Int} : s.KeepsStore (t.loopCorrect e) := h

theorem maEnter {st : MaState} : s.KeepsStore (t.maEnter st) := by
  unfold State.maEnter
  exact .ite h (.raise (.same (.ite (.bump h) h)))

theorem maStep {ago : Nat} : s.KeepsStore (t.maStep ago) := by
  unfold State.maStep
  exact .raise (.syncFollow (.burgeeShut (.same (.ite (.jumpOver (.maWrap (.jumpOver h))) (.same (.jumpOver h))))))

theorem acquireFrom {e : Int} {ago : Nat} : s.KeepsStore (t.acquireFrom e ago) :=
  .ite (.loopCorrect (.ite (.maStep (.maEnter h)) (.maEnter h))) (.ite (.maStep (.maEnter h)) (.maEnter h))

theorem maCrossed {e : Int} {ago : Nat} : s.KeepsStore (t.maCrossed e ago) := by
  unfold State.maCrossed
  split
  · exact .acquireFrom h
  · exact .ite (.acquireFrom h) h
  · exact .ite (.loopCorrect (.maEnter h)) (.acquireFrom h)
  · exact .loopCorrect (.ite (.maEnter (.same h)) (.same h))
  · exact .ite (.maEnter (.loopCorrect (.same h))) (.loopCorrect (.same h))

theorem maMeasure {at_ : Nat} {e : Int} : s.KeepsStore (t.maMeasure at_ e) := by
  unfold State.maMeasure
  split
  · exact h
  · exact .ite h (.same (.setFit h))

theorem crossingNoted {at_ ago : Nat} {e : Int} : s.KeepsStore (t.crossingNoted at_ ago e) := by
  unfold State.crossingNoted
  exact .capEdge (.same h)

theorem zeroCrossing {positive : Bool} : s.KeepsStore (t.zeroCrossing positive) := by
  unfold State.zeroCrossing
  exact .ite h (.ite (.bump h) (.same (.ite (.maEnter (.same (.crossingNoted (.setI (.maMeasure h))))) (.maCrossed (.crossingNoted (.setI
      (.maMeasure h)))))))

theorem missCrossing : s.KeepsStore t.missCrossing := by
  unfold State.missCrossing
  exact .ite (.maEnter (.same (.bump h))) (.ite (.maEnter (.same (.bump h))) (.same (.bump h)))

theorem blankPut {b start len source level : Nat} : s.KeepsStore (t.blankPut b start len source level) := .setN (.setN (.setN (.setN h)))

theorem blankFill {bs : List Nat} {rs : List Region} : s.KeepsStore (t.blankFill bs rs) := by
  induction bs generalizing t rs with
  | nil => exact h
  | cons b bs ih =>
    cases rs with
    | nil => exact ih (.setN h)
    | cons r rs =>
      refine ih (.blankPut ?_)
      exact .ite_snd (t := (_, t)) (u := (_, t.draw.2)) h (.draw h)

theorem learnEnd {levels : List Byte} : s.KeepsStore (t.learnEnd levels) := by
  unfold State.learnEnd
  exact .raise (.ite (.setN (.same (.setO (.ite (.blankFill h) (.add (.blankFill h)))))) (.same (.setO (.ite (.blankFill h) (.add (.blankFill
      h))))))

theorem readAngle {who : Who} : s.KeepsStore (t.readAngle who) := h

theorem readMaStat : s.KeepsStore t.readMaStat := h

theorem angleRefused {k : Nat} : s.KeepsStore (t.angleRefused k) := h.events (t.onlyEvents_angleRefused _)

theorem angleWritten {old : State} {k : Nat} : s.KeepsStore (t.angleWritten old k) := by
  unfold State.angleWritten
  exact .ite (.ite (.same h) h) (.ite (.ite (.setN h) (.ite (.setN (.setN h)) h)) (.ite (.burgeeRefresh (.ite (.updBurgee h) h)) (.ite
      (.syncFollow (.syncStill (.driveSync h))) h)))

/-! ### The time base (chapter 12) -/

theorem readTbLo {sess : Sess} : s.KeepsStore (t.readTbLo sess) := h

theorem cmpArm {n : Nat} : s.KeepsStore (t.cmpArm n) := by
  unfold State.cmpArm
  exact .setBit (.same h)

theorem cmpFire {n : Nat} : s.KeepsStore (t.cmpFire n) := by
  unfold State.cmpFire
  extract_lets ctrl value period now periodic m late src t1 t2 t3 t4 t5 src' t6 t7
  have flagged : s.KeepsStore t3 := .ite (.setBit (.bump (.setBit (.setBit (.same h))))) (.bump (.setBit (.setBit (.same h))))
  have again : s.KeepsStore t5 := .ite (.add (.setN flagged)) (.setN flagged)
  have armed : s.KeepsStore t6 := .ite (.setBit (.same again)) flagged
  have raised : s.KeepsStore t7 := .ite (.raise armed) armed
  exact .ite (.raise raised) raised

theorem cmpFirst {k : Nat} : s.KeepsStore (t.cmpFirst k) :=
  .ite (.asHardware h fun u => .cmpFire (.refl u)) h

theorem freezeEdge {old : State} : s.KeepsStore (t.freezeEdge old) := .ite (.raise h) h

theorem timerWritten {old : State} {k : Nat} : s.KeepsStore (t.timerWritten old k) := by
  unfold State.timerWritten
  exact .ite (.ite (.ite (.setBit h) (.ite (.cmpArm h) h)) (.ite (.cmpArm h) h)) (.ite (.ite (.same h) (.ite (.same h) h)) (.ite (.freezeEdge h)
      h))

/-! ### Claims made with Halyard (R217, R218) -/

theorem setGrant {c : Claimant} {mw : Nat} : s.KeepsStore (t.setGrant c mw) := h

theorem answer {c : Claimant} {a : ClaimStatus} : s.KeepsStore (t.answer c a) := h.field (.answer (.refl t))

theorem dropClaim {c : Claimant} : s.KeepsStore (t.dropClaim c) := h.field (.dropClaim (.refl t))

theorem refuseClaim {c : Claim} {a : ClaimStatus} : s.KeepsStore (t.refuseClaim c a) := h.field (.refuseClaim (.refl t))

theorem endClaim {c : Claimant} {a : Option ClaimStatus} : s.KeepsStore (t.endClaim c a) := by
  unfold State.endClaim
  split
  · exact .refuseClaim h
  · exact .dropClaim h
  · exact h

theorem claim {c : Claim} : s.KeepsStore (t.claim c) := h.field (.claim (.refl t))

/-! ### The field ports (chapter 3) -/

theorem updPort {p : Nat} {f : Port → Port} : s.KeepsStore (t.updPort p f) := h

theorem relimit {p : Nat} : s.KeepsStore (t.relimit p) := h.field (.relimit (.refl t))

theorem regrant {p mw : Nat} : s.KeepsStore (t.regrant p mw) := .ite (.relimit (.setGrant h)) (.setGrant h)

theorem releasePort {p : Nat} : s.KeepsStore (t.releasePort p) := h.field (.releasePort (.refl t))

theorem countWait {p : Nat} : s.KeepsStore (t.countWait p) := h.field (.countWait (.refl t))

theorem portClaim {p : Nat} : s.KeepsStore (t.portClaim p) := h.field (.portClaim (.refl t))

theorem portOff {p : Nat} : s.KeepsStore (t.portOff p) := .portClaim (.updPort (.releasePort (.countWait h)))

theorem loseFrames {p : Nat} : s.KeepsStore (t.loseFrames p) := h.field (.loseFrames (.refl t))

theorem portDown {p : Nat} : s.KeepsStore (t.portDown p) := .ite (.bump (.updPort (.countWait h))) (.updPort (.countWait h))

theorem portEmergency {p : Nat} : s.KeepsStore (t.portEmergency p) :=
  .ite (.ite (.bump (.updPort (.countWait (.loseFrames h)))) (.updPort (.countWait (.loseFrames h)))) (.ite (.updPort h) (.ite (.portOff h) h))

theorem portCharge {p : Nat} : s.KeepsStore (t.portCharge p) := .relimit (.updPort (.countWait (.ite (.bump h) h)))

theorem startWaiting {p : Nat} : s.KeepsStore (t.startWaiting p) := .updPort h

theorem portGranted {p : Nat} : s.KeepsStore (t.portGranted p) := by
  unfold State.portGranted
  split
  · exact .ite (.releasePort h) (.ite h (.portCharge h))
  · exact .releasePort h
  · exact .relimit (.updPort (.startWaiting (.countWait h)))

theorem surveyCharge : s.KeepsStore t.surveyCharge := .ite (.foldl (fun _ _ => .portCharge (.refl _)) h) h

theorem putComponent {p lane amp phase : Nat} : s.KeepsStore (t.putComponent p lane amp phase) := h.field (.putComponent (.refl t))

theorem dropComponent {p lane : Nat} : s.KeepsStore (t.dropComponent p lane) := h.field (.dropComponent (.refl t))

theorem portsModulate {l endT mode : Nat} {frame : List Byte} : s.KeepsStore (t.portsModulate l endT mode frame) := by
  unfold State.portsModulate
  exact .foldl (fun _ _ => .updPort (.refl _)) (.same h)

theorem cutNow {p mw : Nat} : s.KeepsStore (t.cutNow p mw) := by
  unfold State.cutNow
  refine .ite ?_ (.portClaim (.raisePort (.regrant h)))
  split
  · exact .portOff (.raisePort (.regrant h))
  · exact .portDown (.raisePort (.regrant h))
  · exact .portDown (.raisePort (.regrant h))
  · exact .portDown (.raisePort (.regrant h))
  · exact .raisePort (.regrant h)

theorem cutPort {p mw : Nat} : s.KeepsStore (t.cutPort p mw) := .ite (.updPort h) (.cutNow h)

theorem cutEmergency {p mw : Nat} : s.KeepsStore (t.cutEmergency p mw) :=
  .raisePort (.ite (.ite (.portOff h) (.portClaim (.regrant h))) (.regrant (.portEmergency h)))

/-! ### Zones, pennants and covers (chapter 4) -/

theorem updLane {l : Nat} {f : Lane → Lane} : s.KeepsStore (t.updLane l f) := h.field (.updLane (.refl t))

theorem laneGap {l : Nat} : s.KeepsStore (t.laneGap l) := h.field (.laneGap (.refl t))

theorem updRx {p : Nat} {f : Rx → Rx} : s.KeepsStore (t.updRx p f) := h.field (.updRx (.refl t))

theorem narrow : s.KeepsStore t.narrow := h.field (.narrow (.refl t))

theorem enterCancel {p : Nat} {c : CancelState} : s.KeepsStore (t.enterCancel p c) := h.field (.enterCancel (.refl t))

theorem senseDrawn {p : Nat} : s.KeepsStore (t.senseDrawn p) := .ite h (.updRx (.setN (.setN (.draw (.draw (.draw h))))))

theorem rxMeasured {p : Nat} : s.KeepsStore (t.rxMeasured p) := h.field (.rxMeasured (.refl t))

theorem updFrond {p : Nat} {f : Frond → Frond} : s.KeepsStore (t.updFrond p f) := h.field (.updFrond (.refl t))

theorem pingDropped {p : Nat} : s.KeepsStore (t.pingDropped p) := .ite (.rxMeasured (.senseDrawn (.updFrond h))) h

theorem frondFollow {p : Nat} : s.KeepsStore (t.frondFollow p) := by
  unfold State.frondFollow
  refine .ite (.ite h (.updFrond (.pingDropped h))) ?_
  refine .ite h ?_
  split
  · exact .ite (.updFrond h) (.updFrond h)
  · exact .updFrond h

theorem frondNonCard {p : Nat} : s.KeepsStore (t.frondNonCard p) := h.field (.frondNonCard (.refl t))

theorem frondFollowAll : s.KeepsStore t.frondFollowAll := h.field (.frondFollowAll (.refl t))

theorem coverZone {z : Nat} : s.KeepsStore (t.coverZone z) := h.field (.coverZone (.refl t))

theorem refreshPennant {n : Nat} : s.KeepsStore (t.refreshPennant n) := h.field (.refreshPennant (.refl t))

theorem coverAll : s.KeepsStore t.coverAll := h.field (.coverAll (.refl t))

theorem recompute {n : Nat} : s.KeepsStore (t.recompute n) := h.field (.recompute (.refl t))

theorem recomputeLater {n : Nat} : s.KeepsStore (t.recomputeLater n) := h.field (.recomputeLater (.refl t))

theorem recomputeZone {z : Nat} : s.KeepsStore (t.recomputeZone z) := h.field (.recomputeZone (.refl t))

theorem staleFor {ps : List Nat} : s.KeepsStore (t.staleFor ps) := by
  unfold State.staleFor
  exact .foldl (fun _ _ => .ite (.refreshPennant (.refl _)) (.refl _)) (.same h)

theorem requestSurvey : s.KeepsStore t.requestSurvey := h.field (.requestSurvey (.refl t))

theorem portFault {p code : Nat} : s.KeepsStore (t.portFault p code) := by
  unfold State.portFault
  exact .requestSurvey (.coverAll (.raisePort (.bump (.setN (.updPort (.releasePort (.countWait (.loseFrames h))))))))

/-! ### Halyard (R215 to R219, R221) -/

theorem cutFields {immediate : Bool} {ps : List Nat} {excess : Nat} : s.KeepsStore (t.cutFields immediate ps excess) := by
  induction ps generalizing t excess with
  | nil => exact h
  | cons p ps ih =>
    unfold State.cutFields
    refine .ite h (.ite (ih h) (ih (.raise ?_)))
    exact .ite (.bump (.cutEmergency h)) (.bump (.cutPort h))

theorem cutGrant {c : Claimant} : s.KeepsStore (t.cutGrant c) := .ite h (.raise (.bump (.setGrant h)))

theorem cutTransmit : s.KeepsStore t.cutTransmit := .foldl (fun _ _ => .cutGrant (.refl _)) h

theorem trimTo {limit : Nat} {immediate : Bool} : s.KeepsStore (t.trimTo limit immediate) := .ite h (.cutFields (.ite (.cutTransmit h) h))

theorem reduce : s.KeepsStore t.reduce := by
  unfold State.reduce
  extract_lets hot t1 t2 t3 cap after
  have burst : s.KeepsStore t1 := .ite (.trimTo h) h
  have hard : s.KeepsStore t2 := .trimTo burst
  have low : s.KeepsStore t3 := .ite (.trimTo hard) hard
  exact .ite (.cutFields low) low

theorem grantClaim {c : Claim} : s.KeepsStore (t.grantClaim c) := by
  unfold State.grantClaim
  dsimp only
  split
  · exact .portGranted (.same (.answer (.add (.setGrant (.dropClaim (.ite (.bump h) h))))))
  · exact .same (.answer (.add (.setGrant (.dropClaim (.ite (.bump h) h)))))
  · exact .same (.answer (.add (.setGrant (.dropClaim (.ite (.bump h) h)))))
  · exact .answer (.add (.setGrant (.dropClaim (.ite (.bump h) h))))

theorem serve {blocked all : Bool} {cs : List Claim} : s.KeepsStore (t.serve blocked cs all) := by
  induction cs generalizing t blocked all with
  | nil => exact h
  | cons c cs ih =>
    unfold State.serve
    refine .ite (ih (.refuseClaim h)) (.ite (ih (.refuseClaim h)) (.ite (ih h) (.ite (ih h) (.ite (ih h) (.ite (ih h) ?_)))))
    exact ih (.grantClaim h)

theorem storeShown : s.KeepsStore t.storeShown := .setI (.setN h)

theorem pwrGood {e : Int} : s.KeepsStore (t.pwrGood e) := by
  unfold State.pwrGood
  exact .ite h (.ite (.raise (.same h)) (.same h))

theorem storeAt {e : Int} : s.KeepsStore (t.storeAt e) := by
  unfold State.storeAt
  exact .pwrGood (.storeShown (.same h))

theorem charge : s.KeepsStore t.charge := .ite h (.storeAt h)

theorem halyardTick : s.KeepsStore t.halyardTick := by
  unfold State.halyardTick
  exact .same (.surveyCharge (.serve (.setN (.setN (.setN (.reduce (.same (.same (.charge h)))))))))

theorem release {c : Claimant} {keep : Nat} : s.KeepsStore (t.release c keep) := .ite (.setGrant h) h

theorem dissipates {d : Nat} : s.KeepsStore (t.dissipates d) := h

theorem thermal {tHot : Int} {d : Nat} : s.KeepsStore (t.thermal tHot d) := by
  unfold State.thermal
  extract_lets dAvg t1 t2 was due src t3 diss want new t4 t5
  have shown : s.KeepsStore t2 := .setN (.setI (.dissipates h))
  have set : s.KeepsStore t4 := .setN (.ite (.same shown) shown)
  have told : s.KeepsStore t5 := .ite (.raise set) set
  exact .ite (.trimTo told) told

/-! ### Lanes (R76 to R86) -/

theorem combineAll : s.KeepsStore t.combineAll := h.field (.combineAll (.refl t))

theorem writeIso {l : Nat} : s.KeepsStore (t.writeIso l) := h.field (.writeIso (.refl t))

theorem demote {l : Nat} : s.KeepsStore (t.demote l) := .ite (.raise (.bump (.updLane h))) h

theorem forgetShort {l : Nat} : s.KeepsStore (t.forgetShort l) := by
  unfold State.forgetShort
  exact .ite (.same h) h

theorem measureReply {l : Nat} {v : List (Int × Int)} : s.KeepsStore (t.measureReply l v) := by
  unfold State.measureReply
  extract_lets t1 t2 others bad t3 t4
  have written : s.KeepsStore t4 := .foldl (fun _ _ => .writeIso (.refl _)) (.same (.combineAll (.setO (.updLane h))))
  have demoted : ∀ u, s.KeepsStore u → s.KeepsStore (bad.foldl (fun t m => t.demote m) u) := fun _ k => .foldl (fun _ _ => .demote (.refl _)) k
  clear_value t4
  split
  · exact .forgetShort (.raise (.updLane (demoted _ written)))
  · exact .ite written (demoted _ (.demote written))
  · exact .ite (.forgetShort (.raise (.bump (.updLane (.updLane (demoted _ written)))))) (.updLane (demoted _ written))
  · exact written

theorem markConflict {l m : Nat} : s.KeepsStore (t.markConflict l m) := h

theorem requestLane {zone : Nat} {lane wake : Option Nat} : s.KeepsStore (t.requestLane zone lane wake) := by
  unfold State.requestLane
  dsimp only
  split
  · exact .same h
  · exact .same h

theorem endWait {l : Nat} : s.KeepsStore (t.endWait l) := by
  unfold State.endWait
  split
  · exact .updLane (.add h)
  · exact h

theorem closeLane {l : Nat} : s.KeepsStore (t.closeLane l) := h.field (.closeLane (.refl t))

/-! ### The receive chain (chapter 5) -/

theorem updSeq {l : Nat} {f : Seq → Seq} : s.KeepsStore (t.updSeq l f) := h.field (.updSeq (.refl t))

theorem sense {xs : List Sensed} : s.KeepsStore (t.sense xs) := h.field (.sense (.refl t))

theorem acquire {p mv : Nat} : s.KeepsStore (t.acquire p mv) := h.field (.acquire (.refl t))

theorem countReacquire {p : Nat} : s.KeepsStore (t.countReacquire p) := h.field (.countReacquire (.refl t))

theorem leaveHold {p : Nat} : s.KeepsStore (t.leaveHold p) := .updRx h

theorem windowsClosed : s.KeepsStore t.windowsClosed := h.field (.windowsClosed (.refl t))

theorem windowsOpened : s.KeepsStore t.windowsOpened := .foldl (fun _ _ => .ite (.enterCancel (.refl _)) (.refl _)) h

theorem replyHolds : s.KeepsStore t.replyHolds := .foldl (fun _ _ => .ite (.enterCancel (.refl _)) (.refl _)) (.windowsOpened h)

theorem rxMeasure {p : Nat} : s.KeepsStore (t.rxMeasure p) := h.field (.rxMeasure (.refl t))

theorem rxOff {p : Nat} : s.KeepsStore (t.rxOff p) := by
  unfold State.rxOff
  split
  · exact h
  · exact .enterCancel (.leaveHold h)
  · exact .enterCancel h

theorem rxFault {p : Nat} : s.KeepsStore (t.rxFault p) := .ite (.updRx h) (.narrow (.raisePort (.rxOff (.updRx h))))

theorem rxPassed {p : Nat} : s.KeepsStore (t.rxPassed p) := .ite (.updRx h) h

theorem cancellerAcquire {p predicted measured : Nat} : s.KeepsStore (t.cancellerAcquire p predicted measured) := .acquire (.updRx (.setN h))

theorem acquired {p : Nat} : s.KeepsStore (t.acquired p) := .enterCancel (.updRx h)

theorem acquireFailed {p predicted : Nat} : s.KeepsStore (t.acquireFailed p predicted) :=
  .ite (.rxFault (.updRx (.raisePort (.countReacquire h)))) (.acquire (.updRx (.raisePort (.countReacquire h))))

theorem overload {p : Nat} : s.KeepsStore (t.overload p) := by
  unfold State.overload
  exact .ite (.same (.updRx (.raisePort (.updRx h)))) (.ite (.updRx (.bump (.raisePort (.updRx h)))) (.acquire (.draw (.ite (.countReacquire
      (.updRx (.bump (.raisePort (.updRx h))))) (.updRx (.bump (.raisePort (.updRx h))))))))

theorem gainRestore {p : Nat} : s.KeepsStore (t.gainRestore p) := .updRx h

theorem noiseAlert {p : Nat} : s.KeepsStore (t.noiseAlert p) := .ite (.raisePort (.updRx h)) (.updRx h)

theorem noisePort {p dens : Nat} : s.KeepsStore (t.noisePort p dens) := .noiseAlert (.setN (.setO h))

theorem noiseActive {p dens : Nat} : s.KeepsStore (t.noiseActive p dens) := .updRx (.setN h)

theorem noiseDrawn {p : Nat} : s.KeepsStore (t.noiseDrawn p) := h.field (.noiseDrawn (.refl t))

theorem rxWritten {k : Nat} : s.KeepsStore (t.rxWritten k) := .ite (.narrow h) h

/-! ### The credential table (R192 to R198) -/

theorem tableTouch {es : List Nat} : s.KeepsStore (t.tableTouch es) := .sliceYield h

theorem setSlot {e bits : Nat} : s.KeepsStore (t.setSlot e bits) := .setO (.tableTouch h)

theorem countLookup {v : Verdict} : s.KeepsStore (t.countLookup v) := .ite (.bump (.bump h)) (.bump h)

theorem tagTriggers {x : Lookup} {v : Verdict} : s.KeepsStore (t.tagTriggers x v) := by
  unfold State.tagTriggers
  split
  · exact .trigger h
  · exact .trigger (.ite (.trigger h) h)

theorem verdictReady {x : Lookup} : s.KeepsStore (t.verdictReady x) := by
  unfold State.verdictReady
  extract_lets v t1 t2 t3
  have kept : s.KeepsStore t2 := .tableTouch (.countLookup (.same h))
  refine .tagTriggers ?_
  unfold t3
  split
  · exact .raise (.updSeq (.same kept))
  · exact kept

theorem lookupsFirst : s.KeepsStore t.lookupsFirst := by
  refine .asHardware h fun u => .foldl (fun v _ => ?_) (.refl u)
  split
  · exact .verdictReady (.refl v)
  · exact .refl v

theorem moveChain {fs : List Nat} : s.KeepsStore (t.moveChain fs).1 := by
  induction fs generalizing t with
  | nil => exact h
  | cons f fs ih =>
    cases fs with
    | nil => exact h
    | cons e fs => exact ih (.bump (.setSlot (.setSlot h)))

theorem placeEntry {x : Nat} : s.KeepsStore (t.placeEntry x).1 := by
  unfold State.placeEntry
  dsimp only
  split
  · exact .setSlot h
  · split
    · exact .setSlot (.moveChain h)
    · exact h

theorem tableEnd {status slot : Nat} : s.KeepsStore (t.tableEnd status slot) := .setN (.setN (.setN h))

theorem tableInsert {r : Role} : s.KeepsStore (t.tableInsert r).1 := by
  unfold State.tableInsert
  dsimp only
  split
  · exact .ite_fst (.raise (.tableEnd (.setSlot h))) (.tableEnd h)
  · refine .ite_fst (.tableEnd h) ?_
    split
    · next v _ e =>
        have kept : s.KeepsStore v := .of_fst (.placeEntry h) e
        exact .raise (.tableEnd kept)
    · next v e =>
        have kept : s.KeepsStore v := .of_fst (.placeEntry h) e
        exact .raise (.bump (.tableEnd kept))

theorem tableDelete {r : Role} : s.KeepsStore (t.tableDelete r).1 := by
  unfold State.tableDelete
  dsimp only
  split
  · exact .ite_fst (.raise (.tableEnd (.setSlot h))) (.tableEnd h)
  · exact .tableEnd h

theorem tableLookup : s.KeepsStore t.tableLookup := .setN (.tableEnd (.tableTouch (.countLookup h)))

theorem tableClear {r : Role} : s.KeepsStore (t.tableClear r).1 :=
  .ite_fst (.tableEnd h) (.raise (.tableEnd (.foldl (fun _ _ => .setSlot (.refl _)) h)))

/-! ### The assignment of port 0 (R187 to R189) -/

theorem updTag {f : Tag → Tag} : s.KeepsStore (t.updTag f) := h

/-! ### The Moss pool (chapter 11) -/

theorem updQueue {q : Nat} {f : Queue → Queue} : s.KeepsStore (t.updQueue q f) := h.field (.updQueue (.refl t))

theorem updPool {f : Pool → Pool} : s.KeepsStore (t.updPool f) := h.field (.updPool (.refl t))

theorem poolLevel : s.KeepsStore t.poolLevel := h.field (.poolLevel (.refl t))

theorem poolMoved : s.KeepsStore t.poolMoved := h.field (.poolMoved (.refl t))

theorem releaseOpen {q who : Nat} : s.KeepsStore (t.releaseOpen q who) := h.field (.releaseOpen (.refl t))

theorem openWrite {q who : Nat} {x : List (List Byte)} : s.KeepsStore (t.openWrite q who x).1 := h.field (.openWrite (.refl t))

theorem queueEvent {q bit e : Nat} : s.KeepsStore (t.queueEvent q bit e) := h.field (.queueEvent (.refl t))

theorem queueSettle {q before : Nat} : s.KeepsStore (t.queueSettle q before) := by
  unfold State.queueSettle
  extract_lets d up down was t1 t2
  have peak : s.KeepsStore t1 := .ite (.setN h) h
  have filled : s.KeepsStore t2 := .ite (.queueEvent peak) peak
  exact .ite (.queueEvent (.updQueue filled)) (.ite (.queueEvent (.updQueue filled)) filled)

theorem pushFull {q : Nat} : s.KeepsStore (t.pushFull q) := h.field (.pushFull (.refl t))

theorem append {q : Nat} {b : Bunting} : s.KeepsStore (t.append q b) := h.field (.append (.refl t))

theorem nextKey : s.KeepsStore t.nextKey := h.field (.nextKey (.refl t))

theorem commitOpen {q who : Nat} : s.KeepsStore (t.commitOpen q who).1 := h.field (.commitOpen (.refl t))

theorem markTwin {q key : Nat} : s.KeepsStore (t.markTwin q key) := .updQueue h

theorem takeHead {q : Nat} : s.KeepsStore (t.takeHead q).1 := by
  unfold State.takeHead
  split
  · exact h
  · exact .poolMoved (.bump (.updQueue h))

theorem corruptPop {b : Bunting} : s.KeepsStore (t.corruptPop b) := .ite (.raise (.bump h)) h

theorem underflow {q : Nat} : s.KeepsStore (t.underflow q) := .queueEvent (.bump (.updQueue h))

theorem poolDenied : s.KeepsStore t.poolDenied := .bump h

theorem popStatus {n : Nat} : s.KeepsStore (t.popStatus n) := .updPool h

theorem hostTake {q : Nat} : s.KeepsStore (t.hostTake q).1 := by
  unfold State.hostTake
  split
  · exact .popStatus h
  · exact .popStatus (.corruptPop (.bump (.updQueue h)))

theorem popFirst {q : Nat} : s.KeepsStore (t.popFirst q).1 := by
  unfold State.popFirst
  refine .ite_fst (.ite_fst h (.hostTake h)) ?_
  split
  · next v _ e =>
      have kept : s.KeepsStore v := .of_fst (.takeHead h) e
      exact .corruptPop kept
  · next v e =>
      have kept : s.KeepsStore v := .of_fst (.takeHead h) e
      exact kept

theorem pushPlain {q who : Nat} {data : List Byte} : s.KeepsStore (t.pushPlain q who data).1 := h.field (.pushPlain (.refl t))

theorem push {q who : Nat} {data : List Byte} : s.KeepsStore (t.push q who data).1 := .queueSettle (.pushPlain h)

theorem pop {q : Nat} : s.KeepsStore (t.pop q).1 := by
  unfold State.pop
  split
  · next v _ e =>
      have kept : s.KeepsStore v := .of_fst (.takeHead h) e
      exact .corruptPop (.queueSettle kept)
  · next v e =>
      have kept : s.KeepsStore v := .of_fst (.takeHead h) e
      exact .underflow kept

theorem twinSecond {data : List Byte} {key : Nat} {twin : Bool} : s.KeepsStore (t.twinSecond data key twin).1 :=
  .ite_fst h (.ite_fst (.pushFull h) (.queueSettle (.poolMoved (.append h))))

theorem twinPush {data : List Byte} : s.KeepsStore (t.twinPush data).1 := by
  unfold State.twinPush
  dsimp only
  split
  · exact .twinSecond (.markTwin (.queueSettle (.pushPlain h)))
  · exact .twinSecond (.nextKey (.queueSettle (.pushPlain h)))
  · exact .push (.queueSettle (.pushPlain h))

theorem popAlone {q : Nat} : s.KeepsStore (t.popAlone q) := by
  unfold State.popAlone
  refine .ite (.ite h (.ite (.same (.underflow (.hostTake h))) (.same (.queueSettle (.hostTake h))))) ?_
  split
  · next v _ e =>
      have kept : s.KeepsStore v := .of_fst (.pop h) e
      exact .same kept
  · next v e =>
      have kept : s.KeepsStore v := .of_fst (.pop h) e
      exact .same kept

theorem pushStatus {x : PushStatus} : s.KeepsStore (t.pushStatus x) := .updPool h

theorem hostPush {w : BitVec 32} : s.KeepsStore (t.hostPush w) := .ite (.pushStatus (.poolDenied h)) (.pushStatus (.openWrite h))

theorem hostCommit {tail : Nat} {pop : Bool} : s.KeepsStore (t.hostCommit tail pop) := by
  unfold State.hostCommit
  refine .ite (.ite (.popAlone (.pushStatus (.poolDenied h))) (.pushStatus (.poolDenied h))) ?_
  split
  · exact .ite (.popAlone (.pushStatus h)) (.pushStatus h)
  · exact .same (.pushStatus (.queueSettle (.commitOpen (.updQueue (.ite_fst (.popFirst h) h)))))

theorem hostAbort : s.KeepsStore t.hostAbort := .ite (.pushStatus (.poolDenied h)) (.pushStatus (.releaseOpen h))

theorem cellsFreed {old : State} : s.KeepsStore (t.cellsFreed old) := .ite h (.poolMoved h)

theorem hostPop : s.KeepsStore t.hostPop.1 := by
  unfold State.hostPop
  refine .ite_fst (.popStatus (.poolDenied h)) ?_
  split
  · exact .popStatus (.cellsFreed (.updQueue h))
  · split
    · exact .popStatus (.underflow h)
    · exact .queueSettle (.hostTake h)

theorem queDrop : s.KeepsStore t.queDrop := .ite h (.poolMoved (.bump (.updQueue h)))

theorem clearFlags {q : Nat} {high low overflow underflow : Bool} : s.KeepsStore (t.clearFlags q high low overflow underflow) := .updQueue h

theorem poolRead : s.KeepsStore t.poolRead.1 := .updPool h

theorem poolWritten {k : Nat} {v : Val} : s.KeepsStore (t.poolWritten k v) := by
  unfold State.poolWritten
  split
  · exact .ite (.clearFlags h) (.ite (.queueSettle h) h)
  · exact .ite (.poolLevel h) h

/-! ### Zones, holds and teaching (R71, R131 to R137) -/

theorem updHold {h' : Nat} {f : Hold → Hold} : s.KeepsStore (t.updHold h' f) := h.field (.updHold (.refl t))

theorem cardLeft {l : Nat} {c : Card} : s.KeepsStore (t.cardLeft l c) := h.field (.cardLeft (.refl t))

theorem verdictLate {l stamp : Nat} : s.KeepsStore (t.verdictLate l stamp) := by
  unfold State.verdictLate
  exact .raise (.bump (.updSeq (.setO (.same h))))

theorem teachEnd {z code : Nat} : s.KeepsStore (t.teachEnd z code) := by
  unfold State.teachEnd
  exact .setN (.same h)

theorem teachDone {z : Nat} {sum : List Cx} : s.KeepsStore (t.teachDone z sum) := by
  unfold State.teachDone
  exact .recomputeZone (.teachEnd (.setN (.setO h)))

theorem teachReply {l : Nat} {v : List (Int × Int)} : s.KeepsStore (t.teachReply l v) := by
  unfold State.teachReply
  exact .ite h (.ite (.teachEnd h) (.ite (.teachDone h) (.same h)))

theorem teachStart {z : Nat} : s.KeepsStore (t.teachStart z) := h

/-! ### The flows of the sequencers (R127 to R142) -/

theorem queueStep {l : Nat} : s.KeepsStore (t.queueStep l) := h.field (.queueStep (.refl t))

theorem go {l : Nat} {st : HfStep} : s.KeepsStore (t.go l st) := h.field (.go (.refl t))

theorem rest {l : Nat} : s.KeepsStore (t.rest l) := h.field (.rest (.refl t))

theorem stopLane {l : Nat} : s.KeepsStore (t.stopLane l) := h.field (.stopLane (.refl t))

theorem completed {l tech : Nat} {id : List Byte} {info : Nat} {by_ : Machine.Recorded} : s.KeepsStore (t.completed l tech id info by_) := h.field
  (.completed (.refl t))

theorem hostPollEnd {l : Nat} {ok : Bool} {st : ExStatus} : s.KeepsStore (t.hostPollEnd l ok st) := .raise (.updSeq (.setN (.setN h)))

theorem pollEnd {l : Nat} : s.KeepsStore (t.pollEnd l) := by
  unfold State.pollEnd
  extract_lets x t1 t2 t3 t4 t5
  have ended : s.KeepsStore t3 := .ite (.hostPollEnd (.same (.rest (.setN h)))) (.same (.rest (.setN h)))
  have told : s.KeepsStore t4 := by
    unfold t4
    split
    · exact .ite (.frondNonCard ended) ended
    · exact ended
  exact .ite (.stopLane (.updSeq told)) (.updSeq told)

theorem nextTech {l : Nat} : s.KeepsStore (t.nextTech l) := by
  unfold State.nextTech
  dsimp only
  split
  · exact .pollEnd h
  · split
    · exact .go (.updSeq h)
    · exact .go (.updSeq (.updSeq h))
    · exact .go (.updSeq (.updSeq h))
    · exact .go (.updSeq (.updSeq h))

theorem startPoll {l : Nat} : s.KeepsStore (t.startPoll l) := .nextTech (.updSeq h)

theorem keepCard {l : Nat} {st : Nat} : s.KeepsStore (t.keepCard l st) := h.field (.keepCard (.refl t))

theorem hostEnd {l : Nat} {st : ExStatus} {rx : List Byte} : s.KeepsStore (t.hostEnd l st rx) := .raise (.updSeq (.setO (.setN (.setN h))))

theorem presenceBad {l : Nat} : s.KeepsStore (t.presenceBad l) := h.field (.presenceBad (.refl t))

theorem flowOver {l : Nat} : s.KeepsStore (t.flowOver l) := by
  unfold State.flowOver
  split
  · exact .nextTech h
  · exact .rest (.hostEnd h)
  · exact .presenceBad h

theorem nextSlotB {l : Nat} : s.KeepsStore (t.nextSlotB l) := .ite (.go (.updSeq h)) (.ite (.go (.updSeq h)) (.flowOver h))

theorem nextMask {l : Nat} : s.KeepsStore (t.nextMask l) := .ite (.ite (.pollEnd h) (.nextTech h)) (.go (.updSeq h))

theorem handV {l n : Nat} : s.KeepsStore (t.handV l n) := by
  induction n generalizing t with
  | zero => exact .nextMask h
  | succ n ih =>
    unfold State.handV
    dsimp only
    split
    · exact .nextMask h
    · refine .ite (.pollEnd (.updSeq h)) (.ite (ih (.keepCard (.completed (.updSeq h)))) (.go (.completed (.updSeq h))))

theorem nextSlotV {l : Nat} : s.KeepsStore (t.nextSlotV l) := .ite (.go (.updSeq h)) (.handV (.updSeq h))

theorem endRoundF {l : Nat} : s.KeepsStore (t.endRoundF l) := by
  unfold State.endRoundF
  refine .ite (.rest h) ?_
  split
  · exact .go (.updSeq h)
  · exact .ite (.pollEnd h) (.ite (.go (.updSeq h)) (.flowOver h))

theorem nextCard {l : Nat} : s.KeepsStore (t.nextCard l) := by
  unfold State.nextCard
  refine .ite (.ite (.nextSlotB (.updSeq h)) (.ite (.endRoundF (.updSeq h)) (.rest (.updSeq h)))) ?_
  refine .ite (.pollEnd (.updSeq h)) ?_
  split
  · exact .go (.updSeq h)
  · exact .nextSlotB (.updSeq h)
  · exact .handV (.updSeq h)
  · exact .endRoundF (.updSeq h)

theorem activate {l : Nat} : s.KeepsStore (t.activate l) := by
  unfold State.activate
  dsimp only
  split
  · exact .ite (.go (.updSeq h)) (.ite (.go h) (.ite (.rest (.hostEnd h)) (.nextCard (.keepCard h))))
  · exact .go h
  · exact .ite (.go (.updSeq h)) (.ite (.rest (.hostEnd h)) (.nextCard (.keepCard h)))
  · exact .ite (.rest (.hostEnd h)) (.nextCard (.keepCard h))

theorem policy {l : Nat} {halt : HfStep} : s.KeepsStore (t.policy l halt) := by
  unfold State.policy
  refine .ite ?_ (.go h)
  split
  · exact .nextCard (.keepCard h)
  · exact .ite (.go h) (.activate h)
  · exact .go h

theorem halted_ {l : Nat} : s.KeepsStore (t.halted_ l) := .nextCard (.ite (.keepCard h) h)

theorem cardOk {l : Nat} : s.KeepsStore (t.cardOk l) := h.field (.cardOk (.refl t))

theorem saveCur {l : Nat} : s.KeepsStore (t.saveCur l) := h.field (.saveCur (.refl t))

theorem hostDone {l : Nat} {st : ExStatus} {rx : List Byte} : s.KeepsStore (t.hostDone l st rx) := .rest (.hostEnd (.saveCur (.ite (.cardOk h) h)))

theorem startHost {l : Nat} : s.KeepsStore (t.startHost l) := by
  unfold State.startHost
  dsimp only
  split
  · exact .rest h
  · split
    · exact .hostDone h
    · refine .ite (.ite (.hostDone (.go (.updSeq h))) (.go (.updSeq h))) ?_
      refine .ite (.go (.updSeq h)) ?_
      split
      · exact .go (.updSeq h)
      · exact .activate (.updSeq (.updSeq h))
      · exact .go (.updSeq h)
      · exact .go (.updSeq h)
      · exact .ite (.go (.updSeq (.updSeq h))) (.hostDone (.updSeq h))
      · exact .hostDone (.updSeq h)

theorem activated {l : Nat} : s.KeepsStore (t.activated l) :=
  .ite (.go (.saveCur (.updSeq h))) (.ite (.nextCard (.saveCur (.updSeq h))) (.nextCard (.ite (.keepCard (.updSeq h)) (.updSeq h))))

theorem park {l : Nat} : s.KeepsStore (t.park l) := .updSeq h

theorem unpark {l : Nat} : s.KeepsStore (t.unpark l) := h.field (.unpark (.refl t))

theorem turnBack {l : Nat} : s.KeepsStore (t.turnBack l) := h.field (.turnBack (.refl t))

theorem hostTurn {l : Nat} : s.KeepsStore (t.hostTurn l) := .turnBack (.startHost h)

theorem hostPoll {l : Nat} : s.KeepsStore (t.hostPoll l) := .turnBack (.startPoll (.updSeq h))

theorem nextJob {l : Nat} : s.KeepsStore (t.nextJob l) :=
  .ite h (.ite (.ite (.closeLane h) (.ite (.hostTurn h) (.ite (.hostPoll h) (.ite (.unpark h) (.ite (.hostPoll h) h))))) (.ite h (.ite
    (.hostTurn (.park h)) (.ite (.hostPoll (.park h)) h))))

theorem presenceGood {l : Nat} : s.KeepsStore (t.presenceGood l) := by
  unfold State.presenceGood
  dsimp only
  split
  · exact .go (.cardOk h)
  · exact .go (.updSeq (.cardOk h))
  · exact .go (.updSeq (.cardOk h))
  · exact .go (.updSeq (.cardOk h))
  · exact .go (.cardOk h)
  · exact .rest (.cardOk h)

theorem presenceStart {l : Nat} {c : Card} : s.KeepsStore (t.presenceStart l c) := by
  unfold State.presenceStart
  refine .ite (.go (.updSeq h)) ?_
  refine .ite (.go (.updSeq h)) ?_
  split
  · exact .go (.updSeq h)
  · exact .go (.updSeq h)
  · exact .go (.updSeq h)
  · exact .go (.updSeq h)

theorem released {l : Nat} : s.KeepsStore (t.released l) := h.field (.released (.refl t))

theorem leaveSession {l : Nat} : s.KeepsStore (t.leaveSession l) := h.field (.leaveSession (.refl t))

theorem giveUp {l : Nat} {st : ExStatus} : s.KeepsStore (t.giveUp l st) := by
  unfold State.giveUp
  dsimp only
  split
  · exact .nextSlotB h
  · exact .nextSlotB h
  · exact .nextSlotV h
  · exact .nextSlotV h
  · exact .endRoundF h
  · exact .nextCard h
  · split
    · exact .ite (.rest h) (.presenceBad h)
    · exact .ite (.rest (.updSeq (.hostEnd (.saveCur h)))) (.leaveSession (.updSeq (.hostEnd (.saveCur h))))
    · exact .nextCard h

theorem limitReached {l : Nat} {st : ExStatus} : s.KeepsStore (t.limitReached l st) :=
  .ite (.giveUp (.raise (.bump h))) (.ite (.leaveSession (.raise (.bump h))) (.giveUp h))

theorem repeatExch {l : Nat} : s.KeepsStore (t.repeatExch l) := h.field (.repeatExch (.refl t))

theorem countError {st : ExStatus} : s.KeepsStore (t.countError st) := by
  unfold State.countError
  split
  · exact .bump h
  · exact .bump h
  · exact .bump h
  · exact .bump h

theorem retryBy {l : Nat} {err : ExStatus} {again : State → State} (hf : ∀ u, s.KeepsStore u → s.KeepsStore (again u)) :
    s.KeepsStore (t.retryBy l err again) :=
  .ite (hf _ (.bump (.updSeq h))) (.limitReached h)

theorem countSpecial {l : Nat} : s.KeepsStore (t.countSpecial l) := .ite (.updSeq h) h

theorem cardError {l : Nat} {st : ExStatus} : s.KeepsStore (t.cardError l st) :=
  .ite (.released (.countSpecial (.countError h))) (.retryBy (.countSpecial (.countError h)) fun _ g => .repeatExch g)

theorem blockGood {l pcb : Nat} {inf : List Byte} : s.KeepsStore (t.blockGood l pcb inf) :=
  .ite (.ite (.cardError h) (.go (.updSeq h))) (.ite (.ite (.go (.updSeq (.updSeq h))) (.retryBy h fun _ g => .queueStep (.updSeq g))) (.ite (.ite
    (.go (.updSeq (.updSeq h)))
    (.hostDone (.updSeq (.updSeq h)))) (.cardError h)))

theorem sought {l : Nat} {d : List Byte} : s.KeepsStore (t.sought l d) := .ite (.go (.updSeq (.updSeq h))) (.presenceGood (.updSeq h))

theorem hfGood {l : Nat} {d : List Byte} : s.KeepsStore (t.hfGood l d) := by
  unfold State.hfGood
  dsimp only
  split
  · exact .go (.updSeq h)
  · exact .go (.updSeq h)
  · exact .ite (.go (.bump h)) (.go (.updSeq h))
  · exact .ite (.ite (.cardError h) (.go (.updSeq h))) (.policy (.completed (.updSeq h)))
  · exact .ite (.cardError h) (.ite (.go (.updSeq h)) (.ite (.activate (.updSeq h)) (.presenceGood h)))
  · exact .cardError h
  · exact .cardError h
  · exact .ite (.cardError h) (.ite (.activated (.updSeq h)) (.go (.updSeq h)))
  · exact .ite (.activated h) (.cardError h)
  · exact .ite (.cardError h) (.ite (.activated (.updSeq h)) (.go (.updSeq h)))
  · exact .ite (.activated h) (.cardError h)
  · exact .ite (.ite (.sought h) (.policy (.updSeq (.completed h)))) (.cardError h)
  · exact .ite (.ite (.sought h) (.policy (.updSeq (.completed h)))) (.cardError h)
  · exact .ite (.cardError h) (.ite (.ite (.go (.updSeq h)) (.presenceGood h)) (.giveUp h))
  · exact .ite (.halted_ h) (.cardError h)
  · exact .ite (.rest h) (.cardError h)
  · exact .ite (.activated h) (.cardError h)
  · exact .nextSlotV (.updSeq h)
  · exact .nextSlotV (.updSeq h)
  · exact .cardError h
  · exact .cardError h
  · exact .ite (.presenceBad h) (.presenceGood h)
  · exact .ite (.cardOk (.updSeq h)) (.ite h (.ite (.keepCard (.updSeq (.completed (.updSeq h)))) (.completed (.updSeq h))))
  · exact .ite (.cardError h) (.ite (.presenceGood h) (.presenceBad h))
  · exact .ite (.presenceGood h) (.cardError h)
  · exact .ite (.presenceGood h) (.cardError h)
  · exact .hostDone h
  · exact .ite (.ite (.blockGood h) (.cardError h)) (.blockGood h)
  · exact .ite (.ite (.blockGood h) (.cardError h)) (.blockGood h)
  · exact .ite (.ite (.blockGood h) (.cardError h)) (.blockGood h)
  · exact .ite (.ite (.blockGood h) (.cardError h)) (.blockGood h)
  · exact .released h
  · exact h

theorem hfSilent {l : Nat} : s.KeepsStore (t.hfSilent l) := by
  unfold State.hfSilent
  dsimp only
  split
  · exact .nextTech h
  · exact .halted_ h
  · exact .rest h
  · exact .rest h
  · exact .rest h
  · exact .released h
  · exact .nextSlotB h
  · exact .nextSlotB h
  · exact .nextSlotV h
  · exact .nextSlotV h
  · exact .halted_ h
  · exact .endRoundF h
  · exact .giveUp h

theorem hfCollided {l : Nat} {d : List Byte} {marks : List Nat} : s.KeepsStore (t.hfCollided l d marks) := by
  unfold State.hfCollided
  dsimp only
  split
  · exact .go (.updSeq h)
  · exact .go (.updSeq h)
  · exact .nextSlotB (.updSeq h)
  · exact .nextSlotB (.updSeq h)
  · exact .nextSlotV (.updSeq h)
  · exact .nextSlotV (.updSeq h)
  · exact .updSeq h
  · exact .go (.updSeq h)
  · exact .go (.updSeq h)
  · exact .go (.updSeq h)
  · exact .giveUp h

theorem exchEnd {l : Nat} : s.KeepsStore (t.exchEnd l) := .ite (.closeLane (.rest (.laneGap (.bump h)))) (.nextJob (.laneGap (.bump h)))

/-! ### The protocol engine's commands (chapter 6) -/

theorem resetGuardEnd {l : Nat} : s.KeepsStore (t.resetGuardEnd l) := .startPoll (.updSeq h)

theorem takeTurn {l : Nat} : s.KeepsStore (t.takeTurn l) := by
  unfold State.takeTurn
  exact .ite (.same h) (.same h)

theorem transmit {l : Nat} : s.KeepsStore (t.transmit l) := by
  unfold State.transmit
  exact .portsModulate (.same (.updSeq (.takeTurn h)))

theorem commandStart {l : Nat} : s.KeepsStore (t.commandStart l) :=
  .ite (.updLane h) (.ite (.updSeq (.ite (.bump (.endWait h)) (.endWait h))) (.transmit (.endWait h)))

theorem windowOpens {l : Nat} : s.KeepsStore (t.windowOpens l) := .windowsOpened (.updSeq h)

theorem noiseOver {l : Nat} {measure : State → Nat → State} (hf : ∀ u p, State.KeepsStore u (measure u p)) :
    s.KeepsStore (t.noiseOver l measure) :=
  .ite (.updSeq (.foldl hf h)) h

theorem replyStarts {l : Nat} {dens : List (BitVec 16)} : s.KeepsStore (t.replyStarts l dens) := by
  unfold State.replyStarts
  exact .replyHolds (.updSeq (.same (.noiseOver (.capEdge (.updSeq h)) fun u _ => .noiseActive (.refl u))))

theorem judge {l : Nat} {r : Reply} : s.KeepsStore (t.judge l r).1 := by
  unfold State.judge
  extract_lets x dev
  split
  next f u e =>
  have drawn : s.KeepsStore u := .of_snd (.ite_snd (u := (0, t)) (.draw h) h) e
  extract_lets out decoded
  split
  extract_lets u1 u2 marks
  have counted : s.KeepsStore u2 := .ite (.add drawn) (.bump (.add drawn))
  refine .ite_fst counted (.ite_fst (.bump counted) (.ite_fst (.bump counted) (.ite_fst counted (.ite_fst counted ?_))))
  exact .ite_fst counted (.ite_fst counted (.ite_fst counted (.ite_fst counted counted)))

theorem failedReply {l : Nat} {st : ExStatus} {blank : Bool} : s.KeepsStore (t.failedReply l st blank) :=
  .ite (.repeatExch (.updSeq (.countSpecial (.bump (.foldl (fun _ _ => .markConflict (.refl _)) h))))) (.ite (.updSeq (.repeatExch (.updSeq
    (.countSpecial h)))) (.ite (.ite (.giveUp h) (.repeatExch (.updSeq h))) (.cardError h)))

theorem keepFailed {l : Nat} {st : ExStatus} {r : Reply} : s.KeepsStore (t.keepFailed l st r) := .ite (.updSeq h) h

theorem replyComplete {l : Nat} {r : Reply} : s.KeepsStore (t.replyComplete l r) := by
  unfold State.replyComplete
  extract_lets x blank v
  split
  next u st marks e =>
  have judged : s.KeepsStore u := .of_fst (.judge (.sense h)) e
  extract_lets st1 st2 t1 more t2 t3 good collided t4
  have closed : s.KeepsStore t2 := .windowsClosed (.updSeq (.ite (.raise (.bump judged)) judged))
  have measured : s.KeepsStore t3 := .ite (.updSeq (.measureReply closed)) closed
  have taken : s.KeepsStore good := .teachReply (.hfGood measured)
  have met : s.KeepsStore collided := .hfCollided measured
  have told : s.KeepsStore t4 := .ite (.ite (.endRoundF taken) taken) (.ite (.ite (.endRoundF met) met) (.failedReply (.keepFailed measured)))
  exact .ite told (.exchEnd told)

theorem noReply {l : Nat} {dens : List (BitVec 16)} {sensed : List Sensed} : s.KeepsStore (t.noReply l dens sensed) := by
  have closed := ((h.noiseOver (l := l) (measure := fun t p => t.noiseActive p (dens.getD p 0).toNat) fun u _ => .noiseActive (.refl u)).sense
    (xs := sensed))
  exact .exchEnd (.ite (.hfSilent (.windowsClosed (.updSeq (.updSeq closed)))) (.cardError (.windowsClosed (.updSeq (.updSeq closed)))))

theorem absorbAborts : s.KeepsStore t.absorbAborts := h.field (.absorbAborts (.refl t))

theorem presenceCheck {l : Nat} {c : Card} : s.KeepsStore (t.presenceCheck l c) := .ite (.updSeq h) (.presenceStart h)

theorem presenceTimeout {l : Nat} : s.KeepsStore (t.presenceTimeout l) :=
  .ite (.stopLane (.updSeq (.foldl (fun _ _ => .cardLeft (.refl _)) h))) (.updSeq (.foldl (fun _ _ => .cardLeft (.refl _)) h))

theorem hostExchange {l : Nat} : s.KeepsStore (t.hostExchange l) := .ite (.hostEnd (.setN h)) (.nextJob (.updSeq (.setN h)))

theorem pollRequest {l : Nat} : s.KeepsStore (t.pollRequest l) :=
  .ite (.nextJob (.updSeq (.setN h))) (.ite (.requestLane (.setN h)) (.setN (.setN (.setN h))))

theorem exchTimeout {l : Nat} : s.KeepsStore (t.exchTimeout l) := .ite (.exchEnd (.hostDone (.windowsClosed (.updSeq (.noiseOver h fun u _ =>
  .noiseDrawn (.refl u)))))) (.hostEnd h)

/-! ### The field ports' commands (chapter 3) -/

theorem recheckRebased : s.KeepsStore t.recheckRebased := h

theorem firSetWritten {set : Nat} {coef : List Byte} : s.KeepsStore (t.firSetWritten set coef) := by
  unfold State.firSetWritten
  exact .setN (.same h)

theorem firMapWritten {p mode set : Nat} : s.KeepsStore (t.firMapWritten p mode set) := by
  unfold State.firMapWritten
  exact .ite (.setN h) (.setN (.same h))

theorem maskWritten : s.KeepsStore t.maskWritten := by
  unfold State.maskWritten
  exact .foldl (fun _ _ => .ite (.refl _) (.setI (.refl _))) (.same (.foldl (fun _ _ => .foldl (fun _ _ => .ite (.refl _) (.setN (.refl _)))
      (.refl _)) h))

theorem clearPort {p : Nat} : s.KeepsStore (t.clearPort p) := .foldl (fun _ _ => .dropComponent (.refl _)) h

theorem clearLanes {p : Nat} : s.KeepsStore (t.clearLanes p) := h.field (.clearLanes (.refl t))

theorem testModeSet {p : Nat} : s.KeepsStore (t.testModeSet p) :=
  .ite (.coverAll (.updFrond (.dropComponent h))) (.putComponent (.coverAll (.updPort (.clearLanes h))))

theorem serviceSet {p : Nat} : s.KeepsStore (t.serviceSet p) := .ite (.coverAll (.updFrond h)) (.coverAll (.clearPort h))

theorem fieldCapWritten {p : Nat} : s.KeepsStore (t.fieldCapWritten p) :=
  .ite (.absorbAborts (.portClaim (.portEmergency h))) (.ite (.portClaim (.relimit h)) h)

theorem portsRefused {k : Nat} {st : Status} : s.KeepsStore (t.portsRefused k st) := h.events (t.onlyEvents_portsRefused _ _)

theorem portsWritten {k : Nat} {v : Val} : s.KeepsStore (t.portsWritten k v) := by
  unfold State.portsWritten
  refine .ite ?_ (.ite (.firSetWritten h) (.ite (.maskWritten h) (.ite (.recheckRebased h) h)))
  split
  · exact .serviceSet h
  · exact .fieldCapWritten h
  · exact .ite (.updPort h) h
  · exact .firMapWritten h
  · exact .testModeSet h
  · exact .ite h (.putComponent h)
  · exact h

/-! ### The survey and the closing of lanes (R65 to R71, R92) -/

theorem surveyStart : s.KeepsStore t.surveyStart := h.field (.surveyStart (.refl t))

theorem pennantsTaken {k : Nat} : s.KeepsStore (t.pennantsTaken k) := by
  unfold State.pennantsTaken
  refine .ite (.recomputeLater (.ite (.setN h) h)) ?_
  refine .ite ?_ (.ite (.requestSurvey h) (.ite (.same h) h))
  split
  · exact .recomputeZone h
  · exact .recomputeZone h
  · exact .recomputeZone h
  · exact .coverZone (.foldl (fun _ _ => .refreshPennant (.refl _)) h)
  · exact .coverZone (.foldl (fun _ _ => .refreshPennant (.refl _)) h)
  · exact .coverZone (.foldl (fun _ _ => .refreshPennant (.refl _)) h)
  · exact .teachStart h
  · exact h

/-! ### Frond (chapter 7) -/

theorem assignTag : s.KeepsStore t.assignTag := by
  unfold State.assignTag
  exact .ite h (.raise (.updTag (.coverAll (.narrow (.rxOff (.clearPort (.same h)))))))

theorem releaseTag : s.KeepsStore t.releaseTag := by
  unfold State.releaseTag
  exact .raise (.coverAll (.same h))

theorem frondUnbook {p : Nat} : s.KeepsStore (t.frondUnbook p) := .ite h (.setN (.burgeeFree h))

theorem frondBook {p : Nat} : s.KeepsStore (t.frondBook p) := by
  unfold State.frondBook
  refine .ite (.setN (.frondUnbook h)) ?_
  split
  · next v _ e =>
      have kept : s.KeepsStore v := .of_fst (.burgeeBook (.frondUnbook h)) e
      exact .setN (.setN kept)
  · next v e =>
      have kept : s.KeepsStore v := .of_fst (.burgeeBook (.frondUnbook h)) e
      exact .setN kept

theorem frondWindows : s.KeepsStore t.frondWindows := .foldl (fun _ _ => .frondBook (.refl _)) (.foldl (fun _ _ => .frondUnbook (.refl _)) h)

theorem frondBookAll : s.KeepsStore t.frondBookAll := .frondFollowAll (.frondWindows h)

theorem pingYields {p : Nat} : s.KeepsStore (t.pingYields p) := .sliceYield (.sliceYield h)

theorem freePing {p extMv : Nat} : s.KeepsStore (t.freePing p extMv) := .rxMeasure (.updFrond h)

theorem frondSkip {p : Nat} : s.KeepsStore (t.frondSkip p) := .ite (.raisePort (.bump (.updFrond h))) (.bump (.updFrond h))

theorem frondHandled {p : Nat} : s.KeepsStore (t.frondHandled p) := .updFrond h

theorem frondPasses {p : Nat} : s.KeepsStore (t.frondPasses p) := .frondHandled (.ite (.updFrond h) (.frondSkip h))

theorem lanePing {p : Nat} : s.KeepsStore (t.lanePing p) := .rxMeasure (.updFrond h)

theorem writeDetune {p : Nat} {z b : Int × Int} : s.KeepsStore (t.writeDetune p z b) := by
  unfold State.writeDetune
  refine .setI (.setN ?_)
  have first : s.KeepsStore (if b = (0, 0) then t.draw else (0, t)).2 := .ite_snd (t := t.draw) (u := (0, t)) (.draw h) h
  exact .ite_snd (u := (0, _)) (.draw first) first

theorem frondWake {p : Nat} : s.KeepsStore (t.frondWake p) := by
  unfold State.frondWake
  split
  · exact h
  · exact .ite h (.ite (.bump h) (.raisePort (.requestLane (.bump (.same h)))))

theorem frondPresent {p cls : Nat} : s.KeepsStore (t.frondPresent p cls) :=
  .ite (.ite (.raisePort (.assignTag (.raisePort (.raisePort (.updFrond h))))) (.raisePort (.raisePort (.updFrond h)))) (.ite (.frondWake
    (.raisePort (.updFrond h))) (.raisePort (.updFrond h)))

theorem frondAbsent {p : Nat} : s.KeepsStore (t.frondAbsent p) := .raisePort (.updFrond h)

theorem frondDrift {p : Nat} : s.KeepsStore (t.frondDrift p) := .ite (.raisePort (.updFrond h)) h

theorem storeBase {p : Nat} : s.KeepsStore (t.storeBase p) := .ite (.updFrond (.setO h)) h

theorem updateBase {p : Nat} {z : Int × Int} : s.KeepsStore (t.updateBase p z) := by
  unfold State.updateBase
  exact .frondDrift (.storeBase (.updFrond h))

theorem learnPing {p : Nat} {z : Int × Int} : s.KeepsStore (t.learnPing p z) := .ite (.updFrond h) (.storeBase (.setO (.updFrond h)))

theorem disarmAbsorb {p : Nat} {z : Int × Int} : s.KeepsStore (t.disarmAbsorb p z) :=
  .frondAbsent (.frondDrift (.raisePort (.storeBase (.updFrond h))))

theorem frondDecide {p : Nat} {ping : Ping} {z d : Int × Int} : s.KeepsStore (t.frondDecide p ping z d) := by
  unfold State.frondDecide
  dsimp only
  split
  · exact .ite h (.learnPing h)
  · exact .ite (.frondPresent h) (.ite (.ite (.frondPresent h) (.updFrond h)) (.ite (.updateBase (.updFrond h)) (.updFrond h)))
  · exact .ite (.ite (.updFrond h) (.frondPresent h)) (.ite (.ite (.frondAbsent h) (.updFrond h)) (.updFrond h))
  · exact .ite (.frondPresent h) (.ite (.frondPresent h) (.ite (.disarmAbsorb h) (.ite (.ite (.frondAbsent h) (.updFrond h)) (.updFrond h))))
  · exact h

theorem laneDecide {p : Nat} {ping : Ping} {d : Int × Int} : s.KeepsStore (t.laneDecide p ping d) := .ite (.raisePort (.updFrond h)) (.updFrond h)

theorem pingDecision {p : Nat} {ping : Ping} {zu : Int × Int} : s.KeepsStore (t.pingDecision p ping zu) := by
  unfold State.pingDecision
  extract_lets z b d learning t1 t2 t3
  have counted : s.KeepsStore t1 := .bump (.updFrond h)
  have measured : s.KeepsStore t3 := .rxMeasured (.ite counted (.writeDetune (.setO counted)))
  exact .ite (.ite measured (.laneDecide measured)) (.frondDecide measured)

theorem pingSpoiled {p : Nat} {ping : Ping} : s.KeepsStore (t.pingSpoiled p ping) :=
  .ite (.updFrond (.pingDropped h)) (.frondSkip (.updFrond (.pingDropped h)))

theorem occurrenceActs {w : Nat} : s.KeepsStore (t.occurrenceActs w) := by
  unfold State.occurrenceActs
  dsimp only
  split
  · exact .foldl (fun _ _ => .ite (.updFrond (.ite (.frondSkip (.refl _)) (.refl _))) (.refl _)) h
  · exact .foldl (fun _ _ => .ite (.requestLane (.refl _)) (.refl _)) h
  · exact h

theorem frondWritten {old : State} {k : Nat} {v : Val} : s.KeepsStore (t.frondWritten old k v) := by
  unfold State.frondWritten
  refine .ite (.frondFollowAll (.foldl (fun _ _ => .ite (.refl _) (.frondBook (.refl _))) h)) ?_
  refine .ite (.frondBookAll h) ?_
  refine .ite ?_ h
  split
  · exact .frondFollowAll (.frondBook h)
  · exact .ite (.updFrond h) h
  · exact h

/-! ### The audit ring (R364 to R367) -/

theorem updSession {x : Sess} {f : Session → Session} : s.KeepsStore (t.updSession x f) := h

theorem security {reason : Nat} : s.KeepsStore (t.security reason) := h.events (t.onlyEvents_security _)

theorem auditPut {e : AuditEntry} : s.KeepsStore (t.auditPut e) := by
  unfold State.auditPut
  exact .ite (.security (.setFit (.same (.ite (.bump h) h)))) (.setFit (.same (.ite (.bump h) h)))

theorem auditWrite {who : Who} {kind k : Nat} {b : List Byte} : s.KeepsStore (t.auditWrite who kind k b) := .auditPut h

theorem auditAction {who : Who} {role kind k action : Nat} : s.KeepsStore (t.auditAction who role kind k action) := .auditPut h

theorem auditModule {kind k action : Nat} : s.KeepsStore (t.auditModule kind k action) := .auditPut h

theorem auditRefuse : s.KeepsStore t.auditRefuse := .bump h

/-! ### Roles, keys, firmware and attestation (chapter 17) -/

theorem lockEnds {x : Sess} : s.KeepsStore (t.lockEnds x) := .ite (.updSession h) h

theorem claimFailed {x : Sess} : s.KeepsStore (t.claimFailed x) := .ite (.security (.auditModule (.updSession (.updSession h)))) (.updSession h)

theorem spendNonce {x : Sess} : s.KeepsStore (t.spendNonce x) := .updSession h

theorem claimRefused {x : Sess} {b : List Byte} : s.KeepsStore (t.claimRefused x b) :=
  .ite (.claimFailed (.spendNonce (.lockEnds h))) (.spendNonce (.lockEnds h))

theorem claimTaken {x : Sess} {who : Who} {b : List Byte} : s.KeepsStore (t.claimTaken x who b) :=
  .ite (.updSession (.spendNonce (.lockEnds h))) (.auditAction (.updSession (.spendNonce (.lockEnds h))))

theorem readNonce {x : Option Sess} : s.KeepsStore (t.readNonce x) := by
  unfold State.readNonce
  dsimp only
  split
  · exact .updSession (.same (.randomBytes h))
  · exact .same (.randomBytes h)

theorem updImage {slot : Nat} {f : Image → Image} : s.KeepsStore (t.updImage slot f) := h

theorem fwEnd {status : Nat} : s.KeepsStore (t.fwEnd status) := by
  unfold State.fwEnd
  exact .security (.setN (.setN (.same h)))

theorem fwActivate : s.KeepsStore t.fwActivate := by
  unfold State.fwActivate
  exact .ite (.fwEnd h) (.fwEnd (.setB (.setN (.same h))))

theorem fwConfirm : s.KeepsStore t.fwConfirm := by
  unfold State.fwConfirm
  exact .fwEnd (.setN (.setB (.same h)))

theorem fwRevert : s.KeepsStore t.fwRevert := by
  unfold State.fwRevert
  exact .ite (.fwEnd h) (.fwEnd (.setB (.setN (.same h))))

theorem fwCommand {c : Nat} : s.KeepsStore (t.fwCommand c) := by
  unfold State.fwCommand
  exact .ite (.fwActivate h) (.ite (.fwConfirm h) (.ite (.fwRevert h) (.setN (.same h))))

theorem fwComplete {fault : Bool} : s.KeepsStore (t.fwComplete fault) := by
  unfold State.fwComplete
  split
  · exact .ite (.fwEnd (.updImage h)) (.fwEnd (.setN (.updImage h)))
  · exact .ite (.fwEnd h) (.fwEnd (.updImage h))
  · exact h

theorem fwChunk {b : List Byte} : s.KeepsStore (t.fwChunk b) := .setN (.updImage h)

theorem attested : s.KeepsStore t.attested := by
  unfold State.attested
  exact .setN (.setO (.setO (.same h)))

theorem enterTest {who : Who} : s.KeepsStore (t.enterTest who) := by
  unfold State.enterTest
  exact .same (.security (.setB (.spendNonce (.spendNonce (.auditWrite h)))))

theorem securityRefused {who : Who} {k : Nat} {v : Val} {st : Status} : s.KeepsStore (t.securityRefused who k v st) := by
  unfold State.securityRefused
  refine .ite ?_ h
  split
  · exact .claimRefused h
  · exact h

theorem securityWritten {who : Who} {k : Nat} {v : Val} : s.KeepsStore (t.securityWritten who k v) := by
  unfold State.securityWritten
  refine .ite ?_ (.ite (.ite h (.setB h)) (.ite (.setN (.same h)) (.ite (.fwCommand h) (.ite (.fwChunk h) (.ite (.setN (.same h)) (.ite (.enterTest
    h) h))))))
  split
  · exact .claimTaken h
  · exact h

theorem annotated {who : Who} {b : List Byte} : s.KeepsStore (t.annotated who b) := .auditPut h

/-! ### The tag's answers and the host's read (R175 to R186) -/

theorem storeBusy : s.KeepsStore t.storeBusy := .sliceYield h

theorem storeEnd {st : Nat} : s.KeepsStore (t.storeEnd st) := .setN (.setN h)

theorem hostRead : s.KeepsStore t.hostRead := .ite (.storeEnd h) (.storeEnd (.setO (.storeBusy h)))

theorem holdWrite {v : Nat} : s.KeepsStore (t.holdWrite v) := .ite (.updTag h) (.ite h (.updTag h))

/-! ### A reader's requests (R166 to R177) -/

theorem lockResume : s.KeepsStore t.lockResume := .updTag h

theorem lockPause : s.KeepsStore t.lockPause := .updTag h

theorem tagEvent {e : Nat} : s.KeepsStore (t.tagEvent e) := .ite (.raise h) h

theorem tagCount {k : Nat} : s.KeepsStore (t.tagCount k) := .ite (.bump h) h

theorem lichenNow : s.KeepsStore t.lichenNow.2 := .ite_snd h (.ite_snd h (.ite_snd h (.ite_snd h (.draw h))))

theorem tagFieldOn : s.KeepsStore t.tagFieldOn := .tagEvent (.tagCount (.updTag (.lichenNow (.ite h (.lockResume h)))))

theorem tagFieldLoss : s.KeepsStore t.tagFieldLoss := .tagEvent (.updTag (.ite h (.lockPause h)))

theorem tagUnheard {r : TagReq} : s.KeepsStore (t.tagUnheard r) :=
  .ite (.ite (.tagCount (.updTag h)) (.updTag h)) (.ite (.tagCount (.updTag h)) (.ite (.ite (.tagCount (.draw (.updTag h))) (.draw (.updTag
    h))) (.updTag h)))

theorem tagReply {b : List Byte} : s.KeepsStore (t.tagReply b) := .updTag h

theorem tagWritten_ : s.KeepsStore t.tagWritten_ := .updTag h

theorem tagError {code : Byte} : s.KeepsStore (t.tagError code) := .tagReply h

theorem tagOk {b : List Byte} : s.KeepsStore (t.tagOk b) := .tagReply h

theorem onRequest {r : TagReq} {f : State → State} (hf : ∀ u, s.KeepsStore u → s.KeepsStore (f u)) : s.KeepsStore (t.onRequest r f) :=
  .ite (.updTag h) (.ite (.tagUnheard h) (.ite (hf _ (.updTag h)) (.updTag h)))

theorem slotWait {slot : Nat} : s.KeepsStore (t.slotWait slot) := .ite h (.updTag (.draw h))

theorem inventory {afi : Option (BitVec 8)} {slots16 : Bool} {mask : List Bool} : s.KeepsStore (t.inventory afi slots16 mask) :=
  .ite (.slotWait (.updTag (.tagOk h))) h

theorem tagState {x : TagState} : s.KeepsStore (t.tagState x) := .updTag h

theorem selectOther {r : TagReq} : s.KeepsStore (t.selectOther r) := by
  unfold State.selectOther
  split
  · exact .ite (.tagState h) h
  · exact h

theorem tagRead {option : Bool} {b n top : Nat} : s.KeepsStore (t.tagRead option b n top) :=
  .ite (.tagError h) (.ite (.tagError h) (.ite (.tagError h) (.tagOk (.storeBusy h))))

theorem tagSecurity {b n top : Nat} : s.KeepsStore (t.tagSecurity b n top) := .ite (.tagError h) (.tagOk h)

theorem systemInfo {size : List Byte} : s.KeepsStore (t.systemInfo size) := .tagOk h

theorem writeRefused {e : Byte} : s.KeepsStore (t.writeRefused e) := .ite (.tagCount (.tagError h)) (.ite (.bump (.tagError h)) (.tagError h))

theorem groupLost {u : State} {loss : TagLoss} (g : s.KeepsStore u) : s.KeepsStore (t.groupLost u loss) := by
  cases loss with
  | none => exact g
  | s0 | s1 | s2torn => exact .tagFieldLoss h
  | s4torn | s2 | s3 | s4 => exact .tagFieldLoss (.updTag g)

theorem fieldGroupRun {p : TagPower} {write : State → State} (hf : ∀ u, s.KeepsStore u → s.KeepsStore (write u)) :
    s.KeepsStore (t.fieldGroupRun p write) := by
  have done : s.KeepsStore (((write t).bump 0x2740_02).tagEvent 37).tagWritten_ := .tagWritten_ (.tagEvent (.bump (hf t h)))
  exact .ite done (.groupLost h done)

theorem systemWrite {block k : Nat} {v : BitVec 8} : s.KeepsStore (t.systemWrite block k v) :=
  .ite (.auditPut (.setN (.updTag (.storeBusy h)))) (.setN (.updTag (.storeBusy h)))

theorem tagSystemWrite {r : TagReq} {p : TagPower} {block k : Nat} {v : BitVec 8} : s.KeepsStore (t.tagSystemWrite r p block k v) := by
  unfold State.tagSystemWrite
  refine .ite (.tagError h) ?_
  refine .ite (.tagError h) ?_
  split
  · exact .writeRefused h
  · exact .fieldGroupRun h fun _ g => .systemWrite g

theorem onCustom {r : TagReq} {mfg : BitVec 8} {f : State → State} (hf : ∀ u, s.KeepsStore u → s.KeepsStore (f u)) :
    s.KeepsStore (t.onCustom r mfg f) :=
  .onRequest h fun u g => .ite (hf u g) g

theorem onAuth {f : State → State} (hf : ∀ u, s.KeepsStore u → s.KeepsStore (f u)) : s.KeepsStore (t.onAuth f) :=
  .ite (.tagError h) (hf t h)

theorem onPwd {f : State → State} (hf : ∀ u, s.KeepsStore u → s.KeepsStore (f u)) : s.KeepsStore (t.onPwd f) :=
  .ite (.tagError (.updTag h)) (hf t h)

theorem newNonce : s.KeepsStore t.newNonce := .tagOk (.updTag (.randomBytes h))

theorem authFail : s.KeepsStore t.authFail := .tagError (.tagEvent (.ite (.bump (.updTag (.setN (.bump (.updTag h))))) (.setN (.bump (.updTag h)))))

theorem authPass {l : TagLevel} : s.KeepsStore (t.authPass l) := .ite (.tagEvent (.setN (.updTag h))) (.setN (.updTag h))

theorem presentPwd {pn : BitVec 32} : s.KeepsStore (t.presentPwd pn) :=
  .ite (.tagError (.updTag h)) (.ite (.tagOk (.authPass (.updTag h))) (.authFail (.updTag h)))

theorem authBegin {slot : Nat} : s.KeepsStore (t.authBegin slot) := by
  unfold State.authBegin
  split
  · exact .tagError h
  · exact .tagOk (.updTag (.randomBytes h))

theorem authFinish {rndR macR : List Byte} : s.KeepsStore (t.authFinish rndR macR) := by
  unfold State.authFinish
  split
  · exact .tagError h
  · split
    · exact .tagError h
    · exact .ite (.tagOk (.authPass h)) (.authFail h)

/-! ### The sources and VOUT_3V3 (R208 to R214) -/

theorem updSupply {f : Supply → Supply} : s.KeepsStore (t.updSupply f) := h

theorem raiseOn {e : Nat} : s.KeepsStore (t.raiseOn e) := .ite (.raise h) h

theorem switchTo {x : Source} : s.KeepsStore (t.switchTo x) := .raiseOn (.bump (.updSupply h))

theorem rideEnd {x : Source} : s.KeepsStore (t.rideEnd x) := .raiseOn (.setN (.updSupply (.ite h (.bump h))))

theorem sourcePresence {x : Source} : s.KeepsStore (t.sourcePresence x) := by
  unfold State.sourcePresence
  dsimp only
  split
  · exact .rideEnd (.updSupply h)
  · exact .ite (.updSupply (.updSupply h)) (.updSupply h)
  · exact .ite (.updSupply (.updSupply h)) (.updSupply h)

theorem storeLevel {mv : Nat} : s.KeepsStore (t.storeLevel mv) := .storeAt h

theorem voutFollow : s.KeepsStore t.voutFollow :=
  .ite (.ite (.updSupply (.setGrant (.dropClaim h))) (.ite (.ite h (.claim h)) (.updSupply (.dropClaim h)))) (.updSupply (.setGrant
    (.dropClaim h)))

theorem supplyWritten {k : Nat} : s.KeepsStore (t.supplyWritten k) := .ite (.voutFollow h) h

/-! ### The Dravlink link layer (R335 to R349) -/

theorem updLink {f : Link → Link} : s.KeepsStore (t.updLink f) := h

theorem updPeer {n : Nat} {f : Peer → Peer} : s.KeepsStore (t.updPeer n f) := .updLink h

theorem toHost {b : List Byte} {event : Bool} : s.KeepsStore (t.toHost b event) := by
  unfold State.toHost
  refine .ite ?_ (.ite (.raise (.push h)) (.push h))
  split
  · next v _ e =>
      have kept : s.KeepsStore v := .of_fst (.pop (.ite (.raise (.push h)) (.push h))) e
      exact .ite kept (.push kept)
  · next v e =>
      have kept : s.KeepsStore v := .of_fst (.pop (.ite (.raise (.push h)) (.push h))) e
      exact kept

theorem sendStatus {m : Msg} {paths : Nat} {st : Status} : s.KeepsStore (t.sendStatus m paths st) := by
  unfold State.sendStatus
  split
  · exact .toHost h
  · exact h

theorem odDone {x : Sess} {code : Nat} {value : List Byte} : s.KeepsStore (t.odDone x code value) := .updSession h

theorem txnEnd {t' : Txn} {paths code : Nat} {value : List Byte} : s.KeepsStore (t.txnEnd t' paths code value) := by
  unfold State.txnEnd
  split
  · exact .toHost h
  · exact .raise (.odDone h)
  · exact h

theorem pathFail {limit n : Nat} {pl : Bool} : s.KeepsStore (t.pathFail limit n pl) := .ite h (.ite (.raise (.setN (.updPeer h))) (.updPeer h))

theorem pathGood {n : Nat} {pl : Bool} : s.KeepsStore (t.pathGood n pl) := .ite (.updPeer h) (.raise (.setN (.updPeer h)))

theorem toLdpc {n : Nat} : s.KeepsStore (t.toLdpc n) := by
  unfold State.toLdpc
  exact .same (.bump (.setN (.setN h)))

theorem rfFailed {n : Nat} {conv : Bool} : s.KeepsStore (t.rfFailed n conv) := .ite h (.ite (.toLdpc h) (.ite (.toLdpc h) (.setN h)))

theorem rfGood {n : Nat} {conv : Bool} : s.KeepsStore (t.rfGood n conv) := by
  unfold State.rfGood
  exact .ite h (.same (.setN h))

theorem updMsg {i : Nat} {f : Msg → Msg} : s.KeepsStore (t.updMsg i f) := .updLink h

theorem dropMsg {i : Nat} : s.KeepsStore (t.dropMsg i) := .updLink h

theorem updCopy {i : Nat} {pl : Bool} {f : Copy → Copy} : s.KeepsStore (t.updCopy i pl f) := .updMsg h

theorem pushCopy {i : Nat} {pl : Bool} : s.KeepsStore (t.pushCopy i pl).1 := by
  unfold State.pushCopy
  split
  · exact h
  · exact .ite_fst (.updCopy (.push h)) (.push h)

theorem pushWake {i : Nat} {left : Nat} : s.KeepsStore (t.pushWake i left).1 := by
  unfold State.pushWake
  split
  · exact h
  · exact .ite_fst (.updCopy (.push h)) (.push h)

theorem launch {i : Nat} {pl : Bool} : s.KeepsStore (t.launch i pl).1 := by
  unfold State.launch
  split
  · exact h
  · exact .ite_fst h (.ite_fst (.pushWake h) (.pushCopy h))

theorem msgSettle {i : Nat} : s.KeepsStore (t.msgSettle i) := by
  unfold State.msgSettle
  split
  · exact h
  · refine .ite h ?_
    refine .ite (.sendStatus (.dropMsg h)) ?_
    refine .ite ?_ (.ite (.bump (.dropMsg h)) h)
    refine .ite ?_ (.sendStatus (.bump (.dropMsg h)))
    split
    · exact .txnEnd (.updLink (.sendStatus (.bump (.dropMsg h))))
    · exact .sendStatus (.bump (.dropMsg h))

theorem copyEnd {i : Nat} {pl : Bool} : s.KeepsStore (t.copyEnd i pl) := by
  unfold State.copyEnd
  dsimp only
  split
  · exact h
  · split
    · refine .ite ?_ (.msgSettle (.pathFail (.updCopy h)))
      refine .ite (.msgSettle (.updCopy (.pathFail (.updCopy h)))) ?_
      split
      · next v e =>
          have kept : s.KeepsStore v := .of_fst (.launch (.pathFail (.updCopy h))) e
          exact kept
      · next v e =>
          have kept : s.KeepsStore v := .of_fst (.launch (.pathFail (.updCopy h))) e
          exact .msgSettle (.pathFail (.updCopy kept))
    · exact .msgSettle (.pathFail (.updCopy h))

theorem startCopy {i : Nat} {pl : Bool} : s.KeepsStore (t.startCopy i pl) := by
  unfold State.startCopy
  refine .ite ?_ h
  split
  · next v e =>
      have kept : s.KeepsStore v := .of_fst (.launch h) e
      exact kept
  · next v e =>
      have kept : s.KeepsStore v := .of_fst (.launch h) e
      exact .copyEnd kept

theorem twinCopies {i : Nat} : s.KeepsStore (t.twinCopies i) := by
  unfold State.twinCopies
  split
  · exact h
  · exact .ite (.ite (.updCopy (.updCopy (.twinPush h))) (.copyEnd (.updCopy (.updCopy (.twinPush h))))) (.copyEnd (.ite (.updCopy (.updCopy
      (.twinPush h))) (.copyEnd (.updCopy (.updCopy (.twinPush h))))))

theorem startMsg {m : Msg} : s.KeepsStore (t.startMsg m) := by
  unfold State.startMsg
  extract_lets seq t1 mode uni down asleep copies m' i t2
  have kept : s.KeepsStore t2 := .updLink (.bump (.same h))
  refine .ite (.ite (.ite (.startCopy (.startCopy kept)) (.startCopy kept)) (.twinCopies kept)) ?_
  refine .ite (.startCopy (.ite (.startCopy kept) kept)) (.ite (.startCopy (.ite (.startCopy kept) kept)) (.startCopy kept))

theorem gapTime {jitter : Nat} : s.KeepsStore (t.gapTime jitter).2 :=
  .random (n := 1000 * jitter + 1) h

theorem copyAgain {i : Nat} {pl : Bool} {limit : Nat} : s.KeepsStore (t.copyAgain i pl limit) := by
  unfold State.copyAgain
  split
  · exact h
  · next m _ => exact .ite (.updCopy (.gapTime (jitter := m.set.jitter) h)) (.copyEnd h)

theorem startStandby {i : Nat} {pl : Bool} : s.KeepsStore (t.startStandby i pl) := by
  unfold State.startStandby
  split
  · exact h
  · split
    · exact .ite (.startCopy h) h
    · exact h

theorem linkEnded {key : Nat} {pl : Bool} {e : FrameEnd} {conv : Bool} : s.KeepsStore (t.linkEnded key pl e conv) := by
  unfold State.linkEnded
  split
  · exact h
  · split
    · exact h
    · split
      · exact .ite (.copyEnd h) (.ite (.ite_fst (.pushCopy h) (.pushWake h)) (.copyEnd (.ite_fst (.pushCopy h) (.pushWake h))))
      · exact .ite (.copyEnd (.ite (.updCopy h) h)) (.ite (.copyAgain (.ite (.updCopy h) h)) (.ite (.updCopy (.ite (.updCopy h) h)) (.copyAgain
          (.ite (.startStandby (.ite (.updCopy h) h)) (.ite (.updCopy h) h)))))
      · exact h

theorem ackLate {i : Nat} {pl : Bool} : s.KeepsStore (t.ackLate i pl) := by
  unfold State.ackLate
  split
  · exact h
  · split
    · exact h
    · exact .copyAgain (.ite (.startStandby (.ite h (.rfFailed h))) (.ite h (.rfFailed h)))

theorem retry {i : Nat} {pl : Bool} : s.KeepsStore (t.retry i pl) := by
  unfold State.retry
  split
  · exact h
  · refine .ite ?_ (.copyEnd h)
    split
    · next v e =>
        have kept : s.KeepsStore v := .of_fst (.ite_fst h (.pushCopy h)) e
        exact .bump kept
    · next v e =>
        have kept : s.KeepsStore v := .of_fst (.ite_fst h (.pushCopy h)) e
        exact .copyEnd kept

theorem nextTid : s.KeepsStore t.nextTid.2 := .setN h

theorem startRequest {m : Msg} : s.KeepsStore (t.startRequest m) := .startMsg (.updLink h)

theorem takeHost : s.KeepsStore t.takeHost := by
  unfold State.takeHost
  split
  · next v e =>
      have kept : s.KeepsStore v := .of_fst (.pop h) e
      exact kept
  · next v _ e =>
      have kept : s.KeepsStore v := .of_fst (.pop h) e
      refine .ite kept ?_
      split
      · exact .ite (.startRequest (.nextTid kept)) (.ite (.startMsg kept) (.startMsg kept))
      · exact .sendStatus kept

theorem takeRule : s.KeepsStore t.takeRule := by
  unfold State.takeRule
  split
  · next v e =>
      have kept : s.KeepsStore v := .of_fst (.pop h) e
      exact kept
  · next v _ e =>
      have kept : s.KeepsStore v := .of_fst (.pop h) e
      split
      · exact kept
      · exact .ite (.updLink kept) (.startMsg (.updLink kept))

theorem takeReply : s.KeepsStore t.takeReply := by
  unfold State.takeReply
  split
  · next v e =>
      have kept : s.KeepsStore v := .of_fst (.pop h) e
      exact kept
  · next v _ e =>
      have kept : s.KeepsStore v := .of_fst (.pop h) e
      split
      · exact kept
      · exact .ite (.updLink kept) (.startMsg (.updLink kept))

theorem handOver1 : s.KeepsStore t.handOver1 := by
  unfold State.handOver1
  refine .ite h ?_
  refine .ite (.takeReply h) ?_
  refine .ite (.takeRule h) ?_
  split
  · exact .startRequest (.updLink h)
  · exact .ite (.takeHost h) h

theorem remoteAbort {x : Sess} : s.KeepsStore (t.remoteAbort x) := .raise (.odDone (.updLink h))

theorem msgTimeout {i : Nat} : s.KeepsStore (t.msgTimeout i) := by
  unfold State.msgTimeout
  split
  · exact h
  · exact .ite (.sendStatus (.dropMsg h)) (.sendStatus (.raise (.bump (.bump (.dropMsg h)))))

theorem txnTimeout {x : Txn} : s.KeepsStore (t.txnTimeout x) := by
  unfold State.txnTimeout
  extract_lets t1 t2
  have closed : s.KeepsStore t1 := .updLink h
  have told : s.KeepsStore t2 := by
    unfold t2
    split
    · split
      · exact .sendStatus (.bump (.dropMsg closed))
      · exact closed
    · exact closed
  exact .txnEnd (.raise (.bump told))

theorem sendAck {pl : Bool} {f : DlFrame} {endTb : Nat} : s.KeepsStore (t.sendAck pl f endTb) := .push h

theorem heard {pl : Bool} {f : DlFrame} : s.KeepsStore (t.heard pl f) := .setB (.setN (.pathGood h))

theorem headConflict {f : DlFrame} : s.KeepsStore (t.headConflict f) := .ite (.raise (.bump h)) h

theorem filterFrame {pl : Bool} {f : DlFrame} : s.KeepsStore (t.filterFrame pl f).1 :=
  .ite_fst (.bump h) (.ite_fst (.ite (.raise (.bump h)) h) (.ite_fst h (.ite_fst (.headConflict (.heard h)) (.heard h))))

theorem window {src seq : Nat} {resync : Bool} : s.KeepsStore (t.window src seq resync).1 :=
  .ite_fst (.updPeer (.setN h)) (.ite_fst (.updPeer (.setN h)) (.ite_fst (.ite_fst (.bump h) (.updPeer h)) (.bump h)))

theorem ruleCommand {f : DlFrame} : s.KeepsStore (t.ruleCommand f) := .ite h (.ite (.bump h) (.trigger h))

theorem takeResponse {pl : Bool} {f : DlFrame} : s.KeepsStore (t.takeResponse pl f) := by
  unfold State.takeResponse
  split
  · exact .bump h
  · refine .ite (.bump (.txnTimeout h)) (.ite (.bump h) ?_)
    extract_lets t1 t2
    have closed : s.KeepsStore t1 := .updLink h
    have told : s.KeepsStore t2 := by
      unfold t2
      split
      · split
        · exact .sendStatus (.dropMsg closed)
        · exact closed
      · exact closed
    exact .txnEnd told

theorem routeFrame {pl : Bool} {f : DlFrame} {psdu : List Byte} : s.KeepsStore (t.routeFrame pl f psdu) :=
  .ite (.push h) (.ite (.takeResponse h) (.ite (.ruleCommand h) (.toHost h)))

theorem receiveFrame {pl : Bool} {b : Bunting} {f : DlFrame} : s.KeepsStore (t.receiveFrame pl b f) := by
  unfold State.receiveFrame
  split
  · next v e =>
      have kept : s.KeepsStore v := .of_fst (.filterFrame h) e
      exact kept
  · next v e =>
      have kept : s.KeepsStore v := .of_fst (.filterFrame h) e
      exact .ite (.ite (.ite (.same kept) kept) (.updLink (.ite (.same kept) kept))) (.ite (.ite (.same kept) kept) (.ite (.routeFrame (.ite
        (.sendAck (.window (.ite (.same kept) kept))) (.window (.ite (.same kept) kept)))) (.ite (.sendAck (.window (.ite (.same kept) kept)))
        (.window (.ite (.same kept) kept)))))

theorem acknowledged {pl : Bool} {f : DlFrame} : s.KeepsStore (t.acknowledged pl f) := by
  unfold State.acknowledged
  split
  · exact .bump h
  · split
    · exact h
    · exact .ite (.bump (.msgTimeout h)) (.sendStatus (.bump (.dropMsg (.ite (.updPeer (.ite h (.rfGood h))) (.ite h (.rfGood h))))))

theorem wakeBroadcast : s.KeepsStore t.wakeBroadcast := .ite (.push h) h

theorem windowsRestart : s.KeepsStore t.windowsRestart := .foldl (fun _ _ => .updPeer (.setN (.refl _))) h

theorem linkWritten {old : State} {k : Nat} : s.KeepsStore (t.linkWritten old k) := .ite (.windowsRestart h) h

/-! ### What every calibration shares (R389 to R393) -/

theorem calAsk {b : Nat} : s.KeepsStore (t.calAsk b) := .ite h (.setN (.setBit h))

theorem calDone {b : Nat} {ok : Bool} : s.KeepsStore (t.calDone b ok) := .raise (.setN (.bump (.setI (.setN (.setBit h)))))

/-! ### The radio (chapters 13 and 14) -/

theorem updRadio {f : Radio → Radio} : s.KeepsStore (t.updRadio f) := h

theorem radioEnter {st : RadioState} : s.KeepsStore (t.radioEnter st) := .updRadio h

theorem radioTurns : s.KeepsStore t.radioTurns := .sliceYield h

theorem radioMove {no : Nat} {dest : RadioState} {us chan : Nat} : s.KeepsStore (t.radioMove no dest us chan) := .updRadio (.radioTurns h)

theorem dutyAdvance : s.KeepsStore t.dutyAdvance := .updRadio h

theorem dutyAdd {r t' : Nat} : s.KeepsStore (t.dutyAdd r t') := .updRadio (.dutyAdvance h)

theorem dutyCharge {r t' : Nat} : s.KeepsStore (t.dutyCharge r t').1 := .ite_fst (.updRadio (.dutyAdd h)) (.ite_fst h (.raise (.updRadio h)))

theorem radioEnd {f : RadioFrame} {code : Nat} : s.KeepsStore (t.radioEnd f code) := .linkEnded (.raise (.ite (.setI (.bump h)) (.bump h)))

theorem radioRelease : s.KeepsStore t.radioRelease := .foldl (fun _ _ => .ite (.refl _) (.setGrant (.refl _))) h

theorem radioDrop {f : RadioFrame} {code : Nat} : s.KeepsStore (t.radioDrop f code) :=
  .radioEnd (.ite (.setGrant (.ite (.endClaim h) h)) (.ite (.endClaim h) h))

theorem fixFrame {f : RadioFrame} {gapUs : Nat} : s.KeepsStore (t.fixFrame f gapUs).1 := by
  unfold State.fixFrame
  dsimp only
  split
  · exact h
  · split
    · next v e =>
        have kept : s.KeepsStore v := .of_fst (.dutyCharge h) e
        exact kept
    · next v e =>
        have kept : s.KeepsStore v := .of_fst (.dutyCharge h) e
        exact kept

theorem onAir {f : RadioFrame} {later : Nat} : s.KeepsStore (t.onAir f later) := .updRadio (.setI (.radioEnter h))

theorem radioClaim {f : RadioFrame} {txUs : Nat} : s.KeepsStore (t.radioClaim f txUs).1 := .ite_fst h (.claim h)

theorem setFrame {held : Bool} {f : Option RadioFrame} : s.KeepsStore (t.setFrame held f) := .updRadio h

theorem curBegin {f : RadioFrame} : s.KeepsStore (t.curBegin f) := by
  unfold State.curBegin
  refine .ite h ?_
  split
  · exact .radioMove h
  · exact .radioMove h
  · exact h

theorem paDown {dur : Nat} : s.KeepsStore (t.paDown dur) := .updRadio h

theorem rampResume : s.KeepsStore t.rampResume := by
  unfold State.rampResume
  split
  · exact .paDown h
  · exact h

theorem grantedBad {held : Bool} {f : RadioFrame} {code : Nat} : s.KeepsStore (t.grantedBad held f code) :=
  .ite (.rampResume (.radioEnd (.setFrame h))) (.radioDrop (.setFrame h))

theorem rampBack {held : Bool} {f : RadioFrame} : s.KeepsStore (t.rampBack held f) := by
  unfold State.rampBack
  split
  · exact .updRadio h
  · exact h

theorem curGranted {f : RadioFrame} : s.KeepsStore (t.curGranted f) := by
  unfold State.curGranted
  split
  · next v _ e =>
      have kept : s.KeepsStore v := .of_fst (.fixFrame h) e
      exact .grantedBad kept
  · next v _ e =>
      have kept : s.KeepsStore v := .of_fst (.fixFrame h) e
      exact .ite (.rampBack (.setFrame kept)) (.curBegin (.setFrame kept))

theorem heldGranted {f : RadioFrame} : s.KeepsStore (t.heldGranted f) := by
  unfold State.heldGranted
  split
  · next v _ e =>
      have kept : s.KeepsStore v := .of_fst (.fixFrame h) e
      exact .grantedBad kept
  · next v _ e =>
      have kept : s.KeepsStore v := .of_fst (.fixFrame h) e
      exact .ite (.rampBack (.setFrame kept)) (.setFrame kept)

theorem claimFrame {held : Bool} {f : RadioFrame} : s.KeepsStore (t.claimFrame held f) :=
  .ite h (.ite (.ite (.heldGranted (.radioClaim h)) (.curGranted (.radioClaim h))) (.ite (.ite (.rampResume (.radioEnd (.setFrame (.radioClaim
    h)))) (.radioEnd (.setFrame (.radioClaim h)))) (.setFrame (.radioClaim h))))

theorem radioRest : s.KeepsStore t.radioRest := by
  unfold State.radioRest
  dsimp only
  split
  · exact .ite h (.radioMove h)
  · exact .ite (.radioMove h) (.ite h (.radioMove h))
  · exact .ite (.ite (.radioMove h) (.radioMove h)) (.ite h (.radioMove h))
  · exact .ite h (.radioMove h)
  · exact .paDown h
  · exact h

theorem radioToward {ch : Nat} {ready : State → State} (hf : ∀ u, s.KeepsStore u → s.KeepsStore (ready u)) :
    s.KeepsStore (t.radioToward ch ready) := by
  unfold State.radioToward
  split
  · exact .radioMove h
  · exact .radioMove h
  · exact .ite (hf t h) (.radioMove h)
  · exact .ite (hf t h) (.radioMove h)
  · exact .radioRest h
  · exact h

theorem testClaim : s.KeepsStore t.testClaim := by
  unfold State.testClaim
  split
  · exact h
  · exact .ite h (.claim h)

theorem syncMaybe {r : RadioRx} : s.KeepsStore (t.syncMaybe r) := .ite h (.ite (.draw h) (.capEdge (.bump (.draw h))))

theorem abandonRx {k : Option Nat} : s.KeepsStore (t.abandonRx k) := by
  unfold State.abandonRx
  split
  · exact h
  · split
    · exact .bump (.updRadio (.syncMaybe h))
    · exact .updRadio (.syncMaybe h)

theorem heldBegin : s.KeepsStore t.heldBegin := .updRadio (.radioTurns (.abandonRx h))

theorem serveCur {f : RadioFrame} : s.KeepsStore (t.serveCur f) := .ite (.curBegin h) (.ite (.claimFrame h) h)

theorem serveBoth {f h' : RadioFrame} : s.KeepsStore (t.serveBoth f h') := .serveCur (.ite (.claimFrame h) h)

theorem radioInRx : s.KeepsStore t.radioInRx := by
  unfold State.radioInRx
  dsimp only
  split
  · refine .ite (.radioToward (.abandonRx h) fun _ g => .claimFrame g) ?_
    split
    · exact .ite (.serveCur (.ite (.claimFrame h) h)) (.ite (.claimFrame h) h)
    · exact .ite (.claimFrame h) h
  · split
    · exact .ite (.serveCur h) h
    · exact h

theorem radioBoth {f h' : RadioFrame} : s.KeepsStore (t.radioBoth f h') := .ite (.radioToward h fun _ g => .serveBoth g) (.radioToward h fun _ g =>
  .claimFrame g)

theorem claimSoon {m : RadioMove} : s.KeepsStore (t.claimSoon m) := by
  unfold State.claimSoon
  refine .ite h ?_
  extract_lets t1
  have claimed : s.KeepsStore t1 := by
    unfold t1
    split
    · exact .ite (.claimFrame h) h
    · exact h
  split
  · exact .ite (.serveCur claimed) claimed
  · exact claimed

theorem radioNext : s.KeepsStore t.radioNext := by
  unfold State.radioNext
  refine .ite h ?_
  split
  · exact .claimSoon h
  · split
    · exact .ite h (.radioToward (.abandonRx h) fun _ g => .testClaim g)
    · refine .ite (.heldBegin h) (.ite (.radioInRx h) ?_)
      split
      · exact .radioToward h fun _ g => .serveCur g
      · exact .radioBoth h
      · exact .radioToward h fun _ g => .claimFrame g
      · exact .radioRest h

theorem radioGoal {g : RadioState} : s.KeepsStore (t.radioGoal g) := by
  unfold State.radioGoal
  dsimp only
  split
  · exact .ite (.radioEnter (.updRadio (.updRadio (.radioTurns h)))) (.updRadio (.radioTurns h))
  · exact .radioNext (.updRadio (.radioTurns h))

theorem testOnAir : s.KeepsStore t.testOnAir := by
  unfold State.testOnAir
  dsimp only
  split
  · exact .updRadio (.setI (.radioEnter h))
  · exact .radioEnter h

theorem radioArrive {m : RadioMove} : s.KeepsStore (t.radioArrive m) := by
  unfold State.radioArrive
  dsimp only
  refine .ite (.ite (.updRadio (.radioRelease (.updRadio h))) (.radioNext (.radioEnter (.radioRelease (.updRadio h))))) ?_
  refine .ite (.radioNext (.calDone (.raise (.radioEnter (.updRadio h))))) ?_
  split
  · split
    · exact .testOnAir (.ite (.updRadio (.updRadio h)) (.updRadio h))
    · exact .onAir (.setFrame (.ite (.updRadio (.updRadio h)) (.updRadio h)))
    · exact .radioNext (.radioEnter (.ite (.updRadio (.updRadio h)) (.updRadio h)))
  · exact .radioNext (.ite (.updRadio (.radioEnter (.ite (.updRadio (.updRadio h)) (.updRadio h)))) (.radioEnter (.ite (.updRadio (.updRadio h))
      (.updRadio h))))
  · exact .radioNext (.radioEnter (.ite (.updRadio (.updRadio h)) (.updRadio h)))

theorem reverse {held : Bool} {f : RadioFrame} {d : Nat} : s.KeepsStore (t.reverse held f d) := .claimFrame (.updRadio h)

theorem holdTimed {f : RadioFrame} : s.KeepsStore (t.holdTimed f) := by
  unfold State.holdTimed
  split
  · exact .setFrame h
  · exact .ite (.updRadio (.ite (.endClaim h) h)) (.updRadio h)

theorem radioTake : s.KeepsStore t.radioTake := by
  unfold State.radioTake
  split
  · next v e =>
      have kept : s.KeepsStore v := .of_fst (.pop (.radioTurns h)) e
      exact kept
  · next v _ e =>
      have kept : s.KeepsStore v := .of_fst (.pop (.radioTurns h)) e
      refine .ite kept ?_
      split
      · exact .radioEnd kept
      · refine .ite ?_ ?_
        · split
          · exact .ite (.reverse (.holdTimed kept)) (.holdTimed kept)
          · exact .radioNext (.holdTimed kept)
        · split
          · exact .reverse (.setFrame kept)
          · exact .radioNext (.setFrame kept)

theorem unhold {f : RadioFrame} : s.KeepsStore (t.unhold f) := .ite (.setFrame h) (.updRadio h)

theorem rampDown {ret : Option Nat} : s.KeepsStore (t.rampDown ret) := .paDown (.updRadio h)

omit h in
/-- The frame that follows goes on air as it is, or its psdu is dropped: the duty range r, the charge d and the fixed frame x stand
here as variables, so that no check of a match evaluates them. -/
theorem frameSettled {f : RadioFrame} {r : Option Nat} {d : Nat → Nat → State × Bool} {x : State × (RadioFrame ⊕ Nat)}
    {p : State × RadioFrame}
    (e : (match f.granted, r with
      | some _, some r => match d r 24000 with
        | (u, true) => some (u, f)
        | (u, false) => some (u.radioEnd f 2, { f with psdu := [] })
      | _, _ => match x with
        | (u, .inl f) => some (u, f)
        | (u, .inr code) => some (u.radioEnd f code, { f with psdu := [] })) = some p)
    (hd : ∀ r, s.KeepsStore (d r 24000).1) (hx : s.KeepsStore x.1) : s.KeepsStore p.1 := by
  split at e
  · split at e
    · next c =>
        cases e
        exact .of_fst (hd _) c
    · next c =>
        cases e
        exact .radioEnd (.of_fst (hd _) c)
  · split at e
    · cases e
      exact hx
    · cases e
      exact .radioEnd hx

theorem curFollows {f : RadioFrame} {p : State × RadioFrame} (e : t.curFollows f = some p) : s.KeepsStore p.1 := by
  let u := (if f.claimed && f.granted.isNone then t.endClaim f.who none else t).setFrame false none
  have freed : s.KeepsStore u := .setFrame (.ite (.endClaim h) h)
  exact frameSettled (r := u.frameRange f) (d := u.dutyCharge) (x := u.fixFrame f 8) e (fun _ => .dutyCharge freed) (.fixFrame freed)

theorem backToBack {last f : RadioFrame} {u : State} (e : t.backToBack last = some (u, f)) : s.KeepsStore u := by
  unfold State.backToBack at e
  split at e
  · split at e
    · exact h.curFollows e
    · cases e
  · split at e
    · cases e
    · dsimp only at e
      split at e
      · cases e
      · exact State.KeepsStore.curFollows (.pop h) e

/-- Opened as a function, before its state is put in: otherwise the kernel evaluates the frame that follows. -/
theorem radioSent {f : RadioFrame} : s.KeepsStore (t.radioSent f) := by
  generalize run : @State.radioSent = g
  delta State.radioSent at run
  subst run
  have ended : s.KeepsStore ((t.bump (0x3160_06 + f.coding)).radioEnd f 0) := .radioEnd (.bump h)
  dsimp only
  generalize (t.bump (0x3160_06 + f.coding)).radioEnd f 0 = u at ended ⊢
  split
  · next v g e => exact .ite (.rampDown (ended.backToBack e)) (.onAir (ended.backToBack e))
  · exact .rampDown ended

theorem radioAbort : s.KeepsStore t.radioAbort := by
  unfold State.radioAbort
  extract_lets t1
  have cleared : s.KeepsStore t1 := by
    unfold t1
    split
    · exact .radioEnd (.updRadio h)
    · exact h
  split
  · exact .ite (.radioDrop (.setFrame cleared)) cleared
  · exact cleared

theorem unclaimed {held : Bool} : s.KeepsStore (t.unclaimed held) := by
  unfold State.unclaimed
  split
  · exact .setFrame (.ite (.dropClaim h) h)
  · exact h

theorem testEnd : s.KeepsStore t.testEnd := .ite (.rampDown (.dropClaim (.setN (.updRadio h)))) (.radioNext (.dropClaim (.setN (.updRadio h))))

theorem testFollow : s.KeepsStore t.testFollow := by
  unfold State.testFollow
  split
  · exact h
  · exact .testEnd h
  · refine .ite ?_ (.ite (.radioMove h) (.ite (.testEnd h) h))
    refine .ite (.testEnd (.bump h)) ?_
    refine .ite h ?_
    split
    · next v e =>
        have kept : s.KeepsStore v := .of_fst (.dutyCharge h) e
        exact .updRadio kept
    · next v e =>
        have kept : s.KeepsStore v := .of_fst (.dutyCharge h) e
        exact .testEnd kept

theorem claimHeard {held : Bool} {f : RadioFrame} : s.KeepsStore (t.claimHeard held f) := by
  unfold State.claimHeard
  refine .ite h ?_
  split
  · exact .ite (.heldGranted h) (.curGranted h)
  · exact .radioEnd (.setFrame h)
  · exact .radioEnd (.setFrame h)
  · exact h

theorem reversalHeard : s.KeepsStore t.reversalHeard := .ite (.rampResume h) h

theorem cutRadio : s.KeepsStore t.cutRadio := by
  have dropped : ∀ u held, s.KeepsStore u →
      s.KeepsStore (if (if held then u.radio.held else u.radio.cur).any fun f => f.granted.isSome then u.unclaimed held else u) :=
    fun _ _ k => .ite (.unclaimed k) k
  have both := dropped _ true (dropped _ false (.radioAbort h))
  exact .ite (.rampDown both) both

theorem radioSettle : s.KeepsStore t.radioSettle := by
  unfold State.radioSettle
  extract_lets t1 t2 t3
  have cut : s.KeepsStore t1 := .ite (.cutRadio h) h
  have heard : s.KeepsStore t2 := by
    unfold t2
    split
    · exact .claimHeard cut
    · exact cut
  have both : s.KeepsStore t3 := by
    unfold t3
    split
    · exact .claimHeard heard
    · exact heard
  exact .radioNext (.testFollow (.reversalHeard both))

theorem rxStart {p : Preamble} : s.KeepsStore (t.rxStart p) := by
  unfold State.rxStart
  refine .ite (.updRadio h) ?_
  split
  · exact .updRadio (.bump (.bump h))
  · exact .updRadio (.bump h)

theorem rateAdmits {tolerant : Bool} {rate : Int} {heard : Bool} : s.KeepsStore (t.rateAdmits tolerant rate heard).1 := .ite_fst h (.bump h)

theorem preamble {p : Preamble} : s.KeepsStore (t.preamble p) := by
  unfold State.preamble
  extract_lets u
  have drawn : s.KeepsStore u.draw.2 := .draw (.ite (.bump h) h)
  dsimp only
  split
  · next v e =>
      have kept : s.KeepsStore v := .of_fst (.rateAdmits drawn) e
      exact .rxStart kept
  · next v e =>
      have kept : s.KeepsStore v := .of_fst (.rateAdmits drawn) e
      exact .updRadio kept

theorem leftAlone : s.KeepsStore t.leftAlone := .ite (.radioGoal h) h

theorem rxDeliver {m : RfMode} {r : RadioRx} {x : RxMeasure} {iter : Nat} {psdu : List Byte} : s.KeepsStore (t.rxDeliver m r x iter psdu) :=
  .ite (.raise (.bump (.ite (.updRadio (.setI (.setN (.push h)))) (.setI (.setN (.push h)))))) (.bump (.ite (.updRadio (.setI (.setN (.push
    h)))) (.setI (.setN (.push h)))))

theorem rxJudge {header payload : List (BitVec 4)} {r : RadioRx} {x : RxMeasure} : s.KeepsStore (t.rxJudge header payload r x).1 := by
  unfold State.rxJudge
  dsimp only
  split
  · exact .bump h
  · exact .bump h
  · split
    · next v e =>
        have kept : s.KeepsStore v := .of_fst (.rateAdmits h) e
        exact kept
    · next v e =>
        have kept : s.KeepsStore v := .of_fst (.rateAdmits h) e
        split
        · exact .rxDeliver (.ite (.add kept) kept)
        · exact .bump (.ite (.add kept) kept)

theorem rxEnd {synced : Bool} {header payload : List (BitVec 4)} {x : RxMeasure} {r : RadioRx} : s.KeepsStore (t.rxEnd synced header payload x r) :=
  by
  unfold State.rxEnd
  refine .ite ?_ (.radioGoal (.updRadio (.updRadio h)))
  split
  · next v e =>
      have kept : s.KeepsStore v := .of_fst (.rxJudge (.capEdge (.bump (.updRadio h)))) e
      exact .radioGoal (.updRadio kept)
  · next v e =>
      have kept : s.KeepsStore v := .of_fst (.rxJudge (.capEdge (.bump (.updRadio h)))) e
      exact .radioNext kept

theorem testOff : s.KeepsStore t.testOff := .updRadio h

theorem radioFall : s.KeepsStore t.radioFall := .updRadio (.radioRelease (.testOff (.unclaimed (.unclaimed (.radioAbort h)))))

theorem unlockCounted : s.KeepsStore t.unlockCounted := .raise (.bump h)

theorem synthUnlocked : s.KeepsStore t.synthUnlocked := .radioFall (.unlockCounted (.abandonRx (.ite (.calDone (.raise h)) h)))

theorem noiseTake {aerial : Nat} {x : Int} : s.KeepsStore (t.noiseTake aerial x) := .setI (.updRadio h)

theorem testMode {n : Nat} : s.KeepsStore (t.testMode n) := .updRadio h

theorem radioWritten {k : Nat} {v : Val} : s.KeepsStore (t.radioWritten k v) :=
  .ite (.updRadio (.setN (.setN h))) (.ite (.ite (.ite (.testEnd h) h) (.ite (.raise (.bump (.setN h))) (.ite (.testMode h) (.radioNext
    (.updRadio h))))) h)

/-! ### The powerline link (chapter 15) -/

theorem updPl {f : Powerline → Powerline} : s.KeepsStore (t.updPl f) := h

theorem updPlPeer {n : Nat} {f : PlPeer → PlPeer} : s.KeepsStore (t.updPlPeer n f) := .updPl h

theorem plRelease {f : PlFrame} {code : Nat} : s.KeepsStore (t.plRelease f code) := .ite (.setGrant (.endClaim h)) h

theorem plEnd {f : PlFrame} {code : Nat} : s.KeepsStore (t.plEnd f code) := by
  unfold State.plEnd
  dsimp only
  split
  · exact .linkEnded (.raise (.bump (.plRelease h)))
  · exact .raise (.bump (.plRelease h))

/-- Opened as a function, as in `radioSent`: otherwise the kernel evaluates the slots of the frame. -/
theorem plStart {f : PlFrame} : s.KeepsStore (t.plStart f) := by
  generalize run : @State.plStart = g
  delta State.plStart at run
  subst run
  beta_reduce
  extract_lets -lift +onlyGivenNames f' b m
  split
  · exact .plEnd h
  · exact .updPl h

theorem plAsk {f : PlFrame} {deadline : Option Nat} : s.KeepsStore (t.plAsk f deadline).1 := .ite_fst h (.claim h)

theorem plSet {held : Bool} {f : Option PlFrame} : s.KeepsStore (t.plSet held f) := .updPl h

theorem plWait {f : PlFrame} : s.KeepsStore (t.plWait f) := by
  unfold State.plWait
  split
  · exact .plEnd h
  · exact .updPl (.plSet (.random (n := t.nat 0x3200_09 + 1) h))

theorem plTake : s.KeepsStore t.plTake := by
  unfold State.plTake
  refine .ite ?_ ?_
  · split
    · next v _ e =>
        have kept : s.KeepsStore v := .of_fst (.pop h) e
        refine .ite kept ?_
        split
        · exact .plEnd kept
        · exact .plSet kept
    · next v e =>
        have kept : s.KeepsStore v := .of_fst (.pop h) e
        exact kept
  · refine .ite h ?_
    split
    · exact .plWait (.updPl h)
    · refine .ite ?_ h
      split
      · next v _ e =>
          have kept : s.KeepsStore v := .of_fst (.pop h) e
          exact .ite kept (.plWait kept)
      · next v e =>
          have kept : s.KeepsStore v := .of_fst (.pop h) e
          exact kept

theorem plTurns : s.KeepsStore t.plTurns := .sliceYield h

theorem plGo : s.KeepsStore t.plGo := by
  unfold State.plGo
  split
  · exact h
  · refine .ite h ?_
    split
    · exact .plEnd (.plSet h)
    · split
      · next v e =>
          have kept : s.KeepsStore v := .of_fst (.plAsk (.plTurns h)) e
          exact .plStart (.plSet kept)
      · next v e =>
          have kept : s.KeepsStore v := .of_fst (.plAsk (.plTurns h)) e
          exact .ite (.plEnd (.plSet kept)) (.plSet kept)

theorem plTimed {f : PlFrame} : s.KeepsStore (t.plTimed f) :=
  .ite (.plEnd (.plSet h)) (.ite (.plEnd (.plSet h)) (.ite (.plStart (.plSet (.ite (.bump (.updPl h)) h))) h))

theorem plOff : s.KeepsStore t.plOff := .updPl h

theorem plHeard {held : Bool} {f : PlFrame} : s.KeepsStore (t.plHeard held f) := by
  unfold State.plHeard
  split
  · exact .plEnd (.plSet h)
  · exact .plEnd (.plSet h)
  · exact .plEnd (.plSet h)
  · exact h

theorem plYieldClaim {f : PlFrame} : s.KeepsStore (t.plYieldClaim f) := .updPl h

theorem plHold {f : PlFrame} : s.KeepsStore (t.plHold f) := .ite (.plHeard h) (.ite h (.ite (.plSet (.plAsk (.plYieldClaim h))) h))

theorem plSettle : s.KeepsStore t.plSettle := by
  unfold State.plSettle
  extract_lets t1 t2
  have cut : s.KeepsStore t1 := by
    unfold t1
    split
    · exact .ite (.plEnd (.plOff h)) h
    · exact h
  have taken : s.KeepsStore t2 := by
    unfold t2
    split
    · exact .plHold cut
    · exact cut
  split
  · exact .ite taken (.ite (.ite (.plGo taken) (.plSet (.setGrant taken))) (.plHeard taken))
  · exact taken

theorem issueMap {n : Nat} : s.KeepsStore (t.issueMap n) := .raise (.updPl (.setN (.setO (.updPlPeer h))))

theorem takeReport {src : Nat} {p : List Byte} : s.KeepsStore (t.takeReport src p) := .ite (.raise (.bump (.updPlPeer (.setN (.setN (.setO h)))))) h

theorem plDeliver {h' : PlHead} {stamp : Nat} {x : PlMeasure} {psdu : List Byte} : s.KeepsStore (t.plDeliver h' stamp x psdu) := by
  unfold State.plDeliver
  dsimp only
  split
  · next v e =>
      have kept : s.KeepsStore v := .of_fst (.push h) e
      exact .raise (.bump kept)
  · next v _ _ e =>
      have kept : s.KeepsStore v := .of_fst (.push h) e
      exact .bump kept

theorem plLearn {h' : PlHead} {x : PlMeasure} : s.KeepsStore (t.plLearn h' x) := .ite (.updPlPeer (.updPlPeer (.setO h))) (.updPlPeer (.setO h))

theorem plJudge {header : Nat} {data : List Byte} {stamp : Nat} {x : PlMeasure} : s.KeepsStore (t.plJudge header data stamp x) := by
  unfold State.plJudge
  split
  · exact .bump h
  · refine .ite (.plLearn h) ?_
    refine .ite (.updPlPeer (.bump (.plLearn h))) ?_
    refine .ite (.bump (.plLearn h)) ?_
    split
    · exact .bump (.plLearn h)
    · exact .ite (.takeReport (.updPlPeer (.plLearn h))) (.plDeliver (.updPlPeer (.plLearn h)))

theorem plNoise {r : Nat} {levels : List Byte} : s.KeepsStore (t.plNoise r levels) := .setO (.updPl h)

theorem lineChanged {present : Bool} : s.KeepsStore (t.lineChanged present) := by
  have cut : ∀ u, s.KeepsStore u → s.KeepsStore (match u.pl.air with
      | some (f, _, _) => u.plOff.plEnd f 2
      | none => u) := by
    intro u k
    split
    · exact .plEnd (.plOff k)
    · exact k
  have dropped : ∀ u, s.KeepsStore u → s.KeepsStore (match u.pl.cur with
      | some f => (u.plSet false none).plEnd f 2
      | none => u) := by
    intro u k
    split
    · exact .plEnd (.plSet k)
    · exact k
  have unheld : ∀ u, s.KeepsStore u → s.KeepsStore (match u.pl.held with
      | some f => (u.plSet true none).plEnd f 2
      | none => u) := by
    intro u k
    split
    · exact .plEnd (.plSet k)
    · exact k
  have told : s.KeepsStore ((t.setN 0x3200_0B (boolNat present)).raise 84) := .raise (.setN h)
  unfold State.lineChanged
  dsimp only
  refine .ite told (unheld _ (dropped _ (cut _ (.updPl told))))

theorem lineJudged : s.KeepsStore t.lineJudged := .ite (.lineChanged h) h

theorem plBook : s.KeepsStore t.plBook := by
  unfold State.plBook
  dsimp only
  split
  · next v _ e =>
      have kept : s.KeepsStore v := .of_fst (.burgeeBook (.ite h (.burgeeFree h))) e
      exact .setN kept
  · next v e =>
      have kept : s.KeepsStore v := .of_fst (.burgeeBook (.ite h (.burgeeFree h))) e
      exact .setN kept

theorem notchWritten : s.KeepsStore t.notchWritten :=
  .ite (.raise (.foldl (fun _ _ => .issueMap (.refl _)) h)) (.foldl (fun _ _ => .issueMap (.refl _)) h)

theorem plLevelsFresh : s.KeepsStore t.plLevelsFresh := .foldl (fun _ _ => .setO (.refl _)) (.updPl (.foldl (fun _ _ => .setO (.refl _)) h))

theorem bandWritten {old : State} : s.KeepsStore (t.bandWritten old) :=
  .ite (.ite h (.updPl h)) (.plLevelsFresh (.updPl (.foldl (fun _ _ => .setN (.setO (.setN (.setO (.refl _))))) (.ite h (.updPl h)))))

theorem plWritten {old : State} {k : Nat} : s.KeepsStore (t.plWritten old k) := .ite (.plBook h) (.ite (.notchWritten h) (.ite (.bandWritten h) h))

theorem afterHalyard : s.KeepsStore t.afterHalyard := .voutFollow (.plSettle (.radioSettle (.absorbAborts h)))

theorem powersShown {input : BitVec 16} {m : Outputs} : s.KeepsStore (t.powersShown input m) := by
  unfold State.powersShown
  exact .setN (.setN (.same h))

/-! ### Self-test and calibration (chapter 18) -/

theorem sliceBegin {x : Slice} : s.KeepsStore (t.sliceBegin x) := .ite (.slicePreempted (.updSt h)) (.updSt (.updSt h))

theorem sliceStart : s.KeepsStore t.sliceStart := by
  unfold State.sliceStart
  dsimp only
  refine .ite ?_ h
  split
  · exact .sliceBegin (.updSt h)
  · exact .updSt h

theorem escalatedStart : s.KeepsStore t.escalatedStart := by
  unfold State.escalatedStart
  split
  · exact .ite (.sliceBegin (.updSt h)) h
  · exact h

theorem recordFinding {g : Nat} {f : Finding} {action : Nat} : s.KeepsStore (t.recordFinding g f action) := .raise (.bump (.setO h))

theorem takeSpare {g u limit bad : Nat} : s.KeepsStore (t.takeSpare g u limit bad).1 := .setN (.updSt h)

theorem repair {g : Nat} {f : Finding} {unit limit action : Nat} : s.KeepsStore (t.repair g f unit limit action) := by
  unfold State.repair
  split
  · next v e =>
      have kept : s.KeepsStore v := .of_fst (.takeSpare h) e
      exact .raise (.bump (.recordFinding kept))
  · next v e =>
      have kept : s.KeepsStore v := .of_fst (.takeSpare h) e
      exact .raise (.setN (.recordFinding kept))

theorem unitFaulty {g u : Nat} : s.KeepsStore (t.unitFaulty g u) := .setN (.updSt h)

theorem radioFinding {i : Nat} : s.KeepsStore (t.radioFinding i) := .ite (.updRadio h) (.ite (.rampDown (.radioAbort (.updRadio h))) (.updRadio h))

theorem referenceFinding {f : Finding} : s.KeepsStore (t.referenceFinding f) :=
  .ite (.unitFaulty (.recordFinding h)) (.foldl (fun _ _ => .unitFaulty (.setB (.refl _))) (.recordFinding h))

theorem referencePassed : s.KeepsStore t.referencePassed := .foldl (fun _ _ => .setB (.refl _)) (.setN (.updSt h))

theorem radioPassed {path : Nat} : s.KeepsStore (t.radioPassed path) := .updRadio h

theorem unitPassed {x : Slice} : s.KeepsStore (t.unitPassed x) := by
  unfold State.unitPassed
  dsimp only
  split
  · exact h
  · exact .ite (.referencePassed h) (.ite (.updSt h) (.ite (.ite (.radioPassed (.updSt h)) (.ite (.updPl (.updSt h)) (.updSt h))) (.setN (.ite
      (.radioPassed (.updSt h)) (.ite (.updPl (.updSt h)) (.updSt h))))))

theorem eccCorrected {g : Nat} {f : Finding} {index : Nat} : s.KeepsStore (t.eccCorrected g f index) := by
  unfold State.eccCorrected
  dsimp only
  split
  · exact .ite (.updSt (.recordFinding (.updSt (.bump h)))) (.updSt (.bump h))
  · exact .updSt (.bump h)

theorem corruptAt {q key : Nat} {data : List Byte} : s.KeepsStore (t.corruptAt q key data) := by
  unfold State.corruptAt
  split
  · exact .ite (.corruptPop (.updQueue h)) (.updQueue h)
  · exact .updQueue h

theorem buntingHit {q i : Nat} {link : Option Nat} : s.KeepsStore (t.buntingHit q i link) := by
  unfold State.buntingHit
  split
  · exact h
  · exact .updPool (.foldl (fun _ _ => .corruptAt (.refl _)) h)

theorem correct : s.KeepsStore t.correct := h

theorem calRequest {bs : List Nat} : s.KeepsStore (t.calRequest bs) := by
  unfold State.calRequest
  exact .foldl (fun _ _ => .ite (.refl _) (.same (.calAsk (.refl _)))) h

theorem calBook : s.KeepsStore t.calBook := by
  unfold State.calBook
  dsimp only
  split
  · next v _ e =>
      have kept : s.KeepsStore v := .of_fst (.burgeeBook (.ite h (.burgeeFree h))) e
      exact .setN kept
  · next v e =>
      have kept : s.KeepsStore v := .of_fst (.burgeeBook (.ite h (.burgeeFree h))) e
      exact .setN kept

theorem portCalStart {p : Nat} : s.KeepsStore (t.portCalStart p) := by
  unfold State.portCalStart
  exact .same (.coverAll (.foldl (fun _ _ => .ite (.dropComponent (.refl _)) (.refl _)) (.updPort h)))

theorem baseCorrected {p : Nat} {c : Int × Int} : s.KeepsStore (t.baseCorrected p c) := .foldl (fun _ _ => .setO (.refl _)) h

theorem portCalEnd {p : Nat} {m : List Int} {c : Int × Int} {settled : Bool} : s.KeepsStore (t.portCalEnd p m c settled) := by
  unfold State.portCalEnd
  exact .ite (.requestSurvey (.staleFor (.coverAll (.correct (.frondDrift (.baseCorrected (.updFrond (.calDone (.setO (.same (.updPort
      h))))))))))) (.absorbAborts (.portFault (.coverAll (.calDone (.same (.updPort h))))))

theorem plCalEnd {settled : Bool} : s.KeepsStore (t.plCalEnd settled) := .calDone (.updPl h)

theorem calWritten {k : Nat} {v : Val} : s.KeepsStore (t.calWritten k v) := .ite (.calRequest h) (.ite (.calBook h) h)

/-! ### Event routing and the GP pads (chapters 20 and 21) -/

theorem clearLost {word : Nat} {bits : BitVec 32} : s.KeepsStore (t.clearLost word bits) := by
  unfold State.clearLost
  exact .foldl (fun _ _ => .ite (.foldl (fun _ _ => .ite (.newlyReach (.refl _)) (.refl _)) (.same (.refl _))) (.refl _)) h

theorem clearEvents {word : Nat} {bits : BitVec 32} : s.KeepsStore (t.clearEvents word bits) := .clearLost (.setN h)

theorem enableWrite {word : Nat} {bits : BitVec 32} : s.KeepsStore (t.enableWrite word bits) := .pulseNew (.setN h)

theorem lineModeWritten {old : State} {l : Nat} : s.KeepsStore (t.lineModeWritten old l) := by
  unfold State.lineModeWritten
  exact .ite (.ite (.newlyReach h) h) (.ite (.same h) h)

theorem lineTurn {l : Nat} : s.KeepsStore (t.lineTurn l) := h

theorem eventsWritten {old : State} {k : Nat} {v : Val} : s.KeepsStore (t.eventsWritten old k v) :=
  .ite (.clearLost h) (.ite (.lineModeWritten h) (.ite (.pulseNew h) h))

theorem padFollow {n : Nat} : s.KeepsStore (t.padFollow n) := .ite (.setB h) (.ite (.setB h) h)

theorem setPulse {n : Nat} {x : Option Pulse} : s.KeepsStore (t.setPulse n x) := h

theorem setOut {n : Nat} {level : Bool} : s.KeepsStore (t.setOut n level) := .padFollow (.setB h)

theorem hostOut {n : Nat} {level : Bool} : s.KeepsStore (t.hostOut n level) := .setOut (.setPulse h)

theorem hostOutAll {v : Nat} : s.KeepsStore (t.hostOutAll v) := .foldl (fun _ _ => .hostOut (.refl _)) h

theorem dirWritten {n : Nat} : s.KeepsStore (t.dirWritten n) := by
  unfold State.dirWritten
  split
  · exact .ite (.setOut (.setPulse h)) (.padFollow h)
  · exact .padFollow h

theorem padEdge {n : Nat} {rising : Bool} : s.KeepsStore (t.padEdge n rising) := by
  unfold State.padEdge
  exact .trigger (.capEdge (.draw h))

theorem padsWritten {k : Nat} {v : Val} : s.KeepsStore (t.padsWritten k v) := by
  unfold State.padsWritten
  refine .ite (.hostOutAll h) ?_
  refine .ite ?_ h
  split
  · exact .dirWritten h
  · exact .hostOut h
  · exact h

/-! ### Standby, SLEEP and the later steps of the start (chapter 19) -/

theorem startPort {m : StartMeasure} {p : Nat} : s.KeepsStore (t.startPort m p) :=
  .ite (.baseCorrected (.calDone (.setO h))) (.portFault (.calDone h))

theorem startFrond {m : StartMeasure} {p : Nat} : s.KeepsStore (t.startFrond m p) :=
  .ite (.frondFollow h) (.ite (.updFrond (.updFrond (.writeDetune (.setO (.frondFollow h))))) (.updFrond (.writeDetune (.setO (.frondFollow h)))))

theorem locksFail : s.KeepsStore t.locksFail := .raise (.raise (.setN (.setN h)))

theorem startSensors {m : StartMeasure} : s.KeepsStore (t.startSensors m) :=
  .foldl (fun _ _ => .ite (.setB (.refl _)) (.refl _)) (.foldl (fun _ _ => .ite (.setI (.refl _)) (.refl _)) h)

theorem startCalibrated {m : StartMeasure} : s.KeepsStore (t.startCalibrated m) := by
  unfold State.startCalibrated
  exact .correct (.same (.foldl (fun _ _ => .startFrond (.refl _)) (.plCalEnd (.updRadio (.ite (.calDone (.foldl (fun _ _ => .startPort (.refl
      _)) (.foldl (fun _ _ => .ite (.rxFault (.refl _)) (.refl _)) (.ite (.locksFail (.startSensors h)) (.startSensors h))))) (.unlockCounted
      (.calDone (.foldl (fun _ _ => .startPort (.refl _)) (.foldl (fun _ _ => .ite (.rxFault (.refl _)) (.refl _)) (.ite (.locksFail
      (.startSensors h)) (.startSensors h)))))))))))

theorem pennantsFromStore : s.KeepsStore t.pennantsFromStore := .foldl (fun _ _ => .ite (.refl _) (.recompute (.refl _))) h

theorem radioRestful : s.KeepsStore t.radioRestful := .radioGoal h

theorem rxAllOff : s.KeepsStore t.rxAllOff := .foldl (fun _ _ => .rxOff (.refl _)) h

theorem standby {mode : PowerState} : s.KeepsStore (t.standby mode) := by
  unfold State.standby
  exact .voutFollow (.radioGoal (.ite (.wakeBroadcast (.updRadio (.ite (.updPl (.rxAllOff (.bump (.same h)))) (.rxAllOff (.bump (.same h))))))
      (.ite (.updPl (.rxAllOff (.bump (.same h)))) (.rxAllOff (.bump (.same h))))))

theorem standbyLeave {code : Nat} : s.KeepsStore (t.standbyLeave code) := by
  unfold State.standbyLeave
  exact .voutFollow (.radioRestful (.ite (.wakeBroadcast (.setN (.same h))) (.setN (.same h))))

theorem sleepCmd {v : Nat} : s.KeepsStore (t.sleepCmd v) := .ite (.ite (.setN h) (.bump (.setN h))) (.ite (.standbyLeave (.setN h)) (.setN h))

theorem sliceBreak : s.KeepsStore t.sliceBreak := by
  unfold State.sliceBreak
  split
  · exact .slicePreempted h
  · exact h

theorem radioStill : s.KeepsStore t.radioStill := by
  unfold State.radioStill
  extract_lets t1 t2 t3
  have silent : s.KeepsStore t1 := .updRadio (.abandonRx h)
  have tuned : s.KeepsStore t2 := .ite (.radioEnter silent) silent
  have rests : s.KeepsStore t3 := .ite (.radioEnter tuned) tuned
  exact .updPl (.ite (.radioEnter rests) rests)

theorem sleepEnter : s.KeepsStore t.sleepEnter := by
  unfold State.sleepEnter
  exact .voutFollow (.same (.bump (.setN (.radioStill (.sliceBreak (.rxAllOff h))))))

theorem epochOn : s.KeepsStore t.epochOn := by
  unfold State.epochOn
  exact .raise (.same h)

theorem madeUp {added : Nat} {frac : BitVec 32} : s.KeepsStore (t.madeUp added frac) := by
  unfold State.madeUp
  exact .raise (.bump (.setN (.addUp (.ite (.epochOn (.same (.same h))) (.same (.same h))))))

theorem maMadeUp {added : Nat} : s.KeepsStore (t.maMadeUp added) := by
  unfold State.maMadeUp
  exact .syncFollow (.maEnter (.ite (.blankLoad (.ite (.blankLoad (.same h)) (.same h))) (.ite (.blankLoad (.same h)) (.same h))))

theorem frondRestart : s.KeepsStore t.frondRestart := .frondFollowAll (.foldl (fun _ _ => .updFrond (.refl _)) h)

theorem tagPowered : s.KeepsStore t.tagPowered := .ite (.assignTag (.ite (.lockResume h) h)) (.ite (.lockResume h) h)

theorem sleepLeave {code : Nat} : s.KeepsStore (t.sleepLeave code) := by
  unfold State.sleepLeave
  exact .voutFollow (.radioRestful (.tagPowered (.frondRestart (.lineJudged (.maMadeUp (.madeUp (.setN (.same h))))))))

theorem captureWake {c : SleepCause} : s.KeepsStore (t.captureWake c) := by
  unfold State.captureWake
  split
  · exact .capEdge h
  · exact h

/-! ### The dictionary (chapter 16) -/

theorem odTake {who : Who} {k : Nat} : s.KeepsStore (t.odTake who k).1 :=
  .ite_fst (.readAngle h) (.ite_fst h (.ite_fst (.readNonce h) (.ite_fst (.readCapture h) (.ite_fst (.draw h) h))))

theorem odRead {who : Who} {k : Nat} : s.KeepsStore (t.odRead who k).1 := by
  unfold State.odRead
  split
  · split
    · exact h
    · exact .odTake h
  · exact h

theorem tableCommand {r : Role} {c : Nat} : s.KeepsStore (t.tableCommand r c).1 := by
  unfold State.tableCommand
  split
  · exact .tableInsert (.lookupsFirst h)
  · exact .tableDelete (.lookupsFirst h)
  · exact .tableLookup (.lookupsFirst h)
  · exact .tableClear (.lookupsFirst h)

theorem matchWritten {k : Nat} {v : Val} : s.KeepsStore (t.matchWritten k v) := by
  unfold State.matchWritten
  refine .ite (.ite (.hostExchange h) (.pollRequest h)) ?_
  split
  · exact .raise (.tableTouch h)
  · exact h

theorem writeRefusedBy {who : Who} {k : Nat} {v : Val} {st : Status} : s.KeepsStore (t.writeRefusedBy who k v st) :=
  .ite (.auditRefuse h) (.securityRefused (.portsRefused (.ite (.angleRefused h) h)))

theorem recordWrite {who : Who} {k : Nat} {b : List Byte} : s.KeepsStore (t.recordWrite who k b) :=
  .ite (.annotated h) (.ite h (.ite (.auditAction h) (.ite (.auditWrite h) (.auditWrite h))))

theorem matchRun {who : Who} {k : Nat} {v : Val} {b : List Byte} : s.KeepsStore (t.matchRun who k v b) :=
  .ite (.ite (.tableCommand h) (.auditWrite (.tableCommand h))) h

theorem waitAccess {w : Wait} : s.KeepsStore (t.waitAccess w) := h

/-! ### The fast registers (R332, R333) -/

theorem odDataRead {x : Sess} : s.KeepsStore (t.odDataRead x).1 := .updSession h

theorem odDataWrite {x : Sess} {w : BitVec 32} : s.KeepsStore (t.odDataWrite x w) := .updSession h

theorem odAddr {x : Sess} {w : BitVec 32} : s.KeepsStore (t.odAddr x w) := .updSession h

theorem cmdAbort {x : Sess} : s.KeepsStore (t.cmdAbort x) := .ite (.remoteAbort h) h

end

end State.KeepsStore

/-! ### A write of what is there -/

/-- In the canonical form a byte written over itself leaves the cells as they are. -/
theorem StoreCells.put_own (m : StoreCells) (a : Nat) : ∀ lo, StoreCells.wfFrom lo m = true → m.put a (m.get a) = m := by
  induction m with
  | nil => exact fun _ _ => rfl
  | cons x rest ih =>
    obtain ⟨b, v⟩ := x
    intro lo h
    simp only [StoreCells.wfFrom, Bool.and_eq_true, decide_eq_true_eq] at h
    obtain ⟨⟨⟨_, _⟩, hv⟩, hrest⟩ := h
    obtain low | rfl | high := lt_trichotomy b a
    · have other : ¬ b = a := by omega
      simp only [StoreCells.get, StoreCells.put, if_neg other, if_pos low, ih _ hrest]
    · simp only [StoreCells.get, StoreCells.put, if_true, lt_irrefl, if_false, if_neg hv]
    · have other : ¬ b = a := by omega
      have above : ¬ b < a := by omega
      have clear : StoreCells.get rest a = 0 := StoreCells.get_below hrest (by omega)
      simp only [StoreCells.get, StoreCells.put, if_neg other, if_neg above, clear, if_true]

theorem StoreCells.write_own (m : StoreCells) (hm : m.wf = true) (b : List Byte) :
    ∀ a, (∀ i, i < b.length → b.getD i 0 = m.get (a + i)) → m.write a b = m := by
  induction b with
  | nil => exact fun _ _ => rfl
  | cons x rest ih =>
    intro a h
    have first : x = m.get a := h 0 (Nat.succ_pos _)
    have same : (if a < 31744 then m.put a x else m) = m := by
      split
      · rw [first]
        exact m.put_own a 0 hm
      · rfl
    rw [StoreCells.write, same]
    refine ih (a + 1) fun i hi => ?_
    have next := h (i + 1) (Nat.succ_lt_succ hi)
    rwa [List.getD_cons_succ, show a + (i + 1) = a + 1 + i by omega] at next

/-- A block written with what it holds holds it afterwards, whichever waiting groups cover it. -/
theorem State.lasting_own (s : State) (later : List Group) (b : Nat) : s.lasting later b 1 (s.homeBlock b) = s.homeBlock b := by
  cases hc : later.any fun g => g.covers b with
  | false => exact State.lasting_block hc (s.homeBlock_length b)
  | true =>
    unfold State.lasting
    split
    · rfl
    · simp only [List.range_one, List.flatMap_cons, List.flatMap_nil, Nat.add_zero, hc, if_true, List.append_nil]

namespace State.KeepsStore

section

variable {s t : State} (h : s.KeepsStore t)

include h

/-- A relocated block is written with what it holds (R385). -/
theorem relocated {addr : Nat} (hs : s.store.wf = true) : s.KeepsStore (t.relocated addr) := by
  unfold State.relocated
  refine .ite h (h.trans ?_)
  have wf : t.store.wf = true := (congrArg StoreCells.wf h).trans hs
  rw [State.KeepsStore, State.groupWrite_store, State.lasting_own]
  refine t.store.write_own wf _ _ fun i hi => ?_
  rw [State.homeBlock_length] at hi
  exact t.homeBlock_getD _ hi

theorem findingAct {x : Slice} {f : Finding} (hs : s.store.wf = true) : s.KeepsStore (t.findingAct x f) := by
  unfold State.findingAct
  dsimp only
  split
  · exact .referenceFinding h
  · exact .repair h
  · exact .repair h
  · exact .repair h
  · exact .repair h
  · exact .ite (.relocated (.repair h) hs) (.repair h)
  · exact .unitFaulty (.rxFault (.recordFinding h))
  · exact .unitFaulty (.portFault (.recordFinding h))
  · exact .unitFaulty (.radioFinding (.recordFinding h))
  · exact .unitFaulty (.updPl (.recordFinding h))
  · exact .poolLevel (.updPool (.add (.recordFinding h)))

theorem sliceDone {x : Slice} {f : Option Finding} (hs : s.store.wf = true) : s.KeepsStore (t.sliceDone x f) := by
  unfold State.sliceDone
  extract_lets g t1 t2 t3 t4
  have ended : s.KeepsStore t2 := .ite (.setN (.setN (.bump (.updSt h)))) (.setN (.bump (.updSt h)))
  have acted : s.KeepsStore t3 := by
    unfold t3
    split
    · exact .findingAct ended hs
    · exact .unitPassed (.ite (.rxPassed ended) ended)
  have counted : s.KeepsStore t4 := .ite acted (.sliceCount acted)
  exact .ite (.deescalate counted) counted

end

end State.KeepsStore

/-! ### The dictionary (chapter 16) -/

/-- Writes that reach the store: the host's STORE_CMD but 1 (R186), ACTIVATE, whose image starts at once in ROM recovery (R399), and the
codes that reset the core or restore the defaults. -/
def reachesStore (k : Nat) (v : Val) : Prop :=
  (k = 0x2730_04 ∧ v.int ≠ 1) ∨ (k = 0x1A10_01 ∧ v.int = 3) ∨ k = 0x3802_01 ∨ k = 0x3803_01

/-- Entries through which no write reaches the store. -/
def plainKey (k : Nat) : Prop := k ≠ 0x2730_04 ∧ k ≠ 0x1A10_01 ∧ k ≠ 0x3802_01 ∧ k ≠ 0x3803_01

theorem not_reachesStore {k : Nat} {v : Val} (h : plainKey k) : ¬ reachesStore k v := by
  obtain ⟨cmd, fw, reset, restore⟩ := h
  simp [reachesStore, cmd, fw, reset, restore]

namespace State.KeepsStore

section

variable {s t : State} (h : s.KeepsStore t) {who : Who} {k : Nat} {v : Val}

include h

theorem tagWritten (hk : ¬ reachesStore k v) : s.KeepsStore (t.tagWritten who k v) := by
  unfold State.tagWritten
  split
  · next code =>
    rw [if_pos (not_not.1 fun other => hk (.inl ⟨code, other⟩))]
    exact .hostRead h
  · exact .ite (.holdWrite h) (.ite (.ite (.assignTag h) h) h)

theorem modesWritten (hk : ¬ reachesStore k v) : s.KeepsStore (t.modesWritten k v) := by
  have reset : k ≠ 0x3802_01 := fun e => hk (.inr (.inr (.inl e)))
  have restore : k ≠ 0x3803_01 := fun e => hk (.inr (.inr (.inr e)))
  rw [State.modesWritten, if_neg reset, if_neg restore]
  exact .ite (.sleepCmd h) h

theorem chapterWritten {old : State} (hk : ¬ reachesStore k v) : s.KeepsStore (t.chapterWritten old who k v) := by
  have ports : s.KeepsStore ((((((t.angleWritten old k).portsWritten k v).rxWritten k).pennantsTaken k).frondWritten old k v).matchWritten k v) :=
    .matchWritten (.frondWritten (.pennantsTaken (.rxWritten (.portsWritten (.angleWritten h)))))
  unfold State.chapterWritten
  refine .modesWritten (.securityWritten (.padsWritten (.eventsWritten (.calWritten (.plWritten (.radioWritten (.linkWritten ?_))))))) hk
  exact .timerWritten (.poolWritten (.supplyWritten (.tagWritten ports hk)))

theorem takeWrite {b : List Byte} (hk : ¬ reachesStore k v) : s.KeepsStore (t.takeWrite who k b v) := by
  unfold State.takeWrite
  refine .ite (.recordWrite (.same h)) ?_
  have first : s.KeepsStore (if (slotOf? k).isSome then t.lookupsFirst else t.cmpFirst k) := .ite (.lookupsFirst h) (.cmpFirst h)
  exact .chapterWritten (.matchRun (.recordWrite (.put first))) hk

theorem recoveryStart (hk : ¬ reachesStore k v) : s.KeepsStore (t.recoveryStart k v) := by
  unfold State.recoveryStart
  rw [if_neg]
  · exact h
  · simp only [Bool.and_eq_true, decide_eq_true_eq]
    rintro ⟨⟨⟨-, fw⟩, three⟩, -⟩
    exact hk (.inr (.inl ⟨fw, three⟩))

theorem odWrite {b : List Byte} (hk : ∀ r, odRow? k = some r → ¬ reachesStore k (r.valueOf b)) : s.KeepsStore (t.odWrite who k b).1 := by
  unfold State.odWrite
  split
  · next r _ hr => exact .recoveryStart (.takeWrite h (hk r hr)) (hk r hr)
  · exact .writeRefusedBy h
  · exact h

theorem access {value : Option (List Byte)} (hk : ∀ b r, value = some b → odRow? k = some r → ¬ reachesStore k (r.valueOf b)) :
    s.KeepsStore (t.access who k value).1 := by
  unfold State.access
  refine .ite_fst h ?_
  cases value with
  | none => exact .odRead h
  | some b => exact .odWrite h fun r hr => hk b r rfl hr

end

end State.KeepsStore

/-! ### Answers -/

/-- What answers a next state answers one with the store as it was. -/
def State.LeavesStore (s : State) (o : Out) : Prop := ∀ t, o = .next t → t.store = s.store

namespace State.LeavesStore

section

variable {s u : State} (hs : s.store.wf = true)

theorem stay : s.LeavesStore (.next s) := by
  rintro t ⟨⟩
  rfl

include hs

theorem doneAny (h : s.KeepsStore u) : s.LeavesStore (doneAny s u) := by
  rintro t ⟨⟩
  rw [State.finish_store, h, StoreCells.canon_of_wf _ hs]

theorem nextAny {c : Bool} (h : s.KeepsStore u) : s.LeavesStore (nextAny c s u) := by
  cases c with
  | false => exact stay
  | true => exact doneAny hs h

theorem nextWhen {c : Bool} (h : s.KeepsStore u) : s.LeavesStore (nextWhen c s u) := nextAny hs h

theorem done (h : s.KeepsStore u) : s.LeavesStore (done s u) := nextAny hs h

/-- An access of the dictionary that does not reach the store. -/
theorem dictAccess {who : Who} {k : Nat} {value : Option (List Byte)}
    (hk : ∀ b r, value = some b → odRow? k = some r → ¬ reachesStore k (r.valueOf b)) : s.LeavesStore (dictAccess who k value s) := by
  have served : s.KeepsStore (s.access who k value).1 := .access (.refl s) hk
  exact nextAny hs (.ite (.waitAccess (.refl s)) (.same served))

theorem entry {who : Who} {k : Nat} {value : Option (List Byte)} (hk : plainKey k) : s.LeavesStore (Machine.dictAccess who k value s) :=
  dictAccess hs fun _ _ _ _ => not_reachesStore hk

theorem octetWrite {who : Who} {k : Nat} (v : BitVec 8) (row : rowIs k .u8) (hk : ¬ reachesStore k (.num v.toNat)) :
    s.LeavesStore (dictWrite who k 1 v.toNat s) := by
  refine dictAccess hs fun b r hb hr => ?_
  cases hb
  rwa [row.octet v r hr]

end

end State.LeavesStore

/-- The commands of the field, the survey and the lanes leave the tag and its store (`portFrame`). -/
theorem leavesStore_of_portCommand {s : State} {c : Instr} (hinv : s.Inv) (hc : portCommand c = true) : s.LeavesStore (exec c s) := by
  intro t ht
  obtain ⟨-, ⟨-, store⟩, -⟩ := portFrame c s t hinv hc ht
  exact store

theorem plainKey_keyEntry (key : Fin 8) : plainKey (keyEntry key) := by
  unfold plainKey
  revert key
  decide

theorem execSelfTestSlice_leavesStore {s : State} (hs : s.store.wf = true) (x : SliceStep) : s.LeavesStore (execSelfTestSlice x s) := by
  have same : s.KeepsStore s := .refl s
  unfold execSelfTestSlice
  cases x with
  | start => exact .done hs (.sliceStart same)
  | startEscalated => exact .done hs (.escalatedStart same)
  | passed | found =>
    dsimp only
    split
    · exact .done hs (.sliceDone same hs)
    · exact .stay
  | preempted =>
    dsimp only
    split
    · exact .done hs (.ite (.slicePreempted same) same)
    · exact .stay

/-! ### The commands, by family -/

/-- The commands of `keepsStore` that belong to none of its families. -/
def loneCommand : Instr → Bool
  | .burgeeOccurrence .. | .angleRead _ | .blankSlotWrite .. | .faultCodeWrite .. | .fieldCapWrite .. | .firSetWrite .. | .firMapWrite ..
  | .maskWrite .. | .portTestModeWrite .. | .surveyCmd .. | .teach .. | .refVectorWrite .. | .pairsWrite .. | .hostExchange .. | .pollRequest ..
  | .frondPingDecision .. | .baseReset .. | .frondConfigWrite .. | .storeRead _ | .holdWrite .. | .holdMaxExpiry | .port0Release | .verdictReady
  | .sourcePresence _ | .preferredSourceReturn | .storeLevelCrossing _ | .switchoverComplete | .voutFault _ | .voutRetry
  | .voutCurrentLimit _ | .halyardTick | .halyardClaim .. | .halyardRelease .. | .thermalUpdate .. | .captureValueRead .. | .radioTestModeWrite ..
  | .notchWrite .. | .plCalibration | .odAbort _ | .dravlinkFrameReceive _ | .roleNonce _ | .calRequest .. | .sleepCmd .. => true
  | _ => false

theorem keepsStore_eq (c : Instr) : keepsStore c =
    (mainsCommand c || tickCommand c || portCommand c || receiveCommand c || engineCommand c || tagQuiet c || poolCommand c || linkCommand c ||
      timerCommand c || modeCommand c || securityWrite c || tableWrite c || timerWrite c || loneCommand c) := rfl

section

variable {s : State} {c : Instr} (hs : s.store.wf = true)

include hs

theorem mainsCommand_leavesStore (hc : mainsCommand c = true) : s.LeavesStore (exec c s) := by
  have same : s.KeepsStore s := .refl s
  cases c with
  | zeroCrossingEdge => exact .done hs (.zeroCrossing same)
  | edgeWindowEnd => exact .nextWhen hs (.missCrossing same)
  | acquireTimeout => exact .nextWhen hs (.maEnter same)
  | blankingWindowEdge => exact .done hs (.syncFollow (.burgeeRefresh same))
  | learnPassEnd => exact .nextWhen hs (.learnEnd same)
  | maSyncPulse => exact .nextWhen hs (.driveSync (.same same))
  | maSyncPulseEnd => exact .nextWhen hs (.syncStill (.driveSync same))
  | maStatRead => exact .done hs (.readMaStat same)
  | _ => exact Bool.noConfusion (show false = true from hc)

theorem tickCommand_leavesStore (hc : tickCommand c = true) : s.LeavesStore (exec c s) := by
  have same : s.KeepsStore s := .refl s
  cases c with
  | angleWrap | angleHalfCycle => exact .nextWhen hs (.toCrystal same)
  | tbWrap | poweredSecond => exact .nextAny hs (.toCrystal same)
  | lcOverflow => exact .nextWhen hs (.toBus same)
  | _ => exact Bool.noConfusion (show false = true from hc)

theorem receiveCommand_leavesStore (hc : receiveCommand c = true) : s.LeavesStore (exec c s) := by
  have same : s.KeepsStore s := .refl s
  cases c with
  | cancellerAcquire => exact .nextWhen hs (.cancellerAcquire same)
  | suppressionLoss => exact .nextWhen hs (.raisePort (.countReacquire (.acquire (.setN same))))
  | cancellerIdle => exact .nextWhen hs (.enterCancel (.setN same))
  | rxOverload => exact .done hs (.overload same)
  | gainRestore => exact .nextWhen hs (.gainRestore same)
  | noiseMeasurement => exact .nextWhen hs (.foldl (fun _ _ => .noisePort (.refl _)) (.learnHear (.same same)))
  | _ => exact Bool.noConfusion (show false = true from hc)

theorem engineCommand_leavesStore (hc : engineCommand c = true) : s.LeavesStore (exec c s) := by
  have same : s.KeepsStore s := .refl s
  cases c with
  | acquisitionEnd => exact .nextWhen hs (.ite (.acquired (.setN same)) (.acquireFailed (.setN same)))
  | verdictLate =>
    dsimp only [exec, execVerdictLate]
    split
    · exact .nextWhen hs (.verdictLate same)
    · exact .done hs same
  | holdRelease => exact .nextWhen hs (.updHold same)
  | resetGuardEnd => exact .nextWhen hs (.resetGuardEnd same)
  | commandStart => exact .nextWhen hs (.commandStart same)
  | receiveWindowOpen => exact .nextWhen hs (.windowOpens same)
  | replyStart => exact .nextWhen hs (.replyStarts same)
  | falseStart => exact .nextWhen hs (.updSeq (.bump same))
  | replyComplete => exact .nextWhen hs (.replyComplete same)
  | noReplyDecision => exact .nextWhen hs (.noReply same)
  | presenceCheck =>
    dsimp only [exec, execPresenceCheck]
    split
    · exact .nextWhen hs (.presenceCheck same)
    · exact .done hs same
  | presenceTimeout => exact .nextWhen hs (.presenceTimeout same)
  | exchTimeout =>
    dsimp only [exec, execExchTimeout]
    split
    · exact .nextWhen hs (.exchTimeout (.sense same))
    · exact .done hs same
  | freePing => exact .nextWhen hs (.pingYields (.freePing same))
  | frondOccurrenceSkip => exact .nextWhen hs (.frondPasses same)
  | lanePing => exact .nextWhen hs (.pingYields (.lanePing same))
  | disarmAbsorb => exact .nextWhen hs (.updFrond same)
  | _ => exact Bool.noConfusion (show false = true from hc)

theorem tagQuiet_leavesStore (hc : tagQuiet c = true) : s.LeavesStore (exec c s) := by
  have same : s.KeepsStore s := .refl s
  cases c with
  | tagFieldOn => exact .nextAny hs (.tagFieldOn same)
  | tagFieldLoss => exact .nextAny hs (.tagFieldLoss same)
  | lichenLatchExpiry => exact .nextAny hs (.updTag same)
  | inventory => exact .doneAny hs (.onRequest same fun _ g => .ite (.inventory g) g)
  | stayQuiet =>
    refine .doneAny hs (.onRequest same fun _ g => ?_)
    split
    · exact .tagState g
    · exact g
  | selectCard =>
    refine .doneAny hs (.selectOther (.onRequest same fun _ g => ?_))
    split
    · exact .tagOk (.tagState g)
    · exact g
  | resetToReady =>
    refine .doneAny hs (.onRequest same fun _ g => ?_)
    split
    · exact .tagOk g
    · exact .tagOk (.tagState g)
  | readSingleBlock | extendedReadSingleBlock | readMultipleBlocks | extendedReadMultipleBlocks =>
    exact .doneAny hs (.onRequest same fun _ g => .tagRead g)
  | getMultipleBlockSecurityStatus | extGetMultiBlockSecurityStatus => exact .doneAny hs (.onRequest same fun _ g => .tagSecurity g)
  | getSystemInformation | extendedGetSystemInformation => exact .doneAny hs (.onRequest same fun _ g => .systemInfo g)
  | tagUnsupportedCommand =>
    refine .doneAny hs (.onRequest same fun _ g => ?_)
    split
    · exact .tagError g
    · exact g
  | writeAfi | writeDsfid => exact .doneAny hs (.onRequest same fun _ g => .tagSystemWrite g)
  | getPwdNonce => exact .doneAny hs (.onCustom same fun _ g => .onPwd g fun _ g => .newNonce g)
  | presentPwd => exact .doneAny hs (.onCustom same fun _ g => .onPwd g fun _ g => .presentPwd g)
  | authBegin => exact .doneAny hs (.onCustom same fun _ g => .onAuth g fun _ g => .authBegin g)
  | authFinish => exact .doneAny hs (.onCustom same fun _ g => .onAuth g fun _ g => .authFinish g)
  | logout => exact .doneAny hs (.onCustom same fun _ g => .tagOk (.updTag g))
  | getTagStatus => exact .doneAny hs (.onCustom same fun _ g => .tagOk g)
  | tagLockoutEnd => exact .nextAny hs (.setN (.updTag same))
  | _ => exact Bool.noConfusion (show false = true from hc)

theorem poolCommand_leavesStore (hc : poolCommand c = true) : s.LeavesStore (exec c s) := by
  have same : s.KeepsStore s := .refl s
  cases c with
  | hardwarePush =>
    exact .done hs (.ite (.ite (.popAlone (.poolDenied same)) (.poolDenied same)) (.same (.queueSettle (.pushPlain (.ite_fst (.popFirst same)
      same)))))
  | hardwarePop => exact .done hs (.ite (.poolDenied same) (.popAlone same))
  | queuePushWord => exact .done hs (.hostPush same)
  | commitBunting => exact .done hs (.hostCommit same)
  | abortBunting => exact .done hs (.hostAbort same)
  | queuePopRead => exact .done hs (.same (.hostPop same))
  | queDrop => exact .done hs (.queDrop same)
  | poolFreeMinRead => exact .done hs (.same (.poolRead same))
  | _ => exact Bool.noConfusion (show false = true from hc)

theorem linkCommand_leavesStore (hc : linkCommand c = true) : s.LeavesStore (exec c s) := by
  have same : s.KeepsStore s := .refl s
  cases c with
  | ackWaitExpiry => exact .nextWhen hs (.ackLate same)
  | retryHandover => exact .nextWhen hs (.retry same)
  | messageHandover => exact .nextWhen hs (.handOver1 same)
  | transactionTimeout =>
    dsimp only [exec, execTransactionTimeout]
    split
    · split
      · exact .nextWhen hs (.txnTimeout same)
      · exact .stay
    · split
      · exact .nextWhen hs (.msgTimeout same)
      · exact .stay
  | replyCacheExpiry =>
    dsimp only [exec, execReplyCacheExpiry]
    split
    · exact .nextWhen hs (.updLink same)
    · exact .stay
  | resyncEnd => exact .nextWhen hs (.updLink same)
  | ackReceived =>
    dsimp only [exec, execAckReceived]
    refine .nextWhen hs ?_
    split
    · next v _ e =>
        have kept : s.KeepsStore v := .of_fst (.pop same) e
        split
        · refine .ite ?_ kept
          split
          · next v e =>
              have kept : s.KeepsStore v := .of_fst (.filterFrame kept) e
              exact .ite kept (.acknowledged kept)
          · next v e =>
              have kept : s.KeepsStore v := .of_fst (.filterFrame kept) e
              exact kept
        · exact kept
    · next v e =>
        have kept : s.KeepsStore v := .of_fst (.pop same) e
        exact kept
  | radioTransitionComplete =>
    dsimp only [exec, execRadioTransitionComplete]
    split
    · exact .nextWhen hs (.radioArrive same)
    · exact .stay
  | radioTxFrame => exact .nextWhen hs (.radioTake same)
  | radioTimedStart =>
    dsimp only [exec, execRadioTimedStart]
    split
    · exact .nextWhen hs (.radioArrive same)
    · exact .nextWhen hs (.heldBegin same)
  | radioDeadline =>
    dsimp only [exec, execRadioDeadline]
    split
    · exact .nextWhen hs (.radioNext (.radioDrop (.unhold same)))
    · exact .stay
  | radioTxEnd =>
    dsimp only [exec, execRadioTxEnd]
    split
    · exact .nextWhen hs (.radioSent same)
    · exact .stay
  | radioPreambleDetect => exact .nextWhen hs (.preamble same)
  | rxCapture => exact .nextWhen hs (.leftAlone (.preamble (.raise (.abandonRx same))))
  | radioRxFrame =>
    dsimp only [exec, execRadioRxFrame]
    split
    · exact .done hs (.rxEnd same)
    · exact .stay
  | sniffWake | sniffListenEnd => exact .nextWhen hs (.radioGoal (.updRadio same))
  | wakeHoldEnd => exact .nextWhen hs (.radioGoal (.updLink same))
  | synthCalibration => exact .nextWhen hs (.updRadio (.radioEnter same))
  | synthUnlock => exact .nextWhen hs (.synthUnlocked same)
  | dutyBinAdvance => exact .nextWhen hs (.dutyAdvance same)
  | radioTestTimeEnd =>
    dsimp only [exec, execRadioTestTimeEnd]
    split
    · exact .nextWhen hs (.testEnd (.testFollow same))
    · exact .stay
  | radioNoiseMeasurement => exact .nextWhen hs (.updRadio (.noiseTake (.noiseTake same)))
  | ldpcHoldExpiry => exact .nextWhen hs (.updRadio (.setN same))
  | plTxFrame => exact .nextWhen hs (.plGo (.plTake same))
  | plTimedStart =>
    dsimp only [exec, execPlTimedStart]
    split
    · exact .nextWhen hs (.plTimed (.plTurns same))
    · exact .stay
  | plTxEnd =>
    dsimp only [exec, execPlTxEnd]
    split
    · exact .nextWhen hs (.ite (.bump (.plEnd (.add (.plOff same)))) (.plEnd (.add (.plOff same))))
    · exact .stay
  | tonemapIssue => exact .nextWhen hs (.issueMap same)
  | plPreambleDetect => exact .nextWhen hs (.capEdge (.updPl (.plTurns same)))
  | plRxFrame =>
    dsimp only [exec, execPlRxFrame]
    split
    · exact .done hs (.plJudge (.updPl same))
    · exact .stay
  | plNoiseMeasurement => exact .nextWhen hs (.updPl (.learnHear (.plNoise same)))
  | lineStateChange => exact .doneAny hs (.ite (.lineJudged (.setN same)) (.setN same))
  | _ => exact Bool.noConfusion (show false = true from hc)

theorem timerCommand_leavesStore (hc : timerCommand c = true) : s.LeavesStore (exec c s) := by
  have same : s.KeepsStore s := .refl s
  cases c with
  | tbLoRead => exact .done hs (.readTbLo same)
  | compareFire => exact .nextWhen hs (.cmpFire same)
  | captureEdge => exact .nextWhen hs (.capTake same)
  | claimLockoutEnd | roleIdleExpiry => exact .nextAny hs (.updSession same)
  | fwCmdComplete => exact .nextAny hs (.fwComplete same)
  | attestationComplete => exact .nextWhen hs (.attested same)
  | eccCorrection =>
    dsimp only [exec, execEccCorrection]
    refine .done hs ?_
    split
    · exact .ite (.buntingHit (.ite (.recordFinding (.bump same)) (.eccCorrected same))) (.ite (.recordFinding (.bump same)) (.eccCorrected same))
    · exact .ite (.recordFinding (.bump same)) (.eccCorrected same)
  | sensorRead => exact .nextWhen hs (.calRequest (.correct (.same (.foldl (fun _ _ => .setI (.refl _)) same))))
  | calDeferralLimit => exact .nextWhen hs (.raise (.same same))
  | eventClear => exact .done hs (.clearEvents same)
  | eventEnableWrite => exact .done hs (.enableWrite same)
  | irqPulseEnd => exact .nextWhen hs (.lineTurn same)
  | gpioPulseEnd =>
    dsimp only [exec, execGpioPulseEnd]
    split
    · exact .nextWhen hs (.setOut (.setPulse same))
    · exact .done hs same
  | gpInputEdge => exact .nextWhen hs (.ite (.padEdge (.setB same)) (.setB same))
  | debugHaltEntry => exact .nextWhen hs (.freezeEdge (.same same))
  | odAddrWrite => exact .nextAny hs (.odAddr same)
  | odDataAccess =>
    dsimp only [exec, execOdDataAccess]
    refine .nextAny hs ?_
    split
    · exact .odDataWrite same
    · exact .same (.odDataRead same)
  | _ => exact Bool.noConfusion (show false = true from hc)

theorem modeCommand_leavesStore (hc : modeCommand c = true) : s.LeavesStore (exec c s) := by
  have same : s.KeepsStore s := .refl s
  cases c with
  | calibrationStart => exact .nextWhen hs (.portCalStart same)
  | calibrationComplete =>
    dsimp only [exec, execCalibrationComplete]
    split
    · split
      · exact .nextWhen hs (.plCalEnd same)
      · exact .stay
    · split
      · exact .nextWhen hs (.portCalEnd same)
      · exact .stay
  | startGate => exact .nextAny hs (.same (.startCalibrated (.setN same)))
  | startupSurvey => exact .nextAny hs (.ite (.surveyStart (.same (.pennantsFromStore same))) (.requestSurvey (.same (.pennantsFromStore same))))
  | standbyEntry => exact .nextWhen hs (.standby same)
  | standbyWake => exact .nextWhen hs (.standbyLeave same)
  | sleepEntry => exact .nextWhen hs (.sleepEnter same)
  | sleepWake => exact .nextAny hs (.captureWake (.sleepLeave same))
  | sleepLimit => exact .nextAny hs (.sleepLeave same)
  | selfTestSlice => exact execSelfTestSlice_leavesStore hs _
  | _ => exact Bool.noConfusion (show false = true from hc)

theorem securityWrite_leavesStore (hc : securityWrite c = true) : s.LeavesStore (exec c s) := by
  cases c with
  | roleClaim | tidReset | annotate | audAckWrite | fwChunkWrite | attestCmd | testAccess => exact .entry hs (by unfold plainKey; omega)
  | erase => exact .octetWrite hs 1 rfl (by unfold reachesStore; decide)
  | keyWrite => exact .entry hs (plainKey_keyEntry _)
  | verifyImage => exact .octetWrite hs 2 rfl (by unfold reachesStore; decide)
  | confirm => exact .octetWrite hs 4 rfl (by unfold reachesStore; decide)
  | revert => exact .octetWrite hs 5 rfl (by unfold reachesStore; decide)
  | _ => exact Bool.noConfusion (show false = true from hc)

theorem tableWrite_leavesStore (hc : tableWrite c = true) : s.LeavesStore (exec c s) := by
  cases c with
  | tableInsert | tableDelete | tableLookup | tableClearAll => exact .entry hs (by unfold plainKey; omega)
  | tableWindowWrite => exact .entry hs (by unfold plainKey slotKey; omega)
  | _ => exact Bool.noConfusion (show false = true from hc)

theorem timerWrite_leavesStore (hc : timerWrite c = true) : s.LeavesStore (exec c s) := by
  cases c with
  | routeWrite | lineModeWrite => exact .entry hs (by unfold plainKey; omega)
  | compareValueWrite | compareCtrlWrite => exact .entry hs (by unfold plainKey cmpKey; omega)
  | lcCountWrite => exact .entry hs (by unfold plainKey lcKey; omega)
  | lcPrescaleWrite =>
    refine .entry hs ?_
    unfold plainKey lcKey
    split <;> omega
  | gpOutWrite =>
    dsimp only [exec, execGpOutWrite]
    split
    · exact .entry hs (by unfold plainKey padKey; omega)
    · exact .entry hs (by unfold plainKey; omega)
  | gpDirWrite => exact .entry hs (by unfold plainKey padKey; omega)
  | _ => exact Bool.noConfusion (show false = true from hc)

theorem loneCommand_leavesStore (hc : loneCommand c = true) : s.LeavesStore (exec c s) := by
  have same : s.KeepsStore s := .refl s
  cases c with
  | verdictReady =>
    dsimp only [exec, execVerdictReady]
    split
    · exact .done hs (.verdictReady same)
    · exact .done hs same
  | frondPingDecision =>
    dsimp only [exec, execFrondPingDecision]
    split
    · exact .nextWhen hs (.ite (.pingDecision (.sense same)) (.pingSpoiled (.sense same)))
    · exact .done hs same
  | burgeeOccurrence => exact .nextWhen hs (.ite (.occurrenceActs (.occurrence same)) (.occurrence same))
  | holdMaxExpiry => exact .nextAny hs (.raise (.updTag same))
  | port0Release => exact .nextAny hs (.releaseTag same)
  | sourcePresence => exact .nextAny hs (.sourcePresence same)
  | preferredSourceReturn => exact .nextAny hs (.switchTo same)
  | switchoverComplete | voutCurrentLimit => exact .nextAny hs (.updSupply same)
  | storeLevelCrossing => exact .nextAny hs (.storeLevel same)
  | voutFault => exact .nextAny hs (.raiseOn (.voutFollow (.bump (.updSupply same))))
  | voutRetry => exact .nextAny hs (.voutFollow (.updSupply same))
  | halyardClaim => exact .done hs (.claim same)
  | halyardRelease => exact .done hs (.release same)
  | dravlinkFrameReceive =>
    dsimp only [exec, execDravlinkFrameReceive]
    refine .nextWhen hs ?_
    split
    · next v _ e =>
        have kept : s.KeepsStore v := .of_fst (.pop same) e
        split
        · exact .ite (.receiveFrame kept) kept
        · exact kept
    · next v e =>
        have kept : s.KeepsStore v := .of_fst (.pop same) e
        exact kept
  | plCalibration => exact .nextWhen hs (.updPl same)
  | halyardTick => exact .nextAny hs (.afterHalyard (.halyardTick same))
  | thermalUpdate => exact .nextWhen hs (.afterHalyard (.thermal (.powersShown same)))
  | odAbort => exact .nextAny hs (.cmdAbort same)
  | angleRead | roleNonce | maskWrite | surveyCmd | holdWrite | radioTestModeWrite | calRequest | sleepCmd =>
    exact .entry hs (by unfold plainKey; omega)
  | captureValueRead => exact .entry hs (by unfold plainKey capKey; omega)
  | blankSlotWrite | notchWrite =>
    refine .entry hs ?_
    unfold plainKey boolNat
    split <;> omega
  | faultCodeWrite | fieldCapWrite | firMapWrite | portTestModeWrite => exact .entry hs (by unfold plainKey portKey; omega)
  | firSetWrite => exact .entry hs (by unfold plainKey firKey; omega)
  | teach | refVectorWrite => exact .entry hs (by unfold plainKey zoneKey; omega)
  | pairsWrite => exact .entry hs (by unfold plainKey penKey; omega)
  | hostExchange | pollRequest => exact .entry hs (by unfold plainKey hfKey; omega)
  | baseReset => exact .entry hs (by unfold plainKey frondKey; omega)
  | frondConfigWrite =>
    dsimp only [exec, execFrondConfigWrite]
    split
    · exact .entry hs (by unfold plainKey frondKey; omega)
    · exact .entry hs (by unfold plainKey; omega)
  | storeRead => exact .octetWrite hs 1 rfl (by unfold reachesStore; decide)
  | _ => exact Bool.noConfusion (show false = true from hc)

end

theorem exec_leavesStore {s : State} {c : Instr} (hinv : s.Inv) (hc : keepsStore c = true) : s.LeavesStore (exec c s) := by
  obtain ⟨-, hs, -⟩ := id hinv
  simp only [keepsStore_eq, Bool.or_eq_true, or_assoc] at hc
  obtain hc | hc | hc | hc | hc | hc | hc | hc | hc | hc | hc | hc | hc | hc := hc
  · exact mainsCommand_leavesStore hs hc
  · exact tickCommand_leavesStore hs hc
  · exact leavesStore_of_portCommand hinv hc
  · exact receiveCommand_leavesStore hs hc
  · exact engineCommand_leavesStore hs hc
  · exact tagQuiet_leavesStore hs hc
  · exact poolCommand_leavesStore hs hc
  · exact linkCommand_leavesStore hs hc
  · exact timerCommand_leavesStore hs hc
  · exact modeCommand_leavesStore hs hc
  · exact securityWrite_leavesStore hs hc
  · exact tableWrite_leavesStore hs hc
  · exact timerWrite_leavesStore hs hc
  · exact loneCommand_leavesStore hs hc

end Sys2Proof.Machine
end

section

open Sys2Proof Sys2Proof.Machine

/-- Settles O57: each of these commands leaves the store's cells as they are (`State.KeepsStore`); a block that a self-test relocates is
written with what it holds, and the dictionary's writes among them are of other entries or of other values than those that reach it. -/
theorem storeFrame : Obligations.StoreFrame := by
  intro c s t hinv hc ht a
  exact congrArg (StoreCells.get · a) (exec_leavesStore hinv hc t ht)

end
